-- ==== Sys2Proof/Word.lean ====
section
/-! DEFINITION. The word types of the IK-S1024 and their plainest arithmetic: bytes, 32-bit register
words (R7), 64-bit register values (R8), and conversions between words and byte lists in both byte
orders of R9. -/

namespace Sys2Proof

/-- One byte. -/
abbrev Byte := BitVec 8
/-- One 32-bit register word or table word (R7). -/
abbrev W32 := BitVec 32
/-- One 64-bit register value (R8). -/
abbrev W64 := BitVec 64

/-- Bits `hi` down to `lo` of `x`, as a number (the manual's `[hi:lo]`). -/
def bitsOf {w : Nat} (x : BitVec w) (hi lo : Nat) : Nat :=
  (x.toNat >>> lo) % 2 ^ (hi + 1 - lo)

/-- `x` with bits `hi` down to `lo` replaced by `v` (taken modulo the field's width). -/
def withBits {w : Nat} (x : BitVec w) (hi lo : Nat) (v : Nat) : BitVec w :=
  let m : Nat := 2 ^ (hi + 1 - lo)
  let old := (x.toNat >>> lo) % m
  BitVec.ofNat w (x.toNat + (v % m) * 2 ^ lo - old * 2 ^ lo)

/-- The number a byte list spells, most significant byte first (cells and frames, R9). -/
def natOfBE : List Byte → Nat
  | [] => 0
  | b :: bs => b.toNat * 256 ^ bs.length + natOfBE bs

/-- The number a byte list spells, least significant byte first (registers, tables, Stockpot, R9). -/
def natOfLE : List Byte → Nat
  | [] => 0
  | b :: bs => b.toNat + 256 * natOfLE bs

/-- `n` bytes of `v`, least significant byte first. -/
def bytesLE : Nat → Nat → List Byte
  | 0, _ => []
  | n + 1, v => BitVec.ofNat 8 v :: bytesLE n (v / 256)

/-- `n` bytes of `v`, most significant byte first. -/
def bytesBE (n v : Nat) : List Byte := (bytesLE n v).reverse

/-- Low and high 32-bit words of a 64-bit value. -/
def lo32 (x : Nat) : W32 := BitVec.ofNat 32 x
def hi32 (x : Nat) : W32 := BitVec.ofNat 32 (x / 2 ^ 32)

/-- The signed value of the low `w` bits of `n` (two's complement). -/
def signedOf (w n : Nat) : Int :=
  let r := n % 2 ^ w
  if r < 2 ^ (w - 1) then (r : Int) else (r : Int) - (2 ^ w : Nat)

/-- The two's-complement bits of `i` in `w` bits. -/
def unsignedOf (w : Nat) (i : Int) : Nat := (i % ((2 ^ w : Nat) : Int)).toNat

/-- Ceiling of `a / b`. -/
def ceilDiv (a b : Nat) : Nat := (a + b - 1) / b

/-- `ceil(log2 n)` for n at least 1, and 0 for 0. -/
def ceilLog2 (n : Nat) : Nat := if n ≤ 1 then 0 else Nat.log2 (n - 1) + 1

end Sys2Proof
end

