-- ==== Sys2Proof/Syntax.lean ====
section
/-! DEFINITION. The commands of the block: one constructor of `Instr` for each row of
spec/opcode_table.json, with the operands the row's rule gives it (a page, a lane, a table index, a
value). The cell (R73, R74), the codeword (R103) and the training frame (R109) are the data they carry. -/

namespace Sys2Proof

/-- The two sources of register accesses (R40, R49): the PCI Express host and the in-band channel. -/
inductive Src where
  | pcie
  | inband
  deriving DecidableEq, Repr

/-- The address windows of the function (R414): the control pages, the rings and buffers, and `cfg`, the
two configuration-space bits the spec names, Bus Master Enable in bit 0 and MSI-X Enable in bit 1 (log 8). -/
inductive Bar where
  | bar0
  | bar4
  | cfg
  deriving DecidableEq, Repr

/-- The block codes of R38. -/
inductive Block where
  | pkg | mgt | pmc | tim | opt | lnk | fwd | voq | xbs | etm | byp | col | ldl | stk | tel | dbg
  deriving DecidableEq, Repr

/-- A control page: a block and an instance (R38). -/
structure Page where
  blk : Block
  inst : Nat
  deriving DecidableEq, Repr

/-- A cell (R73): the 16-byte header, bit 127 the most significant bit of byte 0, and the 96-byte
payload, bit 767 the most significant bit of byte 16. -/
structure Cell where
  hdr : BitVec 128
  payload : BitVec 768
  deriving DecidableEq, Repr

/-- A codeword's message (R103): the control field and the 640-byte body. -/
structure Codeword where
  null : Bool
  kind : Nat
  value : Nat
  body : List Byte
  deriving DecidableEq, Repr

/-- What a laser module presents on its two-wire bus (R126), as read at insertion. -/
structure ModuleInfo where
  busOk : Bool
  layout : Nat
  serial : Nat
  life : Nat
  wearMirror : Nat
  certificate : List Byte
  response : List Byte
  deriving DecidableEq, Repr

/-- One interval's power measurements, in mW (R387), with what the controller learned of demand. -/
structure PowerSample where
  ladle : List Nat
  core : List Nat
  tile : List Nat
  d2d : Nat
  memory : Nat
  mgt : Nat
  matrix : Nat
  memDemand : Nat
  deriving DecidableEq, Repr

/-- The buffer unit an SRAM error names (R173, R259): the head of a VOQ's list, of a multicast list, of a die's
park list, or a unit a context retains. -/
inductive EccUnit where
  | voq (source egress tc : Nat) (esc : Bool)
  | mcast (source tc : Nat)
  | park (die : Nat)
  | context (group phase : Nat)
  deriving DecidableEq, Repr

/-- The commands and events of spec/opcode_table.json, in the table's order. -/
inductive Instr where
  -- registers (R7 to R15)
  | registerWrite (src : Src) (bar : Bar) (addr bytes : Nat) (value : W64)
  | lowWordRead (src : Src) (bar : Bar) (addr bytes : Nat)
  -- page control (ch. 2)
  | enable (src : Src) (page : Page) (v : Bool)
  | quiesceReq (src : Src) (page : Page) (v : Bool)
  | quiesced (page : Page)
  | goIdle (page : Page)
  | abort (src : Src) (page : Page)
  | abortComplete (page : Page)
  | abortDeadline (page : Page)
  | blockReset (src : Src) (page : Page)
  | blockResetComplete (page : Page) (checksPass : Bool)
  | blockFail (page : Page) (unit detail : Nat)
  | commit (src : Src) (page : Page) (tag : Nat)
  | commitApply (page : Page)
  | pageOwnerWrite (src : Src) (page : Page) (owner : Src) (lock : Bool)
  | abortAll (src : Src)
  | abortAllWave
  | ownerAll (src : Src) (mask : Nat) (lock : Bool) (owner : Src)
  | ownerAllDone
  -- table port
  | tblRead (src : Src) (page : Page) (table : Nat)
  | tblWrite (src : Src) (page : Page) (table : Nat)
  | tblInsert (src : Src) (page : Page) (table : Nat)
  | tblDelete (src : Src) (page : Page) (table : Nat)
  | cmpwr (src : Src) (page : Page) (table : Nat)
  | tblCmdComplete (page : Page)
  -- ingress and switch core
  | cellReceive (lane : Nat)
  | colanderIngress (lane : Nat)
  | escapeMove (source egress tc ineligible : Nat)
  | landingPromote (source tc : Nat)
  | thresholdRecompute
  | crossbarMatch
  | a2aPhaseOpen (group member : Nat)
  | multicastReplicate (source tc : Nat)
  | egressReplicaWrite (region egress : Nat)
  | txCellSlot (lane : Nat)
  | wheelSlot (die : Nat)
  | gateStart (src : Src) (lane : Nat)
  | gateEntry (lane : Nat)
  | holdWrite (src : Src) (lane : Nat) (mask : Nat)
  | flushDone (die : Nat)
  | unitEccError (unit : EccUnit) (bankGroup : Nat)
  | loadWindow (ladle : List Nat)
  -- links
  | adminUp (src : Src) (lane : Nat) (v : Bool)
  | retrain (src : Src) (lane : Nat)
  | lockAcquired (lane : Nat)
  | deskewDone (lane : Nat)
  | linkTrainingTimeout (lane : Nat)
  | trainingFrame (lane : Nat) (frame : List Byte) (laneBytes : List Nat)
  | landingReservationRetry (lane : Nat)
  | autoRetrain (lane : Nat)
  | codewordSend (lane : Nat)
  | dataCodewordReceive (lane : Nat) (cw : Codeword) (seq corrected : Nat)
  | uncorrectableCodeword (lane : Nat)
  | credit (lane value : Nat)
  | ack (lane value : Nat)
  | nak (lane value : Nat)
  | ackTimeout (lane : Nat)
  | repairRequest (portBlock laneIdx : Nat)
  | repairAccept (portBlock laneIdx : Nat)
  | repairRefuse (portBlock laneIdx reason : Nat)
  | repairAnswerTimeout (portBlock : Nat)
  | laneSwitch (portBlock : Nat)
  | spareDeskewDone (portBlock : Nat)
  | noLight (lane : Nat)
  | lockLost (lane : Nat)
  | spareThreshExceeded (lane : Nat)
  | depart (lane : Nat)
  | departedClose (lane : Nat) (lightAbsent : Bool)
  | flitCrcError (group : Nat)
  | d2dWireRepair (group wire : Nat)
  | d2dRepairDone (group : Nat)
  | referenceLoss
  -- laser modules
  | laserInsert (m : Nat)
  | laserVerify (m : Nat) (info : ModuleInfo)
  | laserRampDone (m : Nat)
  | laserPoll (m status temp : Nat)
  | laserEvent (m : Nat)
  | laserChangeoverDone (tile : Nat)
  | laserHoldoffEnd (tile : Nat)
  | laserRemove (m : Nat)
  | wearHour (m : Nat)
  | release (src : Src) (m : Nat) (force : Bool)
  | releaseDone (m : Nat)
  | resume (src : Src) (m : Nat)
  -- forwarding
  | swap (src : Src)
  | arm (src : Src)
  | disarm (src : Src)
  | bankDrained (e : Nat)
  | drainWarning
  | flowAgeSweep
  | parityRepair (table die index : Nat) (otherBad : Bool)
  | digestWrite (src : Src) (g : Nat) (high : W32)
  | scrubPass (g die : Nat) (parityBad : List Nat)
  -- optical bypass
  | circSetup (src : Src) (index : Nat) (timed : Bool)
  | circTeardown (src : Src) (index : Nat) (timed : Bool)
  | confirm (src : Src) (index : Nat)
  | circDrainStart (index : Nat)
  | circuitFence (index : Nat)
  | circFlush (index : Nat)
  | circReplayCut (index : Nat)
  | circSwitch (index : Nat)
  | circuitUp (index : Nat)
  | circTriggerLate (index : Nat)
  | circLightReturn (index : Nat)
  | confirmTimeout (index : Nat)
  | pathPowerLoss (index : Nat)
  | matrixFault
  | candWindow
  | planPhaseBoundary (group phase : Nat)
  -- collectives
  | cup
  | ctailUp
  | missingCellsTimeout (group phase member : Nat)
  | chunkTimeout (group phase : Nat)
  | resultsReady (group phase : Nat)
  | resultStream (group phase : Nat)
  | pageOutDone (group phase : Nat)
  | pageInDone (group phase : Nat)
  | resize (src : Src) (abort : Bool) (group : Nat)
  | resizeDone (group : Nat)
  | genDrainDone (group : Nat)
  | stragClear (src : Src) (group : Nat)
  -- Ladle array
  | accumulateRun (core : Nat)
  | finishRun (core : Nat)
  | rebuildRun (core : Nat)
  | load (src : Src) (slot : Nat)
  | copy (src : Src) (slot : Nat)
  | recipeCmdDone
  | retiringFreed (slot : Nat)
  | coreFail (core : Nat)
  | scratchCorrected (core : Nat)
  | spareTakeover (coreBlock : Nat)
  | rebuildDone (coreBlock : Nat)
  | spareSelftest (coreBlock : Nat) (pass : Bool)
  -- Stockpot and the memory service
  | memPut
  | memGet
  | memAcc
  | memFence
  | verbAccept (mid : Nat)
  | accRun (core : Nat)
  | fenceComplete (source : W32) (msgid : Nat)
  | fenceTimeout (source : W32) (msgid : Nat)
  | linePoison (addr : Nat)
  | patrolScrub (corrected : Nat)
  | hostWindowAccess (write : Bool) (offset bytes : Nat) (data : List Byte)
  -- fabric time
  | snap (src : Src)
  | stepRequest (src : Src) (force : Bool) (frac : Nat)
  | set (src : Src) (frac : Nat)
  | servoRateChange (rate : W32)
  | servoStep (step : BitVec 48)
  | timeCellSend (lane : Nat)
  | timeCellReceive (lane : Nat)
  | locked
  | holdoverEnter
  | triggerHandoff (slot : Nat)
  | triggerFire (slot : Nat)
  | ppsInEdge
  | ppsOutPulse
  -- power
  | powerInterval (sample : PowerSample)
  | allocationWatchdog
  | pointChangeDone (region : Nat)
  | droopStart (region : Nat)
  | droopEnd (region : Nat)
  | heldChangeResume (region : Nat)
  | thermalStep (die : Nat) (readings : List Int)
  | tempWarn (die : Nat) (reading : Int)
  | thermTrip (die : Nat) (reading : Int)
  | ageingCheck (domain : Nat) (slowed : Bool)
  -- management
  | mbxTxHeadWrite (src : Src) (ptr : Nat)
  | relaySlotSend
  | relayRx
  | hello
  | auth
  | authTimeout (session : Nat)
  | data
  | close
  | sessionIdleTimeout (session : Nat)
  | event (page : Page)
  | eventSessionWrite (src : Src) (valid : Bool) (session : Nat)
  -- security
  | enroll (src : Src)
  | svnCommit (src : Src)
  | attest (src : Src)
  | unlock (src : Src)
  | relock (src : Src)
  | extend (src : Src)
  | challenge (src : Src)
  | update (src : Src)
  | secCmdDone
  | dbgRead (src : Src)
  | dbgWrite (src : Src)
  | dbgCmdDone
  | halt (src : Src) (mask : Nat)
  | bootVerify (slot : Nat)
  | journalAppend (type key : Nat) (value : List Byte) (delete readBackOk : Bool)
  | compaction
  -- resets and faults
  | coldReset
  | warmReset
  | hot (src : Src)
  | drain (src : Src)
  | inbandResetDelay
  | departDark (lane : Nat)
  | drainDiscardPoint
  | hotResetDone (failed : List Page)
  | pcieHotReset
  | powerStateChange (d3hot : Bool)
  | regionFence (region : Nat)
  | midFail (mid : Nat)
  | lockstepMismatch (pair : Nat)
  | failStop (detail : Nat)
  | railUndervoltage (rail : Nat)
  | powerDown
  -- telemetry
  | capture (src : Src)
  | captureDone
  | recordWrite (die : Nat)
  | ringCfgWrite (src : Src) (value : W32)
  -- events added to the table
  | referenceRestored
  | perstNDeasserted
  | getReadDone (mid : Nat)
  | bankGroupControllerFail (bankGroup : Nat)
  | circuitTeardownDone (index : Nat)
  deriving DecidableEq, Repr

end Sys2Proof
end

