-- ==== Sys2Proof/Config.lean ====
section
/-! DEFINITION. What one part fixes and what the spec leaves open: constants without a body, so that no
proof can see their values (log 2, log 14, log 15). -/

namespace Sys2Proof

/-- The n-th draw of a free value (log 2). -/
opaque Config.draw : Nat → W64

/-- The 64-bit device serial, from fuses (R413). -/
opaque Config.serial : W64

/-- Wowald's vendor public key in fuses (R427). -/
opaque Config.vendorKey : List Byte

/-- What the image slots of the flash hold where no UPDATE has written (R426, log 11). -/
opaque Config.flashByte (addr : Nat) : Byte

/-- Wowald's module issuing key (R127). -/
opaque Config.moduleKey : List Byte

/-- The identity public key and its certificate (R429). -/
opaque Config.identityKey : List Byte
opaque Config.identityCert : List Byte

/-- SHA-512 (R16). -/
opaque Config.sha512 : List Byte → BitVec 512

/-- Ed25519 verification of a signature over a message by a public key (R16, RFC 8032). -/
opaque Config.edVerify (key msg sig : List Byte) : Bool

/-- The Ed25519 signature of the device's identity key over a message (R423, R429). -/
opaque Config.edSign (msg : List Byte) : List Byte

/-- The ephemeral X25519 public key of a draw, and the shared secret with a peer's key (R423). -/
opaque Config.x25519Public (draw : W64) : List Byte
opaque Config.x25519Shared (draw : W64) (peer : List Byte) : List Byte

/-- AES-256-GCM: ciphertext and tag of a plaintext; the plaintext of a ciphertext whose tag verifies (R424). -/
opaque Config.gcmSeal (key nonce aad plain : List Byte) : List Byte × List Byte
opaque Config.gcmOpen (key nonce aad cipher tag : List Byte) : Option (List Byte)

/-- Words of internal state that only the DBG page shows (R431): whether the word exists, and what an
unwritten word holds. Arguments: die, space, word address. -/
opaque Config.dbgExists (die space word : Nat) : Bool
opaque Config.dbgProtected (die space word : Nat) : Bool
opaque Config.dbgWord (die space word : Nat) : W32

/-- What a CTAIL_DN carries as RTAG for a member whose CTAIL_UP the engine does not hold, and as CHUNK for a
context no tail has reached (R249, R259): the spec states no value (log 16). Arguments: group, U, member. -/
opaque Config.openRtag (group use member : Nat) : BitVec 13
opaque Config.openChunk (group use : Nat) : W32

/-- FLAGS.LAST of a CTAIL_DN that carries no result (R249): the spec states none (log 16). -/
opaque Config.openLast (group use : Nat) : Bool

/-- The context whose reservation holds an address of the context area (R345): the spec gives no layout
(log 18). -/
opaque Config.ctxOfLine (addr : Nat) : Nat

/-- The bank group of its die that holds a switching unit, by arrival number, and whether a bank group holds
units or the descriptor of a context (R173, R454): the spec gives no placement (log 18). -/
opaque Config.groupOfUnit (num : Nat) : Nat
opaque Config.groupHoldsCtx (bankGroup key use : Nat) : Bool

/-- Leakage of a region's Ladle domain at an operating point, and the memory domain's power at its guaranteed
shares, in mW: the spec gives two typical figures of the first and none of the second (R392, R395, log 14). -/
opaque Config.leakage (region point : Nat) : Nat
opaque Config.guaranteedMw : Nat

/-- Word `k` of a phase class as table 0x01 of PMC shows it: the spec gives no layout (R397, log 21). -/
opaque Config.classWord (group recipe beatsPerCell energyPerBeat k : Nat) : W32

/-- GROUP and RECIPE of the class that the words of a DELETE of table 0x01 of PMC name (R397, log 21). -/
opaque Config.classKey (ws : List W32) : Nat × Nat

/-- DETAIL of an UNREACHABLE sent under check 5 or 6 of R76: the spec states none (log 16). -/
opaque Config.openDetail (check : Nat) : Byte

end Sys2Proof
end

