-- ==== Sys2Proof/WellFormed.lean ====
section
/-! DEFINITION. Well-formed commands: every unit a command names is one the device has (R17, R26, R38, R98,
R125, R306). A command that names no unit of the device is no event of it and faults (Fault.noSuchUnit). -/

namespace Sys2Proof

/-- Instances of a block (R38): 24 OPT pages, 1,088 LNK, 1,024 ETM, 40 LDL, one of every other. -/
def Block.instances : Block → Nat
  | .opt => 24 | .lnk => 1088 | .etm => 1024 | .ldl => 40 | _ => 1

/-- The page exists (R39). -/
def Page.exists (p : Page) : Bool := decide (p.inst < p.blk.instances)

/-- The buffer unit is one of the device's lists. -/
def EccUnit.wf : EccUnit → Bool
  | .voq source egress tc _ => decide (source < 1032) && decide (egress < 1024) && decide (tc < 8)
  | .mcast source tc => decide (source < 1032) && decide (tc < 8)
  | .park die => decide (die < 2)
  | .context group phase => decide (group < 65536) && decide (phase < 16)

/-- Every unit the command names exists. -/
def Instr.wf : Instr → Bool
  | .registerWrite _ _ _ _ _ => true
  | .lowWordRead _ _ _ _ => true
  | .enable _ page _ => page.exists
  | .quiesceReq _ page _ => page.exists
  | .quiesced page => page.exists
  | .goIdle page => page.exists
  | .abort _ page => page.exists
  | .abortComplete page => page.exists
  | .abortDeadline page => page.exists
  | .blockReset _ page => page.exists
  | .blockResetComplete page _ => page.exists
  | .blockFail page _ _ => page.exists
  | .commit _ page _ => page.exists
  | .commitApply page => page.exists
  | .pageOwnerWrite _ page _ _ => page.exists
  | .abortAll _ => true
  | .abortAllWave => true
  | .ownerAll _ _ _ _ => true
  | .ownerAllDone => true
  | .tblRead _ page _ => page.exists
  | .tblWrite _ page _ => page.exists
  | .tblInsert _ page _ => page.exists
  | .tblDelete _ page _ => page.exists
  | .cmpwr _ page _ => page.exists
  | .tblCmdComplete page => page.exists
  | .cellReceive lane => decide (lane < 1024)
  | .colanderIngress lane => decide (lane < 1024)
  | .escapeMove source egress tc _ => decide (source < 1032) && decide (egress < 1024) && decide (tc < 8)
  | .landingPromote source tc => decide (source < 1032) && decide (tc < 8)
  | .thresholdRecompute => true
  | .crossbarMatch => true
  | .a2aPhaseOpen group member => decide (group < 65536) && decide (member < 1048576)
  | .multicastReplicate source tc => decide (source < 1032) && decide (tc < 8)
  | .egressReplicaWrite region egress => decide (region < 8) && decide (egress < 1024)
  | .txCellSlot lane => decide (lane < 1024)
  | .wheelSlot die => decide (die < 2)
  | .gateStart _ lane => decide (lane < 1024)
  | .gateEntry lane => decide (lane < 1024)
  | .holdWrite _ lane _ => decide (lane < 1024)
  | .flushDone die => decide (die < 2)
  | .unitEccError unit bankGroup => unit.wf && decide (bankGroup < 128)
  | .loadWindow _ => true
  | .adminUp _ lane _ => decide (lane < 1024)
  | .retrain _ lane => decide (lane < 1024)
  | .lockAcquired lane => decide (lane < 1088)
  | .deskewDone lane => decide (lane < 1088)
  | .linkTrainingTimeout lane => decide (lane < 1088)
  | .trainingFrame lane _ _ => decide (lane < 1088)
  | .landingReservationRetry lane => decide (lane < 1024)
  | .autoRetrain lane => decide (lane < 1024)
  | .codewordSend lane => decide (lane < 1088)
  | .dataCodewordReceive lane _ _ _ => decide (lane < 1088)
  | .uncorrectableCodeword lane => decide (lane < 1088)
  | .credit lane _ => decide (lane < 1088)
  | .ack lane _ => decide (lane < 1088)
  | .nak lane _ => decide (lane < 1088)
  | .ackTimeout lane => decide (lane < 1024)
  | .repairRequest portBlock laneIdx => decide (portBlock < 64) && decide (laneIdx < 16)
  | .repairAccept portBlock laneIdx => decide (portBlock < 64) && decide (laneIdx < 16)
  | .repairRefuse portBlock laneIdx _ => decide (portBlock < 64) && decide (laneIdx < 16)
  | .repairAnswerTimeout portBlock => decide (portBlock < 64)
  | .laneSwitch portBlock => decide (portBlock < 64)
  | .spareDeskewDone portBlock => decide (portBlock < 64)
  | .noLight lane => decide (lane < 1088)
  | .lockLost lane => decide (lane < 1088)
  | .spareThreshExceeded lane => decide (lane < 1088)
  | .depart lane => decide (lane < 1024)
  | .departedClose lane _ => decide (lane < 1024)
  | .flitCrcError group => decide (group < 3232)
  | .d2dWireRepair group wire => decide (group < 3232) && decide (wire < 40)
  | .d2dRepairDone group => decide (group < 3232)
  | .referenceLoss => true
  | .laserInsert m => decide (m < 16)
  | .laserVerify m _ => decide (m < 16)
  | .laserRampDone m => decide (m < 16)
  | .laserPoll m _ _ => decide (m < 16)
  | .laserEvent m => decide (m < 16)
  | .laserChangeoverDone tile => decide (tile < 8)
  | .laserHoldoffEnd tile => decide (tile < 8)
  | .laserRemove m => decide (m < 16)
  | .wearHour m => decide (m < 16)
  | .release _ m _ => decide (m < 16)
  | .releaseDone m => decide (m < 16)
  | .resume _ m => decide (m < 16)
  | .swap _ => true
  | .arm _ => true
  | .disarm _ => true
  | .bankDrained e => decide (e < 2)
  | .drainWarning => true
  | .flowAgeSweep => true
  | .parityRepair table die index _ => decide (table < 3) && decide (die < 2) && decide (index < if table = 2 then 1048576 else 4096)
  | .digestWrite _ g _ => decide (g < 8)
  | .scrubPass g die _ => decide (g < 8) && decide (die < 2)
  | .circSetup _ index _ => decide (index < 128)
  | .circTeardown _ index _ => decide (index < 128)
  | .confirm _ index => decide (index < 128)
  | .circDrainStart index => decide (index < 128)
  | .circuitFence index => decide (index < 128)
  | .circFlush index => decide (index < 128)
  | .circReplayCut index => decide (index < 128)
  | .circSwitch index => decide (index < 128)
  | .circuitUp index => decide (index < 128)
  | .circTriggerLate index => decide (index < 128)
  | .circLightReturn index => decide (index < 128)
  | .confirmTimeout index => decide (index < 128)
  | .pathPowerLoss index => decide (index < 128)
  | .matrixFault => true
  | .candWindow => true
  | .planPhaseBoundary group phase => decide (group < 65536) && decide (phase < 4096)
  | .cup => true
  | .ctailUp => true
  | .missingCellsTimeout group phase member => decide (group < 65536) && decide (phase < 16) && decide (member < 1048576)
  | .chunkTimeout group phase => decide (group < 65536) && decide (phase < 16)
  | .resultsReady group phase => decide (group < 65536) && decide (phase < 16)
  | .resultStream group phase => decide (group < 65536) && decide (phase < 16)
  | .pageOutDone group phase => decide (group < 65536) && decide (phase < 16)
  | .pageInDone group phase => decide (group < 65536) && decide (phase < 16)
  | .resize _ _ group => decide (group < 65536)
  | .resizeDone group => decide (group < 65536)
  | .genDrainDone group => decide (group < 65536)
  | .stragClear _ group => decide (group < 65536)
  | .accumulateRun core => decide (core < 800)
  | .finishRun core => decide (core < 800)
  | .rebuildRun core => decide (core < 800)
  | .load _ slot => decide (slot < 256)
  | .copy _ slot => decide (slot < 256)
  | .recipeCmdDone => true
  | .retiringFreed slot => decide (slot < 256)
  | .coreFail core => decide (core < 800)
  | .scratchCorrected core => decide (core < 800)
  | .spareTakeover coreBlock => decide (coreBlock < 32)
  | .rebuildDone coreBlock => decide (coreBlock < 32)
  | .spareSelftest coreBlock _ => decide (coreBlock < 32)
  | .memPut => true
  | .memGet => true
  | .memAcc => true
  | .memFence => true
  | .verbAccept mid => decide (mid < 2)
  | .accRun core => decide (core < 800)
  | .fenceComplete _ _ => true
  | .fenceTimeout _ _ => true
  | .linePoison addr => decide (addr < 480 * 2 ^ 30)
  | .patrolScrub _ => true
  | .hostWindowAccess w offset bytes bs => decide (0 < bytes) && decide (offset + bytes ≤ 2 ^ 36) && (!w || decide (bs.length = bytes))
  | .snap _ => true
  | .stepRequest _ _ _ => true
  | .set _ _ => true
  | .servoRateChange _ => true
  | .servoStep _ => true
  | .timeCellSend lane => decide (lane < 1024)
  | .timeCellReceive lane => decide (lane < 1024)
  | .locked => true
  | .holdoverEnter => true
  | .triggerHandoff slot => decide (slot < 64)
  | .triggerFire slot => decide (slot < 64)
  | .ppsInEdge => true
  | .ppsOutPulse => true
  | .powerInterval _ => true
  | .allocationWatchdog => true
  | .pointChangeDone region => decide (region < 8)
  | .droopStart region => decide (region < 8)
  | .droopEnd region => decide (region < 8)
  | .heldChangeResume region => decide (region < 8)
  | .thermalStep die _ => decide (die < 24)
  | .tempWarn die _ => decide (die < 24)
  | .thermTrip die _ => decide (die < 24)
  | .ageingCheck domain _ => decide (domain < 10)
  | .mbxTxHeadWrite _ _ => true
  | .relaySlotSend => true
  | .relayRx => true
  | .hello => true
  | .auth => true
  | .authTimeout session => decide (session < 8)
  | .data => true
  | .close => true
  | .sessionIdleTimeout session => decide (session < 8)
  | .event page => page.exists
  | .eventSessionWrite _ _ session => decide (session < 8)
  | .enroll _ => true
  | .svnCommit _ => true
  | .attest _ => true
  | .unlock _ => true
  | .relock _ => true
  | .extend _ => true
  | .challenge _ => true
  | .update _ => true
  | .secCmdDone => true
  | .dbgRead _ => true
  | .dbgWrite _ => true
  | .dbgCmdDone => true
  | .halt _ _ => true
  | .bootVerify slot => decide (slot < 2)
  | .journalAppend _ _ _ _ _ => true
  | .compaction => true
  | .coldReset => true
  | .warmReset => true
  | .hot _ => true
  | .drain _ => true
  | .inbandResetDelay => true
  | .departDark lane => decide (lane < 1024)
  | .drainDiscardPoint => true
  | .hotResetDone _ => true
  | .pcieHotReset => true
  | .powerStateChange _ => true
  | .regionFence region => decide (region < 8)
  | .midFail mid => decide (mid < 2)
  | .lockstepMismatch pair => decide (pair < 2)
  | .failStop _ => true
  | .railUndervoltage rail => decide (rail < 34)
  | .powerDown => true
  | .capture _ => true
  | .captureDone => true
  | .recordWrite die => decide (die < 2)
  | .ringCfgWrite _ _ => true
  | .referenceRestored => true
  | .perstNDeasserted => true
  | .getReadDone mid => decide (mid < 2)
  | .bankGroupControllerFail bankGroup => decide (bankGroup < 128)
  | .circuitTeardownDone index => decide (index < 128)

end Sys2Proof
end

