-- ==== Sys2Proof/Machine/State.lean ====
section
/-! DEFINITION. The state of the IK-S1024 as plain data, and the state after a cold reset (R14, R443).
Every register word lives in `Ctl.regs` (an unlisted word reads its reset value, Machine/RegMap.lean);
every table entry in `Ctl.tables`; Stockpot in `State.mem`; everything else the spec gives the machine in
the record of its chapter. A `SMap` is a sparse map in one canonical form: keys strictly rising, no entry
equal to what an unlisted key reads as. -/

namespace Sys2Proof.Machine

/-- A sparse map: keys strictly rising, no default entries. -/
abbrev SMap (α : Type) := List (Nat × α)

/-! ### Control pages (ch. 2) -/

/-- The read latch of one source (R8): the low word's BAR0 offset, the high word, the further word (R367). -/
structure Latch where
  offset : Nat
  high : W32
  further : W32
  deriving DecidableEq, Repr

/-- A table command in progress (R69 to R71): its source, and what its completion shows. -/
structure TblPend where
  src : Src
  result : Nat
  index : Nat
  data : Option (List W32)
  deriving DecidableEq, Repr

/-- What a page is doing beyond its STATE bits (R50, R63). -/
structure PageAct where
  /-- ENABLE was written 0 and work is still in flight. -/
  finishing : Bool
  /-- Counter at the ABORT or BLOCK_RESET write. -/
  abortAt : Nat
  /-- The abort is forced (R63): its completion sets FORCED_ABORT. -/
  forced : Bool
  /-- A block reset is running (R445). -/
  resetting : Bool
  deriving DecidableEq, Repr

/-- What leaves the block, oldest first: the model's own record of its outputs (log 6). -/
inductive Output where
  /-- A codeword sent on a lane (R103). -/
  | codeword (lane : Nat) (cw : Codeword)
  /-- An MSI-X message (R417). -/
  | msix (vector : Nat) (address : Nat) (data : W32)
  /-- The value a read returned to its source (R7, R8). -/
  | readData (src : Src) (addr : Nat) (value : W64)
  /-- The value a host-window read returned (R360). -/
  | windowData (offset : Nat) (value : List Byte)
  /-- A transmitter of the port turned on or off (R108, R448). -/
  | light (lane : Nat) (on : Bool)
  /-- A replayed D2D flit (R19). -/
  | flitReplay (group : Nat)
  deriving DecidableEq, Repr

structure Ctl where
  regs : SMap W32
  staged : SMap (Option W32)
  commits : SMap (List (Nat × W32))
  latchHost : Option Latch
  latchInband : Option Latch
  tables : SMap (List W32)
  tblPend : SMap (Option TblPend)
  acts : SMap PageAct
  abortWave : Option Nat
  abortAllAt : Nat
  /-- An OWNER_ALL write is being carried out (R67). -/
  ownerAll : Bool
  parityBad : SMap Bool
  busMaster : Bool
  msixEnable : Bool
  d3hot : Bool
  pba : SMap Bool
  eventSent : SMap Bool
  draws : Nat
  out : List Output
  deriving DecidableEq, Repr

/-! ### Cells in the device (ch. 3, 6) -/

/-- The account a unit is charged to (R168); `none` outside the switching units. -/
inductive Acct where
  | none | landing | minimum | shared
  deriving DecidableEq, Repr

/-- The sampling tag of a cell (R469, R470); 0xFFFF_FFFF for a stage not reached. -/
structure Tag where
  lookup : Nat
  enq : Nat
  grant : Nat
  tx : Nat
  outLane : Nat
  copies : Nat
  /-- GROUP in [31:16] and GEN in [15:8] of a collective cell whose member is known. -/
  ident : Nat
  deriving DecidableEq, Repr

/-- A buffer unit: a cell and its metadata (R166). -/
structure Box where
  cell : Cell
  /-- Source: the ingress port's lowest lane, or 1024 + 4 × die + service source (R189). -/
  source : Nat
  /-- Arrival number: orders units by age. -/
  num : Nat
  /-- Receive timestamp (R123), fabric time in ns, and the local counter then. -/
  rxNs : Nat
  rxTick : Nat
  acct : Acct
  /-- The virtual channel the cell arrived on: its credit is returned there (R113). -/
  vcIn : Nat
  /-- Counted in DRAIN of its EPOCH (R139). -/
  counted : Bool
  /-- Flow-table index whose HELD counts the cell (R151). -/
  flow : Option Nat
  tag : Option Tag
  /-- One copy of a multicast cell, which shares its DRAIN count. -/
  multi : Bool
  /-- The job of a result cell's group (R408). -/
  job : Option Nat
  /-- Counter when the unit reached the head of its list (R95). -/
  headTick : Nat
  deriving DecidableEq, Repr

/-! ### Links and lasers (ch. 4) -/

/-- A byte of the transmit cell stream: does it belong to a TIME cell (R117), does a cell start here. -/
structure TxByte where
  b : Byte
  time : Bool
  start : Bool
  deriving DecidableEq, Repr

/-- A data codeword held for replay (R116). -/
structure SentCw where
  seq : Nat
  body : List TxByte
  deriving DecidableEq, Repr

/-- A cell cut from the receive stream, with its receive timestamp (R123). -/
structure Framed where
  cell : Cell
  rxNs : Nat
  rxTick : Nat
  deriving DecidableEq, Repr

/-- The departure of a port (R448): sending DEPART, then waiting for ACKs. -/
inductive Departing where
  | no | sending | waiting
  deriving DecidableEq, Repr

/-- One port, keyed by its lowest lane (R99). -/
structure Port where
  allow : List Nat
  lastCredit : List Nat
  returned : List Nat
  reported : List Nat
  creditWait : Nat
  creditTurn : Nat
  txSeq : Nat
  ackNext : Nat
  replay : List SentCw
  /-- Codewords an ACK covers of the period of `ackNext`, kept because a replay starts at the period (R117). -/
  ackHeld : List SentCw
  replayAt : Option Nat
  nakSeq : Nat
  nakCount : Nat
  ackTick : Nat
  rxSeq : Nat
  /-- Times the codeword rxSeq has arrived uncorrectable (R117). -/
  rxNaks : Nat
  nakOwed : Bool
  nakTurn : Bool
  sinceAck : Nat
  ackDirty : Bool
  txStream : List TxByte
  txPeriod : Nat
  txLane : Nat
  nullPeriod : Bool
  rxStream : List Byte
  framed : List Framed
  /-- The receive side is in service (R449). -/
  rxOpen : Bool
  pipe : List Box
  departing : Departing
  departTick : Nat
  /-- The transmitters are dark after a departure, until SEARCH starts again (R446, R448, R450). -/
  dark : Bool
  /-- Units of the landing reservation held (R170); 0 when none. -/
  landing : Nat
  /-- Training frames matched, waiting for the landing reservation (R170). -/
  matched : Bool
  spray : Nat
  unreachTick : Option Nat
  timeDue : Bool
  tseq : Nat
  /-- TIME cells sent since the port entered UP. -/
  timeSent : Nat
  /-- The latest TIME cell received: TSEQ, its TX time and its corrected receive time (2^-16 ns). -/
  peerTime : Option (Nat × Nat × Nat)
  fence : Bool
  suspended : Bool
  flushing : Bool
  sinceTick : Nat
  deriving DecidableEq, Repr

/-- A lane repair in progress, keyed by port block (R118 to R120). -/
structure Repair where
  laneIdx : Nat
  attempt : Nat
  accepted : Bool
  switched : Bool
  startTick : Nat
  deriving DecidableEq, Repr

/-- A laser module as the tile sees it (R125 to R130). -/
structure Laser where
  present : Bool
  insertTick : Nat
  en : Bool
  boost : Bool
  /-- Wear in tenths of a percent-hour: 1000 = one weighted hour (R129). -/
  wear : Nat
  ratedLife : Nat
  /-- Output over time since the latest hour of wear, in percent × ticks, up to `outTick` (R129). -/
  outSum : Nat
  outTick : Nat
  hourTick : Nat
  status : Nat
  temp : Nat
  setpoint : Nat
  releasing : Bool
  deriving DecidableEq, Repr

structure Lnk where
  ports : SMap Port
  repairs : SMap (Option Repair)
  /-- The REPAIR item owed on a port block's spare lane, as VALUE + 1; 0 for none (R106). -/
  repairItem : SMap Nat
  ownFailed : SMap Bool
  laser : SMap Laser
  holdoff : SMap Bool
  /-- Cells dropped per ingress port and reason (R76), keyed lane × 16 + reason. -/
  drops : SMap Nat
  d2dPaused : SMap Bool
  refLost : Bool
  deriving DecidableEq, Repr

/-! ### Switch core and traffic management (ch. 6, 7) -/

/-- A virtual output queue: its two FIFO lists, oldest first (R165). -/
structure Voq where
  norm : List Box
  esc : List Box
  deriving DecidableEq, Repr

/-- One copy of a multicast or result cell: the egress port and the rewritten cell (R179). -/
structure Copy where
  egress : Nat
  cell : Cell
  deriving DecidableEq, Repr

/-- A stored multicast cell and the copies still to be sent to their regions (R179, R180). -/
structure Mcast where
  box : Box
  copies : Option (List Copy)
  deriving DecidableEq, Repr

/-- A cell in a region's replication buffer (R180). -/
structure Repl where
  box : Box
  copies : List Copy
  deriving DecidableEq, Repr

/-- Units of one (source, TC) by account (R168). -/
structure Units where
  landing : Nat
  minimum : Nat
  shared : Nat
  deriving DecidableEq, Repr

/-- A deficit weighted round robin arbiter (R495). -/
structure Dwrr where
  ptr : Nat
  deficit : List Nat
  deriving DecidableEq, Repr

/-- A token bucket: tokens in units of 1/12,800 byte (one Mb/s adds one unit a tick) at a counter value. -/
structure Bucket where
  tokens : Nat
  tick : Nat
  deriving DecidableEq, Repr

/-- A flushed unit on a die's flush list (R183, R184): the port-down event and the list it came from. -/
structure Flushed where
  box : Box
  lane : Nat
  reason : Nat
  ingress : Bool
  listKey : Nat
  notify : Bool
  deriving DecidableEq, Repr

/-- A running gate list (R204): the fabric time of its start and of the entry in effect. -/
structure Gate where
  start : Nat
  entryStart : Nat
  entry : Nat
  deriving DecidableEq, Repr

structure Sw where
  voqs : SMap Voq
  mcast : SMap (List Mcast)
  repl : SMap (List Repl)
  staging : SMap (List Box)
  units : SMap Units
  /-- Ends still owed by a cell stored once for several copies, by arrival number (R139). -/
  copies : SMap Nat
  /-- The tag of a tagged cell stored once for several copies (R470). -/
  mtags : SMap (Option Tag)
  parkA : List (Nat × Box)
  parkB : List (Nat × Box)
  grantArb : SMap Dwrr
  txArb : SMap Dwrr
  grantPtr : SMap Nat
  acceptPtr : SMap Nat
  flushA : List Flushed
  flushB : List Flushed
  flushCount : SMap Nat
  fencedGroups : List Nat
  eccTimes : SMap (List Nat)
  moved : SMap Nat
  numNext : Nat
  /-- Pinned flows of which a cell has moved to its escape VC here (R96): (DST, SRC, TC). -/
  escFlows : List (Nat × Nat × Nat)
  gates : SMap (Option Gate)
  shapers : SMap Bucket
  aggregates : SMap Bucket
  policers : SMap (Bucket × Bucket)
  wheel : SMap Nat
  deriving DecidableEq, Repr

/-! ### Forwarding and bypass (ch. 5, 8) -/

structure Fwd where
  swapTick : Option Nat
  warned : Bool
  /-- DRAIN[e] reached 0 while bank e was not active, not yet reported (R139). -/
  drained : SMap Bool
  /-- Entries written since their segment was marked suspect, keyed (die, bank, index) (R160). -/
  fresh : SMap Bool
  /-- Dies whose latest pass matched since arming, keyed by segment (R159). -/
  passed : SMap (Bool × Bool)
  deriving DecidableEq, Repr

/-- A circuit-table entry's sequencing (R222, R225, R226). Times in fabric ns. -/
structure Circ where
  ts : Option Nat
  fenced : Bool
  flushed : Bool
  cut : Bool
  tearAfterUp : Bool
  upTick : Nat
  lightBack : Bool
  /-- Fabric time of a trigger that left the armed entry less than DRAIN_LEAD (R225). -/
  late : Option Nat
  deriving DecidableEq, Repr

/-- One counter of the candidate tally (R230). -/
structure Cand where
  pair : Nat
  sum : Nat
  flows : Nat
  deriving DecidableEq, Repr

structure Byp where
  circs : SMap Circ
  snapshots : SMap Nat
  deriving DecidableEq, Repr

/-! ### Collective engine and Ladle array (ch. 9 to 11) -/

/-- A floating-point value of the accumulator format (R285): a signed dyadic `mant × 2^exp`. -/
inductive Acc where
  | nan
  | inf (neg : Bool)
  | fin (neg : Bool) (mant : Nat) (exp : Int)
  deriving DecidableEq, Repr

/-- What a register or frame lane holds (R309, R310): the kind of value decides how a step reads it (R494). -/
inductive Lane where
  | empty
  | acc (v : Acc)
  | int (v : W64)
  | code (fmt : Nat) (bits : Nat) (scale : Nat) (sfmt : Nat)
  deriving DecidableEq, Repr

/-- A waiting run of a context (R327): its position and the contribution cell of an accumulate run. -/
structure Run where
  pos : Nat
  member : Nat
  cell : Cell
  num : Nat
  rebuild : Bool
  tag : Option Tag
  rxNs : Nat
  rxTick : Nat
  lane : Nat
  deriving DecidableEq, Repr

/-- One member's contribution to a chunk (R246, R247): retained cells in arrival order, and the tail. -/
structure Contrib where
  cells : List Cell
  tail : Option Cell
  closed : Bool
  fails : Nat
  lane : Nat
  deriving DecidableEq, Repr

inductive CtxState where
  | openS | complete | streaming
  deriving DecidableEq, Repr

inductive Paging where
  | resident | out | goingOut | goingIn
  deriving DecidableEq, Repr

/-- A context (R243 to R257), keyed group × 16 + phase. -/
structure Context where
  gen : Nat
  useNo : Nat
  state : CtxState
  paging : Paging
  region : Nat
  slot : Nat
  block : Nat
  chunk : Option Nat
  last : Bool
  cells : Nat
  valid : Nat
  expected : Nat
  closed : Nat
  contribs : SMap Contrib
  first : Cell
  openTick : Nat
  touchTick : Nat
  closeTick : Nat
  frames : SMap (List Lane)
  runs : List Run
  finishing : List Nat
  results : SMap (Option Cell)
  crc : Nat
  streamPos : Nat
  tailPos : Nat
  reserve : Nat
  recipe : Nat
  version : Nat
  units : Nat
  rebuilding : Bool
  pageIn : Bool
  /-- The group entry the context was created under (R238, R262). -/
  entry : List W32
  deriving DecidableEq, Repr

/-- A denial record (R255), with the generation it was made under. -/
structure Denial where
  gen : Nat
  useNo : Nat
  detail : Nat
  chunk : Option Nat
  notified : List Nat
  closed : List Nat
  deriving DecidableEq, Repr

/-- A group's generation change in progress (R262, R263). -/
structure GroupRec where
  stale : Nat
  staleTick : Nat
  resize : Option (Nat × Nat)
  deriving DecidableEq, Repr

/-- A round of an ordered all-to-all (R267): T0 in fabric ns and the open phase of each member. -/
structure Round where
  t0 : Nat
  phases : List Nat
  ended : List Bool
  planDone : List Nat
  deriving DecidableEq, Repr

structure Col where
  inbox : List Box
  contexts : SMap (Option Context)
  useNo : SMap Nat
  denials : SMap (Option Denial)
  groups : SMap GroupRec
  rounds : SMap (Option Round)
  blockPtr : SMap Nat
  /-- Copies of a stored result cell: each member's coordinate and RTAG (R77, R179), by arrival number. -/
  replicas : SMap (List (Nat × Nat))
  /-- CTAIL_DN cells owed outside a streaming context, waiting for room (R172, R255, R259): group × 16 +
  phase, die, the cell and its copies. -/
  owed : List (Nat × Nat × Cell × List (Nat × Nat))
  deriving DecidableEq, Repr

/-- A core block (R306, R329 to R333). -/
structure CoreBlk where
  map : List Nat
  bad : List Nat
  failed : Option Nat
  taken : Bool
  /-- Counter at the failure + 1 while its recovery runs, else 0. -/
  failTick : Nat
  /-- Positions to rebuild and verbs to rerun of that recovery (R331). -/
  rebuilt : Nat
  /-- Cycles of the block when the failed core stopped (R334). -/
  stopped : Nat
  /-- Cycles of the block in which a logical core did not work (R334). -/
  lost : SMap Nat
  deriving DecidableEq, Repr

/-- Ladle clock cycles counted up to a counter value, with the part of a cycle in units of 1/12,800 (R334). -/
structure Clock where
  cycles : Nat
  frac : Nat
  tick : Nat
  deriving DecidableEq, Repr

structure Ldl where
  blocks : SMap CoreBlk
  /-- A LOAD (`true`) or COPY (`false`) pending, with its slot (R323). -/
  cmd : Option (Bool × Nat)
  retiring : SMap Bool
  /-- The store that holds each slot's active recipe version (R323). -/
  active : SMap Nat
  /-- Cycles of a region (key r) and of a core block (key 8 + b), by instance of its LDL page. -/
  clocks : SMap Clock
  deriving DecidableEq, Repr

/-! ### Stockpot and the memory service (ch. 12) -/

/-- A verb that passed its checks (R349), waiting for its MID or accepted by it. -/
structure Verb where
  cell : Cell
  lane : Nat
  base : Nat
  recipe : Nat
  version : Nat
  num : Nat
  core : Nat
  /-- The response cells of an accepted GET still to be queued: index, bytes, and whether a line of the cell
  is poisoned (R353, R356). -/
  data : List (Nat × List Byte × Bool)
  deriving DecidableEq, Repr

/-- A waiting FENCE (R358). -/
structure Fence where
  source : W32
  msgid : Nat
  count : Nat
  cell : Cell
  lane : Nat
  tick : Nat
  deriving DecidableEq, Repr

structure Stk where
  inbox : List Box
  midA : List Verb
  midB : List Verb
  getsA : List Verb
  getsB : List Verb
  accs : List Verb
  trackers : SMap Nat
  fences : List Fence
  poisoned : SMap Bool
  deriving DecidableEq, Repr

/-! ### Time and power (ch. 13, 14) -/

structure Tim where
  offset : BitVec 80
  anchor : W64
  okTick : Option Nat
  syncTick : Option Nat
  root : W32
  ppsPin : Bool
  pulseEnd : Nat
  adjNs : W32
  setNs : W64
  /-- Fabric time at which a handed trigger slot fires, and whether late (R379). -/
  fireAt : SMap (Option (Nat × Bool))
  deriving DecidableEq, Repr

/-- A region's power state (R393, R402 to R404, R406). -/
structure RegionPwr where
  /-- The point a change in progress goes to. -/
  target : Option Nat
  /-- The point decided while that change runs. -/
  next : Option Nat
  held : Bool
  droopStart : Nat
  droopEnd : Option Nat
  trimDue : Bool
  /-- Thermal steps allow no point faster than this. -/
  floor : Nat
  hot : Bool
  deriving DecidableEq, Repr

/-- A phase class (R397): its key, the latest 64 beats per cell and energies per beat (2^-16 units, 10 nJ),
newest first, and the intervals since it last ran. -/
structure PhaseClass where
  group : Nat
  recipe : Nat
  perCell : List Nat
  perBeat : List Nat
  unseen : Nat
  deriving DecidableEq, Repr

structure Pmc where
  regions : SMap RegionPwr
  /-- Package power of past intervals in mW, newest first. -/
  history : List Nat
  /-- Intervals since the last allocation (R391). -/
  missed : Nat
  /-- Intervals in a row with the stage liftable (R400). -/
  liftable : Nat
  /-- A stage has been left and none taken since (R400). -/
  easing : Bool
  /-- Energy below 1 µJ carried, in units of 10 nJ, by job slot × 4 + word pair; UNATTRIBUTED's own (R408). -/
  energyFrac : SMap Nat
  unattributed : Nat
  beats : SMap Nat
  vectorBeats : SMap Nat
  arrivals : SMap Nat
  cellsMoved : Nat
  jobCells : SMap Nat
  classes : SMap (Option PhaseClass)
  /-- The hottest reading of each die (R406). -/
  temps : SMap (Option Int)
  /-- THERM_TRIP_N is asserted. -/
  thermTrip : Bool
  deriving DecidableEq, Repr

/-! ### Management and security (ch. 15) -/

/-- An in-band session (R422 to R425). -/
structure Session where
  opened : Bool
  established : Bool
  port : Nat
  peer : W32
  transcript : List Byte
  shared : List Byte
  keyIn : List Byte
  keyOut : List Byte
  seqIn : Nat
  seqOut : Nat
  tick : Nat
  responses : List (Nat × List Byte)
  deriving DecidableEq, Repr

/-- A journal record (R434); `good` is false for one cut short by loss of power. -/
structure JRec where
  type : Nat
  delete : Bool
  seq : Nat
  key : Nat
  value : List Byte
  good : Bool
  deriving DecidableEq, Repr

/-- A journal half (R435, R436): its records, its commit generation, its fill in bytes. -/
structure Half where
  recs : List JRec
  gen : Nat
  fill : Nat
  deriving DecidableEq, Repr

/-- A DBG command in progress (R431, R432): its word, its refusal reason or 0, and who wrote it (R49). -/
structure DbgCmd where
  write : Bool
  key : Nat
  data : W32
  reason : Nat
  src : Src
  deriving DecidableEq, Repr

structure Mgt where
  inbox : List Box
  bar4 : SMap Byte
  sessions : SMap Session
  ownerKeys : List (List Byte)
  minSvn : Nat
  vendorDebugOff : Bool
  coldResets : Nat
  flash : SMap Byte
  half0 : Half
  half1 : Half
  activeHalf : Nat
  nextSeq : Nat
  measure : List (BitVec 512)
  challenge : Option (List Byte)
  /-- RESULT and REASON that the pending security command will report (R428). -/
  secPend : Option (Nat × Nat)
  dbgCmd : Option DbgCmd
  dbgWords : SMap W32
  activePair : Nat
  failedPairs : List Nat
  bootTried : Nat
  deriving DecidableEq, Repr

/-! ### Telemetry, resets, faults (ch. 16, 17, 18) -/

structure Tel where
  waitA : List (List Byte)
  waitB : List (List Byte)
  captureNs : Nat
  samples : SMap (Nat × Nat)
  deriving DecidableEq, Repr

structure Rst where
  /-- Counter at the write that started the hot or drain reset running (R450). -/
  tick : Nat
  /-- Pages in scope whose ENABLE was 1 then (R444). -/
  enables : List Page
  /-- RESET_CTL writes of the in-band channel not yet in effect: TYPE and counter (R451). -/
  delayed : List (Nat × Nat)
  /-- PERST_N is asserted, since this counter value. -/
  perst : Bool
  perstTick : Nat
  /-- A warm reset holds the boot until PERST_N deasserts (R441, R491). -/
  warmHeld : Bool
  /-- A warm reset waits for its ports to depart (R442). -/
  warmDue : Bool
  pwrGood : Bool
  faultSeq : Nat
  faultLast : SMap (Nat × Nat)
  midFailed : List Nat
  deriving DecidableEq, Repr

/-- Everything but the command queue, the local counter and Stockpot's bytes. -/
structure Dev where
  ctl : Ctl
  lnk : Lnk
  sw : Sw
  fwd : Fwd
  byp : Byp
  col : Col
  ldl : Ldl
  stk : Stk
  tim : Tim
  pmc : Pmc
  mgt : Mgt
  tel : Tel
  rst : Rst
  deriving DecidableEq, Repr

/-- The machine. -/
structure State where
  /-- Commands waiting, first in first out (the block form's queue). -/
  pending : List Instr
  /-- The local time counter (R364). -/
  now : W64
  /-- Stockpot (R342), in canonical form: addresses strictly rising, no byte equal to 0 (log 3). -/
  mem : List Host.Cell
  dev : Dev
  deriving DecidableEq, Repr

/-- Reasons a command stops the model. -/
inductive Fault where
  /-- Raised by a command that names a unit the device does not have: a lane above 1,087, a port block
  above 63, a laser module above 15, a region above 7 and so on. Safe: no such event can reach the device. -/
  | noSuchUnit
  deriving DecidableEq, Repr

/-- Reasons the model gives no meaning. -/
inductive Refusal where
  /-- A command whose meaning is not written yet. Safe. -/
  | notModelled (mnemonic : String)
  deriving DecidableEq, Repr

/-! ### The state after a cold reset -/

def Ctl.reset : Ctl :=
  { regs := [], staged := [], commits := [], latchHost := none, latchInband := none, tables := [],
    tblPend := [], acts := [], abortWave := none, abortAllAt := 0, ownerAll := false, parityBad := [], busMaster := false,
    msixEnable := false, d3hot := false, pba := [], eventSent := [], draws := 0, out := [] }

/-- A port as a cold reset leaves it: no credit, no sequence, nothing framed or queued. -/
def Port.reset : Port :=
  { allow := List.replicate 16 0, lastCredit := List.replicate 16 0, returned := List.replicate 16 0,
    reported := List.replicate 16 0, creditWait := 0, creditTurn := 0, txSeq := 0, ackNext := 0,
    replay := [], ackHeld := [], replayAt := none, nakSeq := 0, nakCount := 0, ackTick := 0, rxSeq := 0, rxNaks := 0,
    nakOwed := false, nakTurn := false, sinceAck := 0, ackDirty := false,
    txStream := [], txPeriod := 0, txLane := 0, nullPeriod := false, rxStream := [],
    framed := [], rxOpen := false, pipe := [], departing := .no, departTick := 0, dark := false, landing := 0, matched := false,
    spray := 0, unreachTick := none, timeDue := false, tseq := 0, timeSent := 0, peerTime := none,
    fence := false, suspended := false, flushing := false, sinceTick := 0 }

def Laser.reset : Laser :=
  { present := false, insertTick := 0, en := false, boost := false, wear := 0, ratedLife := 0,
    outSum := 0, outTick := 0, hourTick := 0, status := 0, temp := 0, setpoint := 0, releasing := false }

def Lnk.reset : Lnk :=
  { ports := [], repairs := [], repairItem := [], ownFailed := [], laser := [], holdoff := [], drops := [], d2dPaused := [],
    refLost := false }

def Voq.empty : Voq := { norm := [], esc := [] }
def Units.zero : Units := { landing := 0, minimum := 0, shared := 0 }
/-- R495: at cold reset the pointer names TC 0 and every D[c] is 0. -/
def Dwrr.reset : Dwrr := { ptr := 0, deficit := List.replicate 7 0 }

def Sw.reset : Sw :=
  { voqs := [], mcast := [], repl := [], staging := [], units := [], copies := [], mtags := [], parkA := [],
    parkB := [], grantArb := [], txArb := [], grantPtr := [], acceptPtr := [],
    flushA := [], flushB := [], flushCount := [], fencedGroups := [], eccTimes := [], moved := [],
    numNext := 0, escFlows := [], gates := [], shapers := [], aggregates := [], policers := [], wheel := [] }

def Fwd.reset : Fwd := { swapTick := none, warned := false, drained := [], fresh := [], passed := [] }

def Circ.idle : Circ :=
  { ts := none, fenced := false, flushed := false, cut := false, tearAfterUp := false,
    upTick := 0, lightBack := false, late := none }

def Byp.reset : Byp := { circs := [], snapshots := [] }

def GroupRec.zero : GroupRec := { stale := 0, staleTick := 0, resize := none }

def Col.reset : Col :=
  { inbox := [], contexts := [], useNo := [], denials := [], groups := [], rounds := [],
    blockPtr := [], replicas := [], owed := [] }

/-- R306: physical cores 0 to 24 carry logical numbers 0 to 24, physical core 25 is the spare. -/
def CoreBlk.reset : CoreBlk :=
  { map := List.range 25, bad := [], failed := none, taken := false, failTick := 0, rebuilt := 0,
    stopped := 0, lost := [] }

def Ldl.reset : Ldl := { blocks := [], cmd := none, retiring := [], active := [], clocks := [] }

def Clock.zero : Clock := { cycles := 0, frac := 0, tick := 0 }

def Stk.reset : Stk :=
  { inbox := [], midA := [], midB := [], getsA := [], getsB := [], accs := [], trackers := [],
    fences := [], poisoned := [] }

def Tim.reset : Tim :=
  { offset := 0, anchor := 0, okTick := none, syncTick := none, root := 0,
    ppsPin := false, pulseEnd := 0, adjNs := 0, setNs := 0, fireAt := [] }

def RegionPwr.reset : RegionPwr :=
  { target := none, next := none, held := false, droopStart := 0, droopEnd := none, trimDue := false, floor := 0,
    hot := false }

def Pmc.reset : Pmc :=
  { regions := [], history := [], missed := 0, liftable := 0, easing := false, energyFrac := [], unattributed := 0,
    beats := [], vectorBeats := [], arrivals := [], cellsMoved := 0, jobCells := [], classes := [], temps := [], thermTrip := false }

def Session.closed : Session :=
  { opened := false, established := false, port := 0, peer := 0, transcript := [], shared := [],
    keyIn := [], keyOut := [], seqIn := 0, seqOut := 0, tick := 0, responses := [] }

def Half.empty : Half := { recs := [], gen := 0, fill := 0 }

def Mgt.reset : Mgt :=
  { inbox := [], bar4 := [], sessions := [], ownerKeys := [], minSvn := 0, vendorDebugOff := false,
    coldResets := 0, flash := [], half0 := Half.empty, half1 := Half.empty, activeHalf := 0,
    nextSeq := 1, measure := List.replicate 8 0, challenge := none, secPend := none,
    dbgCmd := none, dbgWords := [], activePair := 0, failedPairs := [],
    bootTried := 0 }

def Tel.reset : Tel := { waitA := [], waitB := [], captureNs := 0, samples := [] }

def Rst.reset : Rst :=
  { tick := 0, enables := [], delayed := [], perst := false, perstTick := 0, warmHeld := false, warmDue := false,
    pwrGood := true,
    faultSeq := 0, faultLast := [], midFailed := [] }

def Dev.reset : Dev :=
  { ctl := Ctl.reset, lnk := Lnk.reset, sw := Sw.reset, fwd := Fwd.reset, byp := Byp.reset,
    col := Col.reset, ldl := Ldl.reset, stk := Stk.reset, tim := Tim.reset, pmc := Pmc.reset,
    mgt := Mgt.reset, tel := Tel.reset, rst := Rst.reset }

/-- The machine right after a cold reset: every register at its Reset column (R14), every queue and
table empty, the counter at 0 (R364), Stockpot with nothing listed. -/
def State.reset : State := { pending := [], now := 0, mem := [], dev := Dev.reset }

end Sys2Proof.Machine
end

