-- ==== Sys2Proof/Machine/Builtin.lean ====
section
/-! DEFINITION. Recipe steps as 64-bit words (R313) and the built-in recipes of slots 0 to 31 (R321). -/

namespace Sys2Proof.Machine

/-- A recipe step (R313), decoded. -/
structure Step where
  op : Nat
  d : Nat
  a : Nat
  b : Nat
  c : Nat
  fmt : Nat
  mode : Nat
  sp : Nat
  tile : Nat
  imm : Nat
  deriving DecidableEq, Repr

/-- The 64 bits of a step, laid out as R313. -/
def Step.encode (s : Step) : Nat :=
  s.op * 2 ^ 59 + s.d * 2 ^ 53 + s.a * 2 ^ 47 + s.b * 2 ^ 41 + s.c * 2 ^ 35 + s.fmt * 2 ^ 32 +
    s.mode * 2 ^ 30 + s.sp * 2 ^ 27 + s.tile * 2 ^ 24 + s.imm

/-- The step that 64 bits spell (R313). -/
def Step.decode (w : Nat) : Step :=
  { op := w / 2 ^ 59 % 32, d := w / 2 ^ 53 % 64, a := w / 2 ^ 47 % 64, b := w / 2 ^ 41 % 64,
    c := w / 2 ^ 35 % 64, fmt := w / 2 ^ 32 % 8, mode := w / 2 ^ 30 % 4, sp := w / 2 ^ 27 % 8,
    tile := w / 2 ^ 24 % 8, imm := w % 2 ^ 24 }

/-- A step with only the named fields; the others are 0, as R313 requires of unused fields. -/
def mkStep (op d a b fmt mode sp tile : Nat) : Step :=
  { op := op, d := d, a := a, b := b, c := 0, fmt := fmt, mode := mode, sp := sp, tile := tile, imm := 0 }

/-- OP codes of R315. -/
def opNOP : Nat := 0x00
def opLD : Nat := 0x01
def opST : Nat := 0x02
def opDEQ : Nat := 0x03
def opADD : Nat := 0x04
def opMUL : Nat := 0x05
def opFMA : Nat := 0x06
def opMAX : Nat := 0x07
def opMIN : Nat := 0x08
def opSEL : Nat := 0x09
def opWSUM : Nat := 0x0A
def opSCALE : Nat := 0x0B
def opCVT : Nat := 0x0C
def opQNT : Nat := 0x0D
def opXFM : Nat := 0x0E
def opCRC : Nat := 0x0F
def opEND : Nat := 0x1F

def stEND : Step := mkStep opEND 0 0 0 0 0 0 0
def stLdAcc (d : Nat) : Step := mkStep opLD d 0 0 0 0 1 0
def stLdIn (d : Nat) : Step := mkStep opLD d 0 0 0 0 0 0
def stStAcc (a : Nat) : Step := mkStep opST 0 a 0 0 0 1 0
def stStOut (a : Nat) : Step := mkStep opST 0 a 0 0 0 2 0
def stDeq (d : Nat) : Step := mkStep opDEQ d 0 0 7 0 0 0
def stCRC : Step := mkStep opCRC 0 0 0 0 0 0 0

/-- Accumulate section of the shape "DEQ v0; LD v2 ACC; op v2 v2 v0; ST ACC v2" (R321). -/
def accSection (op fmt mode : Nat) : List Step :=
  [stDeq 0, stLdAcc 2, mkStep op 2 2 0 fmt mode 0 0, stStAcc 2, stEND]

/-- Finish section of slot 0 with the given RND and OVF bits (R321). -/
def finSection (mode : Nat) : List Step :=
  [stLdAcc 0, mkStep opCVT 4 0 0 7 mode 0 0, stStOut 4, stCRC, stEND]

/-- The built-in recipes (R321); every other slot holds slot 0's recipe (R321, R323). -/
def builtinRecipe (slot : Nat) : List Step :=
  match slot with
  | 1 => accSection opMAX 6 0 ++ finSection 0
  | 2 => accSection opMIN 6 0 ++ finSection 0
  | 3 => accSection opADD 6 0 ++
      [stLdAcc 0, mkStep opSCALE 0 0 0 6 2 0 0, mkStep opCVT 4 0 0 7 0 0 0, stStOut 4, stCRC, stEND]
  | 4 => accSection opWSUM 6 0 ++ finSection 0
  | 5 => [stLdIn 0, stStAcc 0, stEND, stLdAcc 0, stStOut 0, stCRC, stEND]
  | 6 => accSection opADD 6 0 ++ finSection 2
  | 7 => accSection opADD 6 0 ++ finSection 1
  | 8 => accSection opADD 5 0 ++ finSection 0
  | 9 => accSection opMAX 5 0 ++ finSection 0
  | 10 => accSection opMIN 5 0 ++ finSection 0
  | 11 => accSection opADD 5 1 ++ finSection 0
  | 12 => accSection opADD 5 2 ++ finSection 0
  | 13 => accSection opADD 5 3 ++ finSection 0
  | 14 => [mkStep opXFM 0 0 0 7 0 1 0, stLdAcc 2, mkStep opADD 2 2 0 6 0 0 0, stStAcc 2, stEND] ++
      finSection 0
  | 15 => accSection opADD 6 0 ++
      [stLdAcc 0, mkStep opXFM 0 0 0 0 0 0 1, mkStep opCVT 4 0 0 7 0 0 0, stStOut 4, stCRC, stEND]
  | _ => accSection opADD 6 0 ++ finSection 0

/-- The two table words of step or constant `k` of a built-in recipe (R323): steps beyond the recipe are
NOP, every constant is 0. -/
def builtinWords (slot k : Nat) : List W32 :=
  if k < 64 then
    match (builtinRecipe slot)[k]? with
    | some s => [lo32 s.encode, hi32 s.encode]
    | none => [0, 0]
  else [0, 0]

end Sys2Proof.Machine
end

