-- ==== Sys2Proof/Machine/RegMap.lean ====
section
/-! DEFINITION. The register maps of the pages: every register's offset, array length and stride, and its
fields with class (R12), access (R10), reset value (R14) and listed encodings (R15), written from the
register tables of the chapters; a register with a `half` of 1 or 2 is the low or high word of a 64-bit
register (R8). The rule of each list stands in its docstring. -/

namespace Sys2Proof.Machine

/-- Field class (R12). -/
inductive Cls where
  | L | S | Q
  deriving DecidableEq, Repr

/-- Access type (R10). -/
inductive Access where
  | ro | rw | w1c | wo
  deriving DecidableEq, Repr

/-- The encodings a field's Meaning lists (R15). -/
inductive Enc where
  /-- Every value. -/
  | any
  /-- `lo` to `hi`. -/
  | range (lo hi : Nat)
  /-- Every value but `lo` to `hi`. -/
  | notRange (lo hi : Nat)
  /-- Two-bit codes, none of them 0b11 (R100). -/
  | pairsNot3
  deriving DecidableEq, Repr

structure Fld where
  hi : Nat
  lo : Nat
  cls : Cls
  acc : Access
  reset : Nat
  enc : Enc
  deriving DecidableEq, Repr

structure RegDef where
  off : Nat
  cnt : Nat
  stride : Nat
  half : Nat
  flds : List Fld
  deriving DecidableEq, Repr

/-- The page header (R41 to R49, R55, R58, R64). -/
def RegMap.hdr : List RegDef :=
  [⟨0x0, 1, 4, 0, [⟨31, 28, .L, .ro, 0, .any⟩, ⟨27, 16, .L, .ro, 0, .any⟩, ⟨15, 8, .L, .ro, 0, .any⟩, ⟨7, 0, .L, .ro, 0, .any⟩]⟩,
   ⟨0x4, 1, 4, 0, [⟨31, 16, .L, .ro, 0, .any⟩, ⟨3, 3, .L, .ro, 0, .any⟩, ⟨2, 2, .L, .ro, 0, .any⟩, ⟨1, 1, .L, .ro, 0, .any⟩, ⟨0, 0, .L, .ro, 0, .any⟩]⟩,
   ⟨0x8, 1, 4, 0, [⟨3, 3, .L, .wo, 0, .any⟩, ⟨2, 2, .L, .wo, 0, .any⟩, ⟨1, 1, .L, .rw, 0, .any⟩, ⟨0, 0, .L, .rw, 0, .any⟩]⟩,
   ⟨0xc, 1, 4, 0, [⟨8, 8, .L, .ro, 0, .any⟩, ⟨4, 4, .L, .ro, 0, .any⟩, ⟨2, 0, .L, .ro, 0, .any⟩]⟩,
   ⟨0x10, 1, 4, 0, [⟨31, 16, .L, .w1c, 0, .any⟩, ⟨4, 4, .L, .w1c, 0, .any⟩, ⟨3, 3, .L, .w1c, 0, .any⟩, ⟨2, 2, .L, .w1c, 0, .any⟩, ⟨1, 1, .L, .w1c, 0, .any⟩, ⟨0, 0, .L, .w1c, 0, .any⟩]⟩,
   ⟨0x14, 1, 4, 0, [⟨31, 16, .L, .rw, 0, .any⟩, ⟨4, 0, .L, .rw, 0, .any⟩]⟩,
   ⟨0x18, 1, 4, 0, [⟨31, 16, .L, .w1c, 0, .any⟩, ⟨9, 9, .L, .w1c, 0, .any⟩, ⟨8, 8, .L, .w1c, 0, .any⟩, ⟨7, 7, .L, .w1c, 0, .any⟩, ⟨6, 6, .L, .w1c, 0, .any⟩, ⟨5, 5, .L, .w1c, 0, .any⟩, ⟨4, 4, .L, .w1c, 0, .any⟩, ⟨3, 3, .L, .w1c, 0, .any⟩, ⟨2, 2, .L, .w1c, 0, .any⟩, ⟨1, 1, .L, .w1c, 0, .any⟩, ⟨0, 0, .L, .w1c, 0, .any⟩]⟩,
   ⟨0x1c, 1, 4, 0, [⟨31, 27, .L, .ro, 0, .any⟩, ⟨26, 26, .L, .ro, 0, .any⟩, ⟨25, 25, .L, .ro, 0, .any⟩, ⟨23, 12, .L, .ro, 0, .any⟩, ⟨11, 0, .L, .ro, 0, .any⟩]⟩,
   ⟨0x20, 1, 4, 0, [⟨8, 8, .L, .rw, 0, .any⟩, ⟨0, 0, .L, .rw, 0, .any⟩]⟩,
   ⟨0x24, 1, 4, 0, [⟨31, 24, .L, .wo, 0, .any⟩, ⟨0, 0, .L, .wo, 0, .any⟩]⟩,
   ⟨0x28, 1, 4, 0, [⟨31, 24, .L, .ro, 0, .any⟩, ⟨23, 12, .L, .ro, 0, .any⟩, ⟨3, 0, .L, .ro, 0, .any⟩]⟩,
   ⟨0x2c, 1, 4, 0, [⟨31, 16, .L, .ro, 0, .any⟩, ⟨3, 0, .L, .ro, 0, .any⟩]⟩]

/-- The table access port (R68, R69). -/
def RegMap.tblPort : List RegDef :=
  [⟨0x40, 1, 4, 0, [⟨31, 31, .L, .ro, 0, .any⟩, ⟨23, 16, .L, .rw, 0, .any⟩, ⟨3, 0, .L, .wo, 0, .range 0 5⟩]⟩,
   ⟨0x44, 1, 4, 0, [⟨31, 0, .L, .rw, 0, .any⟩]⟩,
   ⟨0x48, 1, 4, 0, [⟨31, 28, .L, .ro, 0, .any⟩, ⟨23, 0, .L, .ro, 0, .any⟩]⟩,
   ⟨0x4c, 1, 4, 0, [⟨31, 0, .L, .rw, 0, .any⟩]⟩,
   ⟨0x50, 16, 4, 0, [⟨31, 0, .L, .rw, 0, .any⟩]⟩]

/-- PKG (R66, R463). -/
def RegMap.pkg : List RegDef :=
  [⟨0x100, 1, 4, 0, [⟨0, 0, .L, .wo, 0, .any⟩]⟩,
   ⟨0x104, 1, 4, 0, [⟨31, 16, .L, .ro, 0, .any⟩, ⟨15, 8, .L, .ro, 0, .any⟩, ⟨3, 0, .L, .ro, 0, .any⟩]⟩,
   ⟨0x108, 1, 4, 0, [⟨31, 16, .L, .wo, 0, .any⟩, ⟨8, 8, .L, .wo, 0, .any⟩, ⟨0, 0, .L, .wo, 0, .any⟩]⟩,
   ⟨0x110, 1, 4, 0, [⟨7, 4, .L, .wo, 0, .range 1 2⟩, ⟨0, 0, .L, .wo, 0, .any⟩]⟩,
   ⟨0x114, 1, 4, 0, [⟨7, 0, .S, .rw, 0xc8, .range 10 200⟩]⟩,
   ⟨0x118, 1, 4, 0, [⟨31, 28, .L, .ro, 0, .any⟩, ⟨27, 24, .L, .ro, 0, .any⟩, ⟨15, 0, .L, .ro, 0, .any⟩]⟩,
   ⟨0x120, 1, 8, 1, [⟨31, 0, .L, .ro, 0, .any⟩]⟩,
   ⟨0x124, 1, 8, 2, [⟨31, 0, .L, .ro, 0, .any⟩]⟩,
   ⟨0x128, 1, 4, 0, [⟨8, 8, .L, .ro, 0, .any⟩, ⟨7, 0, .L, .ro, 0, .any⟩]⟩,
   ⟨0x12c, 1, 4, 0, [⟨31, 31, .L, .ro, 0, .any⟩, ⟨7, 0, .L, .ro, 0, .any⟩]⟩,
   ⟨0x180, 10, 8, 1, [⟨31, 0, .L, .ro, 0, .any⟩]⟩,
   ⟨0x184, 10, 8, 2, [⟨31, 0, .L, .ro, 0, .any⟩]⟩]

/-- Tile pages OPT[t] (R100, R131). -/
def RegMap.tile : List RegDef :=
  [⟨0x100, 1, 4, 0, [⟨15, 0, .S, .rw, 0x5555, .pairsNot3⟩]⟩,
   ⟨0x104, 1, 4, 0, [⟨2, 2, .L, .ro, 0, .any⟩, ⟨1, 0, .L, .ro, 0, .any⟩]⟩]

/-- Laser pages OPT[8 + m] (R131). -/
def RegMap.laser : List RegDef :=
  [⟨0x100, 1, 4, 0, [⟨2, 2, .L, .wo, 0, .any⟩, ⟨1, 1, .L, .wo, 0, .any⟩, ⟨0, 0, .L, .wo, 0, .any⟩]⟩,
   ⟨0x104, 1, 4, 0, [⟨31, 28, .L, .ro, 0, .any⟩, ⟨27, 24, .L, .ro, 0, .any⟩, ⟨7, 0, .L, .ro, 0, .any⟩]⟩,
   ⟨0x108, 1, 4, 0, [⟨31, 0, .L, .ro, 0, .any⟩]⟩,
   ⟨0x10c, 1, 4, 0, [⟨31, 0, .L, .ro, 0, .any⟩]⟩,
   ⟨0x110, 1, 8, 1, [⟨31, 0, .L, .ro, 0, .any⟩]⟩,
   ⟨0x114, 1, 8, 2, [⟨31, 0, .L, .ro, 0, .any⟩]⟩]

/-- LNK (R112). -/
def RegMap.lnk : List RegDef :=
  [⟨0x100, 1, 4, 0, [⟨2, 2, .L, .wo, 0, .any⟩, ⟨1, 1, .L, .rw, 1, .any⟩, ⟨0, 0, .L, .rw, 0, .any⟩]⟩,
   ⟨0x104, 1, 4, 0, [⟨31, 0, .S, .rw, 0, .any⟩]⟩,
   ⟨0x108, 1, 4, 0, [⟨15, 0, .S, .rw, 0x4000, .any⟩]⟩,
   ⟨0x10c, 1, 4, 0, [⟨31, 24, .L, .ro, 1, .any⟩, ⟨11, 8, .L, .ro, 0, .any⟩, ⟨3, 0, .L, .ro, 0, .any⟩]⟩,
   ⟨0x110, 1, 4, 0, [⟨31, 0, .L, .ro, 0, .any⟩]⟩,
   ⟨0x114, 1, 4, 0, [⟨15, 0, .L, .ro, 0, .any⟩]⟩,
   ⟨0x118, 1, 4, 0, [⟨31, 24, .Q, .rw, 0x80, .any⟩, ⟨23, 16, .Q, .rw, 0x40, .any⟩, ⟨15, 0, .Q, .rw, 0x500, .any⟩]⟩,
   ⟨0x11c, 1, 4, 0, [⟨15, 0, .L, .rw, 0x10, .any⟩]⟩,
   ⟨0x180, 8, 8, 1, [⟨31, 0, .L, .ro, 0, .any⟩]⟩,
   ⟨0x184, 8, 8, 2, [⟨31, 0, .L, .ro, 0, .any⟩]⟩]

/-- FWD (R162). -/
def RegMap.fwd : List RegDef :=
  [⟨0x100, 1, 4, 0, [⟨31, 31, .Q, .rw, 0, .any⟩, ⟨15, 14, .Q, .rw, 0, .any⟩, ⟨11, 0, .Q, .rw, 0, .any⟩]⟩,
   ⟨0x104, 1, 4, 0, [⟨2, 2, .L, .wo, 0, .any⟩, ⟨1, 1, .L, .wo, 0, .any⟩, ⟨0, 0, .L, .wo, 0, .any⟩]⟩,
   ⟨0x108, 1, 4, 0, [⟨4, 4, .L, .ro, 0, .any⟩, ⟨3, 3, .L, .ro, 1, .any⟩, ⟨2, 2, .L, .ro, 1, .any⟩, ⟨0, 0, .L, .ro, 0, .any⟩]⟩,
   ⟨0x10c, 1, 4, 0, [⟨31, 0, .L, .ro, 0, .any⟩]⟩,
   ⟨0x110, 2, 4, 0, [⟨31, 0, .L, .ro, 0, .any⟩]⟩,
   ⟨0x118, 1, 4, 0, [⟨15, 0, .L, .rw, 0x3e8, .any⟩]⟩,
   ⟨0x11c, 1, 4, 0, [⟨31, 24, .S, .rw, 0x7f, .any⟩, ⟨23, 16, .S, .rw, 0x28, .any⟩, ⟨15, 0, .S, .rw, 0x3e8, .range 10 65535⟩]⟩,
   ⟨0x120, 1, 4, 0, [⟨15, 0, .S, .rw, 0xc8, .range 50 65535⟩]⟩,
   ⟨0x124, 1, 4, 0, [⟨15, 0, .L, .rw, 0x64, .any⟩]⟩,
   ⟨0x128, 1, 4, 0, [⟨0, 0, .L, .rw, 1, .any⟩]⟩,
   ⟨0x12c, 1, 4, 0, [⟨31, 0, .L, .ro, 0, .any⟩]⟩,
   ⟨0x130, 1, 4, 0, [⟨31, 28, .L, .ro, 0, .any⟩, ⟨27, 27, .L, .ro, 0, .any⟩, ⟨19, 0, .L, .ro, 0, .any⟩]⟩,
   ⟨0x140, 8, 8, 1, [⟨31, 0, .L, .rw, 0, .any⟩]⟩,
   ⟨0x144, 8, 8, 2, [⟨31, 0, .L, .rw, 0, .any⟩]⟩,
   ⟨0x180, 14, 8, 1, [⟨31, 0, .L, .ro, 0, .any⟩]⟩,
   ⟨0x184, 14, 8, 2, [⟨31, 0, .L, .ro, 0, .any⟩]⟩]

/-- VOQ (R188). -/
def RegMap.voq : List RegDef :=
  [⟨0x100, 1, 4, 0, [⟨4, 0, .Q, .rw, 8, .range 4 16⟩]⟩,
   ⟨0x104, 1, 4, 0, [⟨31, 0, .L, .ro, 0xdbf000, .any⟩]⟩,
   ⟨0x108, 1, 4, 0, [⟨31, 0, .L, .ro, 0xdbf000, .any⟩]⟩,
   ⟨0x10c, 1, 4, 0, [⟨15, 0, .L, .rw, 0x1000, .any⟩]⟩,
   ⟨0x110, 1, 4, 0, [⟨17, 17, .L, .ro, 0, .any⟩, ⟨16, 16, .L, .ro, 0, .any⟩, ⟨9, 0, .L, .ro, 0, .any⟩]⟩,
   ⟨0x114, 1, 4, 0, [⟨23, 0, .L, .rw, 0x40000, .any⟩]⟩,
   ⟨0x120, 8, 4, 0, [⟨27, 24, .S, .rw, 5, .range 0 8⟩, ⟨23, 0, .S, .rw, 0x80, .any⟩]⟩,
   ⟨0x180, 9, 8, 1, [⟨31, 0, .L, .ro, 0, .any⟩]⟩,
   ⟨0x184, 9, 8, 2, [⟨31, 0, .L, .ro, 0, .any⟩]⟩]

/-- XBS (R190). -/
def RegMap.xbs : List RegDef :=
  [⟨0x100, 1, 4, 0, [⟨31, 24, .S, .rw, 4, .range 1 255⟩, ⟨23, 16, .S, .rw, 4, .range 1 255⟩, ⟨15, 8, .S, .rw, 4, .range 1 255⟩, ⟨7, 0, .S, .rw, 1, .range 1 255⟩]⟩,
   ⟨0x104, 1, 4, 0, [⟨23, 16, .S, .rw, 0x10, .range 1 255⟩, ⟨15, 8, .S, .rw, 8, .range 1 255⟩, ⟨7, 0, .S, .rw, 8, .range 1 255⟩]⟩,
   ⟨0x108, 1, 4, 0, [⟨15, 8, .S, .rw, 0xa, .range 1 255⟩, ⟨3, 0, .S, .rw, 0xe, .range 8 15⟩]⟩,
   ⟨0x110, 8, 4, 0, [⟨23, 16, .L, .ro, 0, .any⟩, ⟨15, 8, .L, .ro, 0, .any⟩, ⟨7, 0, .L, .ro, 0, .any⟩]⟩,
   ⟨0x130, 1, 4, 0, [⟨7, 0, .L, .ro, 0, .any⟩]⟩,
   ⟨0x180, 6, 8, 1, [⟨31, 0, .L, .ro, 0, .any⟩]⟩,
   ⟨0x184, 6, 8, 2, [⟨31, 0, .L, .ro, 0, .any⟩]⟩]

/-- ETM (R213). -/
def RegMap.etm : List RegDef :=
  [⟨0x100, 1, 4, 0, [⟨15, 8, .S, .rw, 8, .any⟩, ⟨7, 0, .S, .rw, 8, .notRange 0x80 0xBF⟩]⟩,
   ⟨0x104, 1, 4, 0, [⟨1, 1, .L, .wo, 0, .any⟩, ⟨0, 0, .S, .rw, 0, .any⟩]⟩,
   ⟨0x108, 1, 4, 0, [⟨16, 16, .L, .ro, 0, .any⟩, ⟨8, 8, .L, .ro, 0, .any⟩, ⟨7, 0, .L, .ro, 0, .any⟩]⟩,
   ⟨0x10c, 1, 4, 0, [⟨7, 0, .L, .ro, 0xff, .any⟩]⟩,
   ⟨0x110, 2, 4, 0, [⟨29, 0, .S, .rw, 0xf4240, .range 20 1000000000⟩]⟩,
   ⟨0x118, 1, 4, 0, [⟨24, 16, .S, .rw, 1, .range 1 256⟩, ⟨8, 0, .S, .rw, 1, .range 1 256⟩]⟩,
   ⟨0x120, 1, 8, 1, [⟨31, 0, .L, .ro, 0, .any⟩]⟩,
   ⟨0x124, 1, 8, 2, [⟨31, 0, .L, .ro, 0, .any⟩]⟩,
   ⟨0x128, 1, 4, 0, [⟨6, 0, .L, .rw, 0, .any⟩]⟩,
   ⟨0x140, 8, 4, 0, [⟨20, 0, .S, .rw, 0, .range 0 1600000⟩]⟩,
   ⟨0x160, 8, 4, 0, [⟨23, 0, .S, .rw, 0x10000, .any⟩]⟩,
   ⟨0x180, 8, 4, 0, [⟨31, 31, .S, .rw, 0, .any⟩, ⟨10, 0, .S, .rw, 0, .any⟩]⟩,
   ⟨0x1a0, 8, 4, 0, [⟨31, 31, .S, .rw, 0, .any⟩, ⟨12, 0, .S, .rw, 0, .any⟩]⟩,
   ⟨0x1c0, 8, 4, 0, [⟨31, 0, .L, .ro, 0x10000, .any⟩]⟩,
   ⟨0x200, 14, 8, 1, [⟨31, 0, .L, .ro, 0, .any⟩]⟩,
   ⟨0x204, 14, 8, 2, [⟨31, 0, .L, .ro, 0, .any⟩]⟩,
   ⟨0x300, 1, 8, 1, [⟨31, 0, .L, .ro, 0, .any⟩]⟩,
   ⟨0x304, 1, 8, 2, [⟨31, 0, .L, .ro, 0, .any⟩]⟩,
   ⟨0x308, 1, 4, 0, [⟨7, 0, .L, .ro, 0, .any⟩]⟩]

/-- BYP (R234). -/
def RegMap.byp : List RegDef :=
  [⟨0x100, 1, 4, 0, [⟨23, 16, .S, .rw, 0x1e, .range 10 60⟩, ⟨15, 8, .S, .rw, 0xa, .range 5 255⟩]⟩,
   ⟨0x104, 1, 4, 0, [⟨31, 30, .L, .wo, 0, .any⟩, ⟨29, 29, .L, .wo, 0, .any⟩, ⟨6, 0, .L, .wo, 0, .any⟩]⟩,
   ⟨0x108, 1, 4, 0, [⟨31, 28, .L, .ro, 0, .any⟩, ⟨27, 24, .L, .ro, 0, .any⟩, ⟨6, 0, .L, .ro, 0, .any⟩]⟩,
   ⟨0x10c, 1, 4, 0, [⟨7, 0, .L, .ro, 0, .any⟩]⟩,
   ⟨0x110, 1, 4, 0, [⟨1, 1, .L, .ro, 0, .any⟩, ⟨0, 0, .L, .ro, 0, .any⟩]⟩,
   ⟨0x114, 1, 4, 0, [⟨31, 24, .S, .rw, 0x3e, .any⟩, ⟨23, 16, .S, .rw, 0xa, .range 1 255⟩, ⟨15, 0, .S, .rw, 0x20, .range 1 65535⟩]⟩,
   ⟨0x118, 1, 4, 0, [⟨31, 16, .L, .ro, 0, .any⟩, ⟨6, 0, .L, .ro, 0, .any⟩]⟩,
   ⟨0x180, 8, 8, 1, [⟨31, 0, .L, .ro, 0, .any⟩]⟩,
   ⟨0x184, 8, 8, 2, [⟨31, 0, .L, .ro, 0, .any⟩]⟩]

/-- COL (R271). -/
def RegMap.col : List RegDef :=
  [⟨0x100, 1, 4, 0, [⟨31, 24, .S, .rw, 5, .range 1 255⟩, ⟨23, 16, .S, .rw, 0x64, .any⟩, ⟨15, 12, .S, .rw, 3, .range 1 15⟩]⟩,
   ⟨0x104, 1, 4, 0, [⟨8, 0, .Q, .rw, 0x80, .range 16 256⟩]⟩,
   ⟨0x108, 1, 4, 0, [⟨23, 0, .L, .rw, 0x20000, .any⟩]⟩,
   ⟨0x10c, 1, 4, 0, [⟨12, 0, .L, .ro, 0, .any⟩]⟩,
   ⟨0x110, 1, 4, 0, [⟨17, 0, .L, .ro, 0, .any⟩]⟩,
   ⟨0x114, 1, 4, 0, [⟨31, 0, .L, .ro, 0x20000, .any⟩]⟩,
   ⟨0x118, 1, 4, 0, [⟨21, 0, .S, .rw, 0, .any⟩]⟩,
   ⟨0x11c, 1, 4, 0, [⟨20, 0, .S, .rw, 1, .any⟩]⟩,
   ⟨0x120, 1, 4, 0, [⟨31, 31, .L, .wo, 0, .any⟩, ⟨30, 30, .L, .wo, 0, .any⟩, ⟨15, 0, .L, .wo, 0, .any⟩]⟩,
   ⟨0x124, 1, 4, 0, [⟨31, 28, .L, .ro, 0, .any⟩, ⟨27, 24, .L, .ro, 0, .any⟩, ⟨23, 16, .L, .ro, 0, .any⟩, ⟨15, 0, .L, .ro, 0, .any⟩]⟩,
   ⟨0x128, 1, 4, 0, [⟨15, 0, .L, .rw, 0, .any⟩]⟩,
   ⟨0x12c, 1, 4, 0, [⟨31, 31, .L, .ro, 0, .any⟩, ⟨23, 16, .L, .ro, 0, .any⟩, ⟨15, 0, .L, .ro, 0, .any⟩]⟩,
   ⟨0x130, 1, 4, 0, [⟨15, 0, .L, .rw, 0, .any⟩]⟩,
   ⟨0x134, 1, 4, 0, [⟨31, 31, .L, .ro, 0, .any⟩, ⟨20, 0, .L, .ro, 0, .any⟩]⟩,
   ⟨0x138, 1, 8, 1, [⟨31, 0, .L, .ro, 0, .any⟩]⟩,
   ⟨0x13c, 1, 8, 2, [⟨31, 0, .L, .ro, 0, .any⟩]⟩,
   ⟨0x140, 1, 4, 0, [⟨15, 0, .L, .wo, 0, .any⟩]⟩,
   ⟨0x180, 12, 8, 1, [⟨31, 0, .L, .ro, 0, .any⟩]⟩,
   ⟨0x184, 12, 8, 2, [⟨31, 0, .L, .ro, 0, .any⟩]⟩]

/-- LDL region pages (R336, R299). -/
def RegMap.ldlRegion : List RegDef :=
  [⟨0x100, 1, 4, 0, [⟨18, 16, .L, .ro, 0, .any⟩, ⟨11, 8, .L, .ro, 8, .any⟩, ⟨7, 4, .L, .ro, 0, .any⟩, ⟨3, 0, .L, .ro, 0, .any⟩]⟩,
   ⟨0x104, 1, 4, 0, [⟨9, 0, .L, .ro, 0, .any⟩]⟩,
   ⟨0x108, 1, 8, 1, [⟨31, 0, .L, .ro, 0, .any⟩]⟩,
   ⟨0x10c, 1, 8, 2, [⟨31, 0, .L, .ro, 0, .any⟩]⟩,
   ⟨0x300, 1, 4, 0, [⟨11, 11, .L, .w1c, 0, .any⟩, ⟨10, 10, .L, .w1c, 0, .any⟩, ⟨9, 9, .L, .w1c, 0, .any⟩, ⟨8, 8, .L, .w1c, 0, .any⟩, ⟨7, 7, .L, .w1c, 0, .any⟩, ⟨6, 6, .L, .w1c, 0, .any⟩, ⟨5, 5, .L, .w1c, 0, .any⟩, ⟨4, 4, .L, .w1c, 0, .any⟩, ⟨3, 3, .L, .w1c, 0, .any⟩, ⟨2, 2, .L, .w1c, 0, .any⟩, ⟨1, 1, .L, .w1c, 0, .any⟩, ⟨0, 0, .L, .w1c, 0, .any⟩]⟩,
   ⟨0x308, 1, 4, 0, [⟨31, 28, .L, .ro, 0, .any⟩, ⟨27, 26, .L, .ro, 0, .any⟩, ⟨23, 16, .L, .ro, 0, .any⟩, ⟨15, 0, .L, .ro, 0, .any⟩]⟩,
   ⟨0x30c, 1, 4, 0, [⟨31, 0, .L, .ro, 0, .any⟩]⟩,
   ⟨0x310, 1, 4, 0, [⟨11, 0, .L, .rw, 0xbcf, .any⟩]⟩,
   ⟨0x340, 11, 8, 1, [⟨31, 0, .L, .ro, 0, .any⟩]⟩,
   ⟨0x344, 11, 8, 2, [⟨31, 0, .L, .ro, 0, .any⟩]⟩]

/-- LDL[0] in addition (R337). -/
def RegMap.ldl0 : List RegDef :=
  [⟨0x110, 1, 4, 0, [⟨31, 30, .L, .wo, 0, .range 0 2⟩, ⟨7, 0, .L, .wo, 0, .any⟩]⟩,
   ⟨0x114, 1, 4, 0, [⟨31, 28, .L, .ro, 0, .any⟩, ⟨27, 24, .L, .ro, 0, .any⟩, ⟨21, 16, .L, .ro, 0, .any⟩, ⟨7, 0, .L, .ro, 0, .any⟩]⟩,
   ⟨0x118, 1, 4, 0, [⟨7, 0, .L, .rw, 0, .any⟩]⟩,
   ⟨0x11c, 1, 4, 0, [⟨31, 0, .L, .ro, 0, .any⟩]⟩,
   ⟨0x120, 1, 4, 0, [⟨31, 0, .L, .ro, 0, .any⟩]⟩,
   ⟨0x140, 8, 4, 0, [⟨31, 30, .S, .rw, 0, .any⟩, ⟨23, 16, .S, .rw, 0, .any⟩, ⟨15, 0, .S, .rw, 0x3c00, .any⟩]⟩]

/-- LDL core-block pages (R338). -/
def RegMap.ldlBlock : List RegDef :=
  [⟨0x100, 1, 4, 0, [⟨31, 31, .L, .ro, 0, .any⟩, ⟨30, 30, .L, .ro, 0, .any⟩, ⟨29, 29, .L, .ro, 1, .any⟩, ⟨25, 21, .L, .ro, 0x19, .any⟩, ⟨20, 16, .L, .ro, 0, .any⟩, ⟨7, 0, .L, .ro, 0, .any⟩]⟩,
   ⟨0x104, 1, 4, 0, [⟨31, 31, .L, .ro, 0, .any⟩, ⟨9, 0, .L, .ro, 0, .any⟩]⟩,
   ⟨0x108, 1, 4, 0, [⟨31, 0, .L, .ro, 0, .any⟩]⟩,
   ⟨0x10c, 1, 4, 0, [⟨31, 16, .L, .ro, 0, .any⟩, ⟨15, 0, .L, .ro, 0, .any⟩]⟩,
   ⟨0x110, 1, 4, 0, [⟨7, 0, .L, .rw, 0xa, .any⟩]⟩,
   ⟨0x180, 20, 8, 1, [⟨31, 0, .L, .ro, 0, .any⟩]⟩,
   ⟨0x184, 20, 8, 2, [⟨31, 0, .L, .ro, 0, .any⟩]⟩]

/-- STK (R361). -/
def RegMap.stk : List RegDef :=
  [⟨0x100, 1, 4, 0, [⟨15, 0, .L, .rw, 0x3e8, .any⟩]⟩,
   ⟨0x104, 1, 4, 0, [⟨8, 0, .L, .rw, 0x82, .range 0 416⟩]⟩,
   ⟨0x108, 1, 4, 0, [⟨0, 0, .L, .rw, 1, .any⟩]⟩,
   ⟨0x10c, 1, 4, 0, [⟨24, 16, .L, .ro, 0x82, .any⟩, ⟨8, 0, .L, .ro, 0x1e0, .any⟩]⟩,
   ⟨0x110, 1, 4, 0, [⟨14, 0, .L, .ro, 0, .any⟩]⟩,
   ⟨0x114, 1, 4, 0, [⟨7, 0, .L, .rw, 0x18, .any⟩]⟩,
   ⟨0x118, 1, 8, 1, [⟨31, 0, .L, .ro, 0, .any⟩]⟩,
   ⟨0x11c, 1, 8, 2, [⟨31, 0, .L, .ro, 0, .any⟩]⟩,
   ⟨0x180, 12, 8, 1, [⟨31, 0, .L, .ro, 0, .any⟩]⟩,
   ⟨0x184, 12, 8, 2, [⟨31, 0, .L, .ro, 0, .any⟩]⟩]

/-- TIM (R383). -/
def RegMap.tim : List RegDef :=
  [⟨0x100, 1, 4, 0, [⟨15, 8, .S, .rw, 0xa, .range 1 255⟩, ⟨4, 4, .L, .rw, 0, .any⟩, ⟨2, 2, .S, .rw, 0, .any⟩, ⟨1, 1, .L, .rw, 0, .any⟩, ⟨0, 0, .S, .rw, 1, .any⟩]⟩,
   ⟨0x104, 1, 4, 0, [⟨15, 0, .L, .rw, 0x28, .range 1 65535⟩]⟩,
   ⟨0x108, 1, 4, 0, [⟨31, 0, .S, .rw, 0, .notRange 0x10000001 0xEFFFFFFF⟩]⟩,
   ⟨0x10c, 1, 4, 0, [⟨31, 24, .L, .ro, 0xff, .any⟩, ⟨2, 2, .L, .ro, 0, .any⟩, ⟨1, 1, .L, .ro, 0, .any⟩, ⟨0, 0, .L, .ro, 0, .any⟩]⟩,
   ⟨0x110, 1, 8, 1, [⟨31, 0, .L, .ro, 0, .any⟩]⟩,
   ⟨0x114, 1, 8, 2, [⟨31, 0, .L, .ro, 0, .any⟩]⟩,
   ⟨0x118, 1, 4, 0, [⟨15, 0, .L, .ro, 0, .any⟩]⟩,
   ⟨0x120, 1, 8, 1, [⟨31, 0, .L, .ro, 0, .any⟩]⟩,
   ⟨0x124, 1, 8, 2, [⟨31, 0, .L, .ro, 0, .any⟩]⟩,
   ⟨0x128, 1, 4, 0, [⟨31, 0, .L, .wo, 0, .any⟩]⟩,
   ⟨0x12c, 1, 4, 0, [⟨31, 31, .L, .wo, 0, .any⟩, ⟨30, 30, .L, .wo, 0, .any⟩, ⟨15, 0, .L, .wo, 0, .any⟩]⟩,
   ⟨0x130, 1, 8, 1, [⟨31, 0, .L, .wo, 0, .any⟩]⟩,
   ⟨0x134, 1, 8, 2, [⟨31, 0, .L, .wo, 0, .any⟩]⟩,
   ⟨0x138, 1, 4, 0, [⟨31, 31, .L, .wo, 0, .any⟩, ⟨15, 0, .L, .wo, 0, .any⟩]⟩,
   ⟨0x13c, 1, 4, 0, [⟨31, 0, .L, .ro, 0, .any⟩]⟩,
   ⟨0x140, 1, 4, 0, [⟨0, 0, .L, .wo, 0, .any⟩]⟩,
   ⟨0x148, 1, 8, 1, [⟨31, 0, .L, .ro, 0, .any⟩]⟩,
   ⟨0x14c, 1, 8, 2, [⟨31, 0, .L, .ro, 0, .any⟩]⟩,
   ⟨0x150, 1, 8, 1, [⟨31, 0, .L, .ro, 0, .any⟩]⟩,
   ⟨0x154, 1, 8, 2, [⟨31, 0, .L, .ro, 0, .any⟩]⟩,
   ⟨0x158, 1, 4, 0, [⟨15, 0, .L, .ro, 0, .any⟩]⟩,
   ⟨0x15c, 1, 4, 0, [⟨31, 0, .L, .ro, 0, .any⟩]⟩,
   ⟨0x160, 1, 8, 1, [⟨31, 0, .L, .ro, 0, .any⟩]⟩,
   ⟨0x164, 1, 8, 2, [⟨31, 0, .L, .ro, 0, .any⟩]⟩,
   ⟨0x168, 1, 8, 1, [⟨31, 0, .L, .ro, 0, .any⟩]⟩,
   ⟨0x16c, 1, 8, 2, [⟨31, 0, .L, .ro, 0, .any⟩]⟩,
   ⟨0x170, 1, 4, 0, [⟨15, 0, .L, .rw, 0x64, .range 1 65535⟩]⟩,
   ⟨0x180, 10, 8, 1, [⟨31, 0, .L, .ro, 0, .any⟩]⟩,
   ⟨0x184, 10, 8, 2, [⟨31, 0, .L, .ro, 0, .any⟩]⟩]

/-- PMC (R410). -/
def RegMap.pmc : List RegDef :=
  [⟨0x100, 1, 4, 0, [⟨1, 1, .S, .rw, 1, .any⟩, ⟨0, 0, .S, .rw, 0, .any⟩]⟩,
   ⟨0x104, 1, 4, 0, [⟨11, 0, .S, .rw, 0x76c, .range 400 1900⟩]⟩,
   ⟨0x108, 1, 4, 0, [⟨27, 24, .S, .rw, 2, .range 1 10⟩, ⟨11, 0, .S, .rw, 0x8fc, .range 0 2300⟩]⟩,
   ⟨0x10c, 1, 4, 0, [⟨15, 8, .S, .rw, 0x64, .range 1 255⟩, ⟨7, 0, .S, .rw, 0x14, .any⟩]⟩,
   ⟨0x110, 1, 4, 0, [⟨31, 31, .L, .ro, 0, .any⟩, ⟨30, 30, .L, .ro, 0, .any⟩, ⟨29, 29, .L, .ro, 0, .any⟩, ⟨28, 28, .L, .ro, 0, .any⟩, ⟨18, 16, .L, .ro, 0, .any⟩, ⟨11, 0, .L, .ro, 0x76c, .any⟩]⟩,
   ⟨0x114, 1, 4, 0, [⟨11, 0, .L, .ro, 0, .any⟩]⟩,
   ⟨0x118, 1, 4, 0, [⟨27, 16, .L, .ro, 0, .any⟩, ⟨11, 0, .L, .ro, 0, .any⟩]⟩,
   ⟨0x11c, 1, 4, 0, [⟨7, 0, .S, .rw, 0x28, .range 10 100⟩]⟩,
   ⟨0x120, 1, 4, 0, [⟨7, 0, .L, .ro, 0, .any⟩]⟩,
   ⟨0x124, 1, 4, 0, [⟨23, 16, .S, .rw, 0x69, .range 85 110⟩, ⟨15, 8, .S, .rw, 0x64, .range 60 110⟩]⟩,
   ⟨0x128, 1, 4, 0, [⟨12, 8, .L, .ro, 0, .any⟩, ⟨7, 0, .L, .ro, 0, .any⟩]⟩,
   ⟨0x130, 8, 4, 0, [⟨6, 4, .S, .rw, 0, .any⟩, ⟨2, 0, .S, .rw, 7, .any⟩]⟩,
   ⟨0x150, 10, 4, 0, [⟨4, 4, .L, .ro, 0, .any⟩, ⟨3, 0, .L, .ro, 0, .any⟩]⟩,
   ⟨0x180, 10, 8, 1, [⟨31, 0, .L, .ro, 0, .any⟩]⟩,
   ⟨0x184, 10, 8, 2, [⟨31, 0, .L, .ro, 0, .any⟩]⟩]

/-- DBG (R431). -/
def RegMap.dbg : List RegDef :=
  [⟨0x100, 1, 4, 0, [⟨31, 27, .L, .rw, 0, .range 0 23⟩, ⟨26, 24, .L, .rw, 0, .range 0 2⟩, ⟨23, 0, .L, .rw, 0, .any⟩]⟩,
   ⟨0x104, 1, 4, 0, [⟨31, 0, .L, .rw, 0, .any⟩]⟩,
   ⟨0x108, 1, 4, 0, [⟨31, 30, .L, .wo, 0, .range 0 2⟩]⟩,
   ⟨0x10c, 1, 4, 0, [⟨31, 28, .L, .ro, 0, .any⟩, ⟨27, 24, .L, .ro, 0, .any⟩]⟩,
   ⟨0x110, 1, 4, 0, [⟨1, 0, .L, .rw, 0, .any⟩]⟩,
   ⟨0x114, 1, 4, 0, [⟨1, 0, .L, .ro, 0, .any⟩]⟩,
   ⟨0x180, 2, 8, 1, [⟨31, 0, .L, .ro, 0, .any⟩]⟩,
   ⟨0x184, 2, 8, 2, [⟨31, 0, .L, .ro, 0, .any⟩]⟩]

/-- MGT (R439). -/
def RegMap.mgt : List RegDef :=
  [⟨0x100, 1, 4, 0, [⟨31, 28, .L, .ro, 1, .any⟩, ⟨27, 24, .L, .ro, 0, .any⟩, ⟨16, 16, .L, .ro, 0, .any⟩, ⟨15, 0, .L, .ro, 0, .any⟩]⟩,
   ⟨0x104, 1, 4, 0, [⟨20, 20, .L, .ro, 0, .any⟩, ⟨19, 16, .L, .ro, 0, .any⟩, ⟨15, 0, .L, .ro, 0, .any⟩]⟩,
   ⟨0x108, 1, 4, 0, [⟨31, 28, .L, .wo, 0, .range 0 8⟩]⟩,
   ⟨0x10c, 1, 4, 0, [⟨31, 28, .L, .ro, 0, .any⟩, ⟨27, 24, .L, .ro, 0, .any⟩, ⟨3, 0, .L, .ro, 0, .any⟩]⟩,
   ⟨0x110, 1, 4, 0, [⟨31, 31, .L, .ro, 0, .any⟩, ⟨2, 0, .L, .ro, 0, .any⟩]⟩,
   ⟨0x114, 1, 4, 0, [⟨15, 8, .S, .rw, 0x3c, .any⟩, ⟨0, 0, .S, .rw, 1, .any⟩]⟩,
   ⟨0x118, 1, 4, 0, [⟨7, 0, .L, .ro, 0, .any⟩]⟩,
   ⟨0x11c, 1, 4, 0, [⟨3, 3, .L, .rw, 0, .any⟩, ⟨2, 0, .L, .rw, 0, .any⟩]⟩,
   ⟨0x120, 1, 4, 0, [⟨0, 0, .L, .rw, 0, .any⟩]⟩,
   ⟨0x124, 1, 4, 0, [⟨10, 0, .L, .rw, 0, .any⟩]⟩,
   ⟨0x128, 1, 4, 0, [⟨10, 0, .L, .ro, 0, .any⟩]⟩,
   ⟨0x12c, 1, 4, 0, [⟨10, 0, .L, .ro, 0, .any⟩]⟩,
   ⟨0x130, 1, 4, 0, [⟨10, 0, .L, .rw, 0, .any⟩]⟩,
   ⟨0x134, 1, 4, 0, [⟨31, 24, .L, .ro, 0, .any⟩, ⟨15, 0, .L, .ro, 0, .any⟩]⟩,
   ⟨0x138, 1, 4, 0, [⟨31, 0, .L, .rw, 0, .any⟩]⟩,
   ⟨0x13c, 1, 4, 0, [⟨31, 0, .L, .rw, 0, .any⟩]⟩,
   ⟨0x180, 12, 8, 1, [⟨31, 0, .L, .ro, 0, .any⟩]⟩,
   ⟨0x184, 12, 8, 2, [⟨31, 0, .L, .ro, 0, .any⟩]⟩]

/-- TEL (R475). -/
def RegMap.tel : List RegDef :=
  [⟨0x100, 1, 4, 0, [⟨31, 31, .S, .rw, 0, .any⟩, ⟨23, 16, .S, .rw, 0xff, .any⟩, ⟨4, 0, .S, .rw, 0x10, .range 8 24⟩]⟩,
   ⟨0x104, 1, 4, 0, [⟨31, 31, .Q, .rw, 0, .any⟩, ⟨26, 16, .Q, .rw, 0x400, .range 1 1024⟩, ⟨9, 0, .Q, .rw, 0, .any⟩]⟩,
   ⟨0x108, 1, 4, 0, [⟨31, 0, .L, .ro, 0, .any⟩]⟩,
   ⟨0x10c, 1, 4, 0, [⟨31, 0, .L, .rw, 0, .any⟩]⟩,
   ⟨0x110, 1, 4, 0, [⟨24, 0, .L, .rw, 0x100000, .any⟩]⟩,
   ⟨0x114, 1, 4, 0, [⟨7, 0, .L, .rw, 0, .any⟩]⟩,
   ⟨0x120, 8, 4, 0, [⟨31, 0, .L, .w1c, 0, .any⟩]⟩,
   ⟨0x140, 1, 4, 0, [⟨0, 0, .L, .wo, 0, .any⟩]⟩,
   ⟨0x144, 1, 4, 0, [⟨31, 16, .L, .ro, 0, .any⟩, ⟨0, 0, .L, .ro, 0, .any⟩]⟩,
   ⟨0x148, 1, 8, 1, [⟨31, 0, .L, .ro, 0, .any⟩]⟩,
   ⟨0x14c, 1, 8, 2, [⟨31, 0, .L, .ro, 0, .any⟩]⟩,
   ⟨0x180, 7, 8, 1, [⟨31, 0, .L, .ro, 0, .any⟩]⟩,
   ⟨0x184, 7, 8, 2, [⟨31, 0, .L, .ro, 0, .any⟩]⟩]

/-- LNK[0] in addition (R124). -/
def RegMap.lnk0 : List RegDef :=
  [⟨0x120, 1, 4, 0, [⟨31, 0, .L, .rw, 64, .any⟩]⟩]

end Sys2Proof.Machine
end

