-- ==== Sys2Proof/Machine/RegNames.lean ====
section
/-! DEFINITION. The names of the register fields (BLOCK.REGISTER.FIELD, 00_scope.md "Names") as offsets
and bit ranges within a page. `idx` steps through a register array. -/

namespace Sys2Proof.Machine

/-- A field of a page's register: the register's offset in the page and the bit range. -/
structure Fd where
  off : Nat
  hi : Nat
  lo : Nat
  deriving DecidableEq, Repr

/-- Element `k` of a register array with the given stride. -/
def Fd.idx (f : Fd) (k : Nat) (stride : Nat := 4) : Fd := { f with off := f.off + stride * k }

def Reg.PAGE_ID_BLOCK : Fd := ⟨0x0, 31, 28⟩
def Reg.PAGE_ID_INSTANCE : Fd := ⟨0x0, 27, 16⟩
def Reg.PAGE_ID_VER_MAJOR : Fd := ⟨0x0, 15, 8⟩
def Reg.PAGE_ID_VER_MINOR : Fd := ⟨0x0, 7, 0⟩
def Reg.PAGE_CAP_BLOCK_CAP : Fd := ⟨0x4, 31, 16⟩
def Reg.PAGE_CAP_PRESENT : Fd := ⟨0x4, 3, 3⟩
def Reg.PAGE_CAP_TABLES : Fd := ⟨0x4, 2, 2⟩
def Reg.PAGE_CAP_HAS_S : Fd := ⟨0x4, 1, 1⟩
def Reg.PAGE_CAP_HAS_Q : Fd := ⟨0x4, 0, 0⟩
def Reg.PAGE_CTL_BLOCK_RESET : Fd := ⟨0x8, 3, 3⟩
def Reg.PAGE_CTL_ABORT : Fd := ⟨0x8, 2, 2⟩
def Reg.PAGE_CTL_QUIESCE_REQ : Fd := ⟨0x8, 1, 1⟩
def Reg.PAGE_CTL_ENABLE : Fd := ⟨0x8, 0, 0⟩
def Reg.PAGE_STAT_BUSY : Fd := ⟨0xc, 8, 8⟩
def Reg.PAGE_STAT_QUIESCING : Fd := ⟨0xc, 4, 4⟩
def Reg.PAGE_STAT_STATE : Fd := ⟨0xc, 2, 0⟩
def Reg.PAGE_IRQ_BLOCK_IRQ : Fd := ⟨0x10, 31, 16⟩
def Reg.PAGE_IRQ_OWNER_CHANGED : Fd := ⟨0x10, 4, 4⟩
def Reg.PAGE_IRQ_QUIESCED : Fd := ⟨0x10, 3, 3⟩
def Reg.PAGE_IRQ_ABORT_DONE : Fd := ⟨0x10, 2, 2⟩
def Reg.PAGE_IRQ_COMMIT_DONE : Fd := ⟨0x10, 1, 1⟩
def Reg.PAGE_IRQ_ERROR : Fd := ⟨0x10, 0, 0⟩
def Reg.PAGE_IRQ_EN_BLOCK_EN : Fd := ⟨0x14, 31, 16⟩
def Reg.PAGE_IRQ_EN_COMMON_EN : Fd := ⟨0x14, 4, 0⟩
def Reg.PAGE_ERR_BLOCK_ERR : Fd := ⟨0x18, 31, 16⟩
def Reg.PAGE_ERR_FORCED_ABORT : Fd := ⟨0x18, 9, 9⟩
def Reg.PAGE_ERR_UNCORRECTABLE : Fd := ⟨0x18, 8, 8⟩
def Reg.PAGE_ERR_CORRECTED : Fd := ⟨0x18, 7, 7⟩
def Reg.PAGE_ERR_BAD_ACCESS : Fd := ⟨0x18, 6, 6⟩
def Reg.PAGE_ERR_TBL_ERR : Fd := ⟨0x18, 5, 5⟩
def Reg.PAGE_ERR_TBL_BUSY : Fd := ⟨0x18, 4, 4⟩
def Reg.PAGE_ERR_COMMIT_REJECT : Fd := ⟨0x18, 3, 3⟩
def Reg.PAGE_ERR_Q_REJECT : Fd := ⟨0x18, 2, 2⟩
def Reg.PAGE_ERR_BAD_ENCODING : Fd := ⟨0x18, 1, 1⟩
def Reg.PAGE_ERR_NON_OWNER : Fd := ⟨0x18, 0, 0⟩
def Reg.PAGE_ERR_INFO_CLASS : Fd := ⟨0x1c, 31, 27⟩
def Reg.PAGE_ERR_INFO_SOURCE : Fd := ⟨0x1c, 26, 26⟩
def Reg.PAGE_ERR_INFO_MULTI : Fd := ⟨0x1c, 25, 25⟩
def Reg.PAGE_ERR_INFO_DETAIL : Fd := ⟨0x1c, 23, 12⟩
def Reg.PAGE_ERR_INFO_OFFSET : Fd := ⟨0x1c, 11, 0⟩
def Reg.PAGE_OWNER_LOCK : Fd := ⟨0x20, 8, 8⟩
def Reg.PAGE_OWNER_OWNER : Fd := ⟨0x20, 0, 0⟩
def Reg.PAGE_COMMIT_TAG : Fd := ⟨0x24, 31, 24⟩
def Reg.PAGE_COMMIT_GO : Fd := ⟨0x24, 0, 0⟩
def Reg.PAGE_COMMIT_STAT_TAG : Fd := ⟨0x28, 31, 24⟩
def Reg.PAGE_COMMIT_STAT_REJ_OFFSET : Fd := ⟨0x28, 23, 12⟩
def Reg.PAGE_COMMIT_STAT_RESULT : Fd := ⟨0x28, 3, 0⟩
def Reg.PAGE_ABORT_STAT_ELAPSED : Fd := ⟨0x2c, 31, 16⟩
def Reg.PAGE_ABORT_STAT_RESULT : Fd := ⟨0x2c, 3, 0⟩
def Reg.TBL_CMD_BUSY : Fd := ⟨0x40, 31, 31⟩
def Reg.TBL_CMD_TABLE : Fd := ⟨0x40, 23, 16⟩
def Reg.TBL_CMD_OP : Fd := ⟨0x40, 3, 0⟩
def Reg.TBL_IDX_INDEX : Fd := ⟨0x44, 31, 0⟩
def Reg.TBL_STAT_RESULT : Fd := ⟨0x48, 31, 28⟩
def Reg.TBL_STAT_RESULT_INDEX : Fd := ⟨0x48, 23, 0⟩
def Reg.TBL_CMP_EXPECT : Fd := ⟨0x4c, 31, 0⟩
def Reg.TBL_DATA_DATA : Fd := ⟨0x50, 31, 0⟩
def Reg.PKG_ABORT_ALL_GO : Fd := ⟨0x100, 0, 0⟩
def Reg.PKG_ABORT_ALL_STAT_ELAPSED : Fd := ⟨0x104, 31, 16⟩
def Reg.PKG_ABORT_ALL_STAT_FORCED : Fd := ⟨0x104, 15, 8⟩
def Reg.PKG_ABORT_ALL_STAT_RESULT : Fd := ⟨0x104, 3, 0⟩
def Reg.PKG_OWNER_ALL_BLOCK_MASK : Fd := ⟨0x108, 31, 16⟩
def Reg.PKG_OWNER_ALL_LOCK : Fd := ⟨0x108, 8, 8⟩
def Reg.PKG_OWNER_ALL_OWNER : Fd := ⟨0x108, 0, 0⟩
def Reg.PKG_RESET_CTL_TYPE : Fd := ⟨0x110, 7, 4⟩
def Reg.PKG_RESET_CTL_GO : Fd := ⟨0x110, 0, 0⟩
def Reg.PKG_RESET_CFG_DRAIN_US : Fd := ⟨0x114, 7, 0⟩
def Reg.PKG_RESET_STAT_LAST : Fd := ⟨0x118, 31, 28⟩
def Reg.PKG_RESET_STAT_PHASE : Fd := ⟨0x118, 27, 24⟩
def Reg.PKG_RESET_STAT_DRAIN_TIME : Fd := ⟨0x118, 15, 0⟩
def Reg.PKG_DRAIN_DISCARD : Fd := ⟨0x120, 63, 0⟩
def Reg.PKG_FAULT_HEAD_WRAPPED : Fd := ⟨0x128, 8, 8⟩
def Reg.PKG_FAULT_HEAD_NEXT : Fd := ⟨0x128, 7, 0⟩
def Reg.PKG_CHIP_STAT_FAIL_STOP : Fd := ⟨0x12c, 31, 31⟩
def Reg.PKG_CHIP_STAT_REGIONS_FENCED : Fd := ⟨0x12c, 7, 0⟩
def Reg.PKG_CNT : Fd := ⟨0x180, 63, 0⟩
def Reg.OPT_PORT_MODE_MODE : Fd := ⟨0x100, 15, 0⟩
def Reg.OPT_TILE_STAT_DIM : Fd := ⟨0x104, 2, 2⟩
def Reg.OPT_TILE_STAT_LIT : Fd := ⟨0x104, 1, 0⟩
def Reg.LSR_CTL_RESUME : Fd := ⟨0x100, 2, 2⟩
def Reg.LSR_CTL_FORCE : Fd := ⟨0x100, 1, 1⟩
def Reg.LSR_CTL_RELEASE : Fd := ⟨0x100, 0, 0⟩
def Reg.LSR_STAT_STATE : Fd := ⟨0x104, 31, 28⟩
def Reg.LSR_STAT_REJECT : Fd := ⟨0x104, 27, 24⟩
def Reg.LSR_STAT_OUTPUT : Fd := ⟨0x104, 7, 0⟩
def Reg.LSR_WEAR_HOURS : Fd := ⟨0x108, 31, 0⟩
def Reg.LSR_LIFE_HOURS : Fd := ⟨0x10c, 31, 0⟩
def Reg.LSR_SERIAL : Fd := ⟨0x110, 63, 0⟩
def Reg.LNK_LNK_CTL_RETRAIN : Fd := ⟨0x100, 2, 2⟩
def Reg.LNK_LNK_CTL_SPARE_AUTO : Fd := ⟨0x100, 1, 1⟩
def Reg.LNK_LNK_CTL_ADMIN_UP : Fd := ⟨0x100, 0, 0⟩
def Reg.LNK_NBR_COORD_COORD : Fd := ⟨0x104, 31, 0⟩
def Reg.LNK_NBR_PORT_PORT : Fd := ⟨0x108, 15, 0⟩
def Reg.LNK_LINK_STAT_DOWN_REASON : Fd := ⟨0x10c, 31, 24⟩
def Reg.LNK_LINK_STAT_SPARE_FOR : Fd := ⟨0x10c, 11, 8⟩
def Reg.LNK_LINK_STAT_STATE : Fd := ⟨0x10c, 3, 0⟩
def Reg.LNK_PEER_COORD_COORD : Fd := ⟨0x110, 31, 0⟩
def Reg.LNK_PEER_PORT_PORT : Fd := ⟨0x114, 15, 0⟩
def Reg.LNK_CREDIT_CFG_MGMT : Fd := ⟨0x118, 31, 24⟩
def Reg.LNK_CREDIT_CFG_ESC : Fd := ⟨0x118, 23, 16⟩
def Reg.LNK_CREDIT_CFG_NORM : Fd := ⟨0x118, 15, 0⟩
def Reg.LNK_SPARE_THRESH_UCW : Fd := ⟨0x11c, 15, 0⟩
def Reg.LNK_CNT : Fd := ⟨0x180, 63, 0⟩
def Reg.FWD_SELF_SET : Fd := ⟨0x100, 31, 31⟩
def Reg.FWD_SELF_PLANE : Fd := ⟨0x100, 15, 14⟩
def Reg.FWD_SELF_SPINE : Fd := ⟨0x100, 11, 0⟩
def Reg.FWD_EPOCH_CTL_DISARM : Fd := ⟨0x104, 2, 2⟩
def Reg.FWD_EPOCH_CTL_ARM : Fd := ⟨0x104, 1, 1⟩
def Reg.FWD_EPOCH_CTL_SWAP : Fd := ⟨0x104, 0, 0⟩
def Reg.FWD_EPOCH_STAT_ARMED : Fd := ⟨0x108, 4, 4⟩
def Reg.FWD_EPOCH_STAT_B_WRITABLE : Fd := ⟨0x108, 3, 3⟩
def Reg.FWD_EPOCH_STAT_A_WRITABLE : Fd := ⟨0x108, 2, 2⟩
def Reg.FWD_EPOCH_STAT_ACTIVE : Fd := ⟨0x108, 0, 0⟩
def Reg.FWD_SWAP_COUNT_COUNT : Fd := ⟨0x10c, 31, 0⟩
def Reg.FWD_DRAIN_CELLS : Fd := ⟨0x110, 31, 0⟩
def Reg.FWD_DRAIN_WARN_US : Fd := ⟨0x118, 15, 0⟩
def Reg.FWD_FLOW_CFG_TRACK_TC : Fd := ⟨0x11c, 31, 24⟩
def Reg.FWD_FLOW_CFG_FLOWLET_GAP : Fd := ⟨0x11c, 23, 16⟩
def Reg.FWD_FLOW_CFG_AGE : Fd := ⟨0x11c, 15, 0⟩
def Reg.FWD_ESC_TIMEOUT_T : Fd := ⟨0x120, 15, 0⟩
def Reg.FWD_NOTIFY_GAP_T : Fd := ⟨0x124, 15, 0⟩
def Reg.FWD_SCRUB_CTL_ENABLE : Fd := ⟨0x128, 0, 0⟩
def Reg.FWD_SEG_STAT : Fd := ⟨0x12c, 31, 0⟩
def Reg.FWD_PAR_INFO_TABLE : Fd := ⟨0x130, 31, 28⟩
def Reg.FWD_PAR_INFO_DIE : Fd := ⟨0x130, 27, 27⟩
def Reg.FWD_PAR_INFO_INDEX : Fd := ⟨0x130, 19, 0⟩
def Reg.FWD_DIGEST : Fd := ⟨0x140, 63, 0⟩
def Reg.FWD_CNT : Fd := ⟨0x180, 63, 0⟩
def Reg.VOQ_CARVE_SIZE : Fd := ⟨0x100, 4, 0⟩
def Reg.VOQ_FREE_A_UNITS : Fd := ⟨0x104, 31, 0⟩
def Reg.VOQ_FREE_B_UNITS : Fd := ⟨0x108, 31, 0⟩
def Reg.VOQ_FLUSH_NOTIFY_MAX_MAX : Fd := ⟨0x10c, 15, 0⟩
def Reg.VOQ_FLUSH_STAT_ACTIVE_B : Fd := ⟨0x110, 17, 17⟩
def Reg.VOQ_FLUSH_STAT_ACTIVE_A : Fd := ⟨0x110, 16, 16⟩
def Reg.VOQ_FLUSH_STAT_LANE : Fd := ⟨0x110, 9, 0⟩
def Reg.VOQ_LOW_WATER_UNITS : Fd := ⟨0x114, 23, 0⟩
def Reg.VOQ_CLASS_CFG_ALPHA : Fd := ⟨0x120, 27, 24⟩
def Reg.VOQ_CLASS_CFG_RMIN : Fd := ⟨0x120, 23, 0⟩
def Reg.VOQ_CNT : Fd := ⟨0x180, 63, 0⟩
def Reg.XBS_WEIGHT_LO_TC3 : Fd := ⟨0x100, 31, 24⟩
def Reg.XBS_WEIGHT_LO_TC2 : Fd := ⟨0x100, 23, 16⟩
def Reg.XBS_WEIGHT_LO_TC1 : Fd := ⟨0x100, 15, 8⟩
def Reg.XBS_WEIGHT_LO_TC0 : Fd := ⟨0x100, 7, 0⟩
def Reg.XBS_WEIGHT_HI_TC6 : Fd := ⟨0x104, 23, 16⟩
def Reg.XBS_WEIGHT_HI_TC5 : Fd := ⟨0x104, 15, 8⟩
def Reg.XBS_WEIGHT_HI_TC4 : Fd := ⟨0x104, 7, 0⟩
def Reg.XBS_PLACE_CFG_WINDOW : Fd := ⟨0x108, 15, 8⟩
def Reg.XBS_PLACE_CFG_SAT : Fd := ⟨0x108, 3, 0⟩
def Reg.XBS_LOAD_PORT : Fd := ⟨0x110, 23, 16⟩
def Reg.XBS_LOAD_LADLE : Fd := ⟨0x110, 15, 8⟩
def Reg.XBS_LOAD_CTX : Fd := ⟨0x110, 7, 0⟩
def Reg.XBS_SAT_STAT_SATURATED : Fd := ⟨0x130, 7, 0⟩
def Reg.XBS_CNT : Fd := ⟨0x180, 63, 0⟩
def Reg.ETM_ETM_CFG_GUARD_MARGIN : Fd := ⟨0x100, 15, 8⟩
def Reg.ETM_ETM_CFG_OVERHEAD : Fd := ⟨0x100, 7, 0⟩
def Reg.ETM_GATE_CTL_START : Fd := ⟨0x104, 1, 1⟩
def Reg.ETM_GATE_CTL_NEXT_LIST : Fd := ⟨0x104, 0, 0⟩
def Reg.ETM_GATE_STAT_RUNNING : Fd := ⟨0x108, 16, 16⟩
def Reg.ETM_GATE_STAT_ACTIVE_LIST : Fd := ⟨0x108, 8, 8⟩
def Reg.ETM_GATE_STAT_ENTRY : Fd := ⟨0x108, 7, 0⟩
def Reg.ETM_GATE_OPEN_OPEN : Fd := ⟨0x10c, 7, 0⟩
def Reg.ETM_GATE_CYCLE_NS : Fd := ⟨0x110, 29, 0⟩
def Reg.ETM_GATE_LEN_LEN1 : Fd := ⟨0x118, 24, 16⟩
def Reg.ETM_GATE_LEN_LEN0 : Fd := ⟨0x118, 8, 0⟩
def Reg.ETM_GATE_BASE : Fd := ⟨0x120, 63, 0⟩
def Reg.ETM_HOLD_HOLD : Fd := ⟨0x128, 6, 0⟩
def Reg.ETM_SHAPE_RATE_MBPS : Fd := ⟨0x140, 20, 0⟩
def Reg.ETM_SHAPE_BURST_BYTES : Fd := ⟨0x160, 23, 0⟩
def Reg.ETM_SHAPE_AGG_EN : Fd := ⟨0x180, 31, 31⟩
def Reg.ETM_SHAPE_AGG_AGG : Fd := ⟨0x180, 10, 0⟩
def Reg.ETM_POL_MAP_EN : Fd := ⟨0x1a0, 31, 31⟩
def Reg.ETM_POL_MAP_POLICER : Fd := ⟨0x1a0, 12, 0⟩
def Reg.ETM_SHAPE_TOKENS_BYTES : Fd := ⟨0x1c0, 31, 0⟩
def Reg.ETM_CNT : Fd := ⟨0x200, 63, 0⟩
def Reg.ETM_WHEEL_LATE : Fd := ⟨0x300, 63, 0⟩
def Reg.ETM_WHEEL_MAX_SLOTS : Fd := ⟨0x308, 7, 0⟩
def Reg.BYP_BYP_CFG_DRAIN_LEAD : Fd := ⟨0x100, 23, 16⟩
def Reg.BYP_BYP_CFG_LAST_LEAD : Fd := ⟨0x100, 15, 8⟩
def Reg.BYP_CIRC_CMD_OP : Fd := ⟨0x104, 31, 30⟩
def Reg.BYP_CIRC_CMD_TIMED : Fd := ⟨0x104, 29, 29⟩
def Reg.BYP_CIRC_CMD_INDEX : Fd := ⟨0x104, 6, 0⟩
def Reg.BYP_CIRC_CMD_STAT_RESULT : Fd := ⟨0x108, 31, 28⟩
def Reg.BYP_CIRC_CMD_STAT_REASON : Fd := ⟨0x108, 27, 24⟩
def Reg.BYP_CIRC_CMD_STAT_INDEX : Fd := ⟨0x108, 6, 0⟩
def Reg.BYP_MATRIX_STAT_CIRCUITS : Fd := ⟨0x10c, 7, 0⟩
def Reg.BYP_MATRIX_HEALTH_FAULT : Fd := ⟨0x110, 1, 1⟩
def Reg.BYP_MATRIX_HEALTH_READY : Fd := ⟨0x110, 0, 0⟩
def Reg.BYP_CAND_CFG_TC : Fd := ⟨0x114, 31, 24⟩
def Reg.BYP_CAND_CFG_WINDOW : Fd := ⟨0x114, 23, 16⟩
def Reg.BYP_CAND_CFG_MIN : Fd := ⟨0x114, 15, 0⟩
def Reg.BYP_CAND_STAT_WINDOWS : Fd := ⟨0x118, 31, 16⟩
def Reg.BYP_CAND_STAT_ENTRIES : Fd := ⟨0x118, 6, 0⟩
def Reg.BYP_CNT : Fd := ⟨0x180, 63, 0⟩
def Reg.COL_COL_CFG_GEN_QUIET : Fd := ⟨0x100, 31, 24⟩
def Reg.COL_COL_CFG_CHUNK_TIMEOUT : Fd := ⟨0x100, 23, 16⟩
def Reg.COL_COL_CFG_RESEND_MAX : Fd := ⟨0x100, 15, 12⟩
def Reg.COL_CTX_AREA_GIB : Fd := ⟨0x104, 8, 0⟩
def Reg.COL_RET_LOW_UNITS : Fd := ⟨0x108, 23, 0⟩
def Reg.COL_CTX_RESIDENT_COUNT : Fd := ⟨0x10c, 12, 0⟩
def Reg.COL_CTX_PAGED_COUNT : Fd := ⟨0x110, 17, 0⟩
def Reg.COL_AREA_FREE_MIB : Fd := ⟨0x114, 31, 0⟩
def Reg.COL_RESIZE_BASE_BASE : Fd := ⟨0x118, 21, 0⟩
def Reg.COL_RESIZE_COUNT_COUNT : Fd := ⟨0x11c, 20, 0⟩
def Reg.COL_RESIZE_CMD_GO : Fd := ⟨0x120, 31, 31⟩
def Reg.COL_RESIZE_CMD_ABORT : Fd := ⟨0x120, 30, 30⟩
def Reg.COL_RESIZE_CMD_GROUP : Fd := ⟨0x120, 15, 0⟩
def Reg.COL_RESIZE_STAT_RESULT : Fd := ⟨0x124, 31, 28⟩
def Reg.COL_RESIZE_STAT_REASON : Fd := ⟨0x124, 27, 24⟩
def Reg.COL_RESIZE_STAT_GEN : Fd := ⟨0x124, 23, 16⟩
def Reg.COL_RESIZE_STAT_GROUP : Fd := ⟨0x124, 15, 0⟩
def Reg.COL_DRAIN_SEL_GROUP : Fd := ⟨0x128, 15, 0⟩
def Reg.COL_DRAIN_STAT_DRAINING : Fd := ⟨0x12c, 31, 31⟩
def Reg.COL_DRAIN_STAT_GEN : Fd := ⟨0x12c, 23, 16⟩
def Reg.COL_DRAIN_STAT_STALE : Fd := ⟨0x12c, 15, 0⟩
def Reg.COL_STRAG_SEL_GROUP : Fd := ⟨0x130, 15, 0⟩
def Reg.COL_STRAG_MEMBER_VALID : Fd := ⟨0x134, 31, 31⟩
def Reg.COL_STRAG_MEMBER_MEMBER : Fd := ⟨0x134, 20, 0⟩
def Reg.COL_STRAG_LATE : Fd := ⟨0x138, 63, 0⟩
def Reg.COL_STRAG_CLEAR_GROUP : Fd := ⟨0x140, 15, 0⟩
def Reg.COL_CNT : Fd := ⟨0x180, 63, 0⟩
def Reg.LDL_REGION_STAT_LP : Fd := ⟨0x100, 18, 16⟩
def Reg.LDL_REGION_STAT_DUTY : Fd := ⟨0x100, 11, 8⟩
def Reg.LDL_REGION_STAT_FENCED : Fd := ⟨0x100, 7, 4⟩
def Reg.LDL_REGION_STAT_SPARE_USED : Fd := ⟨0x100, 3, 0⟩
def Reg.LDL_RESIDENT_LIMIT_LIMIT : Fd := ⟨0x104, 9, 0⟩
def Reg.LDL_CYCLES : Fd := ⟨0x108, 63, 0⟩
def Reg.LDL_ARITH_FLAGS_EXPAND_SAT : Fd := ⟨0x300, 11, 11⟩
def Reg.LDL_ARITH_FLAGS_INEXACT : Fd := ⟨0x300, 10, 10⟩
def Reg.LDL_ARITH_FLAGS_INT_SAT : Fd := ⟨0x300, 9, 9⟩
def Reg.LDL_ARITH_FLAGS_INF_BLOCK : Fd := ⟨0x300, 8, 8⟩
def Reg.LDL_ARITH_FLAGS_SCALE_LO : Fd := ⟨0x300, 7, 7⟩
def Reg.LDL_ARITH_FLAGS_SCALE_HI : Fd := ⟨0x300, 6, 6⟩
def Reg.LDL_ARITH_FLAGS_TO_ZERO : Fd := ⟨0x300, 5, 5⟩
def Reg.LDL_ARITH_FLAGS_UNDERFLOW : Fd := ⟨0x300, 4, 4⟩
def Reg.LDL_ARITH_FLAGS_OVERFLOW : Fd := ⟨0x300, 3, 3⟩
def Reg.LDL_ARITH_FLAGS_NAN_SCALE : Fd := ⟨0x300, 2, 2⟩
def Reg.LDL_ARITH_FLAGS_NAN_IN : Fd := ⟨0x300, 1, 1⟩
def Reg.LDL_ARITH_FLAGS_INVALID : Fd := ⟨0x300, 0, 0⟩
def Reg.LDL_ARITH_FIRST_FLAG : Fd := ⟨0x308, 31, 28⟩
def Reg.LDL_ARITH_FIRST_SOURCE : Fd := ⟨0x308, 27, 26⟩
def Reg.LDL_ARITH_FIRST_GEN : Fd := ⟨0x308, 23, 16⟩
def Reg.LDL_ARITH_FIRST_ID : Fd := ⟨0x308, 15, 0⟩
def Reg.LDL_ARITH_FIRST_CHUNK_CHUNK : Fd := ⟨0x30c, 31, 0⟩
def Reg.LDL_ARITH_MASK_IRQ : Fd := ⟨0x310, 11, 0⟩
def Reg.LDL_ARITH_CNT : Fd := ⟨0x340, 63, 0⟩
def Reg.LDL_RECIPE_CMD_OP : Fd := ⟨0x110, 31, 30⟩
def Reg.LDL_RECIPE_CMD_SLOT : Fd := ⟨0x110, 7, 0⟩
def Reg.LDL_RECIPE_STAT_RESULT : Fd := ⟨0x114, 31, 28⟩
def Reg.LDL_RECIPE_STAT_CHECK : Fd := ⟨0x114, 27, 24⟩
def Reg.LDL_RECIPE_STAT_STEP : Fd := ⟨0x114, 21, 16⟩
def Reg.LDL_RECIPE_STAT_SLOT : Fd := ⟨0x114, 7, 0⟩
def Reg.LDL_RECIPE_SEL_SLOT : Fd := ⟨0x118, 7, 0⟩
def Reg.LDL_ACTIVE_USE_COUNT : Fd := ⟨0x11c, 31, 0⟩
def Reg.LDL_RETIRING_USE_COUNT : Fd := ⟨0x120, 31, 0⟩
def Reg.LDL_TILE_CFG_MODE : Fd := ⟨0x140, 31, 30⟩
def Reg.LDL_TILE_CFG_ZP : Fd := ⟨0x140, 23, 16⟩
def Reg.LDL_TILE_CFG_SCALE : Fd := ⟨0x140, 15, 0⟩
def Reg.CB_STAT_FENCED : Fd := ⟨0x100, 31, 31⟩
def Reg.CB_STAT_SPARE_USED : Fd := ⟨0x100, 30, 30⟩
def Reg.CB_STAT_SPARE_OK : Fd := ⟨0x100, 29, 29⟩
def Reg.CB_STAT_SPARE_PHYS : Fd := ⟨0x100, 25, 21⟩
def Reg.CB_STAT_SPARE_FOR : Fd := ⟨0x100, 20, 16⟩
def Reg.CB_STAT_CONTEXTS : Fd := ⟨0x100, 7, 0⟩
def Reg.CB_SPARE_EVENT_VALID : Fd := ⟨0x104, 31, 31⟩
def Reg.CB_SPARE_EVENT_CORE : Fd := ⟨0x104, 9, 0⟩
def Reg.CB_SPARE_REPLAYS_COUNT : Fd := ⟨0x108, 31, 0⟩
def Reg.CB_SPARE_TIME_SWITCH : Fd := ⟨0x10c, 31, 16⟩
def Reg.CB_SPARE_TIME_REPLAY : Fd := ⟨0x10c, 15, 0⟩
def Reg.CB_SELFTEST_PERIOD : Fd := ⟨0x110, 7, 0⟩
def Reg.CB_CNT : Fd := ⟨0x180, 63, 0⟩
def Reg.STK_STK_CFG_FENCE_TIMEOUT : Fd := ⟨0x100, 15, 0⟩
def Reg.STK_WIN_BASE_GIB : Fd := ⟨0x104, 8, 0⟩
def Reg.STK_WIN_CTL_SVC_ONLY : Fd := ⟨0x108, 0, 0⟩
def Reg.STK_AREA_SVC_GIB : Fd := ⟨0x10c, 24, 16⟩
def Reg.STK_AREA_TOTAL_GIB : Fd := ⟨0x10c, 8, 0⟩
def Reg.STK_FENCE_STAT_ENTRIES : Fd := ⟨0x110, 14, 0⟩
def Reg.STK_SCRUB_HOURS : Fd := ⟨0x114, 7, 0⟩
def Reg.STK_POISON_ADDR : Fd := ⟨0x118, 63, 0⟩
def Reg.STK_CNT : Fd := ⟨0x180, 63, 0⟩
def Reg.TIM_TIM_CFG_TX_PERIOD : Fd := ⟨0x100, 15, 8⟩
def Reg.TIM_TIM_CFG_PPS_OUT_EN : Fd := ⟨0x100, 4, 4⟩
def Reg.TIM_TIM_CFG_ROOT : Fd := ⟨0x100, 2, 2⟩
def Reg.TIM_TIM_CFG_SERVO_EN : Fd := ⟨0x100, 1, 1⟩
def Reg.TIM_TIM_CFG_TX_EN : Fd := ⟨0x100, 0, 0⟩
def Reg.TIM_JUMP_LIMIT_NS : Fd := ⟨0x104, 15, 0⟩
def Reg.TIM_RATE_RATE : Fd := ⟨0x108, 31, 0⟩
def Reg.TIM_TIM_STAT_HOPS : Fd := ⟨0x10c, 31, 24⟩
def Reg.TIM_TIM_STAT_REF_LOST : Fd := ⟨0x10c, 2, 2⟩
def Reg.TIM_TIM_STAT_HOLDOVER : Fd := ⟨0x10c, 1, 1⟩
def Reg.TIM_TIM_STAT_LOCKED : Fd := ⟨0x10c, 0, 0⟩
def Reg.TIM_NOW_NS : Fd := ⟨0x110, 63, 0⟩
def Reg.TIM_NOW_FRAC_FRAC : Fd := ⟨0x118, 15, 0⟩
def Reg.TIM_COUNTER : Fd := ⟨0x120, 63, 0⟩
def Reg.TIM_ADJ_NS_NS : Fd := ⟨0x128, 31, 0⟩
def Reg.TIM_ADJ_CTL_GO : Fd := ⟨0x12c, 31, 31⟩
def Reg.TIM_ADJ_CTL_FORCE : Fd := ⟨0x12c, 30, 30⟩
def Reg.TIM_ADJ_CTL_FRAC : Fd := ⟨0x12c, 15, 0⟩
def Reg.TIM_SET_NS : Fd := ⟨0x130, 63, 0⟩
def Reg.TIM_SET_CTL_GO : Fd := ⟨0x138, 31, 31⟩
def Reg.TIM_SET_CTL_FRAC : Fd := ⟨0x138, 15, 0⟩
def Reg.TIM_LAST_REFUSED_NS : Fd := ⟨0x13c, 31, 0⟩
def Reg.TIM_SNAP_CTL_GO : Fd := ⟨0x140, 0, 0⟩
def Reg.TIM_SNAP_COUNTER : Fd := ⟨0x148, 63, 0⟩
def Reg.TIM_SNAP_NS : Fd := ⟨0x150, 63, 0⟩
def Reg.TIM_SNAP_FRAC_FRAC : Fd := ⟨0x158, 15, 0⟩
def Reg.TIM_SERVO_OFFSET_OFFSET : Fd := ⟨0x15c, 31, 0⟩
def Reg.TIM_PPS_IN_NS : Fd := ⟨0x160, 63, 0⟩
def Reg.TIM_PPS_IN_COUNTER : Fd := ⟨0x168, 63, 0⟩
def Reg.TIM_PPS_OUT_CFG_WIDTH : Fd := ⟨0x170, 15, 0⟩
def Reg.TIM_CNT : Fd := ⟨0x180, 63, 0⟩
def Reg.PMC_PMC_CFG_LEARN_EN : Fd := ⟨0x100, 1, 1⟩
def Reg.PMC_PMC_CFG_MODE : Fd := ⟨0x100, 0, 0⟩
def Reg.PMC_CAP_SUST_W : Fd := ⟨0x104, 11, 0⟩
def Reg.PMC_CAP_PEAK_WINDOW_MS : Fd := ⟨0x108, 27, 24⟩
def Reg.PMC_CAP_PEAK_W : Fd := ⟨0x108, 11, 0⟩
def Reg.PMC_SUST_CFG_WINDOW : Fd := ⟨0x10c, 15, 8⟩
def Reg.PMC_SUST_CFG_BURST_MARGIN : Fd := ⟨0x10c, 7, 0⟩
def Reg.PMC_PWR_STAT_CAP_UNREACHABLE : Fd := ⟨0x110, 31, 31⟩
def Reg.PMC_PWR_STAT_ADMIT_STOP : Fd := ⟨0x110, 30, 30⟩
def Reg.PMC_PWR_STAT_MEM_LIMITED : Fd := ⟨0x110, 29, 29⟩
def Reg.PMC_PWR_STAT_PEAK_BUDGET : Fd := ⟨0x110, 28, 28⟩
def Reg.PMC_PWR_STAT_STAGE : Fd := ⟨0x110, 18, 16⟩
def Reg.PMC_PWR_STAT_BUDGET : Fd := ⟨0x110, 11, 0⟩
def Reg.PMC_PWR_NOW_W : Fd := ⟨0x114, 11, 0⟩
def Reg.PMC_PWR_AVG_PEAK_W : Fd := ⟨0x118, 27, 16⟩
def Reg.PMC_PWR_AVG_SUST_W : Fd := ⟨0x118, 11, 0⟩
def Reg.PMC_DROOP_CFG_MV : Fd := ⟨0x11c, 7, 0⟩
def Reg.PMC_DROOP_STAT_ACTIVE : Fd := ⟨0x120, 7, 0⟩
def Reg.PMC_TEMP_CFG_THROTTLE : Fd := ⟨0x124, 23, 16⟩
def Reg.PMC_TEMP_CFG_WARN : Fd := ⟨0x124, 15, 8⟩
def Reg.PMC_TEMP_MAX_DIE : Fd := ⟨0x128, 12, 8⟩
def Reg.PMC_TEMP_MAX_C : Fd := ⟨0x128, 7, 0⟩
def Reg.PMC_LP_LIMIT_FAST : Fd := ⟨0x130, 6, 4⟩
def Reg.PMC_LP_LIMIT_SLOW : Fd := ⟨0x130, 2, 0⟩
def Reg.PMC_AGE_TRIM_LIMIT : Fd := ⟨0x150, 4, 4⟩
def Reg.PMC_AGE_TRIM_STEPS : Fd := ⟨0x150, 3, 0⟩
def Reg.PMC_CNT : Fd := ⟨0x180, 63, 0⟩
def Reg.DBG_DBG_ADDR_DIE : Fd := ⟨0x100, 31, 27⟩
def Reg.DBG_DBG_ADDR_SPACE : Fd := ⟨0x100, 26, 24⟩
def Reg.DBG_DBG_ADDR_WORD : Fd := ⟨0x100, 23, 0⟩
def Reg.DBG_DBG_DATA_DATA : Fd := ⟨0x104, 31, 0⟩
def Reg.DBG_DBG_CMD_OP : Fd := ⟨0x108, 31, 30⟩
def Reg.DBG_DBG_RESULT_RESULT : Fd := ⟨0x10c, 31, 28⟩
def Reg.DBG_DBG_RESULT_REASON : Fd := ⟨0x10c, 27, 24⟩
def Reg.DBG_HALT_CTL_HALT : Fd := ⟨0x110, 1, 0⟩
def Reg.DBG_HALT_STAT_HALTED : Fd := ⟨0x114, 1, 0⟩
def Reg.DBG_CNT : Fd := ⟨0x180, 63, 0⟩
def Reg.MGT_BOOT_STAT_STAGE : Fd := ⟨0x100, 31, 28⟩
def Reg.MGT_BOOT_STAT_FAIL : Fd := ⟨0x100, 27, 24⟩
def Reg.MGT_BOOT_STAT_SLOT : Fd := ⟨0x100, 16, 16⟩
def Reg.MGT_BOOT_STAT_SVN : Fd := ⟨0x100, 15, 0⟩
def Reg.MGT_FUSE_STAT_VENDOR_DEBUG_OFF : Fd := ⟨0x104, 20, 20⟩
def Reg.MGT_FUSE_STAT_ENROLLED : Fd := ⟨0x104, 19, 16⟩
def Reg.MGT_FUSE_STAT_MIN_SVN : Fd := ⟨0x104, 15, 0⟩
def Reg.MGT_SEC_CMD_OP : Fd := ⟨0x108, 31, 28⟩
def Reg.MGT_SEC_STAT_RESULT : Fd := ⟨0x10c, 31, 28⟩
def Reg.MGT_SEC_STAT_REASON : Fd := ⟨0x10c, 27, 24⟩
def Reg.MGT_SEC_STAT_OP : Fd := ⟨0x10c, 3, 0⟩
def Reg.MGT_DBG_STAT_UNLOCKED : Fd := ⟨0x110, 31, 31⟩
def Reg.MGT_DBG_STAT_SCOPE : Fd := ⟨0x110, 2, 0⟩
def Reg.MGT_SESSION_CFG_IDLE_S : Fd := ⟨0x114, 15, 8⟩
def Reg.MGT_SESSION_CFG_INBAND_EN : Fd := ⟨0x114, 0, 0⟩
def Reg.MGT_SESSION_STAT_OPEN : Fd := ⟨0x118, 7, 0⟩
def Reg.MGT_EVENT_SESSION_VALID : Fd := ⟨0x11c, 3, 3⟩
def Reg.MGT_EVENT_SESSION_SESSION : Fd := ⟨0x11c, 2, 0⟩
def Reg.MGT_RELAY_CTL_RELAY_EN : Fd := ⟨0x120, 0, 0⟩
def Reg.MGT_MBX_TX_HEAD_PTR : Fd := ⟨0x124, 10, 0⟩
def Reg.MGT_MBX_TX_TAIL_PTR : Fd := ⟨0x128, 10, 0⟩
def Reg.MGT_MBX_RX_HEAD_PTR : Fd := ⟨0x12c, 10, 0⟩
def Reg.MGT_MBX_RX_TAIL_PTR : Fd := ⟨0x130, 10, 0⟩
def Reg.MGT_JOURNAL_STAT_FILL : Fd := ⟨0x134, 31, 24⟩
def Reg.MGT_JOURNAL_STAT_GEN : Fd := ⟨0x134, 15, 0⟩
def Reg.MGT_UPDATE_SRC_ADDR : Fd := ⟨0x138, 31, 0⟩
def Reg.MGT_UPDATE_LEN_BYTES : Fd := ⟨0x13c, 31, 0⟩
def Reg.MGT_CNT : Fd := ⟨0x180, 63, 0⟩
def Reg.TEL_SAMPLE_CFG_EN : Fd := ⟨0x100, 31, 31⟩
def Reg.TEL_SAMPLE_CFG_TC_MASK : Fd := ⟨0x100, 23, 16⟩
def Reg.TEL_SAMPLE_CFG_K : Fd := ⟨0x100, 4, 0⟩
def Reg.TEL_RING_CFG_MODE : Fd := ⟨0x104, 31, 31⟩
def Reg.TEL_RING_CFG_SIZE_MIB : Fd := ⟨0x104, 26, 16⟩
def Reg.TEL_RING_CFG_OFFSET_MIB : Fd := ⟨0x104, 9, 0⟩
def Reg.TEL_RING_WR_RECORDS : Fd := ⟨0x108, 31, 0⟩
def Reg.TEL_RING_RD_RECORDS : Fd := ⟨0x10c, 31, 0⟩
def Reg.TEL_RING_THRESH_RECORDS : Fd := ⟨0x110, 24, 0⟩
def Reg.TEL_TRACE_WIN_WIN : Fd := ⟨0x114, 7, 0⟩
def Reg.TEL_WATCH_PEND_PEND : Fd := ⟨0x120, 31, 0⟩
def Reg.TEL_CAPTURE_CTL_GO : Fd := ⟨0x140, 0, 0⟩
def Reg.TEL_CAPTURE_STAT_COUNT : Fd := ⟨0x144, 31, 16⟩
def Reg.TEL_CAPTURE_STAT_BUSY : Fd := ⟨0x144, 0, 0⟩
def Reg.TEL_CAPTURE_NS : Fd := ⟨0x148, 63, 0⟩
def Reg.TEL_CNT : Fd := ⟨0x180, 63, 0⟩
def Reg.LNK_D2D_THRESH : Fd := ⟨0x120, 31, 0⟩

end Sys2Proof.Machine
end

