-- ==== Sys2Proof/Machine/Ops.lean ====
section
/-! DEFINITION. The named operations over the state's stores: sparse maps, pages and their addresses
(R38), register words and fields, table entries (R69), Stockpot bytes (R342), fabric time (R365), port
geometry (R99), and the records kept per port and per list. -/

namespace Sys2Proof.Machine

/-! ### Sparse maps -/

/-- The value at key `k`; an unlisted key reads as `d k`. -/
def sget {α : Type} (d : Nat → α) : SMap α → Nat → α
  | [], k => d k
  | (a, v) :: m, k => if a = k then v else sget d m k

/-- The map with `k` reading as `v`; writing what an unlisted key reads as removes the entry. -/
def sset {α : Type} [DecidableEq α] (d : Nat → α) : SMap α → Nat → α → SMap α
  | [], k, v => if v = d k then [] else [(k, v)]
  | (a, w) :: m, k, v =>
    if k < a then
      if v = d k then (a, w) :: sset d m k v else (k, v) :: (a, w) :: m
    else if a = k then
      if v = d k then sset d m k v else (k, v) :: m
    else (a, w) :: sset d m k v

/-- The map with `k` listed as `v`: for a map whose unlisted keys read as a constant of Config, which no equality
test can see. -/
def splace {α : Type} (m : SMap α) (k : Nat) (v : α) : SMap α :=
  m.filter (fun e => decide (e.1 < k)) ++ (k, v) :: m.filter (fun e => decide (k < e.1))

/-- The canonical form: keys strictly rising above `lo`, no entry equal to its default. -/
def swfFrom {α : Type} [DecidableEq α] (d : Nat → α) (lo : Nat) : SMap α → Bool
  | [] => true
  | (a, v) :: m => decide (lo ≤ a) && decide (v ≠ d a) && swfFrom d (a + 1) m

def swf {α : Type} [DecidableEq α] (d : Nat → α) (m : SMap α) : Bool := swfFrom d 0 m

/-- Update the value at `k`. -/
def supd {α : Type} [DecidableEq α] (d : Nat → α) (m : SMap α) (k : Nat) (f : α → α) : SMap α :=
  sset d m k (f (sget d m k))

/-- Constant default. -/
def konst {α : Type} (v : α) : Nat → α := fun _ => v

/-! ### Sorting -/

/-- Insert behind the elements whose key is no larger. -/
def insertBy {α : Type} (key : α → Nat) (x : α) : List α → List α
  | [] => [x]
  | y :: ys => if key x < key y then x :: y :: ys else y :: insertBy key x ys

/-- The list in rising order of the key; equal keys keep their order. -/
def sortBy {α : Type} (key : α → Nat) (l : List α) : List α := l.foldl (fun acc x => insertBy key x acc) []

/-! ### Stockpot bytes (R342, R343) -/

/-- What an unlisted byte of Stockpot reads as (log 3). -/
def memDefault : Nat → Byte := fun _ => 0

/-- The canonical form of Stockpot's bytes. -/
def Memory.wf (m : List Host.Cell) : Bool := swf memDefault m

def memByte (m : List Host.Cell) (a : Nat) : Byte := sget memDefault m a

def memSetByte (m : List Host.Cell) (a : Nat) (b : Byte) : List Host.Cell := sset memDefault m a b

/-- `n` bytes from address `a` upward. -/
def memRead (m : List Host.Cell) (a : Nat) : Nat → List Byte
  | 0 => []
  | n + 1 => memByte m a :: memRead m (a + 1) n

/-- Write the bytes from address `a` upward. -/
def memWrite (m : List Host.Cell) (a : Nat) : List Byte → List Host.Cell
  | [] => m
  | b :: bs => memWrite (memSetByte m a b) (a + 1) bs

/-- Size of the Stockpot address space (R342): 480 GiB. -/
def stockpotSize : Nat := 480 * 2 ^ 30

/-- The word at `off` belongs to the register (array). -/
def RegDef.covers (r : RegDef) (off : Nat) : Bool :=
  decide (r.off ≤ off) && decide ((off - r.off) % r.stride = 0) &&
    decide ((off - r.off) / r.stride < r.cnt)

end Sys2Proof.Machine

namespace Sys2Proof

open Sys2Proof.Machine

/-! ### Blocks and pages (R38) -/

def Block.code : Block → Nat
  | .pkg => 0x0 | .mgt => 0x1 | .pmc => 0x2 | .tim => 0x3 | .opt => 0x4 | .lnk => 0x5 | .fwd => 0x6
  | .voq => 0x7 | .xbs => 0x8 | .etm => 0x9 | .byp => 0xA | .col => 0xB | .ldl => 0xC | .stk => 0xD
  | .tel => 0xE | .dbg => 0xF

def blockOfCode : Nat → Option Block
  | 0x0 => some .pkg | 0x1 => some .mgt | 0x2 => some .pmc | 0x3 => some .tim | 0x4 => some .opt
  | 0x5 => some .lnk | 0x6 => some .fwd | 0x7 => some .voq | 0x8 => some .xbs | 0x9 => some .etm
  | 0xA => some .byp | 0xB => some .col | 0xC => some .ldl | 0xD => some .stk | 0xE => some .tel
  | 0xF => some .dbg | _ => none

/-- BAR0 offset of the page (R38). -/
def Page.base (p : Page) : Nat := p.blk.code * 0x1000000 + p.inst * 0x1000

/-- A page's number: block code × 4,096 + instance. -/
def Page.num (p : Page) : Nat := p.blk.code * 4096 + p.inst

/-- The page a BAR0 offset lies in, with the byte offset in the page. -/
def pageOf (addr : Nat) : Option (Page × Nat) :=
  match blockOfCode (addr / 0x1000000) with
  | some b => some (⟨b, addr / 0x1000 % 0x1000⟩, addr % 0x1000)
  | none => none

def Page.pkg : Page := ⟨.pkg, 0⟩
def Page.mgt : Page := ⟨.mgt, 0⟩
def Page.pmc : Page := ⟨.pmc, 0⟩
def Page.tim : Page := ⟨.tim, 0⟩
def Page.tile (t : Nat) : Page := ⟨.opt, t⟩
def Page.laser (m : Nat) : Page := ⟨.opt, 8 + m⟩
def Page.lnk (lane : Nat) : Page := ⟨.lnk, lane⟩
def Page.fwd : Page := ⟨.fwd, 0⟩
def Page.voq : Page := ⟨.voq, 0⟩
def Page.xbs : Page := ⟨.xbs, 0⟩
def Page.etm (lane : Nat) : Page := ⟨.etm, lane⟩
def Page.byp : Page := ⟨.byp, 0⟩
def Page.col : Page := ⟨.col, 0⟩
def Page.region (r : Nat) : Page := ⟨.ldl, r⟩
def Page.coreBlock (b : Nat) : Page := ⟨.ldl, 8 + b⟩
def Page.stk : Page := ⟨.stk, 0⟩
def Page.tel : Page := ⟨.tel, 0⟩
def Page.dbg : Page := ⟨.dbg, 0⟩

/-- The page has the table access port (R68): the pages whose chapters list tables. -/
def Page.hasTables (p : Page) : Bool :=
  match p.blk with
  | .pkg | .mgt | .pmc | .tim | .fwd | .voq | .etm | .byp | .col | .stk | .tel => true
  | .lnk => p.inst == 0
  | .ldl => p.inst == 0 || decide (8 ≤ p.inst)
  | _ => false

/-- ETM[0] alone has the wheel registers (R213). -/
def etmRegs (inst : Nat) : List RegDef :=
  if inst = 0 then RegMap.etm else RegMap.etm.filter (fun r => decide (r.off < 0x300))

/-- The registers a page maps (R41, R68 and the chapter's table). -/
def Page.regDefs (p : Page) : List RegDef :=
  RegMap.hdr ++ (if p.hasTables then RegMap.tblPort else []) ++
  match p.blk with
  | .pkg => RegMap.pkg
  | .mgt => RegMap.mgt
  | .pmc => RegMap.pmc
  | .tim => RegMap.tim
  | .opt => if p.inst < 8 then RegMap.tile else RegMap.laser
  | .lnk => RegMap.lnk ++ (if p.inst = 0 then RegMap.lnk0 else [])
  | .fwd => RegMap.fwd
  | .voq => RegMap.voq
  | .xbs => RegMap.xbs
  | .etm => etmRegs p.inst
  | .byp => RegMap.byp
  | .col => RegMap.col
  | .ldl =>
    if p.inst < 8 then RegMap.ldlRegion ++ (if p.inst = 0 then RegMap.ldl0 else [])
    else RegMap.ldlBlock
  | .stk => RegMap.stk
  | .tel => RegMap.tel
  | .dbg => RegMap.dbg

/-- The register that maps the aligned word offset, if the page maps one (R13). -/
def Page.regAt (p : Page) (off : Nat) : Option RegDef :=
  p.regDefs.find? (fun r => r.covers off)

/-- BLOCK_CAP of PAGE_CAP, as each chapter gives it; OPT and LNK give none (log 12). -/
def Page.blockCap (p : Page) : Nat :=
  match p.blk with
  | .pkg | .stk => 1
  | .mgt | .pmc | .tim | .fwd | .byp | .tel | .dbg => 3
  | .etm => if p.inst = 0 then 3 else 1
  | .ldl => if p.inst = 0 then 3 else if p.inst < 8 then 0 else 4
  | _ => 0

def Page.hasCls (p : Page) (c : Cls) : Bool :=
  p.regDefs.any (fun r => r.flds.any (fun f => decide (f.cls = c)))

/-- Pages running and enabled from cold reset (R44, R45). -/
def Page.bootEnabled (p : Page) : Bool :=
  match p.blk with
  | .pkg | .mgt | .pmc | .tim => true
  | _ => false

/-- PAGE_CAP, with PRESENT 1 (an ETM page's live PRESENT is computed at the read, R39). -/
def Page.capWord (p : Page) : Nat :=
  p.blockCap * 65536 + 8 + (if p.hasTables then 4 else 0) + (if p.hasCls .S then 2 else 0) +
    (if p.hasCls .Q then 1 else 0)

def fldResets : List Fld → Nat
  | [] => 0
  | f :: fs => f.reset * 2 ^ f.lo + fldResets fs

/-- The cold-reset value of the word at `off` of the page (R14). -/
def Page.resetWord (p : Page) (off : Nat) : W32 :=
  if off = 0x000 then BitVec.ofNat 32 (p.blk.code * 2 ^ 28 + p.inst * 65536 + 0x0100)
  else if off = 0x004 then BitVec.ofNat 32 p.capWord
  else if off = 0x008 then (if p.bootEnabled then 1 else 0)
  else if off = 0x00C then (if p.bootEnabled then 1 else 0)
  else if p.blk = .etm ∧ 0x1A0 ≤ off ∧ off < 0x1C0 then
    BitVec.ofNat 32 ((if off = 0x1A0 then 2 ^ 31 else 0) + p.inst % 512)
  else
    match p.regAt off with
    | some r => BitVec.ofNat 32 (fldResets r.flds)
    | none => 0

/-- Source number of a source (R58). -/
def Src.bit : Src → Nat
  | .pcie => 0
  | .inband => 1

end Sys2Proof

namespace Sys2Proof.Machine

/-- What an unlisted register word reads as, by BAR0 offset. -/
def resetWordAt (addr : Nat) : W32 :=
  match pageOf addr with
  | some (p, off) => p.resetWord off
  | none => 0

/-! ### Register words and fields: one home for every register -/

def Ctl.word (c : Ctl) (addr : Nat) : W32 := sget resetWordAt c.regs addr

def Ctl.setWord (c : Ctl) (addr : Nat) (v : W32) : Ctl :=
  { c with regs := sset resetWordAt c.regs addr v }

def rdWord (d : Dev) (p : Page) (off : Nat) : W32 := d.ctl.word (p.base + off)

def wrWord (p : Page) (off : Nat) (v : W32) (d : Dev) : Dev :=
  { d with ctl := d.ctl.setWord (p.base + off) v }

/-- The active value of a field within one word. -/
def rd (d : Dev) (p : Page) (f : Fd) : Nat := bitsOf (rdWord d p f.off) f.hi f.lo

/-- Set the active value of a field within one word. -/
def wr (p : Page) (f : Fd) (v : Nat) (d : Dev) : Dev :=
  wrWord p f.off (withBits (rdWord d p f.off) f.hi f.lo v) d

/-- A one-bit field. -/
def rdBit (d : Dev) (p : Page) (f : Fd) : Bool := rd d p f != 0

def wrBit (p : Page) (f : Fd) (v : Bool) (d : Dev) : Dev := wr p f (if v then 1 else 0) d

/-- A 64-bit register (R8). -/
def rd64 (d : Dev) (p : Page) (f : Fd) : Nat :=
  (rdWord d p f.off).toNat + 2 ^ 32 * (rdWord d p (f.off + 4)).toNat

def wr64 (p : Page) (f : Fd) (v : Nat) (d : Dev) : Dev :=
  wrWord p (f.off + 4) (hi32 v) (wrWord p f.off (lo32 v) d)

/-! ### Page states (R45) -/

def stIdle : Nat := 0
def stRunning : Nat := 1
def stQuiesced : Nat := 2
def stAborting : Nat := 3
def stFailed : Nat := 4

def pageState (d : Dev) (p : Page) : Nat := rd d p Reg.PAGE_STAT_STATE
def setPageState (p : Page) (v : Nat) (d : Dev) : Dev := wr p Reg.PAGE_STAT_STATE v d

def PageAct.idle : PageAct :=
  { finishing := false, abortAt := 0, forced := false, resetting := false }

def Dev.act (d : Dev) (p : Page) : PageAct := sget (konst PageAct.idle) d.ctl.acts p.num

def setAct (p : Page) (a : PageAct) (d : Dev) : Dev :=
  { d with ctl := { d.ctl with acts := sset (konst PageAct.idle) d.ctl.acts p.num a } }

/-- The page accepts new work (R44, R51): running, not quiescing, and ENABLE not written 0. -/
def accepting (d : Dev) (p : Page) : Bool :=
  decide (pageState d p = stRunning) && !rdBit d p Reg.PAGE_STAT_QUIESCING && !(d.act p).finishing

def srcOfBit (n : Nat) : Src := if n % 2 = 0 then .pcie else .inband

def pageOwner (d : Dev) (p : Page) : Src := srcOfBit (rd d p Reg.PAGE_OWNER_OWNER)

/-! ### Tables (R69) -/

/-- Key of entry `i` of table `t` of a page. -/
def tblKey (p : Page) (t i : Nat) : Nat := (p.num * 16 + t) * 2 ^ 32 + i

/-- Words of an entry of table `t` of a page; 0 when the page has no such table. -/
def tblWords (p : Page) (t : Nat) : Nat :=
  match p.blk, t with
  | .pkg, 0 => 6
  | .mgt, 0 => 1
  | .mgt, 1 => 16
  | .mgt, 2 => 4
  | .pmc, 0 => 7
  | .pmc, 1 => 16
  | .tim, 0 => 7
  | .tim, 1 => 12
  | .lnk, 1 => if p.inst = 0 then 2 else 0
  | .fwd, 0 => 7
  | .fwd, 1 => 7
  | .fwd, 2 => 7
  | .voq, 0 => 3
  | .voq, 1 => 3
  | .voq, 2 => 3
  | .etm, 0 => 2
  | .etm, 1 => if p.inst = 0 then 6 else 0
  | .etm, 2 => if p.inst = 0 then 3 else 0
  | .byp, 0 => 8
  | .byp, 1 => 4
  | .col, 0 => 8
  | .col, 1 => 16
  | .col, 2 => 4
  | .col, 3 => 2
  | .col, 4 => 4
  | .ldl, 0 => if p.inst = 0 then 2 else if 8 ≤ p.inst then 8 else 0
  | .ldl, 1 => if p.inst = 0 then 16 else 0
  | .ldl, 2 => if p.inst = 0 then 9 else 0
  | .stk, 0 => 6
  | .tel, 0 => 6
  | _, _ => 0

/-- The cold-reset content of an entry (R124, R211, R212, R323; log 5 where no rule gives it). -/
def tblDefaultOf (p : Page) (t i : Nat) : List W32 :=
  match p.blk, t with
  | .etm, 0 => [0xFF, 1000000]
  | .etm, 1 => [400000, 800000, 262144, 524288, 0, 0]
  | .etm, 2 => [0, 65536, 0]
  | .lnk, 1 => [0x3F000000, 0]
  | .ldl, 0 => builtinWords (i / 128 % 256) (i % 128)
  | _, _ => List.replicate (tblWords p t) 0

def tblDefault (key : Nat) : List W32 :=
  let pt := key / 2 ^ 32
  match blockOfCode (pt / 65536) with
  | some b => tblDefaultOf ⟨b, pt / 16 % 4096⟩ (pt % 16) (key % 2 ^ 32)
  | none => []

def tget (d : Dev) (p : Page) (t i : Nat) : List W32 := sget tblDefault d.ctl.tables (tblKey p t i)

def tset (p : Page) (t i : Nat) (ws : List W32) (d : Dev) : Dev :=
  { d with ctl := { d.ctl with tables := sset tblDefault d.ctl.tables (tblKey p t i) ws } }

/-- Word `k` of an entry. -/
def word (ws : List W32) (k : Nat) : W32 := ws.getD k 0

/-- Bits of word `k`. -/
def wbits (ws : List W32) (k hi lo : Nat) : Nat := bitsOf (word ws k) hi lo

def wbit (ws : List W32) (k b : Nat) : Bool := wbits ws k b b != 0

def setW (ws : List W32) (k : Nat) (v : W32) : List W32 := ws.set k v

def setWBits (ws : List W32) (k hi lo v : Nat) : List W32 := ws.set k (withBits (word ws k) hi lo v)

/-- The 64-bit value of words `k` and `k + 1`, low word first. -/
def word64 (ws : List W32) (k : Nat) : Nat := (word ws k).toNat + 2 ^ 32 * (word ws (k + 1)).toNat

def setW64 (ws : List W32) (k v : Nat) : List W32 := (ws.set k (lo32 v)).set (k + 1) (hi32 v)

/-- Word list cut or padded with zeros to `n` words (R69: words beyond the length read 0). -/
def fitWords (n : Nat) (ws : List W32) : List W32 := (ws ++ List.replicate n 0).take n

/-- The listed entries of one table, as (index, words). -/
def tblListed (d : Dev) (p : Page) (t : Nat) : List (Nat × List W32) :=
  (d.ctl.tables.filter (fun e => decide (e.1 / 2 ^ 32 = p.num * 16 + t))).map
    (fun e => (e.1 % 2 ^ 32, e.2))

/-! ### The member table (R239), held in Stockpot at 64 i (R343) -/

def memberGet (s : State) (i : Nat) : List W32 :=
  (List.range 16).map (fun k => BitVec.ofNat 32 (natOfLE (memRead s.mem (64 * i + 4 * k) 4)))

def wordsBytes (ws : List W32) : List Byte := ws.flatMap (fun w => bytesLE 4 w.toNat)

def memberSet (i : Nat) (ws : List W32) (s : State) : State :=
  { s with mem := memWrite s.mem (64 * i) (wordsBytes (fitWords 16 ws)) }

/-! ### Fabric time (R365) -/

/-- RATE in force, signed units of 2^-40 (R365). -/
def rateOf (d : Dev) : Int := signedOf 32 (rd d Page.tim Reg.TIM_RATE_RATE)

/-- The term of R365 that `dc` ticks contribute, in units of 2^-16 ns. -/
def timeTerm (rate dc : Int) : Int := (dc * 5 * ((2 : Int) ^ 40 + rate)) / ((2 : Int) ^ 27)

/-- Fabric time at counter value `c`, in units of 2^-16 ns modulo 2^80 (R365). -/
def fabricAt (d : Dev) (c : W64) : Nat :=
  unsignedOf 80 ((d.tim.offset.toNat : Int) + timeTerm (rateOf d) (c - d.tim.anchor).toInt)

/-- NS of fabric time at counter value `c` (R365). -/
def fabricNs (d : Dev) (c : W64) : Nat := fabricAt d c / 65536

/-- Ticks since counter value `t` (0.625 ns each, modulo 2^64). -/
def ticksSince (now : W64) (t : Nat) : Nat := (now - BitVec.ofNat 64 t).toNat

/-- Ticks of a duration of `ns` nanoseconds, rounded up. -/
def ticksOfNs (ns : Nat) : Nat := (ns * 8 + 4) / 5

/-- `ns` nanoseconds have passed since counter value `t`. -/
def elapsed (now : W64) (t ns : Nat) : Bool := decide (ticksOfNs ns ≤ ticksSince now t)

/-! ### Ports and regions (R17, R26, R99) -/

/-- Width code of the port block of a working lane (R100). -/
def widthCode (d : Dev) (lane : Nat) : Nat :=
  rd d (Page.tile (lane / 128)) Reg.OPT_PORT_MODE_MODE >>> (2 * (lane / 16 % 8)) % 4

/-- Lanes per port of a width code (R99). -/
def lanesOf (code : Nat) : Nat := match code with | 0 => 1 | 1 => 2 | _ => 4

/-- Lanes of the port that holds a working lane. -/
def portWidth (d : Dev) (lane : Nat) : Nat := lanesOf (widthCode d lane)

/-- The lowest lane of the port that holds a working lane. -/
def lowestLane (d : Dev) (lane : Nat) : Nat := lane - lane % portWidth d lane

/-- The lane is the lowest lane of a configured port (R99). -/
def isPort (d : Dev) (lane : Nat) : Bool := decide (lane < 1024) && decide (lane % portWidth d lane = 0)

/-- All configured ports, by lowest lane. -/
def allPorts (d : Dev) : List Nat := (List.range 1024).filter (isPort d)

/-- Region and die of a working lane (R17). -/
def regionOf (lane : Nat) : Nat := lane / 128
def dieOf (lane : Nat) : Nat := lane / 512

/-- The die of a source of buffer units: a port's lowest lane, or 1,024 + 4 × die + service (R189). -/
def dieOfSource (source : Nat) : Nat := if source < 1024 then dieOf source else (source - 1024) / 4

/-- Service sources of a die (R164, R189). -/
def svcCol (die : Nat) : Nat := 1024 + 4 * die
def svcMem (die : Nat) : Nat := 1024 + 4 * die + 1
def svcMgt (die : Nat) : Nat := 1024 + 4 * die + 2
def svcNote (die : Nat) : Nat := 1024 + 4 * die + 3

/-- Link states (R108). -/
def lsDisabled : Nat := 0
def lsSearch : Nat := 1
def lsTrain : Nat := 2
def lsIdentify : Nat := 3
def lsUp : Nat := 4
def lsHeld : Nat := 5
def lsFailed : Nat := 6
def lsDeparted : Nat := 7
def lsSpareIdle : Nat := 8

def linkState (d : Dev) (lane : Nat) : Nat := rd d (Page.lnk lane) Reg.LNK_LINK_STAT_STATE
def setLinkState (lane v : Nat) (d : Dev) : Dev := wr (Page.lnk lane) Reg.LNK_LINK_STAT_STATE v d

def portUp (d : Dev) (lane : Nat) : Bool := decide (linkState d lane = lsUp)

/-! ### Records per port and per list -/

def Dev.port (d : Dev) (lane : Nat) : Port := sget (konst Port.reset) d.lnk.ports lane

def setPort (lane : Nat) (p : Port) (d : Dev) : Dev :=
  { d with lnk := { d.lnk with ports := sset (konst Port.reset) d.lnk.ports lane p } }

def updPort (lane : Nat) (f : Port → Port) (d : Dev) : Dev := setPort lane (f (d.port lane)) d

def Dev.laserRec (d : Dev) (m : Nat) : Laser := sget (konst Laser.reset) d.lnk.laser m

def updLaser (m : Nat) (f : Laser → Laser) (d : Dev) : Dev :=
  { d with lnk := { d.lnk with laser := supd (konst Laser.reset) d.lnk.laser m f } }

/-- Key of the VOQ of (source, egress port, TC) (R164). -/
def voqKey (source egress tc : Nat) : Nat := (source * 1024 + egress) * 8 + tc

def Dev.voq (d : Dev) (k : Nat) : Voq := sget (konst Voq.empty) d.sw.voqs k

def setVoq (k : Nat) (v : Voq) (d : Dev) : Dev :=
  { d with sw := { d.sw with voqs := sset (konst Voq.empty) d.sw.voqs k v } }

/-- Key of a (source, TC) or (egress, TC) pair. -/
def tcKey (x tc : Nat) : Nat := x * 8 + tc

def Dev.units (d : Dev) (source tc : Nat) : Units := sget (konst Units.zero) d.sw.units (tcKey source tc)

def updUnits (source tc : Nat) (f : Units → Units) (d : Dev) : Dev :=
  { d with sw := { d.sw with units := supd (konst Units.zero) d.sw.units (tcKey source tc) f } }

def Dev.staged (d : Dev) (egress tc : Nat) : List Box := sget (konst []) d.sw.staging (tcKey egress tc)

def setStaged (egress tc : Nat) (l : List Box) (d : Dev) : Dev :=
  { d with sw := { d.sw with staging := sset (konst []) d.sw.staging (tcKey egress tc) l } }

/-- Cells staged for a port over all classes (R176). -/
def stagedTotal (d : Dev) (egress : Nat) : Nat :=
  ((List.range 8).map (fun tc => (d.staged egress tc).length)).sum

/-- Room for one more cell of a class in a port's staging buffer of W × 256 cells, 16 reserved for each
class, the rest shared (R176). -/
def stagingRoom (d : Dev) (egress tc : Nat) : Bool :=
  let own := (d.staged egress tc).length
  let used := ((List.range 8).map (fun c => (d.staged egress c).length - 16)).sum
  decide (own < 16) || decide (used < portWidth d egress * 256 - 128)

/-- Fold a device update over a list. -/
def forEach {α : Type} (l : List α) (f : α → Dev → Dev) (d : Dev) : Dev :=
  l.foldl (fun d a => f a d) d

/-- Apply a device update when a condition holds. -/
def doIf (b : Bool) (f : Dev → Dev) (d : Dev) : Dev := if b then f d else d

/-- Lift a device update to the machine. -/
def onDev (f : Dev → Dev) (s : State) : State := { s with dev := f s.dev }

/-- The outcome of a command: its effect when every unit it names exists, else the fault. -/
def effect (c : Instr) (f : State → State) (s : State) : Host.Outcome State Fault Refusal :=
  if c.wf then .next (f s) else .fault .noSuchUnit

/-! ### Free values (log 2) -/

/-- Advance the draw counter. -/
def drawNext (d : Dev) : Dev := { d with ctl := { d.ctl with draws := d.ctl.draws + 1 } }

/-- Record an output. -/
def emit (o : Output) (d : Dev) : Dev := { d with ctl := { d.ctl with out := d.ctl.out ++ [o] } }

end Sys2Proof.Machine
end

