-- ==== Sys2Proof/Machine/Flags.lean ====
section
/-! DEFINITION. Every flag computation: interrupts and error classes with their capture (R46 to R49),
MSI-X vectors and in-band requests (R417, R419), counters with the watches that follow them (R467), the
journal's records (R434) and the fault log (R453). -/

namespace Sys2Proof.Machine

/-! ### Error classes: bit numbers of PAGE_ERR (R48) -/

def errNonOwner : Nat := 0
def errBadEncoding : Nat := 1
def errQReject : Nat := 2
def errCommitReject : Nat := 3
def errTblBusy : Nat := 4
def errTblErr : Nat := 5
def errBadAccess : Nat := 6
def errCorrected : Nat := 7
def errUncorrectable : Nat := 8
def errForcedAbort : Nat := 9

/-- Common bits of PAGE_IRQ (R46). -/
def irqError : Nat := 0
def irqCommitDone : Nat := 1
def irqAbortDone : Nat := 2
def irqQuiesced : Nat := 3
def irqOwnerChanged : Nat := 4

/-! ### Requests, vectors, events -/

/-- The page requests an interrupt (R46). -/
def pageRequests (d : Dev) (p : Page) : Bool := (rdWord d p 0x010 &&& rdWord d p 0x014) != 0

/-- The page requests one and the PCI Express host owns it (R417). -/
def hostRequests (d : Dev) (p : Page) : Bool :=
  decide (pageOwner d p = .pcie) && pageRequests d p

/-- The MSI-X vector of a page (R417). -/
def vectorOf (p : Page) : Nat := 16 * p.blk.code + p.inst % 16

/-- The condition of a vector (R417). -/
def vectorTrue (d : Dev) (v : Nat) : Bool :=
  match blockOfCode (v / 16) with
  | some b => (List.range b.instances).any (fun i => decide (i % 16 = v % 16) && hostRequests d ⟨b, i⟩)
  | none => false

/-- What a byte of the BAR4 stores reads as when nothing is listed: every MSI-X vector masked, every other
byte 0 (log 8). -/
def bar4Default (a : Nat) : Byte :=
  if 0x80000 ≤ a ∧ a < 0x81000 ∧ a % 16 = 12 then 1 else 0

def bar4Byte (d : Dev) (a : Nat) : Byte := sget bar4Default d.mgt.bar4 a

def bar4Bytes (d : Dev) (a n : Nat) : List Byte := (List.range n).map (fun k => bar4Byte d (a + k))

def setBar4 (a : Nat) (bs : List Byte) (d : Dev) : Dev :=
  { d with mgt := { d.mgt with
      bar4 := (bs.zipIdx).foldl (fun m x => sset bar4Default m (a + x.2) x.1) d.mgt.bar4 } }

/-- The vector may be sent: Bus Master Enable, MSI-X Enable, in D0 and not masked (R414, R416). -/
def vectorOpen (d : Dev) (v : Nat) : Bool :=
  d.ctl.busMaster && d.ctl.msixEnable && !d.ctl.d3hot && bar4Byte d (0x8000C + 16 * v) % 2 == 0

def setPba (v : Nat) (b : Bool) (d : Dev) : Dev :=
  { d with ctl := { d.ctl with pba := sset (konst false) d.ctl.pba v b } }

/-- Send a vector's message, or hold it pending (R416, R417). -/
def msixSend (v : Nat) (d : Dev) : Dev :=
  if vectorOpen d v then
    let e := 0x80000 + 16 * v
    setPba v false (emit (.msix v (natOfLE (bar4Bytes d e 8)) (BitVec.ofNat 32 (natOfLE (bar4Bytes d (e + 8) 4)))) d)
  else setPba v true d

/-- Send every pending vector that may now be sent (R416). -/
def msixFlush (d : Dev) : Dev :=
  forEach (List.range 256)
    (fun v d => doIf (sget (konst false) d.ctl.pba v && vectorOpen d v) (msixSend v) d) d

def setEventSent (p : Page) (b : Bool) (d : Dev) : Dev :=
  { d with ctl := { d.ctl with eventSent := sset (konst false) d.ctl.eventSent p.num b } }

/-- Apply an update of a page's PAGE_IRQ, PAGE_IRQ_EN or PAGE_OWNER: the vector's message goes when its
condition rises (R417), and an in-band event is owed again once the request has gone false (R419). -/
def withIrq (p : Page) (f : Dev → Dev) (d : Dev) : Dev :=
  let d' := f d
  let d1 :=
    if hostRequests d p = hostRequests d' p then d'
    else
      let v := vectorOf p
      let was := vectorTrue d v
      let is := vectorTrue d' v
      if !was && is then msixSend v d' else if was && !is then setPba v false d' else d'
  if pageRequests d1 p && decide (pageOwner d1 p = .inband) then d1 else setEventSent p false d1

/-- Set bits of PAGE_IRQ. -/
def raiseIrq (p : Page) (bit : Nat) (d : Dev) : Dev :=
  withIrq p (fun d => wrWord p 0x010 (rdWord d p 0x010 ||| BitVec.ofNat 32 (2 ^ bit)) d) d

/-- PAGE_ERR_INFO of a captured error (R49). -/
def errInfo (cls src detail off : Nat) : W32 :=
  BitVec.ofNat 32 (cls * 2 ^ 27 + src % 2 * 2 ^ 26 + detail % 4096 * 2 ^ 12 + off % 4096)

/-- Record errors of the classes given, lowest first (R48, R49): the classes' bits are set; the error that
takes PAGE_ERR from all zero is captured, a further one sets MULTI; a bit that rises sets PAGE_IRQ.ERROR. -/
def setErrs (p : Page) (classes : List Nat) (src off detail : Nat) (d : Dev) : Dev :=
  let e := rdWord d p 0x018
  let e' := classes.foldl (fun e c => e ||| BitVec.ofNat 32 (2 ^ c)) e
  let info := rdWord d p 0x01C
  let info' :=
    match classes with
    | [] => info
    | c :: cs =>
      if e = 0 then
        errInfo c src detail off ||| (if cs.isEmpty then 0 else BitVec.ofNat 32 (2 ^ 25))
      else info ||| BitVec.ofNat 32 (2 ^ 25)
  let d1 := wrWord p 0x01C info' (wrWord p 0x018 e' d)
  if e' = e then d1 else raiseIrq p irqError d1

/-- An error caused by an access (R49). -/
def setErr (p : Page) (cls : Nat) (src : Src) (off detail : Nat) (d : Dev) : Dev :=
  setErrs p [cls] src.bit off detail d

/-- An error not caused by an access: SOURCE 0, OFFSET 0 (R49). -/
def hwErr (p : Page) (cls detail : Nat) (d : Dev) : Dev := setErrs p [cls] 0 0 detail d

/-! ### Counters and watches (R465, R467) -/

/-- Add `n` to a watch: the new words, and whether COUNT carried (R467). -/
def watchAdd (n : Nat) (ws : List W32) : List W32 × Bool :=
  let sum := word64 ws 1 + n
  if sum < 2 ^ 64 then (setW64 ws 1 sum, false)
  else
    let base := if wbit ws 0 28 then word64 ws 3 else 0
    let spilled := if wbits ws 5 31 0 = 0xFFFFFFFF then ws else setW ws 5 (word ws 5 + 1)
    (setW64 spilled 1 (base + (sum - 2 ^ 64)), true)

/-- Add `n` to watch `i` of the 256 if it is valid and names the counter at BAR0 offset `a`: count an overflow and raise
WATCH_PEND (R467, R475). The second component counts the overflows. -/
def watchStep (a n : Nat) (i : Nat) (r : Dev × Nat) : Dev × Nat :=
  let d := r.1
  let ws := tget d Page.tel 0 i
  if decide (i < 256) && wbit ws 0 31 && decide (wbits ws 0 27 0 = a) then
    let (ws', carried) := watchAdd n ws
    let d1 := tset Page.tel 0 i ws' d
    if carried then
      let off := 0x120 + 4 * (i / 32)
      let d2 :=
        if wbit ws 0 29 then
          raiseIrq Page.tel 17
            (wrWord Page.tel off (rdWord d1 Page.tel off ||| BitVec.ofNat 32 (2 ^ (i % 32))) d1)
        else d1
      (d2, r.2 + 1)
    else (d1, r.2)
  else r

/-- A counter's new value: the counters of the LDL region pages saturate (R299). -/
def counterSum (p : Page) (v : Nat) : Nat :=
  if p.blk = .ldl ∧ p.inst < 8 then min v (2 ^ 64 - 1) else v

/-- Add to the 64-bit counter at a BAR0 offset, and to every watch that names it. The watch overflows that
follow are themselves counted by TEL's counter, which a watch may name; `fuel` bounds that chain. -/
def bumpAt : Nat → Page → Nat → Nat → Dev → Dev
  | 0, _, _, _, d => d
  | fuel + 1, p, off, n, d =>
    let d1 := wr64 p ⟨off, 31, 0⟩ (counterSum p (rd64 d p ⟨off, 31, 0⟩ + n)) d
    let watches := (tblListed d1 Page.tel 0).map Prod.fst
    let r := watches.foldl (fun r i => watchStep (p.base + off) n i r) (d1, 0)
    if r.2 = 0 then r.1
    else bumpAt fuel Page.tel (Reg.TEL_CNT.off + 40) r.2 r.1

/-- Add `n` to counter `k` of a page's counter block. -/
def bumpN (p : Page) (base : Fd) (k n : Nat) (d : Dev) : Dev :=
  if n = 0 then d else bumpAt 256 p (base.off + 8 * k) n d

/-- Count one event. -/
def bump (p : Page) (base : Fd) (k : Nat) (d : Dev) : Dev := bumpN p base k 1 d

/-! ### The journal (R434) -/

/-- Bytes of a journal half (R426). -/
def halfSize : Nat := 224 * 2 ^ 20

def activeHalf (d : Dev) : Half := if d.mgt.activeHalf = 0 then d.mgt.half0 else d.mgt.half1

def setActiveHalf (h : Half) (d : Dev) : Dev :=
  if d.mgt.activeHalf = 0 then { d with mgt := { d.mgt with half0 := h } }
  else { d with mgt := { d.mgt with half1 := h } }

/-- Flash bytes of a record, at 16-byte alignment (R434). -/
def recBytes (r : JRec) : Nat := ceilDiv (24 + r.value.length) 16 * 16

/-- JOURNAL_STAT as the active half stands (R439). -/
def journalStat (d : Dev) : Dev :=
  let h := activeHalf d
  wr Page.mgt Reg.MGT_JOURNAL_STAT_GEN h.gen (wr Page.mgt Reg.MGT_JOURNAL_STAT_FILL (h.fill * 100 / halfSize) d)

/-- Append a record (R434). -/
def journalAdd (type key : Nat) (delete good : Bool) (value : List Byte) (d : Dev) : Dev :=
  let r : JRec := { type := type, delete := delete, seq := d.mgt.nextSeq, key := key, value := value, good := good }
  let h := activeHalf d
  let d1 := setActiveHalf { h with recs := h.recs ++ [r], fill := h.fill + recBytes r } d
  journalStat (bump Page.mgt Reg.MGT_CNT 10 { d1 with mgt := { d1.mgt with nextSeq := d1.mgt.nextSeq + 1 } })

/-- The standing record of a TYPE and KEY: the highest SEQ, unless it is a DELETE (R435). -/
def standing (h : Half) (type key : Nat) : Option JRec :=
  let same := h.recs.filter (fun r => decide (r.type = type) && decide (r.key = key) && r.good)
  match same.reverse with
  | r :: _ => if r.delete then none else some r
  | [] => none

/-! ### Measurements (R429) -/

/-- Bytes of a digest, first byte first. -/
def digestBytes (h : BitVec 512) : List Byte := bytesBE 64 h.toNat

/-- Extend a measurement register: Mi becomes the SHA-512 of Mi followed by the data. -/
def extendM (i : Nat) (data : List Byte) (d : Dev) : Dev :=
  { d with mgt := { d.mgt with
      measure := d.mgt.measure.set i (Config.sha512 (digestBytes (d.mgt.measure.getD i 0) ++ data)) } }

/-! ### The fault log (R453, R464) -/

/-- Levels and actions of the log. -/
def lvSlice : Nat := 0
def lvBlock : Nat := 1
def lvRegion : Nat := 2
def lvChip : Nat := 3
def acCorrected : Nat := 1
def acSpare : Nat := 2
def acUnitFenced : Nat := 3
def acPageFailed : Nat := 4
def acRegionFenced : Nat := 5
def acFailStop : Nat := 6
def acPairChanged : Nat := 7

/-- A reported event: its level and action, the reporting page, the unit, the class and detail of the
cause, and the time from detection to the end of recovery in units of 100 ns. -/
structure FaultRec where
  level : Nat
  action : Nat
  page : Page
  unit : Nat
  cls : Nat
  detail : Nat
  recover : Nat
  deriving DecidableEq, Repr

def faultKey (f : FaultRec) : Nat := f.page.num * 65536 + f.unit

/-- Words of a fault-log entry (R464). -/
def faultWords (f : FaultRec) (ns seq : Nat) : List W32 :=
  [BitVec.ofNat 32 (2 ^ 31 + f.level * 2 ^ 28 + f.action * 2 ^ 24 + f.page.blk.code * 2 ^ 20 +
      f.page.inst * 2 ^ 8 + f.unit % 256),
   BitVec.ofNat 32 (f.cls * 2 ^ 27 + f.detail % 4096 * 2 ^ 12),
   lo32 ns, hi32 ns, BitVec.ofNat 32 (min f.recover 0xFFFF), BitVec.ofNat 32 seq]

/-- An event of the unit within 10 ms of its latest entry: count it in REPEAT (R453). -/
def faultRepeat (i : Nat) (d : Dev) : Dev :=
  let ws := tget d Page.pkg 0 i
  tset Page.pkg 0 i (setWBits ws 1 11 0 (min (wbits ws 1 11 0 + 1) 0xFFF)) d

/-- Write a new entry and its fault record (R453). -/
def faultEntry (now : W64) (f : FaultRec) (d : Dev) : Dev :=
  let i := rd d Page.pkg Reg.PKG_FAULT_HEAD_NEXT
  let seq := d.rst.faultSeq
  let ws := faultWords f (fabricNs d now) seq
  let d1 := tset Page.pkg 0 i ws d
  let d2 := wr Page.pkg Reg.PKG_FAULT_HEAD_NEXT ((i + 1) % 256) d1
  let d3 := doIf (decide (i = 255)) (wr Page.pkg Reg.PKG_FAULT_HEAD_WRAPPED 1) d2
  let d4 := { d3 with rst := { d3.rst with
    faultSeq := seq + 1,
    faultLast := sset (konst (0, 256)) d3.rst.faultLast (faultKey f) (now.toNat, i) } }
  let d5 := bump Page.pkg Reg.PKG_CNT (6 + f.level) d4
  journalAdd 3 (faultKey f) false true (ws.flatMap (fun w => bytesLE 4 w.toNat)) d5

/-- Log an event (R453): one entry and one fault record, at most one per unit in 10 ms, and PKG BLOCK_IRQ
bit 17. -/
def faultLog (now : W64) (f : FaultRec) (d : Dev) : Dev :=
  let last := sget (konst (0, 256)) d.rst.faultLast (faultKey f)
  let d1 :=
    if decide (last.2 < 256) && !elapsed now last.1 10000000 then faultRepeat last.2 d
    else faultEntry now f d
  raiseIrq Page.pkg 17 d1

end Sys2Proof.Machine
end

