-- ==== Sys2Proof/Machine/Operands.lean ====
section
/-! DEFINITION. The data commands carry: cells and their fields (R73 to R81), the checksums (R75, R90), tails
(R89), notifications (R92), coordinates (R85), virtual channels (R94), and the sampling record of a cell
(R470). -/

namespace Sys2Proof.Machine

/-! ### Checksums -/

/-- One bit of the CRC-16 of R75. -/
def crc16Bit (crc : Nat) (b : Bool) : Nat :=
  let top := (crc / 2 ^ 15 % 2 == 1) != b
  let sh := crc * 2 % 2 ^ 16
  if top then sh ^^^ 0x1021 else sh

def crc16Byte (crc : Nat) (b : Byte) : Nat :=
  [7, 6, 5, 4, 3, 2, 1, 0].foldl (fun c i => crc16Bit c (b.toNat / 2 ^ i % 2 == 1)) crc

/-- CRC-16, polynomial 0x1021, initial value 0xFFFF, no reflection, no final XOR (R75). -/
def crc16 (bs : List Byte) : Nat := bs.foldl crc16Byte 0xFFFF

/-- One byte of the reflected CRC-32C (R90). -/
def crc32cByte (crc : Nat) (b : Byte) : Nat :=
  [0, 1, 2, 3, 4, 5, 6, 7].foldl
    (fun c _ => if c % 2 = 1 then (c / 2) ^^^ 0x82F63B78 else c / 2) (crc ^^^ b.toNat)

/-- CRC-32C: reflected polynomial 0x1EDC_6F41, initial value and final XOR all ones (R90). -/
def crc32c (bs : List Byte) : Nat := bs.foldl crc32cByte 0xFFFFFFFF ^^^ 0xFFFFFFFF

/-! ### Cells -/

/-- Bits `[hi:lo]` of the header (R74). -/
def hb (c : Cell) (hi lo : Nat) : Nat := bitsOf c.hdr hi lo

def setHb (c : Cell) (hi lo v : Nat) : Cell := { c with hdr := withBits c.hdr hi lo v }

def cDst (c : Cell) : Nat := hb c 127 96
def cTc (c : Cell) : Nat := hb c 95 93
def cEsc (c : Cell) : Nat := hb c 92 92
def cColour (c : Cell) : Nat := hb c 91 90
def cEpoch (c : Cell) : Nat := hb c 89 89
def cOp (c : Cell) : Nat := hb c 88 84
def cBody (c : Cell) : Nat := hb c 83 16
def cHcrc (c : Cell) : Nat := hb c 15 0
/-- Data body (R79). -/
def cSrc (c : Cell) : Nat := hb c 83 52
def cMsgid (c : Cell) : Nat := hb c 51 36
def cSeq (c : Cell) : Nat := hb c 35 16
/-- Collective up body (R80). -/
def cMslotLo (c : Cell) : Nat := hb c 83 76
def cPhase (c : Cell) : Nat := hb c 75 72
def cGen0 (c : Cell) : Nat := hb c 71 71
def cCell (c : Cell) : Nat := hb c 70 64
def cScale (c : Cell) (i : Nat) : Nat := hb c (63 - 8 * i) (56 - 8 * i)
/-- MSLOT of a CUP cell: SUB bits of DST above MSLOT_LO (R80). -/
def cMslot (c : Cell) : Nat := cDst c % 2 ^ 14 * 256 + cMslotLo c

/-- Opcodes (R78). -/
def ocDATA : Nat := 0x01
def ocMROW : Nat := 0x02
def ocMCOL : Nat := 0x03
def ocDTAIL : Nat := 0x04
def ocA2A : Nat := 0x05
def ocNOTIFY : Nat := 0x06
def ocCUP : Nat := 0x08
def ocCTAIL_UP : Nat := 0x09
def ocCDN : Nat := 0x0A
def ocCTAIL_DN : Nat := 0x0B
def ocMEM_PUT : Nat := 0x10
def ocMEM_GET : Nat := 0x11
def ocMEM_ACC : Nat := 0x12
def ocMEM_FENCE : Nat := 0x13
def ocMEM_RSP : Nat := 0x14
def ocMGMT : Nat := 0x18
def ocTIME : Nat := 0x1C

/-- The opcode is listed (R78). -/
def opcodeKnown (op : Nat) : Bool :=
  [ocDATA, ocMROW, ocMCOL, ocDTAIL, ocA2A, ocNOTIFY, ocCUP, ocCTAIL_UP, ocCDN, ocCTAIL_DN, ocMEM_PUT,
   ocMEM_GET, ocMEM_ACC, ocMEM_FENCE, ocMEM_RSP, ocMGMT, ocTIME].contains op

/-- The traffic class is allowed for the opcode (R78). -/
def tcAllowed (op tc : Nat) : Bool :=
  if [ocDATA, ocMROW, ocMCOL, ocDTAIL].contains op then decide (tc ≤ 6)
  else if op = ocNOTIFY then true
  else if [ocA2A, ocCUP, ocCTAIL_UP, ocCDN, ocCTAIL_DN].contains op then decide (tc = 6)
  else if [ocMEM_PUT, ocMEM_GET, ocMEM_ACC, ocMEM_FENCE, ocMEM_RSP].contains op then decide (tc = 3)
  else decide (tc = 7)

/-- The opcode uses the data body (R78). -/
def dataBody (op : Nat) : Bool := !([ocCUP, ocCDN].contains op)

/-- The first 14 header bytes, in wire order. -/
def hdrBytes (c : Cell) : List Byte := bytesBE 16 c.hdr.toNat

def headCrc (c : Cell) : Nat := crc16 ((hdrBytes c).take 14)

/-- The cell with its HCRC recomputed (R75, R77). -/
def reseal (c : Cell) : Cell := setHb c 15 0 (headCrc c)

/-- Payload bytes in wire order (R73). -/
def payBytes (c : Cell) : List Byte := bytesBE 96 c.payload.toNat

def payloadOf (bs : List Byte) : BitVec 768 :=
  BitVec.ofNat 768 (natOfBE ((bs ++ List.replicate 96 0).take 96))

/-- The number in payload bytes `a` to `b`, most significant byte first. -/
def pb (c : Cell) (a b : Nat) : Nat := natOfBE ((payBytes c).drop a |>.take (b + 1 - a))

/-- The cell's 112 bytes, byte 0 first (R73), and back. -/
def cellBytes (c : Cell) : List Byte := hdrBytes c ++ payBytes c

def cellOfBytes (bs : List Byte) : Cell :=
  { hdr := BitVec.ofNat 128 (natOfBE (bs.take 16)), payload := payloadOf (bs.drop 16) }

/-- A header with the data body (R74, R79), HCRC computed. -/
def mkCell (dst tc op src msgid seq : Nat) (payload : List Byte) : Cell :=
  let h := dst % 2 ^ 32 * 2 ^ 96 + tc % 8 * 2 ^ 93 + op % 32 * 2 ^ 84 + src % 2 ^ 32 * 2 ^ 52 +
    msgid % 2 ^ 16 * 2 ^ 36 + seq % 2 ^ 20 * 2 ^ 16
  reseal { hdr := BitVec.ofNat 128 h, payload := payloadOf payload }

/-- Tail fields (R89). -/
def tCrc (c : Cell) : Nat := pb c 0 3
def tChunk (c : Cell) : Nat := pb c 4 7
def tGroup (c : Cell) : Nat := pb c 8 9
def tGen (c : Cell) : Nat := pb c 10 10
def tPhase (c : Cell) : Nat := pb c 11 11 / 16
def tLast (c : Cell) : Bool := pb c 11 11 / 8 % 2 == 1
def tMslot (c : Cell) : Nat := pb c 12 15 % 2 ^ 22
def tRtag (c : Cell) : Nat := pb c 16 17 % 2 ^ 13
def tCells (c : Cell) : Nat := pb c 18 18
def tValid (c : Cell) : Nat := pb c 19 19
def tWeight (c : Cell) : Nat := pb c 20 23

/-! ### Coordinates (R85, R86) -/

def coPlane (x : Nat) : Nat := x / 2 ^ 30 % 4
def coRow (x : Nat) : Nat := x / 2 ^ 24 % 64
def coCol (x : Nat) : Nat := x / 2 ^ 18 % 64
def coChassis (x : Nat) : Nat := x / 2 ^ 14 % 16
def coSub (x : Nat) : Nat := x % 2 ^ 14
/-- Destination-table entry of a coordinate (R86). -/
def coEntry (x : Nat) : Nat := x / 2 ^ 18 % 4096

/-- A service coordinate (R85). -/
def isService (x : Nat) : Bool := decide (coChassis x = 15)

/-- The device's own service coordinate (R134). -/
def selfCoord (d : Dev) : Nat :=
  rd d Page.fwd Reg.FWD_SELF_PLANE * 2 ^ 30 + rd d Page.fwd Reg.FWD_SELF_SPINE * 2 ^ 18 + 15 * 2 ^ 14

/-- DST names this device's services (R86). -/
def forSelf (d : Dev) (dst : Nat) : Bool := decide (dst / 2 ^ 14 = selfCoord d / 2 ^ 14)

/-! ### Virtual channels (R94) -/

def vcOf (tc esc : Nat) : Nat := 2 * tc + esc % 2

/-- Pinned classes (R94). -/
def pinnedTc (tc : Nat) : Bool := decide (tc = 4 ∨ tc = 5 ∨ tc = 7)

/-! ### Notifications (R92) -/

def ntUNREACHABLE : Nat := 1
def ntADMIT_DENIED : Nat := 2
def ntRESEND : Nat := 3
def ntFLUSHED : Nat := 4
def ntACCESS_DENIED : Nat := 5

/-- The header of a held cell as it was received (R92). The device writes only EPOCH, ESC and COLOUR of a cell it
holds, and HCRC anew only as it sends it (R77), so the held HCRC is the one received: it tells those four adjacent
bits. -/
def receivedHdr (c : Cell) : Cell :=
  match ((List.range 16).map (fun k => setHb c 92 89 k)).find? (fun x => decide (headCrc x = cHcrc x)) with
  | some x => x
  | none => c

/-- A NOTIFY cell about `cause`, addressed to `dst` (R92). -/
def notifyCell (d : Dev) (cause : Cell) (dst msgid seq reason detail : Nat) (info : List Byte) : Cell :=
  mkCell dst (cTc cause) ocNOTIFY (selfCoord d) msgid seq
    ([BitVec.ofNat 8 reason, BitVec.ofNat 8 detail, 0, 0] ++ hdrBytes (receivedHdr cause) ++ info)

/-- A NOTIFY about a cell with the data body: DST, MSGID and SEQ from that cell (R92). -/
def notifyAbout (d : Dev) (cause : Cell) (reason detail : Nat) (info : List Byte) : Cell :=
  notifyCell d cause (cSrc cause) (cMsgid cause) (cSeq cause) reason detail info

/-- A NOTIFY to the member behind a CUP cell: the group as MSGID, PHASE and CELL as SEQ (R92). -/
def notifyCup (d : Dev) (cause : Cell) (coord group reason detail : Nat) (info : List Byte) : Cell :=
  notifyCell d cause coord group (cPhase cause * 128 + cCell cause) reason detail info

/-! ### Buffer units -/

/-- Which die-service source is which (R189). -/
def mkBox (cell : Cell) (source num rxNs rxTick vc : Nat) : Box :=
  { cell := cell, source := source, num := num, rxNs := rxNs, rxTick := rxTick, acct := .none, vcIn := vc,
    counted := false, flow := none, tag := none, multi := false, job := none, headTick := rxTick }

/-- Take the next arrival number. -/
def nextNum (d : Dev) : Nat × Dev :=
  (d.sw.numNext, { d with sw := { d.sw with numNext := d.sw.numNext + 1 } })

/-! ### Cells moved, for the energy shares (R408) -/

/-- Cells received or sent in this interval. -/
def countCells (n : Nat) (d : Dev) : Dev := { d with pmc := { d.pmc with cellsMoved := d.pmc.cellsMoved + n } }

/-- A collective cell of a job's group received or sent in this interval. -/
def countJobCell (job : Option Nat) (d : Dev) : Dev :=
  match job with
  | some j => { d with pmc := { d.pmc with jobCells := supd (konst 0) d.pmc.jobCells j (· + 1) } }
  | none => d

/-! ### Sampling records (R470) -/

/-- A tag as the Colander leaves it: no stage reached. -/
def Tag0 : Tag :=
  { lookup := 0xFFFFFFFF, enq := 0xFFFFFFFF, grant := 0xFFFFFFFF, tx := 0xFFFFFFFF, outLane := 0xFFFF, copies := 0,
    ident := 0 }

def fateSent : Nat := 1
def fateService : Nat := 2
def fateAccumulated : Nat := 3
def fatePolice : Nat := 4
def fateMiss : Nat := 5
def fateStale : Nat := 6
def fateFlushed : Nat := 7
def fateReset : Nat := 8
def fateOther : Nat := 9

/-- Ticks from the receive timestamp, for a delta field. -/
def deltaNow (now : W64) (b : Box) : Nat := ticksSince now b.rxTick % 2 ^ 32

/-- Set a stage of the tag. -/
def tagSet (f : Tag → Tag) (b : Box) : Box := { b with tag := b.tag.map f }

/-- The record but NUM and CRC (R470): 56 bytes. -/
def recordBody (b : Box) (t : Tag) (fate core dCore : Nat) : List Byte :=
  let c := b.cell
  let up := decide (cOp c = ocCUP)
  let id := if up then t.ident + cCell c else cMsgid c * 65536 + cSeq c / 16
  bytesLE 4 (cDst c) ++ bytesLE 4 (if up then cMslot c else cSrc c) ++ bytesLE 1 (cOp c) ++
    bytesLE 1 (cTc c + 8 * cEsc c + 16 * cColour c + 64 * cEpoch c) ++
    bytesLE 2 (b.source % 1024) ++ bytesLE 2 t.outLane ++ bytesLE 1 fate ++ bytesLE 1 (min t.copies 255) ++
    bytesLE 8 b.rxNs ++ bytesLE 4 t.lookup ++ bytesLE 4 t.enq ++ bytesLE 4 t.grant ++ bytesLE 4 t.tx ++
    bytesLE 4 dCore ++ bytesLE 2 core ++ bytesLE 2 0 ++ bytesLE 4 id ++ bytesLE 4 0

/-- Put a finished record in its die's buffer of 4,096; drop and count it when the buffer is full (R473). -/
def pushRecord (die : Nat) (rec : List Byte) (d : Dev) : Dev :=
  let buf := if die = 0 then d.tel.waitA else d.tel.waitB
  if buf.length < 4096 then
    if die = 0 then { d with tel := { d.tel with waitA := d.tel.waitA ++ [rec] } }
    else { d with tel := { d.tel with waitB := d.tel.waitB ++ [rec] } }
  else raiseIrq Page.tel 19 (bump Page.tel Reg.TEL_CNT 2 d)

/-- The end of a cell's life in the device: a tagged cell leaves its one record (R470). -/
def endLife (b : Box) (fate : Nat) (d : Dev) : Dev :=
  match b.tag with
  | none => d
  | some t => pushRecord (dieOfSource b.source) (recordBody b t fate 0xFFFF 0xFFFFFFFF) d

/-- The record of a tagged contribution cell whose accumulate run core `n` retired (R470). -/
def endLifeCore (now : W64) (b : Box) (core : Nat) (d : Dev) : Dev :=
  match b.tag with
  | none => d
  | some t =>
    pushRecord (dieOfSource b.source) (recordBody b t fateAccumulated core (deltaNow now b)) d

end Sys2Proof.Machine
end

