-- ==== Sys2Proof/Machine/Numbers.lean ====
section
/-! DEFINITION. Number formats and arithmetic (ch. 10): the element formats (R274, R279), block scales (R282
to R284, R493), the accumulator format and its operations (R285 to R288), conversion (R289 to R291),
quantisation (R292 to R295) and coefficient expansion (R296, R297). Values are exact dyadic numbers; each
operation rounds once where its rule says. -/

namespace Sys2Proof.Machine

/-! ### Arithmetic events: bit numbers of ARITH_FLAGS (R298) -/

def evINVALID : Nat := 0
def evNAN_IN : Nat := 1
def evNAN_SCALE : Nat := 2
def evOVERFLOW : Nat := 3
def evUNDERFLOW : Nat := 4
def evTO_ZERO : Nat := 5
def evSCALE_HI : Nat := 6
def evSCALE_LO : Nat := 7
def evINF_BLOCK : Nat := 8
def evINT_SAT : Nat := 9
def evINEXACT : Nat := 10
def evEXPAND_SAT : Nat := 11

/-! ### Formats (R274, R279) -/

/-- A floating-point format: width, exponent bits, mantissa bits, bias, and whether it has infinities. -/
structure FFmt where
  width : Nat
  ebits : Nat
  mbits : Nat
  bias : Nat
  hasInf : Bool
  deriving DecidableEq, Repr

/-- The format of a code of R274; code 5, INT32, has none. -/
def ffmt (code : Nat) : FFmt :=
  match code with
  | 0 => ⟨32, 8, 23, 127, true⟩
  | 1 => ⟨16, 5, 10, 15, true⟩
  | 2 => ⟨6, 2, 3, 1, false⟩
  | 3 => ⟨6, 3, 2, 3, false⟩
  | _ => ⟨4, 2, 1, 1, false⟩

def fmtINT32 : Nat := 5

/-- Bits of an element (R274). -/
def fmtWidth (code : Nat) : Nat := if code = fmtINT32 then 32 else (ffmt code).width

/-- The format needs a block scale (R274). -/
def isBlockFmt (code : Nat) : Bool := decide (2 ≤ code ∧ code ≤ 4)

/-- Elements of a cell, the active lane count E (R83, R308). -/
def fmtLanes (code : Nat) : Nat := 768 / fmtWidth code

/-- Significand bits, with the implicit bit (R279). -/
def FFmt.prec (f : FFmt) : Nat := f.mbits + 1
/-- Exponent of the smallest normal value (R279). -/
def FFmt.emin (f : FFmt) : Int := 1 - f.bias
/-- Exponent of the largest finite value: the short formats use every exponent code (R279). -/
def FFmt.emax (f : FFmt) : Int :=
  if f.hasInf then (f.bias : Int) else (2 ^ f.ebits : Nat) - 1 - (f.bias : Int)

/-! ### Exact magnitudes -/

/-- A magnitude as a fraction of naturals; the denominator is not 0. -/
structure Mag where
  num : Nat
  den : Nat
  deriving DecidableEq, Repr

/-- `mant × 2^exp`. -/
def Mag.dyadic (mant : Nat) (exp : Int) : Mag :=
  if 0 ≤ exp then ⟨mant * 2 ^ exp.toNat, 1⟩ else ⟨mant, 2 ^ (-exp).toNat⟩

/-- The magnitude times `2^k`. -/
def Mag.shift (m : Mag) (k : Int) : Mag :=
  if 0 ≤ k then ⟨m.num * 2 ^ k.toNat, m.den⟩ else ⟨m.num, m.den * 2 ^ (-k).toNat⟩

def Mag.le (a b : Mag) : Bool := decide (a.num * b.den ≤ b.num * a.den)

/-- floor(log2) of a nonzero magnitude. -/
def Mag.log2 (m : Mag) : Int :=
  let l : Int := (Nat.log2 m.num : Int) - (Nat.log2 m.den : Int)
  if Mag.le (Mag.dyadic 1 l) m then l else l - 1

/-- The integer of R291's `q`, by round-half-even, or against a 16-bit draw (R290). -/
def Mag.toInt (m : Mag) (draw : Option Nat) : Nat :=
  let f := m.num / m.den
  let r := m.num % m.den
  match draw with
  | some u => if r = 0 then f else if u < 65536 * r / m.den then f + 1 else f
  | none => if m.den < 2 * r ∨ (2 * r = m.den ∧ f % 2 = 1) then f + 1 else f

/-- A nonzero magnitude rounded to `p` significand bits with exponents from `emin` (none: unbounded), as
`n × 2^u`; and whether the rounding was exact. -/
def Mag.round (m : Mag) (p : Nat) (emin : Option Int) (draw : Option Nat) : Nat × Int × Bool :=
  let e0 := m.log2
  let e : Int := match emin with | some b => max e0 b | none => e0
  let u := e - p + 1
  let q := m.shift (-u)
  (q.toInt draw, u, decide (q.num % q.den = 0))

/-! ### The accumulator format (R285) -/

def accZero (neg : Bool) : Acc := .fin neg 0 0

/-- A finite value, zero in one form. -/
def accFin (neg : Bool) (mant : Nat) (exp : Int) : Acc := if mant = 0 then accZero neg else .fin neg mant exp

/-- One rounding to the accumulator format: round-to-nearest-even, 24 bits, exponents −2046 to 2047 with
subnormals, infinity beyond (R285, R286). -/
def accRound (neg : Bool) (m : Mag) : Acc :=
  if m.num = 0 then accZero neg
  else
    let r := m.round 24 (some (-2046)) none
    if Mag.le (Mag.dyadic 1 2048) (Mag.dyadic r.1 r.2.1) then .inf neg else accFin neg r.1 r.2.1

def accIsZero : Acc → Bool
  | .fin _ m _ => m == 0
  | _ => false

def accNeg : Acc → Bool
  | .fin n _ _ => n
  | .inf n => n
  | .nan => false

def accIsNan : Acc → Bool
  | .nan => true
  | _ => false

def accIsInf : Acc → Bool
  | .inf _ => true
  | _ => false

def signedMant (neg : Bool) (m : Nat) : Int := if neg then -(m : Int) else (m : Int)

/-- The exact sum of two signed dyadic values, rounded once; an exact zero is −0 only when both addends are
negative zeros or their like (R286). -/
def addDyadic (n1 : Bool) (m1 : Nat) (e1 : Int) (n2 : Bool) (m2 : Nat) (e2 : Int) : Acc :=
  let e := min e1 e2
  let s := signedMant n1 m1 * (2 ^ (e1 - e).toNat : Nat) + signedMant n2 m2 * (2 ^ (e2 - e).toNat : Nat)
  if s = 0 then accZero (n1 && n2) else accRound (decide (s < 0)) (Mag.dyadic s.natAbs e)

/-- A + B; the second component tells INVALID (R286, R287). -/
def accAdd (a b : Acc) : Acc × Bool :=
  match a, b with
  | .nan, _ => (.nan, false)
  | _, .nan => (.nan, false)
  | .inf x, .inf y => if x = y then (.inf x, false) else (.nan, true)
  | .inf x, _ => (.inf x, false)
  | _, .inf y => (.inf y, false)
  | .fin n1 m1 e1, .fin n2 m2 e2 => (addDyadic n1 m1 e1 n2 m2 e2, false)

/-- The exact product of two values, finite or not (R287): none where it is 0 × ∞ or a NaN. -/
def accProduct (a b : Acc) : Option Acc :=
  match a, b with
  | .nan, _ => none
  | _, .nan => none
  | .inf x, .inf y => some (.inf (x != y))
  | .inf x, .fin y m _ => if m = 0 then none else some (.inf (x != y))
  | .fin x m _, .inf y => if m = 0 then none else some (.inf (x != y))
  | .fin n1 m1 e1, .fin n2 m2 e2 => some (.fin (n1 != n2) (m1 * m2) (e1 + e2))

/-- A × B, rounded once (R295). -/
def accMul (a b : Acc) : Acc × Bool :=
  match accProduct a b with
  | none => (.nan, !accIsNan a && !accIsNan b)
  | some (.fin n m e) => (accRound n (Mag.dyadic m e), false)
  | some v => (v, false)

/-- A × B + C, fused, rounded once (R286, R287). -/
def accFma (a b c : Acc) : Acc × Bool :=
  if accIsNan a || accIsNan b || accIsNan c then (.nan, false)
  else
    match accProduct a b with
    | none => (.nan, true)
    | some p => accAdd p c

/-- Order of two values that are not NaN, −0 below +0 (R286). -/
def accLe (a b : Acc) : Bool :=
  match a, b with
  | .inf true, _ => true
  | _, .inf false => true
  | .inf false, _ => false
  | _, .inf true => false
  | .fin n1 m1 e1, .fin n2 m2 e2 =>
    let e := min e1 e2
    let x := signedMant n1 m1 * (2 ^ (e1 - e).toNat : Nat)
    let y := signedMant n2 m2 * (2 ^ (e2 - e).toNat : Nat)
    decide (x < y) || (decide (x = y) && (n1 || !n2))
  | .nan, _ => false
  | _, .nan => false

def accMax (a b : Acc) : Acc :=
  if accIsNan a || accIsNan b then .nan else if accLe a b then b else a

def accMin (a b : Acc) : Acc :=
  if accIsNan a || accIsNan b then .nan else if accLe a b then a else b

/-- A / n, rounded once (R286); IEEE 754 division where n is 0. -/
def accDiv (a : Acc) (n : Nat) : Acc × Bool :=
  match a with
  | .fin neg m e =>
    if n = 0 then (if m = 0 then (.nan, true) else (.inf neg, false))
    else if m = 0 then (a, false)
    else
      let x := Mag.dyadic m e
      (accRound neg ⟨x.num, x.den * n⟩, false)
  | v => (v, false)

/-- A × 2^k (POW2, R315). -/
def accPow2 (a : Acc) (k : Int) : Acc :=
  match a with
  | .fin neg m e => if m = 0 then a else accRound neg (Mag.dyadic m (e + k))
  | v => v

/-- A 64-bit integer rounded once to the accumulator format (R494). -/
def accOfInt (v : W64) : Acc :=
  if v = 0 then accZero false else accRound (decide (v.toInt < 0)) ⟨v.toInt.natAbs, 1⟩

/-- The integer part, truncated toward zero and saturated to 64 bits (R494). -/
def intOfAcc (a : Acc) : W64 :=
  match a with
  | .nan => 0
  | .inf true => BitVec.ofNat 64 (2 ^ 63)
  | .inf false => BitVec.ofNat 64 (2 ^ 63 - 1)
  | .fin neg m e =>
    let x := Mag.dyadic m e
    let t := x.num / x.den
    if neg then BitVec.ofInt 64 (-(min t (2 ^ 63) : Nat)) else BitVec.ofNat 64 (min t (2 ^ 63 - 1))

/-! ### Decoding (R277 to R284) -/

/-- An element code's value, its NaN events included (R277, R279, R298). -/
def decodeCode (fmt code : Nat) : Acc × List Nat :=
  let f := ffmt fmt
  let neg := decide (code / 2 ^ (f.width - 1) % 2 = 1)
  let e := code / 2 ^ f.mbits % 2 ^ f.ebits
  let m := code % 2 ^ f.mbits
  if f.hasInf ∧ e = 2 ^ f.ebits - 1 then
    if m = 0 then (.inf neg, [])
    else (.nan, if m / 2 ^ (f.mbits - 1) = 0 then [evINVALID, evNAN_IN] else [evNAN_IN])
  else if e = 0 then (accFin neg m (f.emin - f.mbits), [])
  else (accFin neg (2 ^ f.mbits + m) ((e : Int) - f.bias - f.mbits), [])

/-- A block's scale as `mant × 2^exp`; none for the NaN mark. Scale format 2 is S-E5M3, any other S-E8
(R282, R283, R493). -/
def scaleValue (sfmt byte : Nat) : Option (Nat × Int) :=
  if byte % 256 = 255 then none
  else if sfmt = 2 then
    let e := byte / 8 % 32
    if e = 0 then some (byte % 8, -17) else some (8 + byte % 8, (e : Int) - 18)
  else some (1, (byte % 256 : Nat) - (127 : Int))

/-- An element under its block's scale (R284); a NaN scale makes it NaN. -/
def scaleCode (fmt sfmt scale code : Nat) : Acc :=
  match scaleValue sfmt scale with
  | none => .nan
  | some (sm, se) =>
    match (decodeCode fmt code).1 with
    | .fin neg m e => accFin neg (m * sm) (e + se)
    | v => v

/-- The code of element `i` of a payload: elements are packed from the most significant bit down (R83). -/
def payCode (fmt : Nat) (payload : BitVec 768) (i : Nat) : Nat :=
  let w := fmtWidth fmt
  payload.toNat / 2 ^ (768 - w * (i + 1)) % 2 ^ w

/-- The value of a code lane, as DEQ decodes it, without its events (R494). -/
def codeValue (fmt bits scale sfmt : Nat) : Lane :=
  if fmt = fmtINT32 then .int (BitVec.ofInt 64 (signedOf 32 bits))
  else if isBlockFmt fmt then .acc (scaleCode fmt sfmt scale bits)
  else .acc (decodeCode fmt bits).1

/-- The lanes of a cell, with codes and scale bytes unchanged (LD IN, R315). -/
def cellCodes (fmt sfmt : Nat) (payload : BitVec 768) (scales : List Nat) : List Lane :=
  (List.range (fmtLanes fmt)).map (fun i =>
    .code fmt (payCode fmt payload i) (if isBlockFmt fmt then scales.getD (i / 32) 0 else 0) sfmt)

def decodeLane (l : Lane) : Lane :=
  match l with
  | .code f b s sf => codeValue f b s sf
  | v => v

/-- Events of decoding a cell (R284, R298): a NaN scale once per block, NaN elements one each. -/
def decodeEvents (fmt : Nat) (payload : BitVec 768) (scales : List Nat) : List Nat :=
  if fmt = fmtINT32 then []
  else if isBlockFmt fmt then
    (List.range (fmtLanes fmt / 32)).flatMap
      (fun b => if scales.getD b 0 % 256 = 255 then [evNAN_SCALE] else [])
  else (List.range (fmtLanes fmt)).flatMap (fun i => (decodeCode fmt (payCode fmt payload i)).2)

/-! ### Reading lanes (R310, R494) -/

/-- The lane is EMPTY. -/
def laneEmpty : Lane → Bool
  | .empty => true
  | _ => false

/-- A lane as an accumulator value; EMPTY as +0. -/
def laneAcc (l : Lane) : Acc :=
  match decodeLane l with
  | .acc v => v
  | .int v => accOfInt v
  | _ => accZero false

/-- A lane as a 64-bit integer; EMPTY as 0. -/
def laneInt (l : Lane) : W64 :=
  match decodeLane l with
  | .acc v => intOfAcc v
  | .int v => v
  | _ => 0

/-! ### Conversion (R289 to R294) -/

def infCode (f : FFmt) (neg : Bool) : Nat :=
  (if neg then 2 ^ (f.width - 1) else 0) + (2 ^ f.ebits - 1) * 2 ^ f.mbits

/-- The canonical quiet NaN (R277). -/
def nanCode (f : FFmt) : Nat := (2 ^ f.ebits - 1) * 2 ^ f.mbits + 2 ^ (f.mbits - 1)

/-- The code of `n × 2^u`, for n at most 2^P and u at least the subnormal step. -/
def encodeCode (f : FFmt) (neg : Bool) (n : Nat) (u : Int) : Nat :=
  let s := if neg then 2 ^ (f.width - 1) else 0
  if n < 2 ^ f.mbits then s + n
  else
    let n' := if n = 2 ^ (f.mbits + 1) then 2 ^ f.mbits else n
    let u' := if n = 2 ^ (f.mbits + 1) then u + 1 else u
    s + (u' + f.mbits + f.bias).toNat * 2 ^ f.mbits + (n' - 2 ^ f.mbits)

/-- The code of FMAX with a sign. -/
def maxCode (f : FFmt) (neg : Bool) : Nat :=
  encodeCode f neg (2 ^ f.prec - 1) (f.emax - f.mbits)

/-- FMAX as a magnitude (R279). -/
def fmax (f : FFmt) : Mag := Mag.dyadic (2 ^ f.prec - 1) (f.emax - f.mbits)

/-- The value is tiny (R291): judged after rounding to P bits with an unbounded exponent. -/
def isTiny (f : FFmt) (m : Mag) : Bool :=
  let r := m.round f.prec none none
  !(Mag.le (Mag.dyadic 1 f.emin) (Mag.dyadic r.1 r.2.1))

/-- R291 for a nonzero finite magnitude: the code and its events. `draw` is none under RNE. -/
def convertMag (f : FFmt) (neg : Bool) (m : Mag) (draw : Option Nat) (ovfInf : Bool) : Nat × List Nat :=
  let r := m.round f.prec (some f.emin) draw
  let ev1 :=
    if r.2.2 then []
    else [evINEXACT] ++ (if isTiny f m then [evUNDERFLOW] else []) ++ (if r.1 = 0 then [evTO_ZERO] else [])
  if !(Mag.le (Mag.dyadic r.1 r.2.1) (fmax f)) then
    (if ovfInf && f.hasInf then infCode f neg else maxCode f neg, ev1 ++ [evOVERFLOW])
  else (encodeCode f neg r.1 r.2.1, ev1)

/-- R291 for FP32 and FP16 targets. -/
def convertAcc (fmt : Nat) (v : Acc) (draw : Option Nat) (ovfInf : Bool) : Nat × List Nat :=
  let f := ffmt fmt
  match v with
  | .nan => (nanCode f, [])
  | .inf neg => (infCode f neg, [])
  | .fin neg m e =>
    if m = 0 then (if neg then 2 ^ (f.width - 1) else 0, [])
    else convertMag f neg (Mag.dyadic m e) draw ovfInf

/-- INT32 output (R288): saturated, with INT_SAT. -/
def convertInt (v : W64) : Nat × List Nat :=
  if v.toInt < -2147483648 then (0x80000000, [evINT_SAT])
  else if 2147483647 < v.toInt then (0x7FFFFFFF, [evINT_SAT])
  else (v.toNat % 2 ^ 32, [])

/-- The value of a scale byte that is not the NaN mark. -/
def scaleMag (sfmt byte : Nat) : Mag :=
  match scaleValue sfmt byte with
  | some (m, e) => Mag.dyadic m e
  | none => ⟨0, 1⟩

def magMul (a b : Mag) : Mag := ⟨a.num * b.num, a.den * b.den⟩
def magDiv (a b : Mag) : Mag := ⟨a.num * b.den, a.den * b.num⟩

/-- Smallest e with A at most FMAX × 2^e. -/
def fitExp (a : Mag) (f : FFmt) : Int :=
  let q := magDiv a (fmax f)
  if Mag.le q (Mag.dyadic 1 q.log2) then q.log2 else q.log2 + 1

/-- R292's scale choice: the scale byte and its events. -/
def fitScale (a : Mag) (f : FFmt) (sfmt : Nat) : Nat × List Nat :=
  if a.num = 0 then (0, [])
  else if sfmt = 2 then
    if !(Mag.le a (magMul (fmax f) ⟨114688, 1⟩)) then (0xFE, [evSCALE_HI])
    else
      let lo := if Mag.le a ((fmax f).shift (-18)) then [evSCALE_LO] else []
      let c := ((List.range 254).map (· + 1)).find? (fun c => Mag.le a (magMul (fmax f) (scaleMag 2 c)))
      (c.getD 0xFE, lo)
  else
    let e := fitExp a f
    if 127 < e then (254, [evSCALE_HI])
    else if e < -127 then (0, [evSCALE_LO])
    else ((e + 127).toNat, [])

def magMax (a b : Mag) : Mag := if Mag.le a b then b else a

/-- The largest finite magnitude a block of the format can stand for (R294). -/
def blockLimit (f : FFmt) (sfmt : Nat) : Mag :=
  magMul (fmax f) (if sfmt = 2 then ⟨114688, 1⟩ else Mag.dyadic 1 127)

/-- A block value's sign and magnitude; an infinity becomes the block's limit (R294). -/
def blockMag (f : FFmt) (sfmt : Nat) (v : Acc) : Bool × Mag :=
  match v with
  | .fin neg m e => (neg, Mag.dyadic m e)
  | .inf neg => (neg, blockLimit f sfmt)
  | .nan => (false, ⟨0, 1⟩)

/-- One element of a quantised block (R292). -/
def quantOne (f : FFmt) (sc : Mag) (x : Bool × Mag) (draw : Option Nat) : Nat × List Nat :=
  if x.2.num = 0 then (if x.1 then 2 ^ (f.width - 1) else 0, [])
  else convertMag f x.1 (magDiv x.2 sc) draw false

/-- A block quantised to a short format (R292 to R294): its scale byte, its codes and its events. -/
def quantise (fmt sfmt : Nat) (vs : List Acc) (draws : List (Option Nat)) (ovfInf : Bool) :
    Nat × List Nat × List Nat :=
  let f := ffmt fmt
  let hasNan := vs.any accIsNan
  let hasInf := vs.any accIsInf
  let infEv := if hasInf then [evINF_BLOCK] else []
  if hasNan || (hasInf && ovfInf) then (255, vs.map (fun _ => 0), infEv)
  else
    let xs := vs.map (blockMag f sfmt)
    let satEv := (vs.filter accIsInf).map (fun _ => evOVERFLOW)
    let s := fitScale (xs.foldl (fun a x => magMax a x.2) ⟨0, 1⟩) f sfmt
    let qs := (xs.zip draws).map (fun x => quantOne f (scaleMag sfmt s.1) x.1 x.2)
    (s.1, qs.map Prod.fst, satEv ++ s.2 ++ infEv ++ qs.flatMap Prod.snd)

/-! ### Coefficient expansion (R296, R297) -/

/-- (q − z) × s, rounded once to FP16: the code and its events. -/
def expandCode (q z : Int) (s : Nat) : Nat × List Nat :=
  let f := ffmt 1
  match decodeCode 1 s with
  | (.nan, ev) => (nanCode f, ev)
  | (.inf neg, _) => if q = z then (nanCode f, [evINVALID]) else (infCode f (neg != decide (q < z)), [])
  | (.fin neg m e, _) =>
    let d := q - z
    let sg := neg != decide (d < 0)
    let x := Mag.dyadic (d.natAbs * m) e
    if x.num = 0 then (if sg then 2 ^ 15 else 0, [])
    else
      let r := x.round 11 (some (-14)) none
      let ev := if r.2.2 then [] else [evINEXACT]
      if !(Mag.le (Mag.dyadic r.1 r.2.1) (fmax f)) then (maxCode f sg, ev ++ [evEXPAND_SAT])
      else (encodeCode f sg r.1 r.2.1, ev)

/-- An entry of the INT4 table as taken (R296). -/
def expandTable (v : Nat) : Nat := if v / 1024 % 32 = 31 ∧ v % 1024 ≠ 0 then 0x7E00 else v

end Sys2Proof.Machine
end

