-- ==== Sys2Proof/Machine/Recipes.lean ====
section
/-! DEFINITION. Recipes: the recipe store with its two versions (R311, R323), the checks of a LOAD (R317), and
the run of one section on one cell position (R308 to R316, R494), with the beats of its slots (R319). -/

namespace Sys2Proof.Machine

/-! ### The recipe and tile stores (R323, R324) -/

/-- The store (0 or 1) that holds a slot's active version; 1 until a LOAD exchanges them. -/
def activeStore (d : Dev) (slot : Nat) : Nat := sget (konst 1) d.ldl.active slot

/-- The store that table index V names: 1 the active version, 0 the staging version. -/
def storeOf (d : Dev) (slot v : Nat) : Nat := if v = 1 then activeStore d slot else 1 - activeStore d slot

/-- Stored words of entry `k` of a slot in a store. -/
def recipeWords (d : Dev) (store slot k : Nat) : List W32 :=
  tget d (Page.region 0) 0 (store * 32768 + slot * 128 + k)

def recipeStep (d : Dev) (store slot k : Nat) : Step := Step.decode (word64 (recipeWords d store slot k) 0)

/-- The 64 steps of a version. -/
def recipeOf (d : Dev) (store slot : Nat) : List Step := (List.range 64).map (recipeStep d store slot)

/-- Constant K[i] (R311). -/
def constOf (d : Dev) (store slot i : Nat) : Nat := (word (recipeWords d store slot (64 + i % 16)) 0).toNat

/-- Coefficient T[i][j] of a tile, an FP16 code (R324). -/
def tileCoeff (d : Dev) (t i j : Nat) : Nat :=
  let ws := tget d (Page.region 0) 1 (t * 128 + 2 * i + j / 32)
  wbits ws (j % 32 / 2) (16 * (j % 2) + 15) (16 * (j % 2))

/-! ### The checks of a LOAD (R317) -/

def opListed (op : Nat) : Bool := decide (op ≤ 0x0F ∨ op = 0x1F)

/-- FMT, MODE, SP and TILE are listed for the step (R314, R315); an unused field is 0 (R313). -/
def fieldsListed (s : Step) : Bool :=
  let z := decide (s.mode = 0) && decide (s.sp = 0) && decide (s.tile = 0)
  let noSp := decide (s.sp = 0) && decide (s.tile = 0)
  if s.op = opNOP ∨ s.op = opEND ∨ s.op = opCRC then decide (s.fmt = 0) && z
  else if s.op = opLD then
    decide (s.mode = 0) && decide (s.tile = 0) &&
      (if s.sp = 3 then decide (s.fmt = 0 ∨ s.fmt = 5 ∨ s.fmt = 6)
       else decide (s.sp ≤ 1) && decide (s.fmt = 0))
  else if s.op = opST then
    decide (s.mode = 0) && decide (s.tile = 0) && decide (s.sp = 1 ∨ s.sp = 2) && decide (s.fmt = 0)
  else if s.op = opDEQ then z && decide (s.fmt = 7)
  else if s.op = opADD then noSp && decide (s.fmt = 5 ∨ (s.fmt = 6 ∧ s.mode = 0))
  else if s.op = opMUL ∨ s.op = opFMA ∨ s.op = opMAX ∨ s.op = opMIN then
    z && decide (s.fmt = 5 ∨ s.fmt = 6)
  else if s.op = opSEL then noSp && decide (s.fmt = 6 ∨ (s.fmt = 5 ∧ s.mode ≠ 3))
  else if s.op = opWSUM then z && decide (s.fmt = 6)
  else if s.op = opSCALE then noSp && decide (s.fmt = 6) && decide (s.mode ≠ 3)
  else if s.op = opCVT then noSp && decide (s.fmt = 0 ∨ s.fmt = 1 ∨ s.fmt = 5 ∨ s.fmt = 7)
  else if s.op = opQNT then noSp && decide (s.fmt = 2 ∨ s.fmt = 3 ∨ s.fmt = 4 ∨ s.fmt = 7)
  else
    decide (s.mode = 0) &&
      ((decide (s.sp = 1) && decide (s.fmt = 7)) || (decide (s.sp = 0) && decide (s.fmt ≤ 1)))

/-- Registers a step reads. -/
def stepReads (s : Step) : List Nat :=
  if s.op = opADD ∨ s.op = opMUL ∨ s.op = opMAX ∨ s.op = opMIN ∨ s.op = opWSUM then [s.a, s.b]
  else if s.op = opFMA ∨ s.op = opSEL then [s.a, s.b, s.c]
  else if s.op = opST ∨ s.op = opSCALE ∨ s.op = opCVT ∨ s.op = opQNT ∨ (s.op = opXFM ∧ s.sp = 0) then [s.a]
  else []

/-- The step writes its D register. -/
def stepWrites (s : Step) : Bool :=
  !(decide (s.op = opNOP ∨ s.op = opST ∨ s.op = opCRC ∨ s.op = opEND))

/-- The latest step before position `k` of a section that wrote a register. -/
def lastWriter (sec : List (Nat × Step)) (k r : Nat) : Option Step :=
  ((sec.filter (fun x => decide (x.1 < k) && stepWrites x.2 && decide (x.2.d = r))).getLast?).map Prod.snd

/-- The accumulate and finish sections of a version, with step numbers, their ENDs left out. -/
def accSteps (rs : List Step) : List (Nat × Step) :=
  ((rs.zipIdx).map (fun x => (x.2, x.1))).takeWhile (fun x => x.2.op != opEND)

def afterAcc (rs : List Step) : List (Nat × Step) :=
  ((rs.zipIdx).map (fun x => (x.2, x.1))).drop ((accSteps rs).length + 1)

def finSteps (rs : List Step) : List (Nat × Step) := (afterAcc rs).takeWhile (fun x => x.2.op != opEND)

def afterFin (rs : List Step) : List (Nat × Step) := (afterAcc rs).drop ((finSteps rs).length + 1)

def firstStep (l : List (Nat × Step)) (bad : Step → Bool) : Option Nat :=
  (l.find? (fun x => bad x.2)).map Prod.fst

def isStOut (s : Step) : Bool := decide (s.op = opST) && decide (s.sp = 2)
def isStAcc (s : Step) : Bool := decide (s.op = opST) && decide (s.sp = 1)
def isLd (sp : Nat) (s : Step) : Bool := decide (s.op = opLD) && decide (s.sp = sp)
def isConv (s : Step) : Bool := decide (s.op = opCVT ∨ s.op = opQNT)

def recipeBad1 (s : Step) : Bool :=
  !(opListed s.op && decide (s.d % 2 = 0 ∧ s.a % 2 = 0 ∧ s.b % 2 = 0 ∧ s.c % 2 = 0))

def check2 (rs : List Step) : Option Nat :=
  if (afterAcc rs).length ≤ (finSteps rs).length then some 63
  else firstStep (afterFin rs) (fun s => s.op != opNOP)

def check4 (rs : List Step) : Option Nat :=
  (firstStep (accSteps rs) (fun s =>
      isStOut s || decide (s.op = opCRC) || (decide (s.op = opSCALE) && decide (s.mode = 2)))).or
    (firstStep (finSteps rs) (fun s =>
      decide (s.op = opDEQ ∨ s.op = opWSUM) || isLd 0 s || (decide (s.op = opXFM) && decide (s.sp = 1))))

/-- The first step of a section that reads a register no earlier step of it wrote. -/
def unwritten (sec : List (Nat × Step)) : Option Nat :=
  (sec.find? (fun x => (stepReads x.2).any (fun r => (lastWriter sec x.1 r).isNone))).map Prod.fst

def check5 (rs : List Step) : Option Nat := (unwritten (accSteps rs)).or (unwritten (finSteps rs))

/-- Check 6, with the step R337 names. -/
def check6 (rs : List Step) : Option Nat :=
  let outs := ((finSteps rs).filter (fun x => isStOut x.2)).map Prod.fst
  let crcs := ((finSteps rs).filter (fun x => decide (x.2.op = opCRC))).map Prod.fst
  let early := match outs, crcs with
    | o :: _, c :: _ => if c < o then [c] else []
    | _, _ => []
  let bad := (outs.drop 1).take 1 ++ (crcs.drop 1).take 1 ++ early
  match bad with
  | b :: bs => some (bs.foldl min b)
  | [] =>
    if outs.isEmpty || crcs.isEmpty then some ((accSteps rs).length + 1 + (finSteps rs).length) else none

/-- A copy recipe (R317): every ST ACC stores a register last written by LD IN. -/
def copyRecipe (rs : List Step) : Bool :=
  let ok := fun (sec : List (Nat × Step)) =>
    sec.all (fun x => !isStAcc x.2 || ((lastWriter sec x.1 x.2.a).map (isLd 0)).getD false)
  ok (accSteps rs) && ok (finSteps rs)

def check7 (rs : List Step) : Option Nat :=
  let sec := finSteps rs
  (sec.find? (fun x => isStOut x.2 &&
    !(((lastWriter sec x.1 x.2.a).map (fun w => isConv w || (copyRecipe rs && isLd 1 w))).getD false))).map Prod.fst

def badStAcc (sec : List (Nat × Step)) : Option Nat :=
  (sec.find? (fun x => isStAcc x.2 && ((lastWriter sec x.1 x.2.a).map isConv).getD false)).map Prod.fst

def check8 (rs : List Step) : Option Nat := (badStAcc (accSteps rs)).or (badStAcc (finSteps rs))

/-- The first check of R317 that fails, with the step R337 reports. -/
def checkRecipe (rs : List Step) : Option (Nat × Nat) :=
  let all := (rs.zipIdx).map (fun x => (x.2, x.1))
  let checks : List (Nat × Option Nat) :=
    [(1, firstStep all recipeBad1), (2, check2 rs), (3, firstStep all (fun s => !fieldsListed s)),
     (4, check4 rs), (5, check5 rs), (6, check6 rs), (7, check7 rs), (8, check8 rs)]
  (checks.find? (fun c => c.2.isSome)).map (fun c => (c.1, c.2.getD 0))

/-- Tiles that the version's XFM steps name, for USE (R324). -/
def tilesOf (rs : List Step) : List Nat :=
  ((rs.filter (fun s => s.op == opXFM)).map (fun s => s.tile)).eraseDups

/-- The accumulate section has a WSUM step (R248, R312). -/
def hasWsum (rs : List Step) : Bool := (accSteps rs).any (fun x => x.2.op == opWSUM)

/-! ### A run (R308 to R316) -/

/-- What a run is given: formats and marking, its cell, the contribution's weight, the contribution count,
and the recipe version. -/
structure RunEnv where
  inFmt : Nat
  outFmt : Nat
  sfmt : Nat
  highPrec : Bool
  payload : BitVec 768
  scales : List Nat
  weight : Nat
  count : Nat
  store : Nat
  slot : Nat
  deriving DecidableEq, Repr

/-- A run's registers, its position's frame, what ST OUT wrote, its events step by step, and the draws it
has taken. -/
structure RunSt where
  regs : SMap (List Lane)
  frame : List Lane
  out : Option (List Lane)
  events : List (List Nat)
  draws : Nat
  deriving DecidableEq, Repr

def RunEnv.lanes (e : RunEnv) : Nat := fmtLanes e.inFmt

/-- A register's E lanes; unwritten lanes are EMPTY. -/
def regGet (e : RunEnv) (st : RunSt) (r : Nat) : List Lane :=
  let l := sget (konst []) st.regs r
  (l ++ List.replicate e.lanes Lane.empty).take e.lanes

def regSet (r : Nat) (l : List Lane) (st : RunSt) : RunSt :=
  { st with regs := sset (konst []) st.regs r l }

def addEvents (ev : List Nat) (st : RunSt) : RunSt :=
  if ev.isEmpty then st else { st with events := st.events ++ [ev] }

/-- Results of a lane-wise step with INVALID flags: written to D, one event per lane flagged. -/
def putLanes (r : Nat) (l : List (Lane × Bool)) (st : RunSt) : RunSt :=
  addEvents ((l.filter Prod.snd).map (fun _ => evINVALID)) (regSet r (l.map Prod.fst) st)

/-- ADD, MAX or MIN on two lanes: EMPTY gives the other operand, as the step reads it (R310, R494). -/
def keepLane (fmt : Nat) (x y : Lane) (facc : Acc → Acc → Acc × Bool) (fint : W64 → W64 → W64) : Lane × Bool :=
  let rdl := fun (l : Lane) => if fmt = 5 then Lane.int (laneInt l) else Lane.acc (laneAcc l)
  if laneEmpty x && laneEmpty y then (.empty, false)
  else if laneEmpty x then (rdl y, false)
  else if laneEmpty y then (rdl x, false)
  else if fmt = 5 then (.int (fint (laneInt x) (laneInt y)), false)
  else
    let r := facc (laneAcc x) (laneAcc y)
    (.acc r.1, r.2)

/-- Integer ADD with its FN (R315). -/
def intFn (fn : Nat) (x y : W64) : W64 :=
  match fn with
  | 0 => x + y
  | 1 => x &&& y
  | 2 => x ||| y
  | _ => x ^^^ y

def intMax (x y : W64) : W64 := if x.toInt < y.toInt then y else x
def intMin (x y : W64) : W64 := if x.toInt < y.toInt then x else y

/-- A fused multiply-add on lanes (R310): EMPTY only when every operand is EMPTY. -/
def fmaLane (fmt : Nat) (x y z : Lane) : Lane × Bool :=
  if laneEmpty x && laneEmpty y && laneEmpty z then (.empty, false)
  else if fmt = 5 then (.int (laneInt x * laneInt y + laneInt z), false)
  else
    let r := if laneEmpty z then accMul (laneAcc x) (laneAcc y) else accFma (laneAcc x) (laneAcc y) (laneAcc z)
    (.acc r.1, r.2)

/-- WSUM: A + W × B (R310, R315). -/
def wsumLane (w : Acc) (x y : Lane) : Lane × Bool :=
  if laneEmpty x && laneEmpty y then (.empty, false)
  else
    let r := if laneEmpty x then accMul w (laneAcc y) else accFma w (laneAcc y) (laneAcc x)
    (.acc r.1, r.2)

/-- C meets COND (R315). -/
def meetsAcc (cond : Nat) (c : Acc) : Bool :=
  match cond with
  | 0 => !accIsNan c && !accIsZero c && !accNeg c
  | 1 => !accIsNan c && (accIsZero c || !accNeg c)
  | 2 => accIsNan c || !accIsZero c
  | _ => accIsNan c

def meetsInt (cond : Nat) (c : W64) : Bool :=
  match cond with
  | 0 => decide (0 < c.toInt)
  | 1 => decide (0 ≤ c.toInt)
  | 2 => decide (c ≠ 0)
  | _ => false

def selLane (fmt cond : Nat) (x y z : Lane) : Lane × Bool :=
  if fmt = 5 then (.int (if meetsInt cond (laneInt z) then laneInt x else laneInt y), false)
  else (.acc (if meetsAcc cond (laneAcc z) then laneAcc x else laneAcc y), false)

/-- A constant as an accumulator value; a NaN constant is the canonical NaN (R315). -/
def constAcc (k : Nat) : Acc := (decodeCode 0 k).1

def scaleLane (d : Dev) (e : RunEnv) (s : Step) (x : Lane) : Lane × Bool :=
  let v := laneAcc x
  match s.mode with
  | 0 =>
    let r := accMul v (constAcc (constOf d e.store e.slot (s.imm % 16)))
    (.acc r.1, r.2)
  | 1 => (.acc (accPow2 v (signedOf 12 s.imm)), false)
  | _ =>
    let r := accDiv v e.count
    (.acc r.1, r.2)

/-- The draw lane `i` takes under stochastic rounding (R290): a free value (log 2). -/
def laneDraw (d : Dev) (st : RunSt) (sr : Bool) (i : Nat) : Option Nat :=
  if sr then some ((Config.draw (d.ctl.draws + st.draws + i)).toNat % 65536) else none

/-- Target format of a converting step (R314, R315). -/
def convTarget (e : RunEnv) (s : Step) : Nat := if s.fmt = 7 then e.outFmt else s.fmt

/-- CVT and QNT to INT32, FP32 or FP16 (R288, R291). -/
def convertLanes (fmt : Nat) (l : List Lane) (draws : List (Option Nat)) (ovfInf : Bool) :
    List (Lane × List Nat) :=
  (l.zip draws).map (fun x =>
    let r := if fmt = fmtINT32 then convertInt (laneInt x.1) else convertAcc fmt (laneAcc x.1) x.2 ovfInf
    (.code fmt r.1 0 0, r.2))

/-- Split a list into blocks of `n`, at most `k` of them. -/
def blocksOf {α : Type} (n : Nat) : Nat → List α → List (List α)
  | 0, _ => []
  | k + 1, l => if l.isEmpty then [] else l.take n :: blocksOf n k (l.drop n)

/-- QNT, block by block of 32 lanes (R292). -/
def quantLanes (fmt sfmt : Nat) (l : List Lane) (draws : List (Option Nat)) (ovfInf : Bool) :
    List Lane × List Nat :=
  let rs := (blocksOf 32 8 (l.zip draws)).map (fun b =>
    let q := quantise fmt sfmt (b.map (fun x => laneAcc x.1)) (b.map Prod.snd) ovfInf
    (q.2.1.map (fun c => Lane.code fmt c q.1 sfmt), q.2.2))
  (rs.flatMap Prod.fst, rs.flatMap Prod.snd)

/-- CVT or QNT (R289: a HIGH_PREC group always uses RNE). -/
def convStep (d : Dev) (e : RunEnv) (s : Step) (st : RunSt) : RunSt :=
  let fmt := convTarget e s
  let sr := decide (s.mode / 2 = 1) && !e.highPrec
  let ovfInf := decide (s.mode % 2 = 1)
  let l := regGet e st s.a
  let draws := (List.range e.lanes).map (laneDraw d st sr)
  let used := if sr && decide (fmt ≠ fmtINT32) then e.lanes else 0
  let st1 :=
    if isBlockFmt fmt then
      let q := quantLanes fmt e.sfmt l draws ovfInf
      addEvents q.2 (regSet s.d q.1 st)
    else
      let c := convertLanes fmt l draws ovfInf
      addEvents (c.flatMap Prod.snd) (regSet s.d (c.map Prod.fst) st)
  { st1 with draws := st1.draws + used }

/-- The sum of exact products of one XFM output: NaN, INVALID and infinities under R287. -/
def dotProduct (ts xs : List Acc) : Acc × Bool :=
  let ps := (ts.zip xs).map (fun x => (accProduct x.1 x.2, accIsNan x.1 || accIsNan x.2))
  if ps.any Prod.snd then (.nan, false)
  else if ps.any (fun p => p.1.isNone) then (.nan, true)
  else
    let vs := ps.filterMap Prod.fst
    let posInf := vs.any (fun v => accIsInf v && !accNeg v)
    let negInf := vs.any (fun v => accIsInf v && accNeg v)
    if posInf && negInf then (.nan, true)
    else if posInf then (.inf false, false)
    else if negInf then (.inf true, false)
    else
      let low := vs.foldl (fun m v => match v with | .fin _ _ e => min m e | _ => m) 0
      let s := vs.foldl (fun (a : Int) v => match v with
        | .fin n m e => a + signedMant n m * (2 ^ (e - low).toNat : Nat)
        | _ => a) 0
      if s = 0 then (accZero (vs.all accNeg), false)
      else (accRound (decide (s < 0)) (Mag.dyadic s.natAbs low), false)

/-- XFM over blocks of 64 lanes (R315). -/
def xfmLanes (d : Dev) (tile : Nat) (xs : List Acc) : List (Lane × Bool) :=
  (blocksOf 64 4 xs).flatMap (fun b =>
    (List.range 64).map (fun i =>
      let r := dotProduct ((List.range 64).map (fun j => (decodeCode 1 (tileCoeff d tile i j)).1)) b
      (Lane.acc r.1, r.2)))

def xfmStep (d : Dev) (e : RunEnv) (s : Step) (st : RunSt) : RunSt :=
  if e.lanes = 48 ∨ e.lanes = 24 then
    addEvents [evINVALID] (regSet s.d (List.replicate e.lanes (.acc .nan)) st)
  else if s.sp = 1 then
    let st1 := addEvents (decodeEvents e.inFmt e.payload e.scales) st
    putLanes s.d (xfmLanes d s.tile ((cellCodes e.inFmt e.sfmt e.payload e.scales).map laneAcc)) st1
  else if s.fmt = 1 then
    let r := (regGet e st s.a).map (fun l => convertAcc 1 (laneAcc l) none false)
    let st1 := addEvents (r.flatMap Prod.snd) st
    putLanes s.d (xfmLanes d s.tile (r.map (fun x => (decodeCode 1 x.1).1))) st1
  else putLanes s.d (xfmLanes d s.tile ((regGet e st s.a).map laneAcc)) st

/-- LD (R315). -/
def ldStep (d : Dev) (e : RunEnv) (s : Step) (st : RunSt) : RunSt :=
  if s.sp = 0 then regSet s.d (cellCodes e.inFmt e.sfmt e.payload e.scales) st
  else if s.sp = 1 then regSet s.d ((st.frame ++ List.replicate e.lanes Lane.empty).take e.lanes) st
  else
    let k := constOf d e.store e.slot (s.imm % 16)
    regSet s.d (List.replicate e.lanes
      (if s.fmt = 5 then .int (BitVec.ofInt 64 (signedOf 32 k)) else .acc (constAcc k))) st

/-- Map a binary lane operation over two registers. -/
def zipStep (e : RunEnv) (s : Step) (st : RunSt) (f : Lane → Lane → Lane × Bool) : RunSt :=
  putLanes s.d (((regGet e st s.a).zip (regGet e st s.b)).map (fun x => f x.1 x.2)) st

def zip3Step (e : RunEnv) (s : Step) (st : RunSt) (f : Lane → Lane → Lane → Lane × Bool) : RunSt :=
  putLanes s.d ((((regGet e st s.a).zip (regGet e st s.b)).zip (regGet e st s.c)).map
    (fun x => f x.1.1 x.1.2 x.2)) st

/-- One step (R315). CRC's value is taken of the cell that ST OUT wrote, when the result is queued. -/
def runStep (d : Dev) (e : RunEnv) (s : Step) (st : RunSt) : RunSt :=
  if s.op = opLD then ldStep d e s st
  else if s.op = opST then
    if s.sp = 1 then { st with frame := regGet e st s.a } else { st with out := some (regGet e st s.a) }
  else if s.op = opDEQ then
    addEvents (decodeEvents e.inFmt e.payload e.scales)
      (regSet s.d ((cellCodes e.inFmt e.sfmt e.payload e.scales).map decodeLane) st)
  else if s.op = opADD then zipStep e s st (fun x y => keepLane s.fmt x y accAdd (intFn s.mode))
  else if s.op = opMAX then zipStep e s st (fun x y => keepLane s.fmt x y (fun a b => (accMax a b, false)) intMax)
  else if s.op = opMIN then zipStep e s st (fun x y => keepLane s.fmt x y (fun a b => (accMin a b, false)) intMin)
  else if s.op = opMUL then
    zipStep e s st (fun x y =>
      if s.fmt = 5 then (.int (laneInt x * laneInt y), false)
      else
        let r := accMul (laneAcc x) (laneAcc y)
        (.acc r.1, r.2))
  else if s.op = opFMA then zip3Step e s st (fmaLane s.fmt)
  else if s.op = opSEL then zip3Step e s st (selLane s.fmt s.mode)
  else if s.op = opWSUM then zipStep e s st (wsumLane (decodeCode 0 e.weight).1)
  else if s.op = opSCALE then putLanes s.d ((regGet e st s.a).map (scaleLane d e s)) st
  else if s.op = opCVT ∨ s.op = opQNT then convStep d e s st
  else if s.op = opXFM then xfmStep d e s st
  else st

/-- Every step of a section, in order (R312). -/
def runSteps (d : Dev) (e : RunEnv) : List (Nat × Step) → RunSt → RunSt
  | [], st => st
  | x :: xs, st => runSteps d e xs (runStep d e x.2 st)

def runStart (frame : List Lane) : RunSt :=
  { regs := [], frame := frame, out := none, events := [], draws := 0 }

def runAccumulate (d : Dev) (e : RunEnv) (frame : List Lane) : RunSt :=
  runSteps d e (accSteps (recipeOf d e.store e.slot)) (runStart frame)

def runFinish (d : Dev) (e : RunEnv) (frame : List Lane) : RunSt :=
  runSteps d e (finSteps (recipeOf d e.store e.slot)) (runStart frame)

/-! ### The result cell (R316) -/

/-- The format of the codes ST OUT wrote; OUT_FMT when no lane holds one. -/
def outFormat (e : RunEnv) (l : List Lane) : Nat :=
  match l.find? (fun x => match x with | .code .. => true | _ => false) with
  | some (.code f ..) => f
  | _ => e.outFmt

def laneBits (l : Lane) : Nat := match l with | .code _ b _ _ => b | _ => 0
def laneScale (l : Lane) : Nat := match l with | .code _ _ s _ => s | _ => 0

/-- Payload and scale bytes of a result cell from ST OUT's lanes (R83, R316). -/
def outCell (e : RunEnv) (l : List Lane) : BitVec 768 × List Nat :=
  let f := outFormat e l
  let w := fmtWidth f
  let n := min e.lanes (fmtLanes f)
  let pay := ((l.take n).zipIdx).foldl (fun a x => a + laneBits x.1 % 2 ^ w * 2 ^ (768 - w * (x.2 + 1))) 0
  let scales := (List.range 6).map (fun b =>
    if isBlockFmt f ∧ 32 * b < n then laneScale (l.getD (32 * b) .empty) % 256 else 0)
  (BitVec.ofNat 768 pay, scales)

/-! ### Beats (R319) -/

/-- Slot (0 matrix, 1 vector, 2 stream-in, 3 stream-out) and beats of a step for E lanes of a format. -/
def stepBeats (inFmt : Nat) (s : Step) : Nat × Nat :=
  let e := fmtLanes inFmt
  if s.op = opLD ∨ s.op = opDEQ then (2, ceilDiv e 96)
  else if s.op = opST ∨ s.op = opCVT ∨ s.op = opCRC then (3, ceilDiv e 96)
  else if s.op = opQNT then (3, 2 * ceilDiv e 96)
  else if s.op = opSCALE ∧ s.mode = 2 then (1, 4 * ceilDiv e 32)
  else if s.op = opXFM then
    (0, if e = 48 ∨ e = 24 then 0
        else if s.sp = 1 then (if inFmt = 4 then 12 else 16) else if s.fmt = 1 then e / 2 else 2 * e)
  else if s.op = opNOP ∨ s.op = opEND then (1, 0)
  else (1, ceilDiv e 32 * (if s.fmt = 5 then 2 else 1))

/-- Beats a section places in a slot. -/
def sectionBeats (inFmt slot : Nat) (sec : List (Nat × Step)) : Nat :=
  (sec.map (fun x => let b := stepBeats inFmt x.2; if b.1 = slot then b.2 else 0)).sum

end Sys2Proof.Machine
end

