-- ==== Sys2Proof/Machine/Ladle.lean ====
section
/-! DEFINITION. The Ladle array's core blocks (R305, R306), resident limits (R325), placement of positions
(R326), arithmetic events (R298 to R300), beats (R334), and the use and loading of recipe versions (R323). -/

namespace Sys2Proof.Machine

/-! ### Core blocks -/

/-- Core block `b`, 4 × region + k (R27, R38). -/
def Dev.blk (d : Dev) (b : Nat) : CoreBlk := sget (konst CoreBlk.reset) d.ldl.blocks b

def updBlk (b : Nat) (f : CoreBlk → CoreBlk) (d : Dev) : Dev :=
  { d with ldl := { d.ldl with blocks := supd (konst CoreBlk.reset) d.ldl.blocks b f } }

def blockFenced (d : Dev) (b : Nat) : Bool := rdBit d (Page.coreBlock b) Reg.CB_STAT_FENCED

/-- The block runs and is not fenced (R325, R336). -/
def blockUsable (d : Dev) (b : Nat) : Bool :=
  decide (pageState d (Page.coreBlock b) = stRunning) && !blockFenced d b

def blocksOfRegion (r : Nat) : List Nat := (List.range 4).map (fun k => 4 * r + k)

/-- The live resident limit of a region (R325, R336). -/
def residentLimit (d : Dev) (r : Nat) : Nat :=
  min 512 (160 * ((blocksOfRegion r).filter (blockUsable d)).length)

/-- Block-local logical core of a position of a context in a resident slot (R326). -/
def coreOfPos (pos slot : Nat) : Nat := (pos + slot) % 25

/-- Logical core number 100 r + 25 k + j (R306). -/
def coreNum (b j : Nat) : Nat := 25 * b + j

/-- The logical core serves runs: not failed, or taken by the spare (R330). -/
def coreWorks (d : Dev) (n : Nat) : Bool :=
  let blk := d.blk (n / 25)
  blockUsable d (n / 25) && (decide (blk.failed ≠ some (n % 25)) || blk.taken)

/-- FENCED and SPARE_USED of the region, from its blocks' CB_STAT (R336, R338). -/
def syncRegionStat (r : Nat) (d : Dev) : Dev :=
  let bits := fun (f : Fd) => ((List.range 4).map (fun k => rd d (Page.coreBlock (4 * r + k)) f * 2 ^ k)).sum
  wr (Page.region r) Reg.LDL_REGION_STAT_FENCED (bits Reg.CB_STAT_FENCED)
    (wr (Page.region r) Reg.LDL_REGION_STAT_SPARE_USED (bits Reg.CB_STAT_SPARE_USED) d)

/-! ### Arithmetic events (R298 to R300) -/

/-- Index of a flag's counter; INEXACT is not counted (R298, R299). -/
def eventCounter (ev : Nat) : Option Nat :=
  if ev = evINEXACT then none else if ev = evEXPAND_SAT then some 10 else some ev

/-- Count one event; the counters saturate (R299). -/
def countEvent (r ev : Nat) (d : Dev) : Dev :=
  match eventCounter ev with
  | none => d
  | some k => bump (Page.region r) Reg.LDL_ARITH_CNT k d

/-- Where an event comes from: its SOURCE, GEN, ID and CHUNK (R299). -/
structure EvSrc where
  source : Nat
  gen : Nat
  id : Nat
  chunk : Nat
  deriving DecidableEq, Repr

/-- Record the events of one step in the region's registers: the flags, the first capture, the counters, and
BLOCK_IRQ bit 24 when a masked flag rises (R299, R300). -/
def recordStep (r : Nat) (src : EvSrc) (ev : List Nat) (d : Dev) : Dev :=
  if ev.isEmpty then d
  else
    let p := Page.region r
    let old := rdWord d p 0x300
    let new := ev.foldl (fun w e => w ||| BitVec.ofNat 32 (2 ^ e)) old
    let first := ev.foldl min 31
    let d1 := wrWord p 0x300 new d
    let d2 :=
      if old = 0 then
        wrWord p 0x30C (BitVec.ofNat 32 src.chunk)
          (wrWord p 0x308 (BitVec.ofNat 32
            (first * 2 ^ 28 + src.source * 2 ^ 26 + src.gen % 256 * 2 ^ 16 + src.id % 2 ^ 16)) d1)
      else d1
    let mask := BitVec.ofNat 32 (rd d2 p Reg.LDL_ARITH_MASK_IRQ)
    let d3 := forEach ev (countEvent r) d2
    doIf (decide ((new &&& ~~~old &&& mask) ≠ 0)) (raiseIrq p 24) d3

def recordEvents (r : Nat) (src : EvSrc) (evs : List (List Nat)) (d : Dev) : Dev :=
  forEach evs (recordStep r src) d

/-- Take the draws a run has used (R290, log 2). -/
def takeDraws (n : Nat) (d : Dev) : Dev := { d with ctl := { d.ctl with draws := d.ctl.draws + n } }

/-! ### Beats (R334, R338) -/

/-- Add to one count of a logical core and slot; `kind` is 0 retired, 1 wasted. -/
def addBeats (n slot kind beats : Nat) (d : Dev) : Dev :=
  if beats = 0 then d
  else
    let p := Page.coreBlock (n / 25)
    let i := 4 * (n % 25) + slot
    let ws := tget d p 0 i
    bumpN p Reg.CB_CNT (4 * slot + kind) beats (tset p 0 i (setW64 ws (2 * kind) (word64 ws (2 * kind) + beats)) d)

/-- Number of a phase class (R397); 0 is the memory service's. -/
def classCode (group recipe : Nat) : Nat := 1 + group * 256 + recipe

/-- Key of a class's arrivals in a region in this interval (R397). -/
def arriveKey (r cls : Nat) : Nat := r * 2 ^ 25 + cls

/-- Key of the beats a class's contexts used in a region in this interval, with their job (R397, R408); job
65,536 is none. -/
def beatKey (r cls job : Nat) : Nat := arriveKey r cls * 2 ^ 17 + job

/-- Count a section's beats for a core and for the job's energy share (R334, R408). -/
def useBeats (n cls job inFmt kind : Nat) (sec : List (Nat × Step)) (d : Dev) : Dev :=
  let b := fun slot => sectionBeats inFmt slot sec
  let d1 := forEach [0, 1, 2, 3] (fun slot d => addBeats n slot kind (b slot) d) d
  { d1 with pmc := { d1.pmc with
      vectorBeats := supd (konst 0) d1.pmc.vectorBeats (arriveKey (n / 100) cls) (· + b 1),
      beats := supd (konst 0) d1.pmc.beats (beatKey (n / 100) cls job) (· + (b 0 + b 1 + b 2 + b 3)) } }

/-- A contribution cell of a class reached a region (R397). -/
def countArrival (r cls : Nat) (d : Dev) : Dev :=
  { d with pmc := { d.pmc with arrivals := supd (konst 0) d.pmc.arrivals (arriveKey r cls) (· + 1) } }

/-! ### Clocks and slot accounting (R334, R336, R392, R401, R402) -/

/-- Clock of an operating point in MHz (R392). -/
def pointMhz (p : Nat) : Nat := [2300, 2100, 1900, 1700, 1400, 1100, 850, 600].getD p 600

def lpOf (d : Dev) (r : Nat) : Nat := rd d (Page.region r) Reg.LDL_REGION_STAT_LP
def dutyOf (d : Dev) (r : Nat) : Nat := rd d (Page.region r) Reg.LDL_REGION_STAT_DUTY

/-- The region is stretched by a droop (R402). -/
def droopActive (d : Dev) (r : Nat) : Bool := rd d Page.pmc Reg.PMC_DROOP_STAT_ACTIVE / 2 ^ r % 2 == 1

/-- Cycles that a region's clock counts in a tick, in units of 1/12,800: none while it is stretched (R402). -/
def regionRate (d : Dev) (r duty : Nat) : Nat := if droopActive d r then 0 else pointMhz (lpOf d r) * duty

/-- The same for the LDL page `i`: a region runs its duty; so does a core block, but all eight eighths while its spare
is switching or rebuilding (R401), and none when it is fenced. -/
def clockRate (d : Dev) (i : Nat) : Nat :=
  if i < 8 then regionRate d i (dutyOf d i)
  else
    let b := i - 8
    if blockFenced d b then 0
    else regionRate d (b / 4) (if (d.blk b).failTick ≠ 0 then 8 else dutyOf d (b / 4))

/-- The clock of an LDL page at a counter value. -/
def clockAt (now : W64) (d : Dev) (i : Nat) : Clock :=
  let c := sget (konst Clock.zero) d.ldl.clocks i
  let t := c.frac + ticksSince now c.tick * clockRate d i
  { cycles := c.cycles + t / 12800, frac := t % 12800, tick := now.toNat }

/-- Count the cycles up to now, before the clock of the page changes. -/
def settleClock (now : W64) (i : Nat) (d : Dev) : Dev :=
  { d with ldl := { d.ldl with clocks := sset (konst Clock.zero) d.ldl.clocks i (clockAt now d i) } }

/-- The same for a region and its core blocks. -/
def settleRegion (now : W64) (r : Nat) (d : Dev) : Dev :=
  forEach (r :: (blocksOfRegion r).map (· + 8)) (settleClock now) d

/-- Every clock starts again from 0 at a counter value: counters are cleared (R443). -/
def restartClocks (now : W64) (d : Dev) : Dev :=
  { d with ldl := { d.ldl with clocks := (List.range 40).foldl (fun m i =>
      sset (konst Clock.zero) m i { Clock.zero with tick := now.toNat }) [] } }

/-- Cycles in which a logical core of a block has worked (R334): those of its block but for the time from its failure
until the spare serves it. -/
def coreCycles (now : W64) (d : Dev) (b j : Nat) : Nat :=
  let blk := d.blk b
  let c := (clockAt now d (8 + b)).cycles
  let dead := if blk.failed = some j ∧ blk.taken = false then c - blk.stopped else 0
  c - sget (konst 0) blk.lost j - dead

/-- Beats starved at the front of a core's slot (R334): every beat of its clock that issued no step. No run waits for
stream-out room here, so that none starves at the back (log 56). -/
def frontBeats (now : W64) (d : Dev) (b j slot : Nat) : Nat :=
  let ws := tget d (Page.coreBlock b) 0 (4 * j + slot)
  4 * coreCycles now d b j - (word64 ws 0 + word64 ws 2)

/-- Front-starved beats of a slot over a block's cores (R338). -/
def blockFront (now : W64) (d : Dev) (b slot : Nat) : Nat :=
  ((List.range 25).map (fun j => frontBeats now d b j slot)).sum

/-- The failed core of a block stops counting. -/
def stopCore (b : Nat) (d : Dev) : Dev :=
  updBlk b (fun x => { x with stopped := (sget (konst Clock.zero) d.ldl.clocks (8 + b)).cycles }) d

/-- The failed core's number is served again: what it lost is kept. -/
def resumeCore (b : Nat) (d : Dev) : Dev :=
  let c := (sget (konst Clock.zero) d.ldl.clocks (8 + b)).cycles
  updBlk b (fun x =>
    match x.failed with
    | some j => if x.taken then x else { x with lost := supd (konst 0) x.lost j (· + (c - x.stopped)) }
    | none => x) d

/-! ### Uses of recipe versions (R323, R324) -/

/-- Contexts in the device, with their keys. -/
def ctxList (d : Dev) : List (Nat × Context) :=
  d.col.contexts.filterMap (fun e => e.2.map (fun c => (e.1, c)))

/-- Accumulate verbs accepted or waiting (R354, R355). -/
def accVerbs (d : Dev) : List Verb :=
  d.stk.accs ++ (d.stk.midA ++ d.stk.midB).filter (fun v => cOp v.cell == ocMEM_ACC)

/-- Contexts and verbs that use a version. -/
def versionUse (d : Dev) (store slot : Nat) : Nat :=
  ((ctxList d).filter (fun e => e.2.recipe == slot && e.2.version == store)).length +
    ((accVerbs d).filter (fun v => v.recipe == slot && v.version == store)).length

/-- Contexts and verbs whose recipe has an XFM naming the tile (R324). -/
def tileUse (d : Dev) (t : Nat) : Nat :=
  ((ctxList d).filter (fun e => (tilesOf (recipeOf d e.2.version e.2.recipe)).contains t)).length +
    ((accVerbs d).filter (fun v => (tilesOf (recipeOf d v.version v.recipe)).contains t)).length

def isRetiring (d : Dev) (slot : Nat) : Bool := sget (konst false) d.ldl.retiring slot

def setRetiring (slot : Nat) (b : Bool) (d : Dev) : Dev :=
  { d with ldl := { d.ldl with retiring := sset (konst false) d.ldl.retiring slot b } }

def setActiveStore (slot v : Nat) (d : Dev) : Dev :=
  { d with ldl := { d.ldl with active := sset (konst 1) d.ldl.active slot v } }

/-! ### LOAD and COPY (R323, R337) -/

def recipeStat (result check step slot : Nat) (d : Dev) : Dev :=
  let p := Page.region 0
  wr p Reg.LDL_RECIPE_STAT_RESULT result (wr p Reg.LDL_RECIPE_STAT_CHECK check
    (wr p Reg.LDL_RECIPE_STAT_STEP step (wr p Reg.LDL_RECIPE_STAT_SLOT slot d)))

/-- A refused LOAD or COPY (R323). -/
def recipeRefuse (src : Src) (check step slot : Nat) (d : Dev) : Dev :=
  raiseIrq (Page.region 0) 17 (setErr (Page.region 0) 16 src 0x110 slot (recipeStat 3 check step slot d))

def recipePend (load : Bool) (slot : Nat) (d : Dev) : Dev :=
  let d1 := recipeStat 1 0 0 slot d
  { d1 with ldl := { d1.ldl with cmd := some (load, slot) } }

/-- LOAD or COPY written (R323, R337): one command at a time. -/
def recipeCmd (src : Src) (load : Bool) (slot : Nat) (d : Dev) : Dev :=
  if d.ldl.cmd.isSome then setErr (Page.region 0) 16 src 0x110 slot d
  else if slot < 32 then recipeRefuse src 0xE 0 slot d
  else if isRetiring d slot then recipeRefuse src 0xF 0 slot d
  else if load then
    match checkRecipe (recipeOf d (storeOf d slot 0) slot) with
    | some (c, k) => recipeRefuse src c k slot d
    | none => recipePend true slot d
  else recipePend false slot d

/-- Copy one version over another, all 80 entries. -/
def copyVersion (from' to' slot : Nat) (d : Dev) : Dev :=
  forEach (List.range 80)
    (fun k d => tset (Page.region 0) 0 (to' * 32768 + slot * 128 + k) (recipeWords d from' slot k) d) d

/-- What a LOAD extends M3 with (R429): the slot number, then the 80 entries of the version. -/
def versionBytes (d : Dev) (store slot : Nat) : List Byte :=
  bytesLE 1 slot ++ (List.range 80).flatMap (fun k => wordsBytes (recipeWords d store slot k))

/-- The pending LOAD or COPY has reached every core store (R323): a LOAD exchanges the two versions, and the
former active one retires until nothing uses it. -/
def recipeDone (d : Dev) : Dev :=
  match d.ldl.cmd with
  | none => d
  | some (load, slot) =>
    let act := activeStore d slot
    let d1 := { d with ldl := { d.ldl with cmd := none } }
    let d2 :=
      if load then extendM 3 (versionBytes d (1 - act) slot) (setRetiring slot (decide (0 < versionUse d act slot)) (setActiveStore slot (1 - act) d1))
      else copyVersion act (1 - act) slot d1
    raiseIrq (Page.region 0) 16 (recipeStat 2 0 0 slot d2)

/-- A retiring version is writable again once nothing uses it (R323). -/
def retiringFreed (slot : Nat) (d : Dev) : Dev :=
  if versionUse d (storeOf d slot 0) slot = 0 then setRetiring slot false d else d

/-- An abort of LDL[0] refuses a pending LOAD or COPY with CHECK 0x0 (R339). -/
def recipeAbort (d : Dev) : Dev :=
  match d.ldl.cmd with
  | none => d
  | some (_, slot) =>
    raiseIrq (Page.region 0) 17 (hwErr (Page.region 0) 16 slot
      (recipeStat 3 0 0 slot { d with ldl := { d.ldl with cmd := none } }))

/-! ### The meanings -/

def execRecipeCmdDone (s : State) := effect .recipeCmdDone (onDev recipeDone) s

def execRetiringFreed (slot : Nat) (s : State) := effect (.retiringFreed slot) (onDev (retiringFreed slot)) s

end Sys2Proof.Machine
end

