-- ==== Sys2Proof/Machine/Pages.lean ====
section
/-! DEFINITION. Page-level operations every block shares: staged values and commits (R54 to R57), the BUSY
bit, failure of a page (R50, R456). -/

namespace Sys2Proof.Machine

/-! ### Staging (R12, R54) -/

/-- Bits of the fields of a class. -/
def clsMask (c : Cls) : List Fld → Nat
  | [] => 0
  | f :: fs => (if f.cls = c then 2 ^ (f.hi + 1) - 2 ^ f.lo else 0) + clsMask c fs

/-- Bits of the register at an address that hold fields of a class. -/
def maskAt (c : Cls) (addr : Nat) : W32 :=
  match pageOf addr with
  | some (p, off) =>
    match p.regAt off with
    | some r => BitVec.ofNat 32 (clsMask c r.flds)
    | none => 0
  | none => 0

/-- `w` with the bits of `mask` taken from `v`. -/
def merge (w mask v : W32) : W32 := (w &&& ~~~mask) ||| (v &&& mask)

def stagedAt (d : Dev) (addr : Nat) : Option W32 := sget (konst none) d.ctl.staged addr

def setStagedAt (addr : Nat) (w : Option W32) (d : Dev) : Dev :=
  { d with ctl := { d.ctl with staged := sset (konst none) d.ctl.staged addr w } }

/-- The values a pending commit has taken, by address (R56). -/
def commitSet (d : Dev) (p : Page) : List (Nat × W32) := sget (konst []) d.ctl.commits p.num

def setCommitSet (p : Page) (l : List (Nat × W32)) (d : Dev) : Dev :=
  { d with ctl := { d.ctl with commits := sset (konst []) d.ctl.commits p.num l } }

/-- The word a read of the register shows: S fields as last written (R54). -/
def shownWord (d : Dev) (addr : Nat) : W32 :=
  let active := d.ctl.word addr
  let taken :=
    match pageOf addr with
    | some (p, _) => ((commitSet d p).find? (fun e => e.1 == addr)).map Prod.snd
    | none => none
  match stagedAt d addr, taken with
  | some w, _ => merge active (maskAt .S addr) w
  | none, some w => merge active (maskAt .S addr) w
  | none, none => active

/-- Staged words of a page. -/
def stagedOf (d : Dev) (p : Page) : List (Nat × W32) :=
  d.ctl.staged.filterMap
    (fun e => if e.1 / 4096 = p.base / 4096 then e.2.map (fun w => (e.1, w)) else none)

/-- Every S field of the page returns to its active value (R56, R61, R63). -/
def discardStaged (p : Page) (d : Dev) : Dev :=
  { d with ctl := { d.ctl with staged := d.ctl.staged.filter (fun e => e.1 / 4096 != p.base / 4096) } }

/-! ### Commits (R55 to R57) -/

def commitPending (d : Dev) (p : Page) : Bool := decide (rd d p Reg.PAGE_COMMIT_STAT_RESULT = 1)

/-- A table command is running on the page (R69). -/
def tblRunning (d : Dev) (p : Page) : Bool := (sget (konst none) d.ctl.tblPend p.num).isSome

/-- BUSY as R45 defines it; in PKG also while OWNER_ALL runs (R67). -/
def busyNow (d : Dev) (p : Page) : Bool :=
  tblRunning d p || commitPending d p || decide (pageState d p = stAborting) || (d.act p).resetting ||
    (decide (p = Page.pkg) && d.ctl.ownerAll)

def syncBusy (p : Page) (d : Dev) : Dev := wrBit p Reg.PAGE_STAT_BUSY (busyNow d p) d

/-- End a pending commit with a result, and raise COMMIT_DONE (R46, R55). -/
def endCommit (p : Page) (result : Nat) (d : Dev) : Dev :=
  let d1 := setCommitSet p [] (wr p Reg.PAGE_COMMIT_STAT_RESULT result d)
  syncBusy p (raiseIrq p irqCommitDone d1)

/-- A pending commit is discarded with RESULT 0x5 (R55, R61). -/
def discardCommit (p : Page) (d : Dev) : Dev := if commitPending d p then endCommit p 5 d else d

/-- Staged values and a pending commit are discarded. -/
def discardPending (p : Page) (d : Dev) : Dev := discardStaged p (discardCommit p d)

/-! ### Failure -/

/-- A page enters failed on an error its block cannot contain (R50): its pending commit and staged values go
(R55, R57), UNCORRECTABLE is set with the detail (R48, R452). An aborting page stays aborting. -/
def pageFail (p : Page) (detail : Nat) (d : Dev) : Dev :=
  if pageState d p = stAborting then d
  else
    let d1 := wr p Reg.PAGE_STAT_QUIESCING 0 (setPageState p stFailed d)
    let d2 := setAct p { d1.act p with finishing := false } d1
    hwErr p errUncorrectable detail (discardPending p d2)

/-- The page's failure, logged as an event at block level (R453). -/
def pageFailLogged (now : W64) (p : Page) (unit detail : Nat) (d : Dev) : Dev :=
  if pageState d p = stAborting then d
  else faultLog now { level := lvBlock, action := acPageFailed, page := p, unit := unit,
                      cls := errUncorrectable, detail := detail, recover := 0 } (pageFail p detail d)

end Sys2Proof.Machine
end

