-- ==== Sys2Proof/Machine/Queues.lean ====
section
/-! DEFINITION. Input buffering: buffer units and their accounts (R166 to R172), virtual output queues (R164,
R165), drain and flow counts of a cell (R139, R151), multicast cells and their copies (R179, R180), and the
flush of a port that goes down (R181 to R184). -/

namespace Sys2Proof.Machine

/-! ### Units and thresholds -/

/-- Units of a bank group (R173). -/
def bankUnits : Nat := 262144

/-- Switching units of a die under CARVE.SIZE (R166), less its fenced bank groups (R173). -/
def switchingUnits (d : Dev) (die : Nat) : Nat :=
  16777216 - rd d Page.voq Reg.VOQ_CARVE_SIZE * bankUnits -
    (d.sw.fencedGroups.filter (fun g => decide (g / 64 = die))).length * bankUnits

/-- Configured ports of a die (R99). -/
def portsOnDie (d : Dev) (die : Nat) : Nat :=
  ((List.range 32).map (fun b => 16 / portWidth d ((32 * die + b) * 16))).sum

def rmin (d : Dev) (tc : Nat) : Nat := rd d Page.voq (Reg.VOQ_CLASS_CFG_RMIN.idx tc)

/-- Minimum reservations of a die: RMIN of each class for each port and service source (R170). -/
def minReserve (d : Dev) (die : Nat) : Nat :=
  (portsOnDie d die + 4) * ((List.range 8).map (rmin d)).sum

/-- Landing reservations held by a die's ports (R170). -/
def landingReserve (d : Dev) (die : Nat) : Nat :=
  ((d.lnk.ports.filter (fun e => decide (e.1 / 512 = die))).map (fun e => e.2.landing)).sum

/-- Units of a die charged to shared accounts. -/
def sharedUnits (d : Dev) (die : Nat) : Nat :=
  ((d.sw.units.filter (fun e => decide (dieOfSource (e.1 / 8) = die))).map (fun e => e.2.shared)).sum

/-- F of a die (R171). -/
def freeUnits (d : Dev) (die : Nat) : Nat :=
  switchingUnits d die - minReserve d die - landingReserve d die - sharedUnits d die

def freeFd (die : Nat) : Fd := if die = 0 then Reg.VOQ_FREE_A_UNITS else Reg.VOQ_FREE_B_UNITS

/-- The shared threshold T of a die and class, from F as last recomputed (R171). -/
def sharedThreshold (d : Dev) (die tc : Nat) : Nat :=
  let alpha := rd d Page.voq (Reg.VOQ_CLASS_CFG_ALPHA.idx tc)
  if alpha = 0 then 0 else rd d Page.voq (freeFd die) * 2 ^ alpha / 32

/-- Recompute F and T (R171): FREE_A and FREE_B, and the interrupt when F falls below LOW_WATER. -/
def recomputeFree (d : Dev) : Dev :=
  forEach [0, 1] (fun die d =>
    let f := freeUnits d die
    let low := rd d Page.voq Reg.VOQ_LOW_WATER_UNITS
    let was := rd d Page.voq (freeFd die)
    doIf (decide (low ≤ was ∧ f < low)) (raiseIrq Page.voq 16) (wr Page.voq (freeFd die) f d)) d

/-! ### Accounts and credits (R113, R168, R169) -/

def Units.add (u : Units) (a : Acct) : Units :=
  match a with
  | .none => u
  | .landing => { u with landing := u.landing + 1 }
  | .minimum => { u with minimum := u.minimum + 1 }
  | .shared => { u with shared := u.shared + 1 }

def Units.take (u : Units) (a : Acct) : Units :=
  match a with
  | .none => u
  | .landing => { u with landing := u.landing - 1 }
  | .minimum => { u with minimum := u.minimum - 1 }
  | .shared => { u with shared := u.shared - 1 }

/-- Return one credit of a virtual channel to a port's neighbour (R113). -/
def returnCredit (lane vc : Nat) (d : Dev) : Dev :=
  updPort lane (fun p => { p with returned := p.returned.set vc ((p.returned.getD vc 0 + 1) % 2048) }) d

/-- The account with room for one more cell of a source and class: minimum first, then shared (R168). -/
def roomIn (d : Dev) (source tc : Nat) : Option Acct :=
  let u := d.units source tc
  if u.minimum < rmin d tc then some .minimum
  else if u.shared < sharedThreshold d (dieOfSource source) tc then some .shared
  else none

/-- End a unit's charge; a landing charge that ends returns the link credit (R168, R169). -/
def endCharge (b : Box) (d : Dev) : Dev :=
  let d1 := updUnits b.source (cTc b.cell) (fun u => u.take b.acct) d
  if b.acct = .landing then returnCredit b.source b.vcIn d1 else d1

/-- Move a unit's charge to another account. -/
def recharge (b : Box) (a : Acct) (d : Dev) : Box × Dev :=
  let d1 := endCharge b d
  ({ b with acct := a }, updUnits b.source (cTc b.cell) (fun u => u.add a) d1)

/-- Admission of a link cell to its queue (R168): its charge moves to minimum or shared, or stays in
landing; each outcome is counted. -/
def admitCharge (b : Box) (d : Dev) : Box × Dev :=
  match roomIn d b.source (cTc b.cell) with
  | some .minimum =>
    let r := recharge b .minimum d
    (r.1, bump Page.voq Reg.VOQ_CNT 0 r.2)
  | some .shared =>
    let r := recharge b .shared d
    (r.1, bump Page.voq Reg.VOQ_CNT 1 r.2)
  | _ => (b, bump Page.voq Reg.VOQ_CNT 2 d)

/-! ### Counts that follow a cell -/

/-- DRAIN[e] goes up by one: a cell is stamped (R139). -/
def drainInc (e : Nat) (d : Dev) : Dev :=
  let f := Reg.FWD_DRAIN_CELLS.idx e
  wr Page.fwd f (rd d Page.fwd f + 1) d

/-- DRAIN[e] goes down by one; reaching 0 while bank e is not active is to be reported (R139). -/
def drainDec (e : Nat) (d : Dev) : Dev :=
  let f := Reg.FWD_DRAIN_CELLS.idx e
  let v := rd d Page.fwd f
  let d1 := wr Page.fwd f (v - 1) d
  if v = 1 ∧ rd d Page.fwd Reg.FWD_EPOCH_STAT_ACTIVE ≠ e then
    { d1 with fwd := { d1.fwd with drained := sset (konst false) d1.fwd.drained e true } }
  else d1

/-- HELD of the cell's flow goes down by one (R151). -/
def heldDec (flow : Option Nat) (d : Dev) : Dev :=
  match flow with
  | none => d
  | some i =>
    let ws := tget d Page.fwd 2 i
    tset Page.fwd 2 i (setWBits ws 6 25 0 (wbits ws 6 25 0 - 1)) d

/-- The cell's counts in DRAIN and HELD end. -/
def uncount (b : Box) (d : Dev) : Dev :=
  heldDec b.flow (if b.counted then drainDec (cEpoch b.cell) d else d)

/-- A cell stored once for several copies owes `n` fewer ends; with the last one its counts end and its
record is written (R139, R470). -/
def copyEnds (b : Box) (n fate : Nat) (d : Dev) : Dev :=
  let left := sget (konst 0) d.sw.copies b.num - n
  let d1 := { d with sw := { d.sw with copies := sset (konst 0) d.sw.copies b.num left } }
  if left = 0 then
    let tag := sget (konst none) d1.sw.mtags b.num
    let d2 := { d1 with sw := { d1.sw with mtags := sset (konst none) d1.sw.mtags b.num none } }
    let fate' := match tag with
      | some t => if 0 < t.copies then fateSent else fate
      | none => fate
    endLife { b with tag := tag } fate' (uncount b d2)
  else d1

def addCopies (num n : Nat) (d : Dev) : Dev :=
  { d with sw := { d.sw with copies := supd (konst 0) d.sw.copies num (· + n) } }

def updMtag (num : Nat) (f : Tag → Tag) (d : Dev) : Dev :=
  { d with sw := { d.sw with mtags := supd (konst none) d.sw.mtags num (fun t => t.map f) } }

/-- A queued cell leaves the device without being sent: its charge and counts end and its record is
written. -/
def dropBox (b : Box) (fate : Nat) (d : Dev) : Dev :=
  let d1 := endCharge b d
  if b.multi then copyEnds b 1 fate d1 else endLife b fate (uncount b d1)

/-- Count a dropped cell of an ingress port under a reason (R76). -/
def countDrop (lane reason : Nat) (d : Dev) : Dev :=
  { d with lnk := { d.lnk with drops := supd (konst 0) d.lnk.drops (lane * 16 + reason) (· + 1) } }

/-! ### Virtual output queues (R164, R165) -/

def voqSource (k : Nat) : Nat := k / 8192
def voqEgress (k : Nat) : Nat := k / 8 % 1024
def voqTc (k : Nat) : Nat := k % 8

/-- Append to one of the two lists of a VOQ; a unit that is at once the head starts its head time. -/
def voqAppend (now : W64) (k : Nat) (esc : Bool) (b : Box) (d : Dev) : Dev :=
  let v := d.voq k
  let l := if esc then v.esc else v.norm
  let b' := tagSet (fun t => { t with enq := deltaNow now b })
    { b with headTick := if l.isEmpty then now.toNat else b.headTick }
  setVoq k (if esc then { v with esc := v.esc ++ [b'] } else { v with norm := v.norm ++ [b'] }) d

/-- The list without its head; the new head's time starts now. -/
def dropHead (now : W64) : List Box → List Box
  | _ :: b :: bs => { b with headTick := now.toNat } :: bs
  | _ => []

/-- The head a VOQ offers: the escape head first (R165). -/
def voqHead (v : Voq) : Option (Bool × Box) :=
  match v.esc, v.norm with
  | b :: _, _ => some (true, b)
  | [], b :: _ => some (false, b)
  | [], [] => none

def voqPop (now : W64) (k : Nat) (esc : Bool) (d : Dev) : Dev :=
  let v := d.voq k
  setVoq k (if esc then { v with esc := dropHead now v.esc } else { v with norm := dropHead now v.norm }) d

/-- Units queued for an egress port and class in the VOQs of both dies (R145). -/
def queuedFor (d : Dev) (egress tc : Nat) : Nat :=
  ((d.sw.voqs.filter (fun e => decide (voqEgress e.1 = egress ∧ voqTc e.1 = tc))).map
    (fun e => e.2.norm.length + e.2.esc.length)).sum

/-- Room for one more service cell of a class (R172). -/
def serviceRoom (d : Dev) (source tc : Nat) : Bool := (roomIn d source tc).isSome

/-! ### Multicast lists (R179) -/

def mcastKey (source tc : Nat) : Nat := tcKey source tc

def Dev.mcasts (d : Dev) (k : Nat) : List Mcast := sget (konst []) d.sw.mcast k

def setMcasts (k : Nat) (l : List Mcast) (d : Dev) : Dev :=
  { d with sw := { d.sw with mcast := sset (konst []) d.sw.mcast k l } }

/-- Store a cell once for several copies: one end is owed by the stored cell itself. -/
def mcastAppend (now : W64) (k : Nat) (b : Box) (copies : Option (List Copy)) (d : Dev) : Dev :=
  let b' := { b with multi := true, tag := none, headTick := now.toNat }
  let n := match copies with | some l => l.length | none => 0
  let tag := b.tag.map (fun t => { t with enq := deltaNow now b })
  let d1 := addCopies b.num (1 + n) d
  let d2 := { d1 with sw := { d1.sw with mtags := sset (konst none) d1.sw.mtags b.num tag } }
  setMcasts k (d2.mcasts k ++ [{ box := b', copies := copies }]) d2

def Dev.repls (d : Dev) (region : Nat) : List Repl := sget (konst []) d.sw.repl region

def setRepls (region : Nat) (l : List Repl) (d : Dev) : Dev :=
  { d with sw := { d.sw with repl := sset (konst []) d.sw.repl region l } }

/-- Skip the copies for a port in a list: the copies go, the skips are counted in FWD and owed ends fall
(R180). -/
def skipCopies (b : Box) (n : Nat) (d : Dev) : Dev :=
  if n = 0 then d else copyEnds b n fateFlushed (bumpN Page.fwd Reg.FWD_CNT 11 n d)

def copiesTo (lane : Nat) (l : List Copy) : Nat := (l.filter (fun c => c.egress == lane)).length
def copiesNotTo (lane : Nat) (l : List Copy) : List Copy := l.filter (fun c => c.egress != lane)

/-- Remove every copy still owed to a port, in the multicast lists and the replication buffers. -/
def dropCopies (lane : Nat) (d : Dev) : Dev :=
  let d1 := forEach d.sw.mcast (fun e d =>
    let d' := forEach e.2 (fun m d =>
      match m.copies with
      | some l => skipCopies m.box (copiesTo lane l) d
      | none => d) d
    setMcasts e.1 (e.2.map (fun m => { m with copies := m.copies.map (copiesNotTo lane) })) d') d
  forEach d1.sw.repl (fun e d =>
    let d' := forEach e.2 (fun r d => skipCopies r.box (copiesTo lane r.copies) d) d
    setRepls e.1 ((e.2.map (fun r => { r with copies := copiesNotTo lane r.copies })).filter
      (fun r => !r.copies.isEmpty)) d') d1

/-! ### A port goes down (R181 to R184) -/

def Dev.flushList (d : Dev) (die : Nat) : List Flushed := if die = 0 then d.sw.flushA else d.sw.flushB

def setFlushList (die : Nat) (l : List Flushed) (d : Dev) : Dev :=
  if die = 0 then { d with sw := { d.sw with flushA := l } } else { d with sw := { d.sw with flushB := l } }

/-- Put units of one list on a die's flush list. -/
def unlink (die lane reason : Nat) (ingress notify : Bool) (key : Nat) (l : List Box) (d : Dev) : Dev :=
  setFlushList die (d.flushList die ++ l.map (fun b =>
    { box := b, lane := lane, reason := reason, ingress := ingress, listKey := key, notify := notify })) d

/-- The VOQs with the port as egress, or as ingress, onto the flush lists (R182). -/
def unlinkVoqs (lane reason : Nat) (ingress : Bool) (d : Dev) : Dev :=
  forEach d.sw.voqs (fun e d =>
    if (if ingress then voqSource e.1 else voqEgress e.1) = lane then
      let die := dieOfSource (voqSource e.1)
      setVoq e.1 Voq.empty
        (unlink die lane reason ingress true (2 * e.1) e.2.norm
          (unlink die lane reason ingress true (2 * e.1 + 1) e.2.esc d))
    else d) d

/-- The port's staging buffer (R182). -/
def unlinkStaging (lane reason : Nat) (d : Dev) : Dev :=
  forEach (List.range 8) (fun tc d =>
    setStaged lane tc [] (unlink (dieOf lane) lane reason false true (2 ^ 30 + tc) (d.staged lane tc) d)) d

/-- The port's multicast lists and its parked cells (R182). -/
def unlinkStored (lane reason : Nat) (d : Dev) : Dev :=
  let d1 := forEach (List.range 8) (fun tc d =>
    let k := mcastKey lane tc
    setMcasts k [] (unlink (dieOf lane) lane reason true true (2 ^ 31 + tc) ((d.mcasts k).map (fun m => m.box)) d)) d
  let mine := fun (e : Nat × Box) => e.2.source == lane
  let d2 := unlink 0 lane reason true true (2 ^ 32) ((d1.sw.parkA.filter mine).map Prod.snd) d1
  let d3 := unlink 1 lane reason true true (2 ^ 32 + 1) ((d2.sw.parkB.filter mine).map Prod.snd) d2
  { d3 with sw := { d3.sw with parkA := d3.sw.parkA.filter (fun e => !mine e),
                               parkB := d3.sw.parkB.filter (fun e => !mine e) } }

/-- Copies not yet sent of the port's stored multicast cells are no longer owed. -/
def forgetCopies (lane : Nat) (d : Dev) : Dev :=
  forEach (List.range 8) (fun tc d =>
    forEach (d.mcasts (mcastKey lane tc)) (fun m d =>
      match m.copies with
      | some l => if l.isEmpty then d else copyEnds m.box l.length fateFlushed d
      | none => d) d) d

/-- Cells from the port still in the Colander pipeline, and cells framed but not yet checked (R182). -/
def unlinkPipe (lane reason : Nat) (d : Dev) : Dev :=
  let p := d.port lane
  let d1 := unlink (dieOf lane) lane reason true true (2 ^ 33) p.pipe d
  updPort lane (fun p => { p with pipe := [], framed := [] }) (bumpN Page.voq Reg.VOQ_CNT 4 p.framed.length d1)

/-- Cells in link framing count as flushed on the egress side (R182). -/
def flushFraming (lane : Nat) (d : Dev) : Dev :=
  let n := ((d.port lane).txStream.filter (fun b => b.start && !b.time)).length
  updPort lane (fun p => { p with txStream := [] }) (bumpN Page.voq Reg.VOQ_CNT 3 n d)

/-- Everything with the port as egress (R182, R449): VOQs, staging, pending copies. -/
def flushEgress (lane reason : Nat) (d : Dev) : Dev :=
  dropCopies lane (unlinkStaging lane reason (unlinkVoqs lane reason false d))

/-- Start a flush: FLUSH_STAT names the port and both engines walk; the event's notifications start at 0. -/
def startFlush (lane : Nat) (d : Dev) : Dev :=
  let d1 := wr Page.voq Reg.VOQ_FLUSH_STAT_LANE lane d
  let d2 := wr Page.voq Reg.VOQ_FLUSH_STAT_ACTIVE_A 1 (wr Page.voq Reg.VOQ_FLUSH_STAT_ACTIVE_B 1 d1)
  let d3 := { d2 with sw := { d2.sw with flushCount := sset (konst 0) d2.sw.flushCount lane 0 } }
  updPort lane (fun p => { p with flushing := true }) d3

/-- A port goes down: its queues, its staging buffer, its stored and parked cells and its pipeline are
unlinked onto the flush lists (R182). `reason` is its DOWN_REASON. -/
def portDown (lane reason : Nat) (d : Dev) : Dev :=
  let d1 := unlinkVoqs lane reason true (flushEgress lane reason d)
  let d2 := unlinkStored lane reason (forgetCopies lane d1)
  startFlush lane (flushFraming lane (unlinkPipe lane reason d2))

/-! ### Moves and thresholds as commands -/

/-- The units of a source and class in the lists that can hold landing charges. -/
def landingBoxes (d : Dev) (source tc : Nat) : List Box :=
  (d.sw.voqs.filter (fun e => decide (voqSource e.1 = source ∧ voqTc e.1 = tc))).flatMap
      (fun e => e.2.norm ++ e.2.esc) ++
    (d.mcasts (mcastKey source tc)).map (fun m => m.box) ++
    ((d.sw.parkA ++ d.sw.parkB).map Prod.snd).filter (fun b => b.source == source && cTc b.cell == tc)

/-- The oldest unit of a source and class held in landing (R168). -/
def oldestLanding (d : Dev) (source tc : Nat) : Option Box :=
  (landingBoxes d source tc).foldl (fun best b =>
    if b.acct = .landing then
      match best with
      | some c => if b.num < c.num then some b else some c
      | none => some b
    else best) none

/-- Set the account of the unit with an arrival number, wherever it is queued. -/
def setAcctOf (num : Nat) (a : Acct) (d : Dev) : Dev :=
  let f := fun (b : Box) => if b.num = num then { b with acct := a } else b
  { d with sw := { d.sw with
      voqs := d.sw.voqs.map (fun e => (e.1, { norm := e.2.norm.map f, esc := e.2.esc.map f })),
      mcast := d.sw.mcast.map (fun e => (e.1, e.2.map (fun m => { m with box := f m.box }))),
      parkA := d.sw.parkA.map (fun e => (e.1, f e.2)),
      parkB := d.sw.parkB.map (fun e => (e.1, f e.2)) } }

/-- Move the oldest landing unit of a source and class to minimum or shared when room has appeared (R168). -/
def landingPromote (source tc : Nat) (d : Dev) : Dev :=
  match roomIn d source tc, oldestLanding d source tc with
  | some a, some b => (recharge b a (setAcctOf b.num a d)).2
  | _, _ => d

end Sys2Proof.Machine
end

