-- ==== Sys2Proof/Machine/Forwarding.lean ====
section
/-! DEFINITION. The Colander's lookups: circuits in the way of a port (R219, R221), the destination table
(R136, R137, R149), congestion and choice of member (R143 to R148), the flow table (R151, R152), misses
(R155, R156), and the cells the device originates (R133). -/

namespace Sys2Proof.Machine

/-! ### Circuit-table entries (R219) -/

def circWords (d : Dev) (i : Nat) : List W32 := tget d Page.byp 0 i
def circState (d : Dev) (i : Nat) : Nat := wbits (circWords d i) 5 31 28
def setCircWords (i : Nat) (ws : List W32) (d : Dev) : Dev := tset Page.byp 0 i ws d
def setCircState (i v : Nat) (d : Dev) : Dev := setCircWords i (setWBits (circWords d i) 5 31 28 v) d

/-- Circuit states (R219). -/
def csIdle : Nat := 0
def csArmed : Nat := 1
def csDraining : Nat := 2
def csSwitching : Nat := 3
def csUp : Nat := 4
def csConfirmed : Nat := 5
def csTearing : Nat := 6
def csFailed : Nat := 7

/-- Lowest lanes of pair `k`. -/
def circPairA (ws : List W32) (k : Nat) : Nat := wbits ws (1 + k) 19 10
def circPairB (ws : List W32) (k : Nat) : Nat := wbits ws (1 + k) 9 0

/-- Lowest lanes of the chosen pair's ports. -/
def circLanes (d : Dev) (i : Nat) : List Nat :=
  let ws := circWords d i
  let k := wbits ws 5 19 18
  [circPairA ws k, circPairB ws k]

/-- Circuit entries with something stored. -/
def circListed (d : Dev) : List Nat := (tblListed d Page.byp 0).map Prod.fst

/-- A circuit holds the port out of service: from the start of the drain to the end of the teardown (R221). -/
def inCircuit (d : Dev) (lane : Nat) : Bool :=
  (circListed d).any (fun i =>
    decide (csDraining ≤ circState d i ∧ circState d i ≤ csTearing) && (circLanes d i).contains lane)

/-- Count on a lane's LNK page (R124); the counters of a circuit's ports do not advance (R221). -/
def lnkCount (lane k n : Nat) (d : Dev) : Dev :=
  if lane < 1024 ∧ inCircuit d (lowestLane d lane) = true then d else bumpN (Page.lnk lane) Reg.LNK_CNT k n d

/-- No new cell starts on the port: its circuit's fence is up (R222). -/
def fenced (d : Dev) (lane : Nat) : Bool := (d.port lane).fence

/-! ### Destination entries (R136) -/

/-- The entry at index `i` of bank `e`. -/
def destEntry (d : Dev) (e i : Nat) : List W32 := tget d Page.fwd e i

def deValid (ws : List W32) : Bool := wbit ws 0 31
def deCount (ws : List W32) : Nat := wbits ws 0 28 24
def deEscIdx (ws : List W32) : Nat := wbits ws 0 23 20
def dePin (ws : List W32) (g : Nat) : Bool := wbit ws 0 (16 + g)
def deHealth (ws : List W32) (k : Nat) : Bool := wbit ws 0 k
def deMember (ws : List W32) (k : Nat) : Nat := wbits ws (1 + k / 3) (10 * (k % 3) + 9) (10 * (k % 3))

/-- Class group of a TC (R143). -/
def classGroup (tc : Nat) : Nat :=
  if tc = 0 then 0 else if tc ≤ 3 then 1 else if tc ≤ 5 then 2 else 3

/-- The class is pinned by the entry (R143). -/
def isPinned (ws : List W32) (tc : Nat) : Bool := decide (tc = 7) || dePin ws (classGroup tc)

/-- Member `k` is usable (R137). -/
def usable (d : Dev) (ws : List W32) (k : Nat) : Bool :=
  decide (k < deCount ws) && decide (deCount ws ≤ 16) && deHealth ws k && isPort d (deMember ws k) &&
    portUp d (deMember ws k) && !inCircuit d (deMember ws k)

def usables (d : Dev) (ws : List W32) : List Nat := (List.range 16).filter (usable d ws)

/-- NBR_COORD of a port. -/
def nbrCoord (d : Dev) (lane : Nat) : Nat := rd d (Page.lnk lane) Reg.LNK_NBR_COORD_COORD

/-- The member leads straight to the leaf at index `i` (R149). -/
def leadsTo (d : Dev) (ws : List W32) (i k : Nat) : Bool :=
  let x := nbrCoord d (deMember ws k)
  decide (coPlane x = rd d Page.fwd Reg.FWD_SELF_PLANE) && decide (coEntry x = i)

/-- The escape member of the entry at index `i` (R149). -/
def escMember (d : Dev) (ws : List W32) (i : Nat) : Option Nat :=
  let ok := fun k => usable d ws k && leadsTo d ws i k
  if ok (deEscIdx ws) then some (deEscIdx ws) else (List.range 16).find? ok

/-! ### Parity and suspect segments (R157 to R160) -/

/-- Key of one die's copy of a stored entry. -/
def parKey (table die i : Nat) : Nat := (table * 2 + die) * 2 ^ 24 + i

def parityBad (d : Dev) (table die i : Nat) : Bool := sget (konst false) d.ctl.parityBad (parKey table die i)

def setParityBad (table die i : Nat) (b : Bool) (d : Dev) : Dev :=
  { d with ctl := { d.ctl with parityBad := sset (konst false) d.ctl.parityBad (parKey table die i) b } }

/-- The segment of a destination entry (R158). -/
def segOf (bank i : Nat) : Nat := 4 * bank + i / 1024

def suspectFd (g die : Nat) : Fd := ⟨Reg.FWD_SEG_STAT.off, 4 * g + 2 + die, 4 * g + 2 + die⟩
def segStateFd (g : Nat) : Fd := ⟨Reg.FWD_SEG_STAT.off, 4 * g + 1, 4 * g⟩

/-- Key of an entry's written-since-suspect mark. -/
def freshKey (die bank i : Nat) : Nat := (die * 2 + bank) * 4096 + i

/-- The entry misses because its segment is suspect on the die and it has not been written since (R160). -/
def suspectMiss (d : Dev) (die bank i : Nat) : Bool :=
  rdBit d Page.fwd (suspectFd (segOf bank i) die) && !sget (konst false) d.fwd.fresh (freshKey die bank i)

/-- Why a lookup misses, the first case that applies (R155); `none` when it does not. -/
def missOf (d : Dev) (die bank i : Nat) (esc : Bool) : Option Nat :=
  let ws := destEntry d bank i
  if !deValid ws then some 1
  else if parityBad d bank die i then some 2
  else if suspectMiss d die bank i then some 3
  else if (usables d ws).isEmpty then some 4
  else if esc && (escMember d ws i).isNone then some 5
  else none

/-- Record a parity error in PAR_INFO, which holds its first capture as PAGE_ERR_INFO does (R162), and raise
the interrupt (R157). -/
def reportParity (table die i : Nat) (d : Dev) : Dev :=
  let d1 :=
    if rdWord d Page.fwd 0x018 = 0 then
      wrWord Page.fwd Reg.FWD_PAR_INFO_TABLE.off
        (BitVec.ofNat 32 (table * 2 ^ 28 + die * 2 ^ 27 + i % 2 ^ 20)) d
    else d
  raiseIrq Page.fwd 19 d1

/-! ### Flow key and flow table (R146, R151, R152) -/

/-- SRC of the flow key: the cell's, or for a collective body the neighbour's or the device's own (R146). -/
def keySrc (d : Dev) (c : Cell) (ingress : Option Nat) : Nat :=
  if dataBody (cOp c) then cSrc c
  else match ingress with
    | some lane => nbrCoord d lane
    | none => selfCoord d

/-- The flow hash (R146). -/
def flowHash (dst src tc : Nat) : Nat := crc32c (bytesBE 4 dst ++ bytesBE 4 src ++ bytesBE 1 tc)

/-- The four indices of a die's set (R151). -/
def flowSet (die h : Nat) : List Nat :=
  (List.range 4).map (fun k => die * 524288 + 4 * (h % 2 ^ 17) + k)

def feMatches (ws : List W32) (dst src tc : Nat) : Bool :=
  wbit ws 0 31 && decide (wbits ws 0 24 22 = tc) && decide (wbits ws 1 31 0 = dst) &&
    decide (wbits ws 2 31 0 = src)

/-- Bits [37:6] of the local counter (R151). -/
def seenNow (now : W64) : Nat := now.toNat / 64 % 2 ^ 32

/-- Age of an entry in steps of 40 ns (R153). -/
def flowAge (now : W64) (ws : List W32) : Nat := (seenNow now + 2 ^ 32 - wbits ws 5 31 0) % 2 ^ 32

/-- The entry is stale (R153). -/
def flowStale (now : W64) (d : Dev) (ws : List W32) : Bool :=
  wbit ws 0 31 && !wbit ws 0 30 && decide (wbits ws 6 25 0 = 0) &&
    decide (rd d Page.fwd Reg.FWD_FLOW_CFG_AGE * 1000 < flowAge now ws * 40)

/-- Flow entries of a set with a parity error are cleared, and the error is reported (R157). -/
def scrubSet (die : Nat) (is : List Nat) (d : Dev) : Dev :=
  forEach is (fun i d =>
    if parityBad d 2 die i then
      hwErr Page.fwd errCorrected (i % 4096)
        (setParityBad 2 die i false (tset Page.fwd 2 i (List.replicate 7 0) (reportParity 2 die i d)))
    else d) d

/-- The way an insertion takes: the lowest empty, else the oldest stale (R152). -/
def victimWay (now : W64) (d : Dev) (is : List Nat) : Option Nat :=
  match is.find? (fun i => !wbit (tget d Page.fwd 2 i) 0 31) with
  | some i => some i
  | none =>
    is.foldl (fun best i =>
      if flowStale now d (tget d Page.fwd 2 i) then
        match best with
        | some j =>
          if flowAge now (tget d Page.fwd 2 j) < flowAge now (tget d Page.fwd 2 i) then some i else some j
        | none => some i
      else best) none

def feWords (member tc die dst src bytes seen held : Nat) : List W32 :=
  [BitVec.ofNat 32 (2 ^ 31 + 2 ^ 29 + member * 2 ^ 25 + tc * 2 ^ 22 + die * 2 ^ 21),
   BitVec.ofNat 32 dst, BitVec.ofNat 32 src, lo32 bytes, hi32 bytes, BitVec.ofNat 32 seen, BitVec.ofNat 32 held]

/-! ### Choosing a member -/

/-- Congestion level of an egress port and class (R145). -/
def congestion (d : Dev) (egress tc : Nat) : Nat := min 15 (ceilLog2 (queuedFor d egress tc + 1))

/-- Steps 2 and 3 of R147 for a hash. -/
def hashMember (d : Dev) (ws : List W32) (h : Nat) : Option Nat :=
  let h15 := h / 2 ^ 17
  let k := h15 * deCount ws / 2 ^ 15
  if usable d ws k then some k
  else
    let l := usables d ws
    l[h15 * l.length / 2 ^ 15]?

/-- The sprayed choice of a source (R144): the lowest congestion level, ties by the source's pointer, which
moves past the member chosen. -/
def sprayMember (source tc : Nat) (ws : List W32) (d : Dev) : Option Nat × Dev :=
  let l := usables d ws
  let lv := fun k => congestion d (deMember ws k) tc
  let best := l.foldl (fun m k => min m (lv k)) 15
  let c := l.filter (fun k => lv k == best)
  let ptr := (d.port source).spray
  match (c.find? (fun k => decide (ptr ≤ k))).or c.head? with
  | some k => (some k, updPort source (fun p => { p with spray := (k + 1) % 16 }) d)
  | none => (none, d)

/-- What the Colander decides for a cell: the member chosen and the flow entry that counts it. -/
structure Choice where
  member : Option Nat
  flow : Option Nat
  deriving DecidableEq, Repr

/-- A new flowlet starts (R148): pinned, not STATIC, a gap configured, nothing held, the gap passed. -/
def flowletDue (now : W64) (d : Dev) (ws : List W32) : Bool :=
  let gap := rd d Page.fwd Reg.FWD_FLOW_CFG_FLOWLET_GAP
  !wbit ws 0 30 && decide (gap ≠ 0) && decide (wbits ws 6 25 0 = 0) &&
    decide (gap * 100 ≤ flowAge now ws * 40)

/-- A tracked flow's entry after one more cell (R151). -/
def flowSeen (now : W64) (ws : List W32) : List W32 :=
  setWBits (setW (setW64 ws 3 (word64 ws 3 + 112)) 5 (BitVec.ofNat 32 (seenNow now))) 6 25 0
    (wbits ws 6 25 0 + 1)

/-- Record a member in an entry; a STATIC entry keeps its own (R154). -/
def recordMember (k : Nat) (ws : List W32) : List W32 :=
  if wbit ws 0 30 then ws else setWBits (setWBits ws 0 29 29 1) 0 28 25 k

/-- The member of a tracked, pinned flow (R147, R148). -/
def pinnedTracked (now : W64) (source tc i h : Nat) (ws : List W32) (d : Dev) : Option Nat × Dev :=
  let fe := tget d Page.fwd 2 i
  let old := wbits fe 0 28 25
  if flowletDue now d fe then
    let r := sprayMember source tc ws d
    match r.1 with
    | some k =>
      let d1 := tset Page.fwd 2 i (recordMember k fe) r.2
      (some k, doIf (decide (wbit fe 0 29 = true ∧ k ≠ old)) (bump Page.fwd Reg.FWD_CNT 8) d1)
    | none => (none, r.2)
  else if wbit fe 0 29 && usable d ws old then (some old, d)
  else
    match hashMember d ws h with
    | some k => (some k, tset Page.fwd 2 i (recordMember k fe) d)
    | none => (none, d)

/-- Track a cell's flow (step 4 of R132, R152): the entry's index, inserted if missing. -/
def trackFlow (now : W64) (die dst src tc h : Nat) (ws : List W32) (d : Dev) : Option Nat × Bool × Dev :=
  let is := flowSet die h
  let d1 := scrubSet die is d
  match is.find? (fun i => feMatches (tget d1 Page.fwd 2 i) dst src tc) with
  | some i => (some i, false, d1)
  | none =>
    match victimWay now d1 is with
    | some i =>
      let k := hashMember d1 ws h
      let fe := feWords (k.getD 0) tc die dst src 112 (seenNow now) 1
      let fe' := if k.isSome then fe else setWBits fe 0 29 29 0
      (some i, true, bump Page.fwd Reg.FWD_CNT 6 (tset Page.fwd 2 i fe' d1))
    | none => (none, false, bump Page.fwd Reg.FWD_CNT 7 d1)

/-- Step 4 of R132: a cell of a tracked class finds or inserts its flow; whether the entry is new. -/
def lookFlow (now : W64) (die : Nat) (c : Cell) (ingress : Option Nat) (ws : List W32) (d : Dev) :
    Option Nat × Bool × Dev :=
  let tc := cTc c
  let src := keySrc d c ingress
  if rd d Page.fwd Reg.FWD_FLOW_CFG_TRACK_TC / 2 ^ tc % 2 = 1 then
    trackFlow now die (cDst c) src tc (flowHash (cDst c) src tc) ws d
  else (none, false, d)

/-- One more cell of a flow that already had its entry (R151). -/
def noteFlow (now : W64) (flow : Option Nat) (fresh : Bool) (d : Dev) : Dev :=
  match flow with
  | some i => if fresh then d else tset Page.fwd 2 i (flowSeen now (tget d Page.fwd 2 i)) d
  | none => d

/-- Steps 4 and 5 of R132 for a cell whose entry `ws` does not miss: its flow and its member. -/
def chooseMember (now : W64) (die source : Nat) (c : Cell) (ingress : Option Nat) (ws : List W32) (d : Dev) :
    Choice × Dev :=
  let tc := cTc c
  let h := flowHash (cDst c) (keySrc d c ingress) tc
  let t := lookFlow now die c ingress ws d
  let d1 := t.2.2
  let pick : Option Nat × Dev :=
    if cEsc c = 1 then (escMember d1 ws (coEntry (cDst c)), d1)
    else if isPinned ws tc then
      match t.1 with
      | some i => if t.2.1 then (hashMember d1 ws h, d1) else pinnedTracked now source tc i h ws d1
      | none => (hashMember d1 ws h, d1)
    else sprayMember source tc ws d1
  ({ member := pick.1, flow := t.1 }, noteFlow now t.1 t.2.1 pick.2)

/-! ### Escape flows (R96) -/

/-- The flow of a held unit, as (DST, SRC, TC). -/
def flowOf (d : Dev) (b : Box) : Nat × Nat × Nat :=
  (cDst b.cell, keySrc d b.cell (if b.source < 1024 then some b.source else none), cTc b.cell)

/-- The device holds a cell of the flow in a queue or a staging buffer. -/
def holdsFlow (d : Dev) (f : Nat × Nat × Nat) : Bool :=
  d.sw.voqs.any (fun e => (e.2.norm ++ e.2.esc).any (fun b => flowOf d b == f)) ||
    d.sw.staging.any (fun e => e.2.any (fun b => !b.multi && flowOf d b == f))

/-- Later cells of the flow still go by the escape VC (R96). -/
def flowEscaped (d : Dev) (f : Nat × Nat × Nat) : Bool := d.sw.escFlows.contains f && holdsFlow d f

/-- Flows of which the device holds no cell any longer leave the list (R96). -/
def pruneEscFlows (d : Dev) : Dev :=
  { d with sw := { d.sw with escFlows := d.sw.escFlows.filter (fun f => holdsFlow d f) } }

/-! ### Cells the device originates (R133, R172) -/

/-- The cell with EPOCH written from the active bank (R132). -/
def stamp (d : Dev) (c : Cell) : Cell := reseal (setHb c 89 89 (rd d Page.fwd Reg.FWD_EPOCH_STAT_ACTIVE))

/-- A unit for a cell of a service source. -/
def serviceBox (now : W64) (source : Nat) (c : Cell) (d : Dev) : Box × Dev :=
  let n := nextNum d
  (mkBox c source n.1 (fabricNs d now) now.toNat (vcOf (cTc c) (cEsc c)), n.2)

/-- Charge a service unit to an account with room, and count its admission (R172, R188). -/
def chargeService (b : Box) (a : Acct) (d : Dev) : Box × Dev :=
  ({ b with acct := a },
    bump Page.voq Reg.VOQ_CNT (if a = .minimum then 0 else 1)
      (updUnits b.source (cTc b.cell) (fun u => u.add a) d))

/-- Queue a cell the device originates, with the egress port already known (R420). -/
def sendVia (now : W64) (source egress : Nat) (c : Cell) (a : Acct) (d : Dev) : Dev :=
  let b := serviceBox now source (stamp d c) d
  let r := chargeService b.1 a b.2
  voqAppend now (voqKey source egress (cTc c)) false r.1 r.2

/-- Route and queue a cell the device originates. It takes steps 1 to 5 of R132 (R133); a miss drops and
counts it with no notification (R155). -/
def originateIn (now : W64) (source : Nat) (c0 : Cell) (a : Acct) (d : Dev) : Dev :=
  let c := stamp d c0
  let die := dieOfSource source
  let e := cEpoch c
  let i := coEntry (cDst c)
  match missOf d die e i (cEsc c = 1) with
  | some detail => bump Page.fwd Reg.FWD_CNT (detail - 1) d
  | none =>
    let ws := destEntry d e i
    let r := chooseMember now die source c none ws d
    let follow := pinnedTc (cTc c) && flowEscaped d (cDst c, keySrc d c none, cTc c)
    let member := if follow then escMember r.2 ws i else r.1.member
    match member with
    | some k =>
      let c1 := if follow then setHb c 92 92 1 else c
      let b := serviceBox now source c1 (drainInc e r.2)
      let bc := chargeService { b.1 with counted := true, flow := r.1.flow } a b.2
      voqAppend now (voqKey source (deMember ws k) (cTc c)) follow bc.1 bc.2
    | none => heldDec r.1.flow (bump Page.fwd Reg.FWD_CNT (if follow then 4 else 3) r.2)

/-- Queue a cell of a service source when minimum or shared has room (R172). A cell addressed to a service
coordinate is for no destination entry and is dropped (R86). -/
def originate (now : W64) (source : Nat) (c : Cell) (d : Dev) : Dev × Bool :=
  if isService (cDst c) then (d, true)
  else match roomIn d source (cTc c) with
    | some a => (originateIn now source c a d, true)
    | none => (d, false)

/-- Send a notification from a die's notification source; without room it is dropped (R93, R172). -/
def sendNotify (now : W64) (die : Nat) (c : Cell) (d : Dev) : Dev := (originate now (svcNote die) c d).1

/-- The notification is sent: it is not dropped for want of room or for a miss (R93, R155, R172). -/
def noteGoes (d : Dev) (die : Nat) (c : Cell) : Bool :=
  let c1 := stamp d c
  !isService (cDst c) && (roomIn d (svcNote die) (cTc c)).isSome &&
    (missOf d die (cEpoch c1) (coEntry (cDst c1)) (cEsc c1 = 1)).isNone

/-- Send a notification and count it in a counter of a page if it goes. -/
def sendCounted (now : W64) (die : Nat) (c : Cell) (p : Page) (cnt : Fd) (k : Nat) (d : Dev) : Dev :=
  doIf (noteGoes d die c) (bump p cnt k) (sendNotify now die c d)

/-! ### Misses of arriving cells (R155, R156) -/

/-- UNREACHABLE is sent only about a unicast cell with the data body that is not a NOTIFY (R155). -/
def notifiable (c : Cell) : Bool :=
  dataBody (cOp c) && !([ocNOTIFY, ocMROW, ocMCOL].contains (cOp c))

/-- Send an UNREACHABLE, at most one per NOTIFY_GAP and ingress port (R156). -/
def unreachable (now : W64) (lane : Nat) (c : Cell) (detail : Nat) (info : List Byte) (d : Dev) : Dev :=
  let gap := rd d Page.fwd Reg.FWD_NOTIFY_GAP_T
  let blocked := match (d.port lane).unreachTick with
    | some t => decide (gap ≠ 0) && !elapsed now t (10 * gap)
    | none => false
  if blocked then bump Page.fwd Reg.FWD_CNT 10 d
  else
    let note := notifyAbout d c ntUNREACHABLE detail info
    let d1 := doIf (noteGoes d (dieOf lane) note) (updPort lane (fun p => { p with unreachTick := some now.toNat })) d
    sendCounted now (dieOf lane) note Page.fwd Reg.FWD_CNT 9 d1

/-- A unicast cell that misses is dropped and counted under its DETAIL, its credit returned, and SRC
notified (R155). -/
def missCell (now : W64) (lane : Nat) (b : Box) (e i detail : Nat) (d : Dev) : Dev :=
  let d1 := dropBox b fateMiss (bump Page.fwd Reg.FWD_CNT (detail - 1) d)
  if notifiable b.cell then
    unreachable now lane b.cell detail (bytesBE 2 i ++ bytesBE 1 e) d1
  else d1

end Sys2Proof.Machine
end

