-- ==== Sys2Proof/Machine/Traffic.lean ====
section
/-! DEFINITION. Traffic management (ch. 7): policers (R193 to R195), shapers (R197 to R199), the timing
wheel (R200, R201), gates and guard bands (R204 to R208), launch holds (R209), the deficit weighted round
robin of both arbiters (R495), and sending a cell into link framing (R202). -/

namespace Sys2Proof.Machine

/-! ### Token buckets -/

/-- One byte in the units tokens are kept in: one Mb/s adds one unit each tick of 0.625 ns. -/
def byteUnits : Nat := 12800

/-- Tokens of a bucket at counter `now`, filled at `rate` Mb/s up to `burst` bytes (R194, R198). -/
def bucketLevel (now : W64) (rate burst : Nat) (b : Bucket) : Nat :=
  min (burst * byteUnits) (b.tokens + rate * ticksSince now b.tick)

def fullBucket (burst tick : Nat) : Bucket := { tokens := burst * byteUnits, tick := tick }

/-! ### Policers (R193, R194, R212) -/

def polDefault : Nat → Bucket × Bucket := konst (fullBucket 262144 0, fullBucket 524288 0)

/-- Entry of a policer, and its rates and bursts; PIR below CIR acts as CIR (R194). -/
def polWords (d : Dev) (i : Nat) : List W32 := tget d (Page.etm 0) 1 i
def polCir (ws : List W32) : Nat := min 1600000 (wbits ws 0 20 0)
def polPir (ws : List W32) : Nat := max (polCir ws) (min 1600000 (wbits ws 1 20 0))
def polCbs (ws : List W32) : Nat := wbits ws 2 23 0
def polPbs (ws : List W32) : Nat := wbits ws 3 23 0

/-- Both buckets of policer `i` at `now`, in units. -/
def polLevels (now : W64) (d : Dev) (i : Nat) : Nat × Nat :=
  let ws := polWords d i
  let b := sget polDefault d.sw.policers i
  (bucketLevel now (polCir ws) (polCbs ws) b.1, bucketLevel now (polPir ws) (polPbs ws) b.2)

def setPolicer (i : Nat) (v : Bucket × Bucket) (d : Dev) : Dev :=
  { d with sw := { d.sw with policers := sset polDefault d.sw.policers i v } }

/-- Both buckets full (R210, R212). -/
def fillPolicer (now : W64) (i : Nat) (d : Dev) : Dev :=
  let ws := polWords d i
  setPolicer i (fullBucket (polCbs ws) now.toNat, fullBucket (polPbs ws) now.toNat) d

/-- The marker of R194: the colour of a green (0) or yellow (1) cell, 2 for red. -/
def police (now : W64) (i colour : Nat) (d : Dev) : Nat × Dev :=
  let (tc, tp) := polLevels now d i
  let cell := 112 * byteUnits
  if tp < cell then (2, d)
  else if colour = 1 ∨ tc < cell then
    (1, setPolicer i ({ tokens := tc, tick := now.toNat }, { tokens := tp - cell, tick := now.toNat }) d)
  else
    (0, setPolicer i ({ tokens := tc - cell, tick := now.toNat }, { tokens := tp - cell, tick := now.toNat }) d)

/-- The policer of an ingress port and class (R193). -/
def policerOf (d : Dev) (lane tc : Nat) : Option Nat :=
  let p := Page.etm lane
  if tc < 7 ∧ rdBit d p (Reg.ETM_POL_MAP_EN.idx tc) = true then
    some (8192 * dieOf lane + rd d p (Reg.ETM_POL_MAP_POLICER.idx tc))
  else none

/-! ### Shapers (R197 to R199) -/

/-- L of an egress port: 112 + OVERHEAD bytes (R197). -/
def shapeLen (d : Dev) (lane : Nat) : Nat :=
  (112 + signedOf 8 (rd d (Page.etm lane) Reg.ETM_ETM_CFG_OVERHEAD)).toNat

def classRate (d : Dev) (lane tc : Nat) : Nat := rd d (Page.etm lane) (Reg.ETM_SHAPE_RATE_MBPS.idx tc)
/-- Values of BURST below L act as L (R213). -/
def classBurst (d : Dev) (lane tc : Nat) : Nat :=
  max (shapeLen d lane) (rd d (Page.etm lane) (Reg.ETM_SHAPE_BURST_BYTES.idx tc))

def shaperDefault : Nat → Bucket := konst (fullBucket 65536 0)

def classLevel (now : W64) (d : Dev) (lane tc : Nat) : Nat :=
  bucketLevel now (classRate d lane tc) (classBurst d lane tc) (sget shaperDefault d.sw.shapers (tcKey lane tc))

def setShaper (lane tc : Nat) (b : Bucket) (d : Dev) : Dev :=
  { d with sw := { d.sw with shapers := sset shaperDefault d.sw.shapers (tcKey lane tc) b } }

/-- The aggregate of an egress port and class (R199), numbered over both dies. -/
def aggOf (d : Dev) (lane tc : Nat) : Option Nat :=
  let p := Page.etm lane
  if rdBit d p (Reg.ETM_SHAPE_AGG_EN.idx tc) then
    some (2048 * dieOf lane + rd d p (Reg.ETM_SHAPE_AGG_AGG.idx tc))
  else none

def aggRate (d : Dev) (a : Nat) : Nat := min 1600000 (wbits (tget d (Page.etm 0) 2 a) 0 20 0)
def aggBurst (d : Dev) (a : Nat) : Nat := wbits (tget d (Page.etm 0) 2 a) 1 23 0

def aggLevel (now : W64) (d : Dev) (a : Nat) : Nat :=
  bucketLevel now (aggRate d a) (aggBurst d a) (sget shaperDefault d.sw.aggregates a)

def setAggregate (a : Nat) (b : Bucket) (d : Dev) : Dev :=
  { d with sw := { d.sw with aggregates := sset shaperDefault d.sw.aggregates a b } }

def fillAggregate (now : W64) (a : Nat) (d : Dev) : Dev :=
  setAggregate a (fullBucket (aggBurst d a) now.toNat) d

/-! ### The timing wheel (R200, R201) -/

/-- Wheel keys: class shapers first, then aggregates. -/
def wheelClass (lane tc : Nat) : Nat := tcKey lane tc
def wheelAgg (a : Nat) : Nat := 8192 + a
def wheelDie (k : Nat) : Nat := if k < 8192 then dieOf (k / 8) else (k - 8192) / 2048

def onWheel (d : Dev) (k : Nat) : Bool := sget (konst 0) d.sw.wheel k != 0

def setWheel (k slot : Nat) (d : Dev) : Dev :=
  { d with sw := { d.sw with wheel := sset (konst 0) d.sw.wheel k slot } }

/-- The 5 ns slot at or after a counter value, kept one above so that 0 means none. -/
def slotAt (t : Nat) : Nat := ceilDiv t 8 + 1

/-- Enter a shaper at the first slot at or after the time its tokens reach L, within the horizon (R200). -/
def enterWheel (now : W64) (k level need rate : Nat) (d : Dev) : Dev :=
  if rate = 0 ∨ need ≤ level then d
  else
    let t := now.toNat + ceilDiv (need - level) rate
    setWheel k (min (slotAt t) (slotAt now.toNat + 65535)) d

/-- The class holds at least L in its shaper and in its aggregate (R199), neither waiting on the wheel. -/
def shapeOk (now : W64) (d : Dev) (lane tc : Nat) : Bool :=
  let l := shapeLen d lane * byteUnits
  let cls := decide (classRate d lane tc = 0) ||
    (!onWheel d (wheelClass lane tc) && decide (l ≤ classLevel now d lane tc))
  let agg := match aggOf d lane tc with
    | some a => decide (aggRate d a = 0) || (!onWheel d (wheelAgg a) && decide (l ≤ aggLevel now d a))
    | none => true
  cls && agg

/-- Charge one granted cell to its class shaper and aggregate (R199); a shaper left below L goes on the
wheel (R200). -/
def shapeCharge (now : W64) (lane tc : Nat) (d : Dev) : Dev :=
  let l := shapeLen d lane * byteUnits
  let d1 :=
    if classRate d lane tc = 0 then d
    else
      let lv := classLevel now d lane tc - l
      enterWheel now (wheelClass lane tc) lv l (classRate d lane tc)
        (setShaper lane tc { tokens := lv, tick := now.toNat } d)
  match aggOf d lane tc with
  | none => d1
  | some a =>
    if aggRate d a = 0 then d1
    else
      let lv := aggLevel now d1 a - l
      enterWheel now (wheelAgg a) lv l (aggRate d a) (setAggregate a { tokens := lv, tick := now.toNat } d1)

/-- Level, need and rate of a wheel entry. An aggregate waits for the default cell length of lane 0's port
of its die or more; it is judged again at the grant (R199). -/
def wheelState (now : W64) (d : Dev) (k : Nat) : Nat × Nat × Nat :=
  if k < 8192 then
    (classLevel now d (k / 8) (k % 8), shapeLen d (k / 8) * byteUnits, classRate d (k / 8) (k % 8))
  else
    let a := k - 8192
    (aggLevel now d a, shapeLen d (512 * (a / 2048)) * byteUnits, aggRate d a)

/-- Serve one wheel entry: eligible again, or entered again (R200); a late one is counted (R201). -/
def serveWheel (now : W64) (cur : Nat) (e : Nat × Nat) (d : Dev) : Dev :=
  let st := wheelState now d e.1
  let d1 := enterWheel now e.1 st.1 st.2.1 st.2.2 (setWheel e.1 0 d)
  if e.2 < cur then
    let p := Page.etm 0
    let late := min 255 (cur - e.2)
    let d2 := wr p Reg.ETM_WHEEL_MAX_SLOTS (max late (rd d1 p Reg.ETM_WHEEL_MAX_SLOTS)) d1
    raiseIrq p 18 (bumpAt 256 p Reg.ETM_WHEEL_LATE.off 1 d2)
  else d1

/-- One slot of a die's wheel: up to 32 entries due, the earliest first (R201). -/
def wheelSlot (now : W64) (die : Nat) (d : Dev) : Dev :=
  let cur := now.toNat / 8 + 1
  let due := d.sw.wheel.filter (fun e => decide (wheelDie e.1 = die ∧ e.2 ≤ cur))
  forEach ((sortBy Prod.snd due).take 32) (serveWheel now cur) d

/-! ### Gates (R204 to R208) -/

def etmRunning (d : Dev) (lane : Nat) : Bool := decide (pageState d (Page.etm lane) = stRunning)

/-- Entry `k` of a gate list: OPEN and INTERVAL (R211). -/
def gateEntry (d : Dev) (lane list k : Nat) : Nat × Nat :=
  let ws := tget d (Page.etm lane) 0 (list * 256 + k)
  (wbits ws 0 7 0, wbits ws 1 29 0)

def gateLen (d : Dev) (lane list : Nat) : Nat :=
  rd d (Page.etm lane) (if list = 0 then Reg.ETM_GATE_LEN_LEN0 else Reg.ETM_GATE_LEN_LEN1)

def gateCycle (d : Dev) (lane list : Nat) : Nat := rd d (Page.etm lane) (Reg.ETM_GATE_CYCLE_NS.idx list)

def gateIntervals (d : Dev) (lane list : Nat) : List Nat :=
  (List.range (gateLen d lane list)).map (fun k => (gateEntry d lane list k).2)

/-- The first check of R205 that fails: 1 LEN, 2 interval, 3 cycle sum. -/
def gateCheck (d : Dev) (lane list : Nat) : Option Nat :=
  let len := gateLen d lane list
  if len < 1 ∨ 256 < len then some 1
  else if (gateIntervals d lane list).any (fun v => decide (v < 20)) then some 2
  else if (gateIntervals d lane list).sum ≠ gateCycle d lane list then some 3
  else none

def gateOf (d : Dev) (lane : Nat) : Option Gate := sget (konst none) d.sw.gates lane

def setGate (lane : Nat) (g : Option Gate) (d : Dev) : Dev :=
  { d with sw := { d.sw with gates := sset (konst none) d.sw.gates lane g } }

def activeList (d : Dev) (lane : Nat) : Nat := rd d (Page.etm lane) Reg.ETM_GATE_STAT_ACTIVE_LIST

/-- Put an entry into effect: ENTRY and OPEN, bit 7 ignored (R204). -/
def showEntry (lane list k : Nat) (d : Dev) : Dev :=
  let p := Page.etm lane
  wr p Reg.ETM_GATE_OPEN_OPEN ((gateEntry d lane list k).1 ||| 128) (wr p Reg.ETM_GATE_STAT_ENTRY k d)

/-- Start NEXT_LIST at fabric time `ns`, or refuse with the failed check, recorded by `refuse` (R205). -/
def gateStartAt (refuse : Nat → Dev → Dev) (lane ns : Nat) (d : Dev) : Dev :=
  let p := Page.etm lane
  let list := rd d p Reg.ETM_GATE_CTL_NEXT_LIST
  match gateCheck d lane list with
  | some c => refuse c d
  | none =>
    let d1 := setGate lane (some { start := ns, entryStart := ns, entry := 0 }) d
    let d2 := wr p Reg.ETM_GATE_STAT_ACTIVE_LIST list (wr p Reg.ETM_GATE_STAT_RUNNING 1 d1)
    let d3 := wr64 p Reg.ETM_GATE_BASE ns (showEntry lane list 0 d2)
    raiseIrq p 16 (bump p Reg.ETM_CNT 13 d3)

/-- Stop the running list and open every gate (R208, R214). -/
def gateStop (lane : Nat) (d : Dev) : Dev :=
  let p := Page.etm lane
  setGate lane none (wr p Reg.ETM_GATE_OPEN_OPEN 0xFF (wr p Reg.ETM_GATE_STAT_RUNNING 0 d))

/-- Advance the running list when the entry in effect has run for its INTERVAL (R204). -/
def gateAdvance (now : W64) (lane : Nat) (d : Dev) : Dev :=
  match gateOf d lane with
  | none => d
  | some g =>
    let list := activeList d lane
    let t := g.entryStart + (gateEntry d lane list g.entry).2
    if fabricNs d now < t then d
    else
      let k := if g.entry + 1 < gateLen d lane list then g.entry + 1 else 0
      showEntry lane list k (setGate lane (some { g with entryStart := t, entry := k }) d)

/-- The class's gate is open (R204, R208): gates act only while the ETM page runs. -/
def gateOpen (d : Dev) (lane tc : Nat) : Bool :=
  !etmRunning d lane || decide (tc = 7) ||
    decide (rd d (Page.etm lane) Reg.ETM_GATE_OPEN_OPEN / 2 ^ tc % 2 = 1)

/-- Fabric time of the next closing of a class in the running list, walking at most `n` entries (R206). -/
def closingFrom (d : Dev) (lane list tc : Nat) : Nat → Nat → Nat → Option Nat
  | 0, _, _ => none
  | n + 1, k, t =>
    let e := gateEntry d lane list k
    if e.1 / 2 ^ tc % 2 = 0 then some t
    else closingFrom d lane list tc n (if k + 1 < gateLen d lane list then k + 1 else 0) (t + e.2)

/-- Closings caused by an armed or handed gate-list start for the port (R206, R378). -/
def startClosings (d : Dev) (lane tc : Nat) : List Nat :=
  (tblListed d Page.tim 0).filterMap (fun e =>
    let ws := e.2
    let list := rd d (Page.etm lane) Reg.ETM_GATE_CTL_NEXT_LIST
    if wbit ws 0 31 && decide (wbits ws 0 27 24 = 4) && decide (wbits ws 0 9 0 = lane) &&
        decide (wbits ws 4 31 28 = 1 ∨ wbits ws 4 31 28 = 2) && (gateCheck d lane list).isNone &&
        decide ((gateEntry d lane list 0).1 / 2 ^ tc % 2 = 0) then some (word64 ws 1)
    else none)

/-- The known closings of a class whose gate is open. -/
def closings (d : Dev) (lane tc : Nat) : List Nat :=
  let running := match gateOf d lane with
    | none => []
    | some g =>
      let list := activeList d lane
      let next := if g.entry + 1 < gateLen d lane list then g.entry + 1 else 0
      (closingFrom d lane list tc (gateLen d lane list) next
        (g.entryStart + (gateEntry d lane list g.entry).2)).toList
  running ++ startClosings d lane tc

/-- GUARD in hundredths of a ns: one cell time and the margin (R206). -/
def guardTime (d : Dev) (lane : Nat) : Nat :=
  224 / portWidth d lane + 100 * rd d (Page.etm lane) Reg.ETM_ETM_CFG_GUARD_MARGIN

/-- The class is outside its guard band: no closing lies within GUARD (R206). -/
def guardOk (now : W64) (d : Dev) (lane tc : Nat) : Bool :=
  !etmRunning d lane || decide (tc = 7) ||
    (closings d lane tc).all (fun ns =>
      decide (ns * 65536 < fabricAt d now) ||
        decide (fabricAt d now * 100 + guardTime d lane * 65536 ≤ ns * 65536 * 100))

/-- The class is held (R208, R209). -/
def held (d : Dev) (lane tc : Nat) : Bool :=
  etmRunning d lane && decide (tc < 7) && decide (rd d (Page.etm lane) Reg.ETM_HOLD_HOLD / 2 ^ tc % 2 = 1)

/-- Set HOLD; each bit that falls counts one launch and raises the interrupt (R209). -/
def setHold (lane v : Nat) (d : Dev) : Dev :=
  let p := Page.etm lane
  let old := rd d p Reg.ETM_HOLD_HOLD
  let fell := ((List.range 7).filter (fun c => decide (old / 2 ^ c % 2 = 1 ∧ v / 2 ^ c % 2 = 0))).length
  let d1 := bumpN p Reg.ETM_CNT 12 fell (wr p Reg.ETM_HOLD_HOLD v d)
  if fell = 0 then d1 else raiseIrq p 17 d1

/-- A queue launch clears the HOLD bits of its mask (R209). -/
def launch (lane mask : Nat) (d : Dev) : Dev :=
  setHold lane (rd d (Page.etm lane) Reg.ETM_HOLD_HOLD &&& (127 - mask % 128)) d

/-- A class whose gate is closed, in guard band or held requests only for its 16 reserved staging cells
(R207, R209). -/
def requestRoom (now : W64) (d : Dev) (lane tc : Nat) : Bool :=
  if gateOpen d lane tc && guardOk now d lane tc && !held d lane tc then true
  else decide ((d.staged lane tc).length < 16)

/-! ### Deficit weighted round robin (R495) -/

/-- One decision of the arbiter over TC 0 to TC 6, within `n` moves of the pointer. -/
def dwrr (weight : Nat → Nat) (cand : Nat → Bool) : Nat → Dwrr → Option Nat × Dwrr
  | 0, s => (none, s)
  | n + 1, s =>
    let c := s.ptr
    if cand c then
      let dc := s.deficit.getD c 0
      let left := (if dc = 0 then weight c else dc) - 1
      (some c, { ptr := if left = 0 then (c + 1) % 7 else c, deficit := s.deficit.set c left })
    else dwrr weight cand n { ptr := (c + 1) % 7, deficit := s.deficit.set c 0 }

/-- The weight of a class (R190). -/
def classWeight (d : Dev) (tc : Nat) : Nat :=
  match tc with
  | 0 => rd d Page.xbs Reg.XBS_WEIGHT_LO_TC0
  | 1 => rd d Page.xbs Reg.XBS_WEIGHT_LO_TC1
  | 2 => rd d Page.xbs Reg.XBS_WEIGHT_LO_TC2
  | 3 => rd d Page.xbs Reg.XBS_WEIGHT_LO_TC3
  | 4 => rd d Page.xbs Reg.XBS_WEIGHT_HI_TC4
  | 5 => rd d Page.xbs Reg.XBS_WEIGHT_HI_TC5
  | _ => rd d Page.xbs Reg.XBS_WEIGHT_HI_TC6

def txArbOf (d : Dev) (lane : Nat) : Dwrr := sget (konst Dwrr.reset) d.sw.txArb lane

def setTxArb (lane : Nat) (a : Dwrr) (d : Dev) : Dev :=
  { d with sw := { d.sw with txArb := sset (konst Dwrr.reset) d.sw.txArb lane a } }

/-! ### Into link framing (R202, R115) -/

/-- Bytes of a cell for the transmit stream. -/
def txBytes (c : Cell) (time : Bool) : List TxByte :=
  (cellBytes c).zipIdx.map (fun x => { b := x.1, time := time, start := x.2 == 0 })

/-- Append a cell to the port's transmit stream. -/
def frameCell (lane : Nat) (c : Cell) (time : Bool) (d : Dev) : Dev :=
  updPort lane (fun p => { p with txStream := p.txStream ++ txBytes c time }) d

/-- Credit held for the VC of a cell (R113). -/
def hasCredit (d : Dev) (lane : Nat) (c : Cell) : Bool :=
  decide (0 < (d.port lane).allow.getD (vcOf (cTc c) (cEsc c)) 0)

def spendCredit (lane : Nat) (c : Cell) (d : Dev) : Dev :=
  let vc := vcOf (cTc c) (cEsc c)
  updPort lane (fun p => { p with allow := p.allow.set vc (p.allow.getD vc 0 - 1) }) d

/-- Count a cell of a region for its PORT load (R185). -/
def countMoved (region : Nat) (d : Dev) : Dev :=
  { d with sw := { d.sw with moved := supd (konst 0) d.sw.moved region (· + 1) } }

/-- The tag of a cell as it enters framing: transmit timestamp and egress lane of the first copy, one more
copy sent (R470). -/
def tagSent (now : W64) (lane : Nat) (b : Box) (t : Tag) : Tag :=
  if t.copies = 0 then { t with tx := deltaNow now b, outLane := lane, copies := 1 }
  else { t with copies := t.copies + 1 }

/-- Send a staged cell into link framing (R202): its credit is spent, it is counted, and its counts in the
device end (R139). -/
def sendStaged (now : W64) (lane tc : Nat) (b : Box) (d : Dev) : Dev :=
  let d1 := setStaged lane tc ((d.staged lane tc).drop 1) d
  let d2 := spendCredit lane b.cell (frameCell lane (reseal b.cell) false d1)
  let d3 := bump (Page.etm lane) Reg.ETM_CNT tc (lnkCount lane 6 1 d2)
  let d4 := countJobCell b.job (countCells 1 (countMoved (regionOf lane) d3))
  if b.multi then copyEnds b 1 fateSent (updMtag b.num (tagSent now lane b) d4)
  else endLife (tagSet (tagSent now lane b) b) fateSent (uncount b d4)

/-! ### TIME cells (R371, R372) -/

/-- TX and RX delays of a port's mode in units of 2^-16 ns (R371). -/
def txDelay (d : Dev) (lane : Nat) : Nat :=
  match widthCode d lane with
  | 0 => 555 * 65536 / 10
  | 1 => 52 * 65536
  | _ => 49 * 65536
def rxDelay (d : Dev) (lane : Nat) : Nat :=
  match widthCode d lane with
  | 0 => 76 * 65536
  | 1 => 715 * 65536 / 10
  | _ => 685 * 65536 / 10

/-- The TIME cell a port sends now (R372). -/
def timeCell (now : W64) (lane : Nat) (d : Dev) : Cell :=
  let p := d.port lane
  let root := rdBit d Page.tim Reg.TIM_TIM_CFG_ROOT
  let sync := root || rdBit d Page.tim Reg.TIM_TIM_STAT_LOCKED
  let echo := p.peerTime.getD (0, 0, 0)
  let flags := (if sync then 128 else 0) + (if root then 64 else 0) + (if p.peerTime.isSome then 32 else 0)
  let hops := if root then 0 else rd d Page.tim Reg.TIM_TIM_STAT_HOPS
  mkCell (nbrCoord d lane) 7 ocTIME (selfCoord d) 0 0
    ([1, BitVec.ofNat 8 flags] ++ bytesBE 2 p.tseq ++ bytesBE 10 (fabricAt d now + txDelay d lane) ++
      bytesBE 2 echo.1 ++ bytesBE 10 echo.2.1 ++ bytesBE 10 echo.2.2 ++
      bytesBE 4 (if root then selfCoord d else d.tim.root.toNat) ++ bytesBE 1 hops)

/-- Send the due TIME cell into link framing; it takes no credit and is counted only by TIM (R372). -/
def sendTime (now : W64) (lane : Nat) (d : Dev) : Dev :=
  let d1 := countCells 1 (frameCell lane (timeCell now lane d) true d)
  let d2 := updPort lane (fun p =>
    { p with timeDue := false, tseq := (p.tseq + 1) % 65536, timeSent := p.timeSent + 1 }) d1
  bump Page.tim Reg.TIM_CNT 0 d2

/-- The class may send now: a staged cell, gate, guard band, hold and credit (R202). -/
def selectable (now : W64) (d : Dev) (lane tc : Nat) : Bool :=
  match d.staged lane tc with
  | [] => false
  | b :: _ => gateOpen d lane tc && guardOk now d lane tc && !held d lane tc && hasCredit d lane b.cell

/-- Classes refused in this slot because of the guard band alone (R206). -/
def guardRefused (now : W64) (d : Dev) (lane : Nat) : Nat :=
  ((List.range 7).filter (fun tc =>
    match d.staged lane tc with
    | [] => false
    | b :: _ => gateOpen d lane tc && !guardOk now d lane tc && !held d lane tc && hasCredit d lane b.cell)).length

/-- The port may start a cell: UP, not fenced by a circuit. -/
def maySend (d : Dev) (lane : Nat) : Bool := portUp d lane && !fenced d lane

/-- One cell slot of an egress port (R202): a due TIME cell, TC 7, then the arbiter of R495. -/
def txSlot (now : W64) (lane : Nat) (d : Dev) : Dev :=
  if !maySend d lane then d
  else if (d.port lane).timeDue then sendTime now lane d
  else
    let d1 := bumpN (Page.etm lane) Reg.ETM_CNT 11 (guardRefused now d lane) d
    let pick : Option Nat × Dev :=
      if selectable now d1 lane 7 then (some 7, d1)
      else
        let r := dwrr (classWeight d1) (selectable now d1 lane) 7 (txArbOf d1 lane)
        (r.1, setTxArb lane r.2 d1)
    match pick.1 with
    | some tc =>
      match pick.2.staged lane tc with
      | b :: _ => sendStaged now lane tc b pick.2
      | [] => pick.2
    | none => pick.2

end Sys2Proof.Machine
end

