-- ==== Sys2Proof/Machine/Circuits.lean ====
section
/-! DEFINITION. What the link layer must know of circuits (R219 to R223, R232): the record of an entry's
handover, its fences, and the failure of a circuit whose port leaves UP. -/

namespace Sys2Proof.Machine

def Dev.circ (d : Dev) (i : Nat) : Circ := sget (konst Circ.idle) d.byp.circs i

def setCirc (i : Nat) (c : Circ) (d : Dev) : Dev :=
  { d with byp := { d.byp with circs := sset (konst Circ.idle) d.byp.circs i c } }

def updCirc (i : Nat) (f : Circ → Circ) (d : Dev) : Dev := setCirc i (f (d.circ i)) d

/-- A field of word 5 of an entry. -/
def setCircBits (i hi lo v : Nat) (d : Dev) : Dev := setCircWords i (setWBits (circWords d i) 5 hi lo v) d

/-- REASON of an entry (R219). -/
def setCircReason (i reason : Nat) (d : Dev) : Dev :=
  setCircWords i (setWBits (circWords d i) 5 27 24 reason) d

/-- PAGE_ERR_INFO.DETAIL of a refused command or failure (R233). -/
def circDetail (i reason : Nat) : Nat := i * 16 + reason

/-- The ports of an entry resume: fences lift and their links carry cells again. -/
def resumePorts (i : Nat) (d : Dev) : Dev :=
  forEach (circLanes d i) (fun l d => updPort l (fun p => { p with fence := false, suspended := false }) d) d

/-- The entry enters failed with a reason (R228, R232): counted, and BLOCK_IRQ bit 18. -/
def circFail (i reason : Nat) (d : Dev) : Dev :=
  let d1 := setCirc i Circ.idle (setCircBits i 17 17 0 (setCircReason i reason (setCircState i csFailed d)))
  raiseIrq Page.byp 18 (bump Page.byp Reg.BYP_CNT 3 d1)

/-- A port of a draining circuit leaves UP (R232): the circuit fails with reason 0x7 and its ports resume. -/
def circPortLost (lane : Nat) (d : Dev) : Dev :=
  match (circListed d).find? (fun i => decide (circState d i = csDraining) && (circLanes d i).contains lane) with
  | some i => circFail i 7 (resumePorts i d)
  | none => d

/-- The circuit of the port has flushed it: only null periods with ACK and CREDIT are sent (R222). -/
def circQuiet (d : Dev) (lane : Nat) : Bool :=
  (circListed d).any (fun i =>
    decide (circState d i = csDraining) && (d.circ i).flushed && (circLanes d i).contains lane)

end Sys2Proof.Machine
end

