-- ==== Sys2Proof/Machine/Links.lean ====
section
/-! DEFINITION. The link layer (ch. 4): link states (R108, R497), training (R109 to R111), landing
reservations (R170), codewords and control items (R103 to R107), credits (R114), retry (R116, R117), lane
sparing (R118 to R121), D2D groups (R19, R21, R124) and the commands that drive them. -/

namespace Sys2Proof.Machine

/-! ### State changes -/

/-- The lanes of a port. -/
def lanesOfPort (d : Dev) (lane : Nat) : List Nat := (List.range (portWidth d lane)).map (fun k => lane + k)

/-- Set the state shown by every lane of a port. -/
def setPortState (lane st : Nat) (d : Dev) : Dev :=
  forEach (lanesOfPort d lane) (fun l d => setLinkState l st d) d

/-- The spare lane of a working lane's port block (R98). -/
def spareOf (lane : Nat) : Nat := 1024 + lane / 16

def lit (st : Nat) : Bool := decide (st ≠ lsDisabled)

/-- Write DOWN_REASON (R496). -/
def setReason (lane reason : Nat) (d : Dev) : Dev := wr (Page.lnk lane) Reg.LNK_LINK_STAT_DOWN_REASON reason d

def downReason (d : Dev) (lane : Nat) : Nat := rd d (Page.lnk lane) Reg.LNK_LINK_STAT_DOWN_REASON

/-- The exchange of a port becomes invalid when it leaves UP (R384). -/
def clearExchange (lane : Nat) (d : Dev) : Dev :=
  let ws := tget d Page.tim 1 lane
  updPort lane (fun p => { p with peerTime := none, timeSent := 0, timeDue := false })
    (tset Page.tim 1 lane (setWBits ws 10 31 31 0) d)

/-- The receive side of a DEPARTED port is still in service (R449). -/
def departedOpen (d : Dev) (lane : Nat) : Bool :=
  decide (linkState d lane = lsDeparted) && (d.port lane).rxOpen

/-- Put a port in a state with a cause (R108, R496): the state-change interrupt, and the flush of R182 when
it leaves UP, or DEPARTED with its receive side open; that flush is the departure's (R497). -/
def takeTo (now : W64) (lane st reason : Nat) (d : Dev) : Dev :=
  let old := linkState d lane
  let wasUp := decide (old = lsUp)
  let open' := departedOpen d lane
  let d0 := if wasUp then circPortLost lane d else d
  let d1 := setPortState lane st (setReason lane reason d0)
  let d2 := updPort lane (fun p =>
    { p with sinceTick := now.toNat, rxOpen := false, matched := false, fence := false, suspended := false }) d1
  let d3 := if wasUp || open' then clearExchange lane (portDown lane (if wasUp then reason else 0x0E) d2) else d2
  let d4 := if lit old != lit st && !(d.port lane).dark then emit (.light lane (lit st)) d3 else d3
  raiseIrq (Page.lnk lane) 16 d4

/-- The spare serving one of the port's lanes goes back to SPARE_IDLE, and its lanes are its own again
(R121). -/
def restoreLanes (lane : Nat) (d : Dev) : Dev :=
  let s := spareOf lane
  let serving := decide (linkState d s = lsUp) &&
    (lanesOfPort d lane).contains (lane / 16 * 16 + rd d (Page.lnk s) Reg.LNK_LINK_STAT_SPARE_FOR)
  let d1 := forEach (lanesOfPort d lane) (fun l d =>
    { d with lnk := { d.lnk with ownFailed := sset (konst false) d.lnk.ownFailed l false } }) d
  if serving then setLinkState s lsSpareIdle (wr (Page.lnk s) Reg.LNK_LINK_STAT_SPARE_FOR 0 d1) else d1

/-- The spare trains with the port that holds lane 16b of its block (R111). -/
def spareSearch (now : W64) (lane : Nat) (d : Dev) : Dev :=
  let s := spareOf lane
  if lane % 16 = 0 ∧ linkState d s = lsDisabled ∧ (d.port lane).dark = false then
    updPort s (fun p => { p with sinceTick := now.toNat }) (emit (.light s true) (setLinkState s lsSearch d))
  else d

/-- Start SEARCH with a cause recorded (R108, R121). -/
def startSearch (now : W64) (lane reason : Nat) (d : Dev) : Dev :=
  spareSearch now lane (restoreLanes lane (takeTo now lane lsSearch reason d))

def lnkRunning (d : Dev) (lane : Nat) : Bool := decide (pageState d (Page.lnk lane) = stRunning)

/-- A port whose ADMIN_UP is 1 leaves DISABLED while its lowest lane's page runs (R497). -/
def tryLeaveDisabled (now : W64) (lane : Nat) (d : Dev) : Dev :=
  if linkState d lane = lsDisabled ∧ lnkRunning d lane = true ∧
      rdBit d (Page.lnk lane) Reg.LNK_LNK_CTL_ADMIN_UP = true ∧ isPort d lane = true then
    startSearch now lane (downReason d lane) d
  else d

/-- ADMIN_UP written on the page of a port's lowest lane (R112, R497). -/
def adminUp (now : W64) (lane : Nat) (v : Bool) (d : Dev) : Dev :=
  if !isPort d lane then d
  else
    let d1 := wrBit (Page.lnk lane) Reg.LNK_LNK_CTL_ADMIN_UP v d
    if v then tryLeaveDisabled now lane d1
    else if linkState d lane = lsDisabled then d1
    else
      let d2 := restoreLanes lane (takeTo now lane lsDisabled 1 d1)
      if lane % 16 = 0 then
        let s := spareOf lane
        if linkState d2 s = lsDisabled then d2 else emit (.light s false) (setLinkState s lsDisabled d2)
      else d2

/-- RETRAIN written (R112, R497). -/
def retrain (now : W64) (lane : Nat) (d : Dev) : Dev :=
  if !isPort d lane || decide (linkState d lane = lsDisabled) then d else startSearch now lane 9 d

/-! ### Training -/

/-- Lanes a link event may name as a unit with its own training: a port's lowest lane, or a spare. -/
def trainUnit (d : Dev) (lane : Nat) : Bool :=
  (isPort d lane || decide (1024 ≤ lane ∧ lane < 1088)) && !(d.port lane).dark

/-- Move a training unit on from one state to the next. -/
def trainStep (now : W64) (lane from' to' : Nat) (d : Dev) : Dev :=
  if trainUnit d lane && decide (linkState d lane = from') then
    let d1 := if lane < 1024 then setPortState lane to' d else setLinkState lane to' d
    raiseIrq (Page.lnk lane) 16 (updPort lane (fun p => { p with sinceTick := now.toNat }) d1)
  else d

/-- The timeout of a training state in ns (R108). -/
def trainTimeout (st : Nat) : Option Nat :=
  if st = lsSearch then some 10000000 else if st = lsTrain then some 20000000
  else if st = lsIdentify then some 1000000 else none

/-- A timeout in SEARCH, TRAIN or IDENTIFY returns the port to SEARCH with reason 0x04 (R108). -/
def trainingTimeout (now : W64) (lane : Nat) (d : Dev) : Dev :=
  match trainTimeout (linkState d lane) with
  | some ns =>
    if trainUnit d lane && elapsed now (d.port lane).sinceTick ns then
      if lane < 1024 then takeTo now lane lsSearch 4 d
      else
        raiseIrq (Page.lnk lane) 16 (updPort lane (fun p => { p with sinceTick := now.toNat })
          (setLinkState lane lsSearch (setReason lane 4 d)))
    else d
  | none => d

/-- Credits a port advertises per VC (R109, R112). -/
def advertised (d : Dev) (lane vc : Nat) : Nat :=
  let p := Page.lnk lane
  if 14 ≤ vc then rd d p Reg.LNK_CREDIT_CFG_MGMT
  else if vc % 2 = 1 then rd d p Reg.LNK_CREDIT_CFG_ESC else rd d p Reg.LNK_CREDIT_CFG_NORM

/-- The landing reservation of a port: its advertised credits over all VCs (R170). -/
def landingUnits (d : Dev) (lane : Nat) : Nat := ((List.range 16).map (advertised d lane)).sum

/-- Fields of a training frame (R109). -/
def frBytes (f : List Byte) (a n : Nat) : Nat := natOfBE ((f.drop a).take n)
def frGood (f : List Byte) : Bool :=
  decide (frBytes f 0 4 = 0x45574C4E) && decide (frBytes f 48 4 = crc32c (f.take 48))
def frCoord (f : List Byte) : Nat := frBytes f 6 4
def frPort (f : List Byte) : Nat := frBytes f 10 2

/-- PORT of this end: width code and index (R109). -/
def ownPort (d : Dev) (lane : Nat) : Nat := widthCode d lane * 16384 + lane / portWidth d lane

/-- The training frame a lane sends (R109). -/
def ownFrame (d : Dev) (lane : Nat) : List Byte :=
  let low := if lane < 1024 then lowestLane d lane else lane
  let port := if lane < 1024 then ownPort d low else ownPort d ((lane - 1024) * 16)
  let lb := if lane < 1024 then lane - low else 128 + (lane - 1024) % 8
  let head := bytesBE 4 0x45574C4E ++ [2, 1] ++ bytesBE 4 (selfCoord d) ++ bytesBE 2 port ++
    [BitVec.ofNat 8 lb, 0, 0, 0] ++ (List.range 16).flatMap (fun vc => bytesBE 2 (advertised d low vc))
  head ++ bytesBE 4 (crc32c head)

/-- The first failure of R110, in its order, for a port's lowest lane. -/
def frameMismatch (d : Dev) (lane : Nat) (f : List Byte) (laneBytes : List Nat) : Option Nat :=
  let p := Page.lnk lane
  if frBytes f 4 1 ≠ 2 then some 5
  else if frCoord f ≠ nbrCoord d lane then some 6
  else if frPort f ≠ rd d p Reg.LNK_NBR_PORT_PORT then some 7
  else if frPort f / 16384 ≠ widthCode d lane then some 8
  else if (List.range (portWidth d lane)).all (fun k =>
      let b := laneBytes.getD k 255
      decide (b < 128 ∧ b % 16 = k)) then none else some 10

/-- The comparison of a spare lane (R111). -/
def spareMismatch (d : Dev) (lane : Nat) (f : List Byte) (laneByte : Nat) : Option Nat :=
  let ref := lowestLane d ((lane - 1024) * 16)
  if frBytes f 4 1 ≠ 2 then some 5
  else if frCoord f ≠ nbrCoord d ref then some 6
  else if frPort f ≠ rd d (Page.lnk ref) Reg.LNK_NBR_PORT_PORT then some 7
  else if frPort f / 16384 ≠ widthCode d ref then some 8
  else if 128 ≤ laneByte ∧ laneByte % 16 = (lane - 1024) % 8 then none else some 10

/-- A mismatch holds the port (R110). -/
def holdPort (now : W64) (lane reason : Nat) (d : Dev) : Dev :=
  let d1 :=
    if lane < 1024 then takeTo now lane lsHeld reason d
    else raiseIrq (Page.lnk lane) 16 (setLinkState lane lsHeld (setReason lane reason d))
  raiseIrq (Page.lnk lane) 17 d1

/-- Sequence numbers, streams and allowances as a port has them when it enters UP (R104, R113). -/
def freshLink (now : W64) (landing : Nat) (p : Port) : Port :=
  { p with
    lastCredit := List.replicate 16 0, returned := List.replicate 16 0, reported := List.replicate 16 0,
    creditWait := 0, txSeq := 0, ackNext := 0, replay := [], ackHeld := [], replayAt := none, nakSeq := 0, nakCount := 0,
    ackTick := now.toNat, rxSeq := 0, rxNaks := 0, nakOwed := false, nakTurn := false, sinceAck := 0,
    ackDirty := false, txStream := [], txPeriod := 0, txLane := 0, nullPeriod := false,
    rxStream := [], framed := [], rxOpen := true, departing := .no, landing := landing,
    matched := false, timeDue := false, timeSent := 0, peerTime := none, fence := false, suspended := false,
    sinceTick := now.toNat }

/-- A port whose frames matched enters UP once its flush has ended and F covers its landing reservation;
otherwise it stays in IDENTIFY, and an uncovered reservation sets VOQ BLOCK_ERR bit 17 (R170, R182). -/
def tryUp (now : W64) (lane : Nat) (report : Bool) (d : Dev) : Dev :=
  let p := d.port lane
  if !(p.matched && decide (linkState d lane = lsIdentify)) || p.flushing then d
  else
    let need := landingUnits d lane
    if need ≤ freeUnits d (dieOf lane) then
      let d1 := updPort lane (freshLink now need) (setReason lane 0 (setPortState lane lsUp d))
      recomputeFree (raiseIrq (Page.lnk lane) 16 d1)
    else if report then hwErr Page.voq 17 lane d else d

/-- A training frame in IDENTIFY (R110, R111): a bad MARK or CRC is discarded; the first good frame decides. -/
def trainingFrame (now : W64) (lane : Nat) (f : List Byte) (laneBytes : List Nat) (d : Dev) : Dev :=
  if !(trainUnit d lane && decide (linkState d lane = lsIdentify) && frGood f) || (d.port lane).matched then d
  else
    let pg := Page.lnk lane
    let d1 := wr pg Reg.LNK_PEER_COORD_COORD (frCoord f) (wr pg Reg.LNK_PEER_PORT_PORT (frPort f) d)
    if lane < 1024 then
      match frameMismatch d lane f laneBytes with
      | some r => holdPort now lane r d1
      | none =>
        let allow := (List.range 16).map (fun vc => frBytes f (16 + 2 * vc) 2)
        tryUp now lane true (updPort lane (fun p => { p with matched := true, allow := allow }) d1)
    else
      match spareMismatch d lane f (laneBytes.getD 0 0) with
      | some r => holdPort now lane r d1
      | none => raiseIrq pg 16 (setLinkState lane lsSpareIdle (setReason lane 0 d1))

/-- The device tries the landing reservation again (R170). -/
def landingRetry (now : W64) (lane : Nat) (d : Dev) : Dev := tryUp now lane false d

/-- A FAILED port, or a DEPARTED port whose receive side is closed, retrains every 100 ms (R108). -/
def autoRetrain (now : W64) (lane : Nat) (d : Dev) : Dev :=
  let st := linkState d lane
  let ok := decide (st = lsFailed) || (decide (st = lsDeparted) && !(d.port lane).rxOpen)
  if trainUnit d lane && ok && elapsed now (d.port lane).sinceTick 100000000 then
    if lane < 1024 then startSearch now lane (downReason d lane) d
    else
      raiseIrq (Page.lnk lane) 16 (updPort lane (fun p => { p with sinceTick := now.toNat })
        (setLinkState lane lsSearch (wr (Page.lnk lane) Reg.LNK_LINK_STAT_SPARE_FOR 0 d)))
  else d

/-! ### Departure of the neighbour (R449) -/

/-- A DEPART item received on an UP port (R449, R497). -/
def departReceived (now : W64) (lane : Nat) (d : Dev) : Dev :=
  if !(isPort d lane && portUp d lane) then d
  else
    let d1 := setPortState lane lsDeparted (setReason lane 0x0E (circPortLost lane d))
    let d2 := updPort lane (fun p => { p with departTick := now.toNat, rxOpen := true, txStream := [] }) d1
    let d3 := startFlush lane (flushEgress lane 0x0E (flushFraming lane d2))
    raiseIrq (Page.lnk lane) 19 (raiseIrq (Page.lnk lane) 16 (clearExchange lane d3))

/-- The receive side of a DEPARTED port closes: the ingress part of R182 runs (R449). -/
def closeReceive (now : W64) (lane : Nat) (d : Dev) : Dev :=
  let d1 := portDown lane 0x0E d
  updPort lane (fun p => { p with rxOpen := false, sinceTick := now.toNat }) d1

/-- Light absent for 0.5 µs, or 250 µs after the port entered DEPARTED (R449). -/
def departedClose (now : W64) (lane : Nat) (lightAbsent : Bool) (d : Dev) : Dev :=
  if departedOpen d lane && (lightAbsent || elapsed now (d.port lane).departTick 250000) then
    closeReceive now lane d
  else d

/-! ### Codewords out (R103 to R107, R116) -/

/-- Codewords the replay buffer holds (R116). -/
def replayRoom (d : Dev) (lane : Nat) : Nat := 625 * portWidth d lane

def sentBody (replayed : Bool) (body : List TxByte) : List Byte :=
  body.map (fun x => if replayed && x.time then 0 else x.b)

/-- Pad a stream with idle slots until it fills a body (R104, R105). -/
def padStream (s : List TxByte) : List TxByte :=
  s ++ List.replicate (112 * ceilDiv (640 - s.length) 112) { b := 0, time := false, start := false }

/-- Virtual channels whose return count has changed since the last item, from a turn on (R107, R114). -/
def creditVc (p : Port) : Option Nat :=
  ((List.range 16).map (fun k => (p.creditTurn + k) % 16)).find?
    (fun vc => p.returned.getD vc 0 != p.reported.getD vc 0)

def takeCredit (vc : Nat) (p : Port) : Nat × Nat × Port :=
  (1, vc * 2048 + p.returned.getD vc 0,
   { p with reported := p.reported.set vc (p.returned.getD vc 0), creditTurn := (vc + 1) % 16, creditWait := 0 })

def takeAck (p : Port) : Nat × Nat × Port :=
  (2, (p.rxSeq + 32767) % 32768, { p with sinceAck := 0, ackDirty := false })

/-- The control item a working lane sends: kind, value, and the port after it (R107). A departing port sends
DEPART and no ACK (R448); a DEPARTED port, and one a circuit has flushed, sends only ACK and CREDIT (R222,
R449). -/
def chooseItem (departed : Bool) (p : Port) : Nat × Nat × Port :=
  let noAck := p.departing = .sending
  if p.departing = .sending then (5, 0, p)
  else if p.nakOwed && !p.nakTurn && !departed then (3, p.rxSeq, { p with nakTurn := true })
  else
    let p1 := { p with nakTurn := false }
    if 24 ≤ p1.creditWait ∧ (creditVc p1).isSome then takeCredit ((creditVc p1).getD 0) p1
    else if !noAck && p1.ackDirty && decide (8 ≤ p1.sinceAck) then takeAck p1
    else match creditVc p1 with
      | some vc => takeCredit vc p1
      | none => if !noAck && p1.ackDirty then takeAck p1 else (0, 0, p1)

/-- A new period starts on lane 0: null when the replay buffer is full, or between groups when nothing is
to be sent (R104, R116). -/
def periodIsNull (d : Dev) (lane : Nat) (p : Port) : Bool :=
  p.replayAt.isNone &&
    (decide (replayRoom d lane < p.replay.length + portWidth d lane) ||
      (decide (p.txPeriod = 0) && p.txStream.isEmpty))

/-- The turn passes to the next lane; after the last lane a period ends. -/
def advanceTurn (w : Nat) (data : Bool) (p : Port) : Port :=
  if p.txLane + 1 < w then { p with txLane := p.txLane + 1 }
  else
    { p with
      txLane := 0
      txPeriod := if data && p.replayAt.isNone then (p.txPeriod + 1) % 7 else p.txPeriod
      creditWait := if (creditVc p).isSome then p.creditWait + 1 else 0 }

/-- The data codeword sent now: from the replay buffer, or the next 640 bytes of the stream (R116, R117).
The last component tells a replayed one. -/
def nextData (now : W64) (p : Port) : List Byte × Bool × Port :=
  match p.replayAt with
  | some k =>
    let all := p.ackHeld ++ p.replay
    match all[k]? with
    | some cw =>
      (sentBody true cw.body, true,
       { p with replayAt := if k + 1 < all.length then some (k + 1) else none })
    | none => ([], true, { p with replayAt := none })
  | none =>
    let s := padStream p.txStream
    let body := s.take 640
    (sentBody false body, false,
     { p with
       txStream := s.drop 640
       replay := p.replay ++ [{ seq := p.txSeq, body := body }]
       ackTick := if p.replay.isEmpty then now.toNat else p.ackTick
       txSeq := (p.txSeq + 1) % 32768 })

/-- The lane that carries a working lane's position: the spare when it serves the lane (R118). -/
def carrier (d : Dev) (lane : Nat) : Nat :=
  let s := spareOf lane
  if linkState d s = lsUp ∧ rd d (Page.lnk s) Reg.LNK_LINK_STAT_SPARE_FOR = lane % 16 then s else lane

/-- DEPART is sent for 2 µs; the port then goes back to ordinary control items (R448). -/
def departTurn (now : W64) (p : Port) : Port :=
  if p.departing = .sending ∧ elapsed now p.departTick 2000 = true then
    { p with departing := .waiting, departTick := now.toNat }
  else p

/-- A codeword of an UP or DEPARTED port on its lane in turn (R104). -/
def sendUp (now : W64) (low : Nat) (departed : Bool) (d : Dev) : Dev :=
  let w := portWidth d low
  let p0 := departTurn now (d.port low)
  let out := carrier d (low + p0.txLane)
  let p1 := if p0.txLane = 0 then { p0 with nullPeriod := departed || periodIsNull d low p0 } else p0
  let owed := if 1024 ≤ out then sget (konst 0) d.lnk.repairItem (out - 1024) else 0
  let item := if owed = 0 then chooseItem departed p1 else (4, owed - 1, p1)
  let p2 := item.2.2
  let d0 := doIf (decide (owed ≠ 0))
    (fun d => { d with lnk := { d.lnk with repairItem := sset (konst 0) d.lnk.repairItem (out - 1024) 0 } }) d
  let d1 := if item.1 = 3 then lnkCount out 3 1 d0 else d0
  if p2.nullPeriod then
    emit (.codeword out { null := true, kind := item.1, value := item.2.1, body := [] })
      (setPort low (advanceTurn w false p2) d1)
  else
    let r := nextData now p2
    let d2 := if r.2.1 then lnkCount out 4 1 d1 else d1
    emit (.codeword out { null := false, kind := item.1, value := item.2.1, body := r.1 })
      (setPort low (advanceTurn w (!r.2.1) r.2.2) d2)

/-- A null codeword outside UP: a training frame in IDENTIFY, else IDLE, or the REPAIR item a spare owes. -/
def sendNull (lane : Nat) (d : Dev) : Dev :=
  if linkState d lane = lsIdentify then
    emit (.codeword lane { null := true, kind := 6, value := 0, body := ownFrame d lane }) d
  else
    let b := lane - 1024
    let owed := if 1024 ≤ lane then sget (konst 0) d.lnk.repairItem b else 0
    if owed = 0 then emit (.codeword lane { null := true, kind := 0, value := 0, body := [] }) d
    else
      emit (.codeword lane { null := true, kind := 4, value := owed - 1, body := [] })
        { d with lnk := { d.lnk with repairItem := sset (konst 0) d.lnk.repairItem b 0 } }

/-- One codeword time of a port (named by its lowest lane) or of a spare lane. A dark lane, and a port whose
light a circuit has taken (R221), sends nothing. -/
def codewordSend (now : W64) (lane : Nat) (d : Dev) : Dev :=
  let st := linkState d lane
  if !trainUnit d lane || decide (st = lsDisabled) || decide (st = lsFailed) then d
  else if lane < 1024 then
    if st = lsUp then
      if (d.port lane).suspended then d else sendUp now lane (circQuiet d lane) d
    else if st = lsDeparted then (if (d.port lane).rxOpen then sendUp now lane true d else d)
    else sendNull lane d
  else if st = lsUp then d
  else sendNull lane d

/-! ### Codewords in (R103, R104, R117) -/

/-- Cut whole cell slots from a receive stream; idle slots go (R104, R105). `n` bounds the slots. -/
def cutSlots : Nat → List Byte → List (List Byte) × List Byte
  | 0, s => ([], s)
  | n + 1, s =>
    if s.length < 112 then ([], s)
    else
      let slot := s.take 112
      let r := cutSlots n (s.drop 112)
      (if slot.all (fun b => b == 0) then r.1 else slot :: r.1, r.2)

/-- A cell with a good HCRC and OPCODE 0x1C, which the link layer consumes (R372). -/
def isTime (c : Cell) : Bool := decide (headCrc c = cHcrc c) && decide (cOp c = ocTIME)

/-- Deliver a body to framing: the cells it completes, with their receive timestamp (R123). -/
def deliver (now : W64) (low : Nat) (body : List Byte) (d : Dev) : Dev :=
  let p := d.port low
  let s := p.rxStream ++ (body ++ List.replicate 640 0).take 640
  let r := cutSlots 12 s
  let ns := fabricNs d now
  let cells := r.1.map (fun bs => ({ cell := cellOfBytes bs, rxNs := ns, rxTick := now.toNat } : Framed))
  let d1 := setPort low { p with
    rxStream := r.2, framed := p.framed ++ cells, rxSeq := (p.rxSeq + 1) % 32768, rxNaks := 0,
    nakOwed := false, sinceAck := p.sinceAck + 1, ackDirty := true } d
  lnkCount low 5 ((cells.filter (fun f => !isTime f.cell)).length)
    (countCells cells.length d1)

/-- The port's receive side is in service. -/
def receiving (d : Dev) (low : Nat) : Bool :=
  (portUp d low && !(d.port low).suspended) || departedOpen d low

/-- The port whose stream a lane carries: its own, or for a serving spare the port of the lane served. -/
def portOfLane (d : Dev) (lane : Nat) : Nat :=
  if lane < 1024 then lowestLane d lane
  else lowestLane d ((lane - 1024) * 16 + rd d (Page.lnk lane) Reg.LNK_LINK_STAT_SPARE_FOR)

/-- The lane carries its place in a port's stream: a working lane no spare serves, or a serving spare (R118). -/
def carries (d : Dev) (lane : Nat) : Bool :=
  if lane < 1024 then carrier d lane == lane else decide (linkState d lane = lsUp)

/-- A correctable codeword on a lane (R103, R117): symbols corrected are counted, a reserved control item is
counted (R106), and a data codeword is accepted only in sequence. `seq` is its implicit number (R104). -/
def dataCodeword (now : W64) (lane : Nat) (cw : Codeword) (seq corrected : Nat) (d : Dev) : Dev :=
  let d1 := lnkCount lane 0 corrected d
  let d2 := if corrected = 0 then d1 else lnkCount lane 1 1 d1
  let d3 := if 7 ≤ cw.kind then lnkCount lane 7 1 d2 else d2
  let low := portOfLane d lane
  if !cw.null && carries d3 lane && receiving d3 low && decide (seq = (d3.port low).rxSeq) then deliver now low cw.body d3 else d3

/-- The retry limit: the port goes to SEARCH with reason 0x0C (R117). -/
def retryLimit (now : W64) (low : Nat) (d : Dev) : Dev :=
  startSearch now low 0x0C (hwErr (Page.lnk low) 16 0x0C d)

/-- An uncorrectable codeword on a lane (R117): it is discarded and a NAK is owed; the eighth time the same
codeword fails, the retry limit acts. -/
def uncorrectable (now : W64) (lane : Nat) (d : Dev) : Dev :=
  let d1 := lnkCount lane 2 1 d
  let low := portOfLane d lane
  if !(carries d1 lane && receiving d1 low) then d1
  else
    let p := d1.port low
    let d2 := setPort low { p with nakOwed := true, nakTurn := false, rxNaks := p.rxNaks + 1 } d1
    if 8 ≤ p.rxNaks + 1 ∧ portUp d2 low = true then retryLimit now low d2 else d2

/-! ### Control items in (R106, R113, R114, R116, R117) -/

/-- Items act on a port whose link layer runs. -/
def linkActive (d : Dev) (low : Nat) : Bool :=
  isPort d low && (receiving d low)

/-- A CREDIT item: the advance of the count, 1 to 1,023, joins the allowance (R114). -/
def creditItem (low value : Nat) (d : Dev) : Dev :=
  if !linkActive d low then d
  else
    let vc := value / 2048 % 16
    let p := d.port low
    let diff := (value % 2048 + 2048 - p.lastCredit.getD vc 0) % 2048
    if 1 ≤ diff ∧ diff ≤ 1023 then
      setPort low { p with allow := p.allow.set vc (p.allow.getD vc 0 + diff),
                           lastCredit := p.lastCredit.set vc (value % 2048) } d
    else d

/-- What an ACK of the next `n` codewords leaves: those it does not cover, and those it covers of the period they
begin in (R116, R117). A replay under way goes on on its lane. -/
def ackTo (w n : Nat) (p : Port) : Port :=
  let all := p.ackHeld ++ p.replay
  let next := (p.ackNext + n) % 32768
  let cut := p.ackHeld.length + n - next % w
  { p with
    replay := p.replay.drop n, ackHeld := (all.drop cut).take (next % w), ackNext := next, nakCount := 0,
    replayAt := p.replayAt.bind (fun k =>
      let k' := if cut ≤ k then k - cut else p.txLane
      if k' < all.length - cut then some k' else none) }

/-- An ACK frees the codewords up to its number (R116). -/
def ackItem (now : W64) (low value : Nat) (d : Dev) : Dev :=
  if !linkActive d low then d
  else
    let p := d.port low
    let n := (value + 1 + 32768 - p.ackNext) % 32768
    if 1 ≤ n ∧ n ≤ p.replay.length then
      setPort low { ackTo (portWidth d low) n p with ackTick := now.toNat } d
    else d

/-- A NAK starts the replay from the data period that holds its number; one that repeats while the replay
has not passed that number is the same NAK; the eighth for one codeword is the retry limit (R117). -/
def nakItem (now : W64) (low value : Nat) (d : Dev) : Dev :=
  if !linkActive d low then d
  else
    let p := d.port low
    match p.replay.findIdx? (fun cw => cw.seq == value) with
    | none => d
    | some i =>
      let k := p.ackHeld.length + i
      let start := k - value % portWidth d low
      let repeated := match p.replayAt with
        | some j => decide (j ≤ k) && decide (p.nakSeq = value)
        | none => false
      if repeated then d
      else
        let count := if p.nakSeq = value ∧ 0 < p.nakCount then p.nakCount + 1 else 1
        let d1 := setPort low { p with replayAt := some start, nakSeq := value, nakCount := count, txLane := 0 } d
        if 8 ≤ count ∧ portUp d1 low = true then retryLimit now low d1 else d1

/-- No ACK has advanced for 16 µs while codewords are outstanding (R117); not on a port of a circuit (R221). -/
def ackTimeout (now : W64) (low : Nat) (d : Dev) : Dev :=
  let p := d.port low
  if isPort d low && portUp d low && !inCircuit d low && !p.replay.isEmpty && elapsed now p.ackTick 16000 then
    retryLimit now low d
  else d

/-! ### Lane sparing (R118 to R121) -/

def repairOf (d : Dev) (b : Nat) : Option Repair := sget (konst none) d.lnk.repairs b

def setRepair (b : Nat) (r : Option Repair) (d : Dev) : Dev :=
  { d with lnk := { d.lnk with repairs := sset (konst none) d.lnk.repairs b r } }

/-- Owe a REPAIR item on the spare of a port block (R106). -/
def oweRepair (b value : Nat) (d : Dev) : Dev :=
  { d with lnk := { d.lnk with repairItem := sset (konst 0) d.lnk.repairItem b (value + 1) } }

/-- VALUE of a REPAIR item: sub-kind, refusal reason, lane index (R106). -/
def repairValue (sub reason idx : Nat) : Nat := sub * 4096 + reason * 256 + idx

def setOwnFailed (lane : Nat) (b : Bool) (d : Dev) : Dev :=
  { d with lnk := { d.lnk with ownFailed := sset (konst false) d.lnk.ownFailed lane b } }

/-- A port is taken to FAILED; reason 0x0B also sets BLOCK_ERR bit 17 and is logged (R118, R121, R452). -/
def portFailed (now : W64) (low reason : Nat) (d : Dev) : Dev :=
  let d1 := takeTo now low lsFailed reason d
  if reason = 0x0B then
    faultLog now { level := lvBlock, action := acUnitFenced, page := Page.lnk low, unit := low % 16, cls := 17,
                   detail := reason, recover := 0 } (hwErr (Page.lnk low) 17 reason d1)
  else d1

/-- Send a first REPAIR request for a lane (R118). -/
def requestRepair (now : W64) (b idx : Nat) (d : Dev) : Dev :=
  oweRepair b (repairValue 0 0 idx)
    (setRepair b (some { laneIdx := idx, attempt := 1, accepted := false,
                         switched := false, startTick := now.toNat }) d)

/-- Lane-failure triggers on the tile are ignored after a laser event (R122). -/
def heldOff (d : Dev) (tile : Nat) : Bool := sget (konst false) d.lnk.holdoff tile

/-- A spare lane is FAILED, and retrains by itself (R108, R121). -/
def spareFailed (now : W64) (lane : Nat) (d : Dev) : Dev :=
  raiseIrq (Page.lnk lane) 16 (updPort lane (fun p => { p with sinceTick := now.toNat }) (setLinkState lane lsFailed d))

/-- A lane fails (R118, R121). `reason` is the trigger's DOWN_REASON (R496). -/
def laneFail (now : W64) (lane reason : Nat) (d : Dev) : Dev :=
  if lane < 1024 then
    let low := lowestLane d lane
    let b := lane / 16
    if !portUp d low || heldOff d (lane / 128) || inCircuit d low || sget (konst false) d.lnk.ownFailed lane then d
    else if !rdBit d (Page.lnk lane) Reg.LNK_LNK_CTL_SPARE_AUTO then portFailed now low reason d
    else if (repairOf d b).isNone && decide (linkState d (spareOf lane) = lsSpareIdle) then
      requestRepair now b (lane % 16) (setOwnFailed lane true d)
    else portFailed now low 0x0B d
  else
    let b := lane - 1024
    if heldOff d (b / 8) then d
    else if linkState d lane = lsUp then
      spareFailed now lane (portFailed now (portOfLane d lane) 0x0B d)
    else if linkState d lane = lsSpareIdle then
      let d1 := spareFailed now lane (setReason lane reason d)
      match repairOf d b with
      | some r => setRepair b none (portFailed now (lowestLane d1 (16 * b + r.laneIdx)) 0x0B d1)
      | none => d1
    else d

/-- The answer an end gives to a REPAIR request (R119); `none` accepts. -/
def repairRefusal (d : Dev) (b idx : Nat) : Option Nat :=
  let s := 1024 + b
  let st := linkState d s
  if idx ≥ 16 ∨ portUp d (lowestLane d (16 * b + idx)) = false then some 3
  else if st = lsSearch ∨ st = lsTrain ∨ st = lsIdentify then some 1
  else if st = lsSpareIdle ∧ (repairOf d b).isNone then none
  else some 2

/-- A REPAIR request received on a port block's spare (R118, R119): for a lane this end has requested too it
is the accept; a lane with SPARE_AUTO 0 takes its port to FAILED (R118). -/
def repairRequest (now : W64) (b idx : Nat) (d : Dev) : Dev :=
  let mine := match repairOf d b with
    | some r => decide (r.laneIdx = idx)
    | none => false
  if mine then
    setRepair b ((repairOf d b).map (fun r => { r with accepted := true })) d
  else
    let lane := 16 * b + idx
    let d1 :=
      if idx < 16 ∧ portUp d (lowestLane d lane) = true ∧
          rdBit d (Page.lnk lane) Reg.LNK_LNK_CTL_SPARE_AUTO = false then
        portFailed now (lowestLane d lane) 0x0B d
      else d
    match repairRefusal d1 b idx with
    | some r => oweRepair b (repairValue 2 r idx) d1
    | none =>
      oweRepair b (repairValue 1 0 idx) (setOwnFailed lane true
        (setRepair b (some { laneIdx := idx, attempt := 1, accepted := true,
                             switched := false, startTick := now.toNat }) d1))

/-- A REPAIR accept received for the lane requested (R118). -/
def repairAccept (b idx : Nat) (d : Dev) : Dev :=
  match repairOf d b with
  | some r => if r.laneIdx = idx then setRepair b (some { r with accepted := true }) d else d
  | none => d

/-- The requester gives up: its port goes to FAILED with reason 0x0B (R119, R120). -/
def repairFailed (now : W64) (b idx : Nat) (d : Dev) : Dev :=
  setRepair b none (portFailed now (lowestLane d (16 * b + idx)) 0x0B d)

/-- A REPAIR refusal received (R119): BUSY on the first request waits for the second. -/
def repairRefuse (now : W64) (b idx reason : Nat) (d : Dev) : Dev :=
  match repairOf d b with
  | some r =>
    if r.laneIdx = idx ∧ r.accepted = false then
      let low := lowestLane d (16 * b + idx)
      let d1 := hwErr (Page.lnk low) 18 (downReason d low) d
      if reason = 1 ∧ r.attempt = 1 then d1 else repairFailed now b idx d1
    else d
  | none => d

/-- No answer, or BUSY, by the point R120 gives: a second request, then FAILED. -/
def repairTimeout (now : W64) (b : Nat) (d : Dev) : Dev :=
  match repairOf d b with
  | some r =>
    if r.accepted then d
    else if r.attempt = 1 then
      oweRepair b (repairValue 0 0 r.laneIdx)
        (setRepair b (some { r with attempt := 2 }) d)
    else repairFailed now b r.laneIdx d
  | none => d

/-- At the first group boundary after the accept the lane's position moves to the spare (R118, R120). -/
def laneSwitch (b : Nat) (d : Dev) : Dev :=
  match repairOf d b with
  | some r =>
    if r.accepted && !r.switched then
      let s := 1024 + b
      let lane := 16 * b + r.laneIdx
      let d1 := setLinkState s lsUp (wr (Page.lnk s) Reg.LNK_LINK_STAT_SPARE_FOR r.laneIdx d)
      let d2 := if lane = lowestLane d lane then d1 else setLinkState lane lsFailed d1
      setRepair b (some { r with switched := true }) (setOwnFailed lane true d2)
    else d
  | none => d

/-- Deskew including the spare is done (R120): the receiver owes a NAK for the first codeword lost, and the
repair is reported and logged (R452). -/
def spareDeskew (now : W64) (b : Nat) (d : Dev) : Dev :=
  match repairOf d b with
  | some r =>
    if r.switched then
      let lane := 16 * b + r.laneIdx
      let low := lowestLane d lane
      let d1 := updPort low (fun p => { p with nakOwed := true, nakTurn := false }) (setRepair b none d)
      let d2 := raiseIrq (Page.lnk (1024 + b)) 18 d1
      faultLog now { level := lvBlock, action := acSpare, page := Page.lnk lane, unit := r.laneIdx, cls := 0,
                     detail := 0, recover := ticksSince now r.startTick / 160 } d2
    else d
  | none => d

/-! ### Die-to-die groups (R19, R21, R124) -/

def d2dCount : Nat := 3232

/-- A flit fails its CRC and is replayed (R19): counted in the group's entry. -/
def flitError (g : Nat) (d : Dev) : Dev :=
  let ws := tget d (Page.lnk 0) 1 g
  let ws1 := setWBits ws 0 23 0 (wbits ws 0 23 0 + 1)
  let ws2 := setW ws1 1 (if wbits ws 1 31 0 = 0xFFFFFFFF then word ws 1 else word ws 1 + 1)
  emit (.flitReplay g) (tset (Page.lnk 0) 1 g ws2 d)

/-- A wire past D2D_THRESH: replaced by the group's spare while the group is paused, or, with the spare in
use, the group is fenced and the fence reported (R21, R190). -/
def wireRepair (now : W64) (g wire : Nat) (d : Dev) : Dev :=
  let ws := tget d (Page.lnk 0) 1 g
  if wbit ws 0 31 then d
  else if !wbit ws 0 30 then
    let ws' := setWBits (setWBits ws 0 30 30 1) 0 29 24 wire
    let d1 := tset (Page.lnk 0) 1 g ws' d
    let d2 := { d1 with lnk := { d1.lnk with d2dPaused := sset (konst false) d1.lnk.d2dPaused g true } }
    faultLog now { level := lvBlock, action := acSpare, page := Page.lnk 0, unit := g % 256, cls := 0,
                   detail := 0, recover := 0 } d2
  else
    let d1 := tset (Page.lnk 0) 1 g (setWBits ws 0 31 31 1) d
    let d2 := if g < 1024 then hwErr Page.xbs 16 0 d1 else d1
    faultLog now { level := lvBlock, action := acUnitFenced, page := Page.lnk 0, unit := g % 256, cls := 0,
                   detail := 0, recover := 0 } d2

def wireRepairDone (g : Nat) (d : Dev) : Dev :=
  { d with lnk := { d.lnk with d2dPaused := sset (konst false) d.lnk.d2dPaused g false } }

/-! ### Board reference (R31) -/

def referenceLoss (d : Dev) : Dev :=
  let d1 := { d with lnk := { d.lnk with refLost := true } }
  hwErr Page.pkg 16 0 (wr Page.tim Reg.TIM_TIM_STAT_REF_LOST 1 d1)

def referenceRestored (d : Dev) : Dev :=
  wr Page.tim Reg.TIM_TIM_STAT_REF_LOST 0 { d with lnk := { d.lnk with refLost := false } }

/-! ### The meanings -/

def execLockAcquired (lane : Nat) (s : State) :=
  effect (.lockAcquired lane) (onDev (trainStep s.now lane lsSearch lsTrain)) s

def execDeskewDone (lane : Nat) (s : State) :=
  effect (.deskewDone lane) (onDev (trainStep s.now lane lsTrain lsIdentify)) s

def execLinkTrainingTimeout (lane : Nat) (s : State) :=
  effect (.linkTrainingTimeout lane) (onDev (trainingTimeout s.now lane)) s

def execTrainingFrame (lane : Nat) (frame : List Byte) (laneBytes : List Nat) (s : State) :=
  effect (.trainingFrame lane frame laneBytes) (onDev (trainingFrame s.now lane frame laneBytes)) s

def execLandingReservationRetry (lane : Nat) (s : State) :=
  effect (.landingReservationRetry lane) (onDev (landingRetry s.now lane)) s

def execAutoRetrain (lane : Nat) (s : State) := effect (.autoRetrain lane) (onDev (autoRetrain s.now lane)) s

def execCodewordSend (lane : Nat) (s : State) := effect (.codewordSend lane) (onDev (codewordSend s.now lane)) s

def execDataCodewordReceive (lane : Nat) (cw : Codeword) (seq corrected : Nat) (s : State) :=
  effect (.dataCodewordReceive lane cw seq corrected) (onDev (dataCodeword s.now lane cw seq corrected)) s

def execUncorrectableCodeword (lane : Nat) (s : State) :=
  effect (.uncorrectableCodeword lane) (onDev (uncorrectable s.now lane)) s

/-- A CREDIT item on a lane, which may be a serving spare (R114). -/
def execCredit (lane value : Nat) (s : State) :=
  effect (.credit lane value) (onDev (fun d => doIf (carries d lane) (creditItem (portOfLane d lane) value) d)) s

def execAck (lane value : Nat) (s : State) :=
  effect (.ack lane value) (onDev (fun d => doIf (carries d lane) (ackItem s.now (portOfLane d lane) value) d)) s

def execNak (lane value : Nat) (s : State) :=
  effect (.nak lane value) (onDev (fun d => doIf (carries d lane) (nakItem s.now (portOfLane d lane) value) d)) s

def execAckTimeout (lane : Nat) (s : State) := effect (.ackTimeout lane) (onDev (ackTimeout s.now lane)) s

def execRepairRequest (portBlock laneIdx : Nat) (s : State) :=
  effect (.repairRequest portBlock laneIdx) (onDev (repairRequest s.now portBlock laneIdx)) s

def execRepairAccept (portBlock laneIdx : Nat) (s : State) :=
  effect (.repairAccept portBlock laneIdx) (onDev (repairAccept portBlock laneIdx)) s

def execRepairRefuse (portBlock laneIdx reason : Nat) (s : State) :=
  effect (.repairRefuse portBlock laneIdx reason) (onDev (repairRefuse s.now portBlock laneIdx reason)) s

def execRepairAnswerTimeout (portBlock : Nat) (s : State) :=
  effect (.repairAnswerTimeout portBlock) (onDev (repairTimeout s.now portBlock)) s

def execLaneSwitch (portBlock : Nat) (s : State) :=
  effect (.laneSwitch portBlock) (onDev (laneSwitch portBlock)) s

def execSpareDeskewDone (portBlock : Nat) (s : State) :=
  effect (.spareDeskewDone portBlock) (onDev (spareDeskew s.now portBlock)) s

/-- No light for 0.5 µs (R118). -/
def execNoLight (lane : Nat) (s : State) := effect (.noLight lane) (onDev (laneFail s.now lane 2)) s

/-- Lock lost for 1 µs (R118). -/
def execLockLost (lane : Nat) (s : State) := effect (.lockLost lane) (onDev (laneFail s.now lane 3)) s

/-- SPARE_THRESH exceeded; 0 disables the trigger (R112, R118). -/
def threshExceeded (now : W64) (lane : Nat) (d : Dev) : Dev :=
  if rd d (Page.lnk lane) Reg.LNK_SPARE_THRESH_UCW = 0 then d else laneFail now lane 0x11 d

def execSpareThreshExceeded (lane : Nat) (s : State) :=
  effect (.spareThreshExceeded lane) (onDev (threshExceeded s.now lane)) s

def execDepart (lane : Nat) (s : State) := effect (.depart lane) (onDev (departReceived s.now lane)) s

def execDepartedClose (lane : Nat) (lightAbsent : Bool) (s : State) :=
  effect (.departedClose lane lightAbsent) (onDev (departedClose s.now lane lightAbsent)) s

def execFlitCrcError (group : Nat) (s : State) := effect (.flitCrcError group) (onDev (flitError group)) s

def execD2dWireRepair (group wire : Nat) (s : State) :=
  effect (.d2dWireRepair group wire) (onDev (wireRepair s.now group wire)) s

def execD2dRepairDone (group : Nat) (s : State) := effect (.d2dRepairDone group) (onDev (wireRepairDone group)) s

def execReferenceLoss (s : State) := effect .referenceLoss (onDev referenceLoss) s

def execReferenceRestored (s : State) := effect .referenceRestored (onDev referenceRestored) s

end Sys2Proof.Machine
end

