-- ==== Sys2Proof/Machine/Lasers.lean ====
section
/-! DEFINITION. Laser modules (R125 to R131): insertion and verification, changeover, release and wear. -/

namespace Sys2Proof.Machine

/-- Module states of LSR_STAT (R131). -/
def lmAbsent : Nat := 0
def lmVerifying : Nat := 1
def lmRejected : Nat := 2
def lmRamping : Nat := 3
def lmRunning : Nat := 4
def lmCarrying : Nat := 5
def lmReleased : Nat := 6
def lmFailed : Nat := 7

def lsrState (d : Dev) (m : Nat) : Nat := rd d (Page.laser m) Reg.LSR_STAT_STATE
def setLsrState (m st : Nat) (d : Dev) : Dev := wr (Page.laser m) Reg.LSR_STAT_STATE st d
def lsrOutput (d : Dev) (m : Nat) : Nat := rd d (Page.laser m) Reg.LSR_STAT_OUTPUT

/-- Output over time since the latest hour of wear, in percent × ticks (R129). -/
def outGrown (now : W64) (d : Dev) (m : Nat) : Nat :=
  (d.laserRec m).outSum + lsrOutput d m * ticksSince now (d.laserRec m).outTick

/-- The output becomes `pct` percent of rated. -/
def setOutput (now : W64) (m pct : Nat) (d : Dev) : Dev :=
  updLaser m (fun l => { l with setpoint := pct, outSum := outGrown now d m, outTick := now.toNat })
    (wr (Page.laser m) Reg.LSR_STAT_OUTPUT pct d)

/-- The other module of the tile (R38). -/
def partner (m : Nat) : Nat := if m % 2 = 0 then m + 1 else m - 1
def tileOfModule (m : Nat) : Nat := m / 2

/-- The module gives light: running or carrying. -/
def lsrLit (d : Dev) (m : Nat) : Bool := decide (lsrState d m = lmRunning ∨ lsrState d m = lmCarrying)

/-- The module's wear is known: it has been verified, and is there. -/
def wearKnown (d : Dev) (m : Nat) : Bool := (d.laserRec m).present && decide (lmRamping ≤ lsrState d m)

/-- TILE_STAT as the modules stand (R131): LIT one bit per module, DIM while one module carries the tile;
bit 16 when DIM becomes 1, bit 17 when LIT becomes 0b00. -/
def syncTile (tile : Nat) (d : Dev) : Dev :=
  let p := Page.tile tile
  let a := lsrLit d (2 * tile)
  let b := lsrLit d (2 * tile + 1)
  let lit := (if a then 1 else 0) + (if b then 2 else 0)
  let dim := a != b
  let d1 := wrBit p Reg.OPT_TILE_STAT_DIM dim (wr p Reg.OPT_TILE_STAT_LIT lit d)
  let d2 := doIf (dim && !rdBit d p Reg.OPT_TILE_STAT_DIM) (raiseIrq p 16) d1
  doIf (decide (lit = 0 ∧ rd d p Reg.OPT_TILE_STAT_LIT ≠ 0)) (raiseIrq p 17) d2

/-- Every lane of the tile goes down with reason 0x0D (R128). -/
def tileDark (now : W64) (tile : Nat) (d : Dev) : Dev :=
  forEach ((List.range 128).map (fun k => 128 * tile + k)) (fun lane d =>
    if isPort d lane && decide (linkState d lane ≠ lsDisabled) && decide (linkState d lane ≠ lsFailed) then
      startSearch now lane 0x0D d
    else d) d

/-- LSR_PRES_N asserts (R127 step 1). -/
def laserInsert (now : W64) (m : Nat) (d : Dev) : Dev :=
  if (d.laserRec m).present then d
  else
    let d1 := updLaser m (fun l => { l with present := true, insertTick := now.toNat, releasing := false }) d
    raiseIrq (Page.laser m) 16 (setLsrState m lmVerifying d1)

/-- Certificate bytes: serial (8), module public key (32), rated life (4), signature (64) (R126). -/
def certBody (c : List Byte) : List Byte := c.take 44
def certKey (c : List Byte) : List Byte := (c.drop 8).take 32
def certSig (c : List Byte) : List Byte := (c.drop 44).take 64

/-- The challenge the device writes for its n-th draw: 32 bytes (R127). -/
def challengeBytes (n : Nat) : List Byte :=
  (List.range 4).flatMap (fun k => bytesLE 8 (Config.draw (n + k)).toNat)

/-- The first check of R127 that fails, as a reject reason. -/
def laserReject (d : Dev) (info : ModuleInfo) : Option Nat :=
  if !info.busOk then some 5
  else if info.layout ≠ 1 then some 4
  else if !Config.edVerify Config.moduleKey (certBody info.certificate) (certSig info.certificate) then some 1
  else if !Config.edVerify (certKey info.certificate) (challengeBytes d.ctl.draws) info.response then some 2
  else none

/-- Wear recorded in the journal for a serial, in hours (R127, R434). -/
def journalWear (d : Dev) (serial : Nat) : Nat :=
  match standing (activeHalf d) 1 (serial % 2 ^ 32) with
  | some r => natOfLE (r.value.drop 8)
  | none => 0

/-- 500 ms after insertion, once the image runs (R491), the checks of R127: the module is rejected, or ramps to
50 %. -/
def laserVerify (now : W64) (m : Nat) (info : ModuleInfo) (d : Dev) : Dev :=
  let l := d.laserRec m
  if !(l.present && decide (lsrState d m = lmVerifying) && elapsed now l.insertTick 500000000) ||
      decide (rd d Page.mgt Reg.MGT_BOOT_STAT_STAGE ≠ 2) then d
  else
    let p := Page.laser m
    let d0 := { d with ctl := { d.ctl with draws := d.ctl.draws + 4 } }
    match laserReject d info with
    | some r => raiseIrq p 18 (wr p Reg.LSR_STAT_REJECT r (setLsrState m lmRejected d0))
    | none =>
      let wear := max info.wearMirror (journalWear d info.serial)
      let d1 := wr64 p Reg.LSR_SERIAL info.serial (wr p Reg.LSR_LIFE_HOURS info.life
        (wr p Reg.LSR_WEAR_HOURS wear (wr p Reg.LSR_STAT_REJECT 0 d0)))
      let d2 := updLaser m (fun l =>
        { l with wear := 1000 * wear, ratedLife := info.life, en := true, setpoint := 50, outSum := 0,
                 outTick := now.toNat, hourTick := now.toNat }) d1
      setLsrState m lmRamping d2

/-- The ramp ends (R127): the module runs at 50 %, and so does a partner that was carrying (R130). -/
def laserRampDone (now : W64) (m : Nat) (d : Dev) : Dev :=
  if lsrState d m ≠ lmRamping then d
  else
    let d1 := setOutput now m 50 (setLsrState m lmRunning d)
    let q := partner m
    let d2 :=
      if lsrState d q = lmCarrying then
        updLaser q (fun l => { l with boost := false }) (setOutput now q 50 (setLsrState q lmRunning d1))
      else if lsrState d q = lmRunning then d1
      else setOutput now m 100 (setLsrState m lmCarrying (updLaser m (fun l => { l with boost := true }) d1))
    syncTile (tileOfModule m) d2

/-- The status byte and case temperature read every 10 ms (R126). -/
def laserPoll (m status temp : Nat) (d : Dev) : Dev :=
  if (d.laserRec m).present then updLaser m (fun l => { l with status := status % 256, temp := temp % 256 }) d
  else d

/-- A laser event on a module's output (R128): LSR_EN of the module is released, the partner's LSR_BOOST
asserted, and the lane-failure hold-off starts (R122). With both modules dark the tile goes down. A module that is
still ramping fails in the same way. -/
def laserEvent (now : W64) (m : Nat) (d : Dev) : Dev :=
  if !lsrLit d m && decide (lsrState d m ≠ lmRamping) then d
  else
    let tile := tileOfModule m
    let q := partner m
    let d1 := updLaser m (fun l => { l with en := false, boost := false }) d
    let d2 := setOutput now m 0 (setLsrState m lmFailed d1)
    let d3 := if lsrLit d2 q then updLaser q (fun l => { l with boost := true }) d2 else d2
    let d4 := { d3 with lnk := { d3.lnk with holdoff := sset (konst false) d3.lnk.holdoff tile true } }
    let d5 := raiseIrq (Page.laser m) 19 (syncTile tile d4)
    if lsrLit d2 q || !lsrLit d m then d5 else tileDark now tile d5

/-- The partner reaches 100 % (R128): it carries the tile. -/
def laserChangeover (now : W64) (tile : Nat) (d : Dev) : Dev :=
  let one := fun m d =>
    if (d.laserRec m).boost && decide (lsrState d m = lmRunning) then
      setOutput now m 100 (setLsrState m lmCarrying d)
    else d
  syncTile tile (one (2 * tile + 1) (one (2 * tile) d))

/-- 10 µs after a laser event, lane-failure triggers on the tile apply again (R122). -/
def laserHoldoffEnd (tile : Nat) (d : Dev) : Dev :=
  { d with lnk := { d.lnk with holdoff := sset (konst false) d.lnk.holdoff tile false } }

/-- LSR_PRES_N deasserts: a module removed without release is a laser event (R130). -/
def laserRemove (now : W64) (m : Nat) (d : Dev) : Dev :=
  if !(d.laserRec m).present then d
  else
    let d1 := laserEvent now m d
    let d2 := updLaser m (fun l => { l with present := false, en := false, boost := false }) d1
    let p := Page.laser m
    let d3 := wr64 p Reg.LSR_SERIAL 0 (wr p Reg.LSR_STAT_OUTPUT 0 (wr p Reg.LSR_STAT_REJECT 0
      (setLsrState m lmAbsent d2)))
    raiseIrq p 17 (syncTile (tileOfModule m) d3)

/-- Write the whole hours of wear to the journal (R129); the module's page 0x01 takes the same value. -/
def writeWear (m : Nat) (d : Dev) : Dev :=
  let serial := rd64 d (Page.laser m) Reg.LSR_SERIAL
  let hours := (d.laserRec m).wear / 1000
  journalAdd 1 (serial % 2 ^ 32) false true (bytesLE 8 serial ++ bytesLE 4 hours) d

/-- Wear of the hour that ends, in thousandths of an hour: the greater of 0.1 and the mean output over the rated
output (R129). -/
def hourWear (now : W64) (d : Dev) (m : Nat) : Nat :=
  let t := ticksSince now (d.laserRec m).hourTick
  max 100 (if t = 0 then 10 * lsrOutput d m else 10 * outGrown now d m / t)

/-- One powered hour (R129): wear grows; 90 % and 100 % of rated life raise their interrupts as they are reached. -/
def wearHour (now : W64) (m : Nat) (d : Dev) : Dev :=
  if !wearKnown d m then d
  else
    let l := d.laserRec m
    let p := Page.laser m
    let w := l.wear + hourWear now d m
    let d1 := wr p Reg.LSR_WEAR_HOURS (w / 1000)
      (updLaser m (fun l => { l with wear := w, outSum := 0, outTick := now.toNat, hourTick := now.toNat }) d)
    let reached := fun pct => decide (l.wear * 100 < l.ratedLife * 1000 * pct ∧ l.ratedLife * 1000 * pct ≤ w * 100)
    let d2 := doIf (reached 90) (raiseIrq p 20) d1
    writeWear m (doIf (reached 100) (raiseIrq p 21) d2)

/-- RELEASE of a module that is lit, ramping or failed (R130): the partner ramps to 100 %; without a running partner
it is refused, unless FORCE. -/
def release (src : Src) (m : Nat) (force : Bool) (d : Dev) : Dev :=
  if !wearKnown d m || decide (lsrState d m = lmReleased) then d
  else if lsrLit d (partner m) then
    updLaser (partner m) (fun l => { l with boost := true }) (updLaser m (fun l => { l with releasing := true }) d)
  else if force then updLaser m (fun l => { l with releasing := true }) d
  else setErr (Page.laser m) 16 src 0x100 0 d

/-- The ramp of the partner ends: the module is darkened and released, its wear written (R129, R130). -/
def releaseDone (now : W64) (m : Nat) (d : Dev) : Dev :=
  if !(d.laserRec m).releasing then d
  else
    let q := partner m
    let d1 := updLaser m (fun l => { l with releasing := false, en := false }) (writeWear m d)
    let d2 := setOutput now m 0 (setLsrState m lmReleased d1)
    if lsrLit d2 q then
      syncTile (tileOfModule m) (setOutput now q 100 (setLsrState q lmCarrying d2))
    else if !lsrLit d m then d2
    else tileDark now (tileOfModule m) (syncTile (tileOfModule m) d2)

/-- RESUME of a released module that is present: verified again (R127, R130). -/
def resume (now : W64) (m : Nat) (d : Dev) : Dev :=
  if (d.laserRec m).present && decide (lsrState d m = lmReleased) then
    setLsrState m lmVerifying (updLaser m (fun l => { l with insertTick := now.toNat }) d)
  else d

/-! ### The meanings -/

def execLaserInsert (m : Nat) (s : State) := effect (.laserInsert m) (onDev (laserInsert s.now m)) s

def execLaserVerify (m : Nat) (info : ModuleInfo) (s : State) :=
  effect (.laserVerify m info) (onDev (laserVerify s.now m info)) s

def execLaserRampDone (m : Nat) (s : State) := effect (.laserRampDone m) (onDev (laserRampDone s.now m)) s

def execLaserPoll (m status temp : Nat) (s : State) :=
  effect (.laserPoll m status temp) (onDev (laserPoll m status temp)) s

def execLaserEvent (m : Nat) (s : State) := effect (.laserEvent m) (onDev (laserEvent s.now m)) s

def execLaserChangeoverDone (tile : Nat) (s : State) :=
  effect (.laserChangeoverDone tile) (onDev (laserChangeover s.now tile)) s

def execLaserHoldoffEnd (tile : Nat) (s : State) :=
  effect (.laserHoldoffEnd tile) (onDev (laserHoldoffEnd tile)) s

def execLaserRemove (m : Nat) (s : State) := effect (.laserRemove m) (onDev (laserRemove s.now m)) s

def execWearHour (m : Nat) (s : State) := effect (.wearHour m) (onDev (wearHour s.now m)) s

def execReleaseDone (m : Nat) (s : State) := effect (.releaseDone m) (onDev (releaseDone s.now m)) s

end Sys2Proof.Machine
end

