-- ==== Sys2Proof/Machine/Contexts.lean ====
section
/-! DEFINITION. Groups and their fields (R235), contexts (R243 to R257): placement, binding, admission,
paging, parking, freeing; and the result cells the engine queues (R249, R251). -/

namespace Sys2Proof.Machine

/-! ### Group entries (R235) -/

def grp (d : Dev) (g : Nat) : List W32 := tget d Page.col 0 g
def setGrp (g : Nat) (ws : List W32) (d : Dev) : Dev := tset Page.col 0 g ws d

def gValid (ws : List W32) : Bool := wbit ws 0 31
def gDraining (ws : List W32) : Bool := wbit ws 0 30
def gResizing (ws : List W32) : Bool := wbit ws 0 29
def gGen (ws : List W32) : Nat := wbits ws 0 23 16
def gJob (ws : List W32) : Nat := wbits ws 0 15 0
def gOp (ws : List W32) : Nat := wbits ws 1 31 28
def gRed (ws : List W32) : Nat := wbits ws 1 27 24
def gIn (ws : List W32) : Nat := wbits ws 1 23 20
def gOut (ws : List W32) : Nat := wbits ws 1 19 16
def gSfmt (ws : List W32) : Nat := wbits ws 1 15 14
def gHigh (ws : List W32) : Bool := wbit ws 1 13
def gCompressed (ws : List W32) : Bool := wbit ws 1 12
def gRecipe (ws : List W32) : Nat := wbits ws 1 7 0
def gPin (ws : List W32) : Bool := wbit ws 2 29
def gHome (ws : List W32) : Nat := wbits ws 2 28 26
/-- K, chunks per member share. -/
def gShare (ws : List W32) : Nat := wbits ws 3 28 16 + 1
def gBase (ws : List W32) : Nat := wbits ws 4 21 0
def gCount (ws : List W32) : Nat := wbits ws 5 20 0
def gRoot (ws : List W32) : Nat := wbits ws 6 20 0
def gPlan (ws : List W32) : Bool := wbit ws 7 31
def gPhaseT (ws : List W32) : Nat := wbits ws 7 19 0

/-- Operations (R236). -/
def gopALLREDUCE : Nat := 1
def gopREDUCE : Nat := 2
def gopREDUCE_SCATTER : Nat := 3
def gopALLGATHER : Nat := 4
def gopBROADCAST : Nat := 5
def gopA2A : Nat := 6

def Dev.groupRec (d : Dev) (g : Nat) : GroupRec := sget (konst GroupRec.zero) d.col.groups g

def updGroupRec (g : Nat) (f : GroupRec → GroupRec) (d : Dev) : Dev :=
  { d with col := { d.col with groups := supd (konst GroupRec.zero) d.col.groups g f } }

/-! ### Contexts -/

/-- Key of the phase slot of a group (R243). A context that outlives its group's generation moves to a key of
its own, 2^20 × (GEN + 1) above. -/
def ctxKey (g p : Nat) : Nat := g * 16 + p
def keyGroup (k : Nat) : Nat := k % 2 ^ 20 / 16
def keyPhase (k : Nat) : Nat := k % 16

def Dev.ctx (d : Dev) (k : Nat) : Option Context := sget (konst none) d.col.contexts k

def setCtx (k : Nat) (c : Option Context) (d : Dev) : Dev :=
  { d with col := { d.col with contexts := sset (konst none) d.col.contexts k c } }

def updCtx (k : Nat) (f : Context → Context) (d : Dev) : Dev := setCtx k ((d.ctx k).map f) d

def Context.die (c : Context) : Nat := c.region / 4

/-- The context holds a resident slot and a binding. -/
def Context.bound (c : Context) : Bool := decide (c.paging ≠ .out)

def Context.isResident (c : Context) : Bool := decide (c.paging = .resident)

/-- A rebuild of the context's frames is under way (R258, R330). -/
def Context.inRebuild (c : Context) : Bool := c.rebuilding || c.runs.any (fun r => r.rebuild)

def boundIn (d : Dev) (r : Nat) : List (Nat × Context) :=
  (ctxList d).filter (fun e => e.2.region == r && e.2.bound)

def boundTo (d : Dev) (b : Nat) : List (Nat × Context) :=
  (ctxList d).filter (fun e => e.2.block == b && e.2.bound)

/-- Contributors to a chunk (R236). -/
def gExpected (ws : List W32) : Nat := if gOp ws = gopALLGATHER then 1 else gCount ws

/-- Bytes of a context's reservation (R253). -/
def reserveOf (ws : List W32) : Nat := 4096 + 6 * 128 * fmtLanes (gIn ws) + 128 * gExpected ws * 129

def areaSize (d : Dev) : Nat := rd d Page.col Reg.COL_CTX_AREA_GIB * 2 ^ 30

def areaUsed (d : Dev) : Nat := ((ctxList d).map (fun e => e.2.reserve)).sum

/-! ### Placement and binding (R186, R246, R325, R326) -/

def regionLoad (d : Dev) (r : Nat) : Nat :=
  max (rd d Page.xbs (Reg.XBS_LOAD_CTX.idx r)) (rd d Page.xbs (Reg.XBS_LOAD_LADLE.idx r))

def saturated (d : Dev) (r : Nat) : Bool :=
  decide (rd d Page.xbs Reg.XBS_SAT_STAT_SATURATED / 2 ^ r % 2 = 1)

/-- The lower load, then the home region's die, then the lower number (R186). -/
def betterRegion (d : Dev) (home a b : Nat) : Nat :=
  let rank := fun r => (regionLoad d r * 2 + if r / 4 = home / 4 then 0 else 1) * 8 + r
  if rank a ≤ rank b then a else b

def placeRegion (d : Dev) (ws : List W32) : Nat :=
  let home := gHome ws
  if gPin ws || !saturated d home then home
  else
    match (List.range 8).filter (fun r => !saturated d r) with
    | [] => home
    | r :: rs => rs.foldl (betterRegion d home) r

/-- The page is quiescing or quiesced. -/
def pageHeld (d : Dev) (p : Page) : Bool :=
  rdBit d p Reg.PAGE_STAT_QUIESCING || decide (pageState d p = stQuiesced)

/-- A core block is held by its own page's quiesce, or by its region page's, which acts on it (R339). -/
def blockHeld (d : Dev) (b : Nat) : Bool := pageHeld d (Page.coreBlock b) || pageHeld d (Page.region (b / 4))

/-- A block takes one more context (R325, R339). -/
def blockTakes (d : Dev) (b : Nat) : Bool :=
  blockUsable d b && accepting d (Page.coreBlock b) && !blockHeld d b && decide ((boundTo d b).length < 160)

def rrBlock (d : Dev) (r : Nat) : Option Nat :=
  let p := sget (konst 0) d.col.blockPtr r
  ((List.range 4).map (fun i => 4 * r + (p + i) % 4)).find? (blockTakes d)

def freeSlot (d : Dev) (r : Nat) : Option Nat :=
  let used := (boundIn d r).map (fun e => e.2.slot)
  if used.length < residentLimit d r then (List.range 512).find? (fun s => !used.contains s) else none

/-- A slot and a block for one more resident context of the region. -/
def binding (d : Dev) (r : Nat) : Option (Nat × Nat) :=
  match freeSlot d r, rrBlock d r with
  | some s, some b => some (s, b)
  | _, _ => none

def moveBlockPtr (b : Nat) (d : Dev) : Dev :=
  { d with col := { d.col with blockPtr := sset (konst 0) d.col.blockPtr (b / 4) ((b + 1) % 4) } }

/-- CONTEXTS of every core block (R338). -/
def syncBound (d : Dev) : Dev :=
  forEach (List.range 32) (fun b d => wr (Page.coreBlock b) Reg.CB_STAT_CONTEXTS (boundTo d b).length d) d

/-! ### Paging (R256, R257) -/

/-- Units of a die's retention pool (R252) not in use. -/
def retentionFree (d : Dev) (die : Nat) : Nat :=
  rd d Page.voq Reg.VOQ_CARVE_SIZE * bankUnits - 65536 -
    (((ctxList d).filter (fun e => e.2.die == die && e.2.bound)).map (fun e => e.2.units)).sum

/-- A context that may be paged out (R256, R331). -/
def pageable (c : Context) : Bool := c.isResident && decide (c.state ≠ .complete) && !c.inRebuild

/-- The least recently touched of the contexts that may be paged out. -/
def victim (d : Dev) (ok : Context → Bool) : Option Nat :=
  (((ctxList d).filter (fun e => pageable e.2 && ok e.2)).foldl (fun best e =>
    match best with
    | some b => if e.2.touchTick < b.2.touchTick then some e else some b
    | none => some e) none).map Prod.fst

def startPageOut (ok : Context → Bool) (d : Dev) : Dev :=
  match victim d ok with
  | some k => updCtx k (fun c => { c with paging := .goingOut }) d
  | none => d

/-- Bind one waiting context of a region, or start a page-out to make room for it. -/
def pumpOne (k : Nat) (d : Dev) : Dev :=
  match d.ctx k with
  | none => d
  | some c =>
    if c.paging ≠ .out ∨ !c.pageIn then d
    else
      match binding d c.region with
      | some (s, b) =>
        moveBlockPtr b (setCtx k (some { c with paging := .goingIn, slot := s, block := b }) d)
      | none =>
        let inRegion := (ctxList d).filter (fun e => e.2.region == c.region)
        let waiting := (inRegion.filter (fun e => e.2.paging == .out && e.2.pageIn)).length
        let leaving := (inRegion.filter (fun e => e.2.paging == .goingOut)).length
        if leaving < waiting then startPageOut (fun v => v.region == c.region) d else d

/-- Contexts bound to a core block that is quiescing are paged out (R339). -/
def leaveQuiescing (d : Dev) : Dev :=
  forEach (ctxList d) (fun e d =>
    if pageable e.2 && blockHeld d e.2.block then
      setCtx e.1 (some { e.2 with paging := .goingOut }) d
    else d) d

/-- Serve every waiting page-in, in key order. -/
def pump (d : Dev) : Dev := syncBound (forEach ((ctxList d).map Prod.fst) pumpOne (leaveQuiescing d))

/-- A die's pool below RET_LOW pages one of its contexts out (R256). -/
def checkRetention (die : Nat) (d : Dev) : Dev :=
  let leaving := (ctxList d).any (fun e => e.2.die == die && e.2.paging == .goingOut)
  if retentionFree d die < rd d Page.col Reg.COL_RET_LOW_UNITS && !leaving then
    startPageOut (fun v => v.die == die) d
  else d

def wantPageIn (k : Nat) (d : Dev) : Dev := pump (updCtx k (fun c => { c with pageIn := true }) d)

/-! ### Parking (R174) -/

def parked (d : Dev) (die : Nat) : List (Nat × Box) := if die = 0 then d.sw.parkA else d.sw.parkB

def setParked (die : Nat) (l : List (Nat × Box)) (d : Dev) : Dev :=
  if die = 0 then { d with sw := { d.sw with parkA := l } } else { d with sw := { d.sw with parkB := l } }

/-- Park a cell for a phase slot: its charge follows R168. -/
def park (k : Nat) (b : Box) (d : Dev) : Dev :=
  let r := admitCharge b d
  let die := dieOfSource b.source
  setParked die (parked r.2 die ++ [(k, r.1)]) (bump Page.voq Reg.VOQ_CNT 7 r.2)

/-- Parked cells of a phase slot, oldest first. -/
def parkedFor (d : Dev) (k : Nat) : List Box :=
  sortBy Box.num (((parked d 0 ++ parked d 1).filter (fun e => e.1 == k)).map Prod.snd)

def unpark (k : Nat) (d : Dev) : Dev :=
  forEach [0, 1] (fun die d => setParked die ((parked d die).filter (fun e => e.1 != k)) d) d

/-- A context with parked cells, with runs to make, or with its results still to produce cannot stay paged out:
its page-in follows (R174, R246). -/
def needsIn (d : Dev) (k : Nat) (c : Context) : Bool :=
  !(parkedFor d k).isEmpty || !c.runs.isEmpty || !c.finishing.isEmpty || c.rebuilding || decide (c.state = .complete)

/-- PAGE_OUT_DONE (R256). -/
def pageOutDone (k : Nat) (d : Dev) : Dev :=
  match d.ctx k with
  | some c =>
    if c.paging = .goingOut then
      let d1 := bump Page.col Reg.COL_CNT 2
        (setCtx k (some { c with paging := .out, pageIn := c.pageIn || needsIn d k c }) d)
      pump (checkRetention c.die d1)
    else d
  | none => d

/-- Drop the parked cells of a phase slot. -/
def dropParked (k fate : Nat) (d : Dev) : Dev :=
  unpark k (forEach (parkedFor d k) (fun b d => dropBox b fate d) d)

/-! ### Cells the engine sends down (R77, R81, R89, R249) -/

def scaleBits (l : List Nat) : Nat := (l.take 6).foldl (fun a s => a * 256 + s % 256) 0

/-- A CDN cell; DST and RTAG are written in each copy. -/
def cdnCell (pos : Nat) (payload : BitVec 768) (scales : List Nat) : Cell :=
  { hdr := BitVec.ofNat 128 (6 * 2 ^ 93 + ocCDN * 2 ^ 84 + pos % 128 * 2 ^ 64 + scaleBits scales * 2 ^ 16),
    payload := payload }

structure DownTail where
  group : Nat
  gen : Nat
  phase : Nat
  chunk : Nat
  last : Bool
  cells : Nat
  valid : Nat
  crc : Nat
  deriving DecidableEq, Repr

def ctailDn (d : Dev) (t : DownTail) : Cell :=
  mkCell 0 6 ocCTAIL_DN (selfCoord d) t.group (t.chunk % 2 ^ 13 * 128)
    (bytesBE 4 t.crc ++ bytesBE 4 t.chunk ++ bytesBE 2 t.group ++ bytesBE 1 t.gen ++
      bytesBE 1 (t.phase * 16 + if t.last then 8 else 0) ++ bytesBE 4 0 ++ bytesBE 2 0 ++ bytesBE 1 t.cells ++
      bytesBE 1 t.valid ++ bytesBE 4 0)

/-- A result copy for one member: its coordinate and its RTAG (R77). -/
def addressed (c : Cell) (coord rtag : Nat) : Cell :=
  let c1 := setHb c 127 96 coord
  reseal (if cOp c = ocCDN then setHb c1 83 71 rtag
          else { c1 with payload := withBits c1.payload 636 624 rtag })

/-- Queue a cell on the engine's multicast list of a die when minimum or shared has room (R172, R251). -/
def queueDown (now : W64) (die job : Nat) (c : Cell) (copies : List (Nat × Nat)) (d : Dev) : Dev × Bool :=
  if copies.isEmpty then (d, true)
  else
    match roomIn d (svcCol die) 6 with
    | none => (d, false)
    | some a =>
      let c1 := stamp d c
      let b := serviceBox now (svcCol die) c1 (drainInc (cEpoch c1) d)
      let bc := chargeService { b.1 with counted := true, job := some job } a b.2
      let d1 := mcastAppend now (mcastKey (svcCol die) 6) bc.1 none bc.2
      ({ d1 with col := { d1.col with replicas := sset (konst []) d1.col.replicas bc.1.num copies } }, true)

/-- Send a CTAIL_DN outside a streaming context, in order behind any that already waits (R172, R255, R259). -/
def oweDown (now : W64) (k die : Nat) (c : Cell) (copies : List (Nat × Nat)) (d : Dev) : Dev :=
  let later := { d with col := { d.col with owed := d.col.owed ++ [(k, die, c, copies)] } }
  if d.col.owed.any (fun o => o.2.1 == die) then later
  else
    let r := queueDown now die (gJob (grp d (keyGroup k))) c copies d
    if r.2 then r.1 else later

/-- Queue the first cell owed for a phase slot; `none` when nothing is owed. -/
def sendOwed (now : W64) (k : Nat) (d : Dev) : Option Dev :=
  match d.col.owed.find? (fun o => o.1 == k) with
  | none => none
  | some o =>
    let r := queueDown now o.2.1 (gJob (grp d (keyGroup o.1))) o.2.2.1 o.2.2.2 d
    some (if r.2 then { r.1 with col := { r.1.col with owed := r.1.col.owed.erase o } } else d)

/-! ### Freeing -/

/-- Records of the tagged cells of waiting runs (R470). -/
def endRuns (fate : Nat) (l : List Run) (d : Dev) : Dev :=
  forEach (l.filter (fun r => !r.rebuild)) (fun r d =>
    endLife { mkBox r.cell r.lane r.num r.rxNs r.rxTick 12 with tag := r.tag } fate d) d

/-- Free a context: its inputs, slot, binding and reservation; waiting page-ins of the region proceed. -/
def freeCtx (k fate : Nat) (d : Dev) : Dev :=
  match d.ctx k with
  | none => d
  | some c => pump (dropParked k fate (setCtx k none (endRuns fate c.runs d)))

/-- Free every context of a group that `which` selects. -/
def freeGroup (g : Nat) (which : Context → Bool) (fate : Nat) (d : Dev) : Dev :=
  forEach ((ctxList d).filter (fun e => keyGroup e.1 == g && which e.2)) (fun e d => freeCtx e.1 fate d) d

/-- The group holds a context. -/
def groupBusy (d : Dev) (g : Nat) : Bool := (ctxList d).any (fun e => keyGroup e.1 == g)

/-! ### Admission (R254) -/

/-- Detail of the denial, if the context cannot be admitted (R254, R255, R399). -/
def denyDetail (d : Dev) (ws : List W32) : Option Nat :=
  if 262144 ≤ (ctxList d).length || rdBit d Page.pmc Reg.PMC_PWR_STAT_ADMIT_STOP then some 1
  else if areaSize d < areaUsed d + reserveOf ws then some 2
  else none

/-- The next U of a phase slot, skipping 0 (R243). -/
def takeUse (k : Nat) (d : Dev) : Nat × Dev :=
  let u := sget (konst 0) d.col.useNo k % 255 + 1
  (u, { d with col := { d.col with useNo := sset (konst 0) d.col.useNo k u } })

/-- Create a context for its first cell or tail (R243, R254): resident if its region has a free slot. -/
def createCtx (now : W64) (g p : Nat) (first : Cell) (d : Dev) : Dev :=
  let k := ctxKey g p
  let ws := grp d g
  let u := takeUse k d
  let r := placeRegion d ws
  let bnd := binding u.2 r
  let c : Context :=
    { gen := gGen ws, useNo := u.1, state := .openS, paging := if bnd.isSome then .resident else .out,
      region := r, slot := (bnd.getD (0, 0)).1, block := (bnd.getD (0, 0)).2, chunk := none, last := false,
      cells := 0, valid := 0, expected := gExpected ws, closed := 0, contribs := [], first := first,
      openTick := now.toNat, touchTick := now.toNat, closeTick := now.toNat,
      frames := [], runs := [], finishing := [], results := [], crc := 0, streamPos := 0, tailPos := 0,
      reserve := reserveOf ws, recipe := gRecipe ws, version := activeStore d (gRecipe ws), units := 0,
      rebuilding := false, pageIn := false, entry := ws }
  let before := areaUsed d
  let d1 := setCtx k (some c) u.2
  let d2 := match bnd with | some (_, b) => moveBlockPtr b d1 | none => d1
  let d3 := bump Page.col Reg.COL_CNT 0 d2
  let d4 := doIf (decide (r ≠ gHome ws)) (bump Page.xbs Reg.XBS_CNT 3) d3
  let d5 := doIf (gPin ws && saturated d r) (bump Page.xbs Reg.XBS_CNT 4) d4
  let full := decide (before * 10 < areaSize d * 9 ∧ areaSize d * 9 ≤ (before + c.reserve) * 10)
  syncBound (doIf full (raiseIrq Page.col 20) d5)

end Sys2Proof.Machine
end

