-- ==== Sys2Proof/Machine/Collectives.lean ====
section
/-! DEFINITION. The collective engine (ch. 9): arrival of contribution cells and tails, closing and failing of
contributions and chunks, denials, the stream of results, resizes and generations, and the meanings of the
engine's own events. -/

namespace Sys2Proof.Machine

/-! ### What an arriving cell names (R80, R89) -/

def upSlot (c : Cell) : Nat := if cOp c = ocCUP then cMslot c else tMslot c
def upPhase (c : Cell) : Nat := if cOp c = ocCUP then cPhase c else tPhase c

/-- The group: a tail carries it, a CUP cell's is its member's (R80, R89). -/
def upGroup (ent : List W32) (c : Cell) : Nat := if cOp c = ocCUP then wbits ent 0 15 0 else tGroup c

/-- The generation the cell was sent under is the group's (R82, R261). -/
def upGenOk (ws : List W32) (c : Cell) : Bool :=
  if cOp c = ocCUP then decide (cGen0 c = gGen ws % 2) else decide (tGen c = gGen ws)

/-- The index lies in the group's member range. -/
def inRange (ws : List W32) (slot : Nat) : Bool :=
  decide (gBase ws ≤ slot) && decide (slot < gBase ws + gCount ws)

/-- Stale arrivals (R261); cells for a group that is not in service, or that only orders routing (R236), are
taken with them (log 17). -/
def upStale (d : Dev) (ent : List W32) (c : Cell) : Bool :=
  let ws := grp d (upGroup ent c)
  !wbit ent 0 31 || decide (wbits ent 0 15 0 ≠ upGroup ent c) || !gValid ws || decide (gOp ws = gopA2A) ||
    !inRange ws (upSlot c) || !upGenOk ws c

/-- The 64-byte line of Stockpot that holds an address is poisoned (R345). -/
def linePoisoned (d : Dev) (addr : Nat) : Bool := sget (konst false) d.stk.poisoned (addr / 64)

/-! ### Drops -/

/-- A cell the engine takes leaves the switch: its charge ends (R174). -/
def dropUp (b : Box) (fate : Nat) (d : Dev) : Dev := endLife b fate (endCharge b d)

/-- Drop a stale arrival and count it (R261, R263). -/
def dropStale (now : W64) (g : Nat) (b : Box) (d : Dev) : Dev :=
  let d1 := updGroupRec g (fun r => { r with stale := min (r.stale + 1) 0xFFFF, staleTick := now.toNat }) d
  bump Page.col Reg.COL_CNT 8 (dropUp b fateStale d1)

/-- Drop a window violation and count it (R245). -/
def dropViolation (b : Box) (d : Dev) : Dev := bump Page.col Reg.COL_CNT 9 (dropUp b fateStale d)

/-! ### Contributions -/

def Contrib.none : Contrib := { cells := [], tail := Option.none, closed := false, fails := 0, lane := 0 }

def Context.contrib (c : Context) (m : Nat) : Contrib := sget (konst Contrib.none) c.contribs m

def Context.setContrib (m : Nat) (x : Contrib) (c : Context) : Context :=
  { c with contribs := sset (konst Contrib.none) c.contribs m x }

/-- Six SCALE bytes, SCALE[0] first. -/
def cellScales (c : Cell) : List Nat := (List.range 6).map (cScale c)

/-- What CRC32C covers of one CUP or CDN cell (R90). -/
def crcBytes (c : Cell) : List Byte := payBytes c ++ (cellScales c).map (BitVec.ofNat 8)

/-- CRC32C of a contribution's cells in CELL order (R90). -/
def contribCrc (l : List Cell) : Nat :=
  crc32c ((sortBy cCell l).flatMap crcBytes)

/-- CRC32C continued over more bytes. -/
def crcMore (crc : Nat) (bs : List Byte) : Nat := bs.foldl crc32cByte (crc ^^^ 0xFFFFFFFF) ^^^ 0xFFFFFFFF

def chunkOf (g : Nat) (c : Context) : Nat := c.chunk.getD (Config.openChunk g c.useNo).toNat

def rtagOf (g : Nat) (c : Context) (m : Nat) : Nat :=
  match (c.contrib m).tail with
  | some t => tRtag t
  | none => (Config.openRtag g c.useNo m).toNat

/-- INFO of a RESEND (R258): GROUP, GEN, CHUNK. -/
def resendInfo (g gen chunk : Nat) : List Byte := bytesBE 2 g ++ bytesBE 1 gen ++ [0] ++ bytesBE 4 chunk

/-- INFO of an ADMIT_DENIED (R255): GROUP, GEN, PHASE, CHUNK. -/
def deniedInfo (g gen p chunk : Nat) : List Byte := bytesBE 2 g ++ bytesBE 1 gen ++ bytesBE 1 p ++ bytesBE 4 chunk

/-- Members of a context's range with their coordinates: index, COORD (R239). -/
def chunkMembers (s : State) (g : Nat) (c : Context) : List (Nat × Nat) :=
  (List.range (gCount c.entry)).filterMap (fun m =>
    let ent := memberGet s (gBase c.entry + m)
    if wbit ent 0 31 && decide (wbits ent 0 15 0 = g) then some (m, (word ent 1).toNat) else none)

/-- An empty CTAIL_DN of a chunk (R249, R255, R259). -/
def emptyTail (d : Dev) (g gen p chunk use : Nat) : Cell :=
  ctailDn d { group := g, gen := gen, phase := p, chunk := chunk, last := Config.openLast g use, cells := 0,
              valid := 0, crc := 0 }

/-! ### A chunk fails (R259) -/

/-- The RESEND with DETAIL 2 to one member (R259). -/
def resendAll (now : W64) (g p : Nat) (c : Context) (m : Nat × Nat) (d : Dev) : Dev :=
  let info := resendInfo g c.gen (chunkOf g c)
  let x := c.contrib m.1
  let d1 := bump Page.col Reg.COL_CNT 6 d
  match x.tail with
  | some t => sendNotify now (dieOf x.lane) (notifyAbout d t ntRESEND 2 info) d1
  | none =>
    let cell :=
      if cOp c.first = ocCUP then notifyCell d c.first m.2 g (p * 128 + cCell c.first) ntRESEND 2 info
      else notifyCell d c.first m.2 (cMsgid c.first) (cSeq c.first) ntRESEND 2 info
    sendNotify now c.die cell d1

/-- The chunk fails (R259): its context goes, every member is told to resend and gets an empty CTAIL_DN. -/
def failChunk (k : Nat) (s : State) : State :=
  match s.dev.ctx k with
  | none => s
  | some c =>
    let g := keyGroup k
    let p := keyPhase k
    let ms := chunkMembers s g c
    onDev (fun d =>
      let d1 := bump Page.col Reg.COL_CNT 7 (freeCtx k fateOther d)
      let d2 := forEach ms (resendAll s.now g p c) d1
      let t := emptyTail d2 g c.gen p (chunkOf g c) c.useNo
      let d3 := if ms.isEmpty then d2
        else oweDown s.now k c.die t (ms.map (fun m => (m.2, rtagOf g c m.1))) d2
      raiseIrq Page.col 19 d3) s

/-- Chunks whose inputs a fault takes away fail: those whose results are not all produced (R259, R265, R331). -/
def failLost (lost : Context → Bool) (s : State) : State :=
  ((ctxList s.dev).filter (fun e =>
      lost e.2 && (decide (e.2.state ≠ .streaming) || !e.2.finishing.isEmpty))).foldl
    (fun s e => failChunk e.1 s) s

/-! ### A contribution fails (R258) -/

/-- The other members' cells that the frames already hold, as rebuild runs. -/
def rebuildRuns (c : Context) (m : Nat) (isRoot : Nat → Bool) : List Run :=
  c.contribs.flatMap (fun e =>
    if e.1 = m ∨ isRoot e.1 = false then []
    else e.2.cells.filterMap (fun x =>
      if c.runs.any (fun r => !r.rebuild && r.member == e.1 && cCell r.cell == cCell x) then none
      else some { pos := cCell x, member := e.1, cell := x, num := 0, rebuild := true, tag := none,
                  rxNs := 0, rxTick := 0, lane := e.2.lane }))

/-- The member's cells are accumulated: all of them, but in a BROADCAST the root's alone (R248, R312). -/
def accumulates (ws : List W32) (m : Nat) : Bool := decide (gOp ws ≠ gopBROADCAST) || decide (m = gRoot ws)

/-- The member's retained inputs go, and the accumulator is rebuilt from the others' (R258 steps 1 and 2). -/
def dropContrib (ws : List W32) (m : Nat) (c : Context) : Context :=
  let x := c.contrib m
  let kept := c.runs.filter (fun r => !r.rebuild && r.member != m)
  { (c.setContrib m { x with cells := [], tail := none, fails := x.fails + 1 }) with
    frames := [], runs := rebuildRuns c m (accumulates ws) ++ kept,
    units := c.units - (x.cells.length + if x.tail.isSome then 1 else 0) }

/-- Add 1 to a member's CRC_FAILS (R258 step 4). -/
def countFail (slot : Nat) (s : State) : State :=
  let ent := memberGet s slot
  memberSet slot (setWBits ent 11 31 16 (min (wbits ent 11 31 16 + 1) 0xFFFF)) s

/-- A contribution fails (R258); the (RESEND_MAX + 1)th failure fails the chunk (R259). -/
def failContrib (k m detail : Nat) (s : State) : State :=
  match s.dev.ctx k with
  | none => s
  | some c =>
    let g := keyGroup k
    let ws := c.entry
    let x := c.contrib m
    let gone := c.runs.filter (fun r => r.member == m)
    let s1 := onDev (fun d =>
      let d1 := setCtx k (some (dropContrib ws m c)) (endRuns fateOther gone d)
      let d2 := bump Page.col Reg.COL_CNT 6 (bump Page.col Reg.COL_CNT 5 d1)
      match x.tail with
      | some t => sendNotify s.now (dieOf x.lane)
          (notifyAbout d t ntRESEND detail (resendInfo g c.gen (chunkOf g c))) d2
      | none => d2) s
    let s2 := countFail (gBase c.entry + m) s1
    if rd s.dev Page.col Reg.COL_COL_CFG_RESEND_MAX < x.fails + 1 then failChunk k s2 else s2

/-! ### A contribution closes (R246, R260) -/

/-- The member entry after a closing: STAMP, LATE_SUM, LATE_MAX, CLOSED. -/
def closedEntry (p use late : Nat) (ent : List W32) : List W32 :=
  let e1 := setWBits ent (2 + p / 4) (8 * (p % 4) + 7) (8 * (p % 4)) use
  let e2 := setWBits e1 6 31 0 (min (max late (wbits e1 6 31 0)) 0xFFFFFFFF)
  setWBits (setW64 e2 8 ((word64 e2 8 + late) % 2 ^ 64)) 10 31 0 (wbits e2 10 31 0 + 1)

/-- The straggler entry follows the member with the greatest LATE_SUM (R260); the first closing fills an
empty one. -/
def straggle (g m : Nat) (ent : List W32) (d : Dev) : Dev :=
  let ws := tget d Page.col 2 g
  if word64 ws 1 < word64 ent 8 ∨ word ws 3 = 0 then
    tset Page.col 2 g (setW (setW64 (setWBits ws 0 20 0 m) 1 (word64 ent 8)) 3 (word ent 10)) d
  else d

/-- COMPLETE once every contribution has closed: a finish run for every position (R246, R312). -/
def closeCount (now : W64) (m : Nat) (c : Context) : Context :=
  let c1 := { (c.setContrib m { c.contrib m with closed := true }) with
    closed := c.closed + 1, closeTick := now.toNat }
  if c1.closed = c1.expected then { c1 with state := .complete, finishing := List.range c1.cells } else c1

def closeContrib (k m : Nat) (c : Context) (s : State) : State :=
  let slot := gBase c.entry + m
  let late := ticksSince s.now c.openTick * 5 / 8
  let ent := closedEntry (keyPhase k) c.useNo late (memberGet s slot)
  onDev (fun d => straggle (keyGroup k) m ent (setCtx k (some (closeCount s.now m c)) d)) (memberSet slot ent s)

/-- Close or fail a contribution whose tail and CELLS cells are held (R246). -/
def tryClose (k m : Nat) (s : State) : State :=
  match s.dev.ctx k with
  | none => s
  | some c =>
    let x := c.contrib m
    match x.tail with
    | none => s
    | some t =>
      if x.closed ∨ x.cells.length < tCells t then s
      else if contribCrc x.cells = tCrc t then closeContrib k m c s
      else failContrib k m 1 s

/-! ### Arrival in a context (R244 to R247) -/

/-- The context with one more unit retained, touched now. -/
def Context.touch (now : W64) (n : Nat) (c : Context) : Context :=
  { c with units := c.units + n, touchTick := now.toNat }

/-- A contribution cell is retained and its accumulate run waits (R246, R312). -/
def takeCup (k m : Nat) (b : Box) (c : Context) (s : State) : State :=
  let ws := c.entry
  let x := c.contrib m
  let runs := accumulates ws m
  let run : Run := { pos := cCell b.cell, member := m, cell := b.cell, num := b.num, rebuild := false, tag := b.tag,
                     rxNs := b.rxNs, rxTick := b.rxTick, lane := b.source }
  let c1 := (c.setContrib m { x with cells := x.cells ++ [b.cell], lane := b.source }).touch s.now 1
  let c2 := { c1 with runs := if runs then c1.runs ++ [run] else c1.runs }
  tryClose k m (onDev (fun d =>
    let d1 := countArrival c.region (classCode (keyGroup k) c.recipe) (setCtx k (some c2) (endCharge b d))
    checkRetention c.die (if runs then d1 else endLife b fateService d1)) s)

/-- The tail agrees with what earlier tails have set (R244). -/
def tailAgrees (c : Context) (t : Cell) : Bool :=
  (match c.chunk with
   | some n => decide (n = tChunk t) && (c.last == tLast t)
   | none => true) &&
    (decide (tCells t = 0) || decide (c.cells = 0) || (decide (c.cells = tCells t) && decide (c.valid = tValid t)))

/-- The shape a tail sets (R244). -/
def tailShape (t : Cell) (c : Context) : Context :=
  let c1 := if c.chunk.isNone then { c with chunk := some (tChunk t), last := tLast t } else c
  if tCells t ≠ 0 ∧ c1.cells = 0 then { c1 with cells := tCells t, valid := tValid t } else c1

/-- A contribution tail is retained; it sets or checks the shape (R244). -/
def takeTail (k m : Nat) (b : Box) (c : Context) (s : State) : State :=
  let x := c.contrib m
  let held := (c.setContrib m { x with tail := some b.cell, lane := b.source }).touch s.now 1
  let ok := tailAgrees c b.cell
  let c1 := { (if ok then tailShape b.cell held else held) with closeTick := s.now.toNat }
  let s1 := onDev (fun d => checkRetention c.die (setCtx k (some c1) (dropUp b fateService d))) s
  if ok then tryClose k m s1 else failContrib k m 3 s1

/-- STAMP[p] of a member entry. -/
def stampOf (ent : List W32) (p : Nat) : Nat := wbits ent (2 + p / 4) (8 * (p % 4) + 7) (8 * (p % 4))

/-- A window violation (R245): the member has closed here. A cell held already, a second tail, and an arrival
after the context has left OPEN are taken with it (log 17). -/
def violates (c : Context) (ent : List W32) (p m : Nat) (cell : Cell) : Bool :=
  let x := c.contrib m
  decide (stampOf ent p = c.useNo) || x.closed || decide (c.state ≠ .openS) ||
    (if cOp cell = ocCUP then x.cells.any (fun y => cCell y == cCell cell) else x.tail.isSome)

/-- A cell or tail for an existing context: dropped, parked (R174) or taken. -/
def enterCtx (k m : Nat) (b : Box) (ent : List W32) (c : Context) (s : State) : State :=
  if violates c ent (keyPhase k) m b.cell then onDev (dropViolation b) s
  else if !c.isResident then onDev (fun d => wantPageIn k (park k b d)) s
  else if cOp b.cell = ocCUP then takeCup k m b c s
  else takeTail k m b c s

/-! ### Denials (R255) -/

def Dev.denial (d : Dev) (k : Nat) : Option Denial :=
  match sget (konst none) d.col.denials k with
  | some r => if r.gen = gGen (grp d (keyGroup k)) then some r else none
  | none => none

def setDenial (k : Nat) (r : Option Denial) (d : Dev) : Dev :=
  { d with col := { d.col with denials := sset (konst none) d.col.denials k r } }

/-- A cell or tail of a denied chunk: the member is told once; its tail closes the chunk for it. -/
def denyCell (now : W64) (k m : Nat) (b : Box) (ent : List W32) (r : Denial) (d : Dev) : Dev :=
  let g := keyGroup k
  let p := keyPhase k
  let c := b.cell
  let tail := decide (cOp c = ocCTAIL_UP)
  if r.closed.contains m then dropViolation b d
  else
    let r1 := if tail && r.chunk.isNone then { r with chunk := some (tChunk c) } else r
    let info := deniedInfo g r.gen p (r1.chunk.getD 0xFFFFFFFF)
    let coord := (word ent 1).toNat
    let note := if tail then notifyAbout d c ntADMIT_DENIED r.detail info
                else notifyCup d c coord g ntADMIT_DENIED r.detail info
    let d1 := if r.notified.contains m then d else sendNotify now (dieOf b.source) note d
    let r2 := { r1 with notified := if r.notified.contains m then r.notified else r.notified ++ [m] }
    let d2 := dropUp b fateService d1
    if tail then
      let r3 := { r2 with closed := r2.closed ++ [m] }
      let done := decide (gExpected (grp d g) ≤ r3.closed.length)
      oweDown now k (dieOf b.source) (emptyTail d2 g r.gen p (r3.chunk.getD 0) r.useNo) [(coord, tRtag c)]
        (setDenial k (if done then none else some r3) d2)
    else setDenial k (some r2) d2

/-- A chunk is denied: its record takes the slot's next U (R255). -/
def deny (k detail : Nat) (d : Dev) : Denial × Dev :=
  let u := takeUse k d
  let r : Denial := { gen := gGen (grp d (keyGroup k)), useNo := u.1, detail := detail, chunk := none,
                      notified := [], closed := [] }
  (r, raiseIrq Page.col 16 (bump Page.col Reg.COL_CNT 4 (setDenial k (some r) u.2)))

/-! ### Arrival -/

/-- A MID has failed (R456). -/
def midDown (d : Dev) : Bool := !d.rst.midFailed.isEmpty

/-- A cell or tail for a phase slot with no context (R243, R254, R255, R262, R272). -/
def openFor (k m : Nat) (b : Box) (ent : List W32) (s : State) : State :=
  let d := s.dev
  let ws := grp d (keyGroup k)
  match d.denial k with
  | some r => onDev (denyCell s.now k m b ent r) s
  | none =>
    if gResizing ws then onDev (dropStale s.now (keyGroup k) b) s
    else if !accepting d Page.col && !midDown d then onDev (park k b) s
    else
      match (if midDown d then some 2 else denyDetail d ws) with
      | some detail =>
        let r := deny k detail d
        onDev (fun _ => denyCell s.now k m b ent r.1 r.2) s
      | none =>
        let d1 := createCtx s.now (keyGroup k) (keyPhase k) b.cell d
        match d1.ctx k with
        | some c => enterCtx k m b ent c { s with dev := d1 }
        | none => s

/-- A contribution cell or tail reaches the engine. -/
def takeUp (b : Box) (s : State) : State :=
  let c := b.cell
  let slot := upSlot c
  if linePoisoned s.dev (64 * slot) then
    onDev (fun d => dropUp b fateOther (hwErr Page.col 18 0 d)) s
  else
    let ent := memberGet s slot
    let g := upGroup ent c
    let b := tagSet (fun t => { t with enq := deltaNow s.now b, ident := g * 65536 + gGen (grp s.dev g) * 256 }) b
    if upStale s.dev ent c then onDev (dropStale s.now g b) s
    else
      let k := ctxKey g (upPhase c)
      let m := slot - gBase (grp s.dev g)
      match s.dev.ctx k with
      | some x => enterCtx k m b ent x s
      | none => openFor k m b ent s

/-- A parked cell may move: its context is resident, or it may open one now (R174, R272). -/
def mayUnpark (d : Dev) (k : Nat) : Bool :=
  match d.ctx k with
  | some c => c.isResident
  | none => accepting d Page.col

/-- Take one parked cell if it may move. -/
def unparkOne (s : State) (e : Nat × Box) : State :=
  if mayUnpark s.dev e.1 then
    takeUp e.2 (onDev (fun d =>
      forEach [0, 1] (fun die d => setParked die ((parked d die).filter (fun x => x.2.num != e.2.num)) d) d) s)
  else s

/-- Move every parked cell that may move, in arrival order (R174). -/
def unparkReady (s : State) : State :=
  (sortBy (fun e => e.2.num) (parked s.dev 0 ++ parked s.dev 1)).foldl unparkOne s

/-- COL takes arrivals: it runs, quiescing included (R51, R272), or a failed MID has every context denied
(R456). -/
def colWorks (d : Dev) : Bool :=
  decide (pageState d Page.col = stRunning ∨ pageState d Page.col = stQuiesced) || midDown d

/-- Count a contribution cell or tail for its group's job (R408). -/
def countUp (c : Cell) (s : State) : State :=
  let ent := memberGet s (upSlot c)
  if upStale s.dev ent c then s
  else onDev (countJobCell (some (gJob (grp s.dev (upGroup ent c))))) s

/-- The head of the engine's inbox, when it has the opcode (R174). -/
def takeInbox (op : Nat) (s : State) : State :=
  match s.dev.col.inbox with
  | b :: bs =>
    if colWorks s.dev && decide (cOp b.cell = op) then
      takeUp b (countUp b.cell (onDev (fun d => { d with col := { d.col with inbox := bs } }) (unparkReady s)))
    else s
  | [] => s

/-- CUP (R246). -/
def execCup (s : State) := effect .cup (takeInbox ocCUP) s

/-- CTAIL_UP (R244). -/
def execCtailUp (s : State) := effect .ctailUp (takeInbox ocCTAIL_UP) s

/-! ### Timeouts (R258, R259) -/

def chunkTimeoutNs (d : Dev) : Nat := rd d Page.col Reg.COL_COL_CFG_CHUNK_TIMEOUT * 10000

/-- MISSING_CELLS_TIMEOUT: the member's tail is held with cells missing, all others have closed, and
CHUNK_TIMEOUT / 4 has passed since. A context that is not resident is paged in first (R273). -/
def missingCells (g p m : Nat) (s : State) : State :=
  let k := ctxKey g p
  match s.dev.ctx k with
  | none => s
  | some c =>
    let x := c.contrib m
    match x.tail with
    | none => s
    | some t =>
      if c.state = .openS ∧ x.closed = false ∧ x.cells.length < tCells t ∧ c.expected ≤ c.closed + 1 ∧
          chunkTimeoutNs s.dev ≠ 0 ∧ elapsed s.now c.closeTick (chunkTimeoutNs s.dev / 4) = true then
        if c.isResident then failContrib k m 1 s else onDev (wantPageIn k) s
      else s

def execMissingCellsTimeout (group phase member : Nat) (s : State) :=
  effect (.missingCellsTimeout group phase member) (missingCells group phase member) s

/-- CHUNK_TIMEOUT: the context has been open for COL_CFG.CHUNK_TIMEOUT (R259). -/
def chunkTimedOut (g p : Nat) (s : State) : State :=
  let k := ctxKey g p
  match s.dev.ctx k with
  | some c =>
    if c.state = .openS ∧ chunkTimeoutNs s.dev ≠ 0 ∧ elapsed s.now c.openTick (chunkTimeoutNs s.dev) = true then
      failChunk k s
    else s
  | none => s

def execChunkTimeout (group phase : Nat) (s : State) :=
  effect (.chunkTimeout group phase) (chunkTimedOut group phase) s

/-! ### Results (R246, R249, R251) -/

/-- RESULTS_READY: every finish run has run (R246). -/
def resultsReady (k : Nat) (d : Dev) : Dev :=
  match d.ctx k with
  | some c =>
    if c.state = .complete ∧ c.finishing.isEmpty = true ∧ c.inRebuild = false then
      setCtx k (some { c with state := .streaming }) d
    else d
  | none => d

def execResultsReady (group phase : Nat) (s : State) :=
  effect (.resultsReady group phase) (onDev (resultsReady (ctxKey group phase))) s

/-- The member receives the chunk's result (R236). -/
def receives (ws : List W32) (c : Context) (m : Nat) : Bool :=
  if gOp ws = gopREDUCE then decide (m = gRoot ws)
  else if gOp ws = gopREDUCE_SCATTER then decide (m = chunkOf 0 c / gShare ws)
  else true

/-- A context's copies: coordinate and RTAG of the members that `which` selects. -/
def copiesFor (s : State) (g : Nat) (c : Context) (which : Nat → Bool) : List (Nat × Nat) :=
  ((chunkMembers s g c).filter (fun m => which m.1)).map (fun m => (m.2, rtagOf g c m.1))

/-- The CTAIL_DN of the members that received the result (R249). -/
def resultTail (d : Dev) (g p : Nat) (c : Context) : Cell :=
  ctailDn d { group := g, gen := c.gen, phase := p, chunk := chunkOf g c, last := c.last, cells := c.cells,
              valid := c.valid, crc := c.crc }

/-- COMMITTED: the context's inputs, slot and reservation are freed (R246). -/
def commitCtx (k : Nat) (d : Dev) : Dev := bump Page.col Reg.COL_CNT 1 (freeCtx k fateOther d)

/-- Queue the next cell of a streaming context: its results in CELL order, then its CTAIL_DN cells. -/
def streamNext (k : Nat) (c : Context) (s : State) : State :=
  let g := keyGroup k
  let p := keyPhase k
  let ws := c.entry
  let d := s.dev
  let to' := copiesFor s g c (receives ws c)
  let others := copiesFor s g c (fun m => !receives ws c m)
  if c.streamPos < c.cells then
    match sget (konst none) c.results c.streamPos with
    | none => s
    | some cell =>
      let r := queueDown s.now c.die (gJob ws) cell to' d
      if r.2 then
        { s with dev := setCtx k (some { c with streamPos := c.streamPos + 1, touchTick := s.now.toNat,
                                                 crc := crcMore c.crc (crcBytes cell) }) r.1 }
      else { s with dev := r.1 }
  else
    let r := if c.tailPos = 0 then queueDown s.now c.die (gJob ws) (resultTail d g p c) to' d
             else queueDown s.now c.die (gJob ws) (emptyTail d g c.gen p (chunkOf g c) c.useNo) others d
    if !r.2 then { s with dev := r.1 }
    else if c.tailPos = 0 ∧ others.isEmpty = false then
      { s with dev := setCtx k (some { c with tailPos := 1, touchTick := s.now.toNat }) r.1 }
    else { s with dev := commitCtx k r.1 }

/-- The streaming context of a phase slot; an old generation's first. -/
def streamingOf (d : Dev) (g p : Nat) : Option (Nat × Context) :=
  ((ctxList d).filter (fun e => e.1 % 2 ^ 20 == ctxKey g p && e.2.state == .streaming)).getLast?

/-- RESULT_STREAM: one cell is queued as room allows (R172, R251); a context that is paged out is paged in
first (R257). -/
def resultStream (g p : Nat) (s : State) : State :=
  match sendOwed s.now (ctxKey g p) s.dev with
  | some d => { s with dev := d }
  | none =>
    match streamingOf s.dev g p with
    | none => s
    | some (k, c) =>
      if c.isResident then streamNext k c s else onDev (wantPageIn k) s

def execResultStream (group phase : Nat) (s : State) :=
  effect (.resultStream group phase) (resultStream group phase) s

/-! ### Paging events (R256) -/

/-- Keys of the contexts of a phase slot, old generations included. -/
def slotKeys (d : Dev) (g p : Nat) : List Nat :=
  ((ctxList d).map Prod.fst).filter (fun k => k % 2 ^ 20 == ctxKey g p)

def execPageOutDone (group phase : Nat) (s : State) :=
  effect (.pageOutDone group phase) (onDev (fun d => forEach (slotKeys d group phase) pageOutDone d)) s

/-- The context is resident again (R256). -/
def pageInDone (k : Nat) (d : Dev) : Dev :=
  match d.ctx k with
  | some c =>
    if c.paging = .goingIn then
      bump Page.col Reg.COL_CNT 3 (setCtx k (some { c with paging := .resident, pageIn := false }) d)
    else d
  | none => d

def execPageInDone (group phase : Nat) (s : State) :=
  effect (.pageInDone group phase)
    (fun s => unparkReady (onDev (fun d => forEach (slotKeys d group phase) pageInDone d) s)) s

/-! ### Generations (R261 to R264, R272) -/

/-- Contexts that still stream under the old generation keep their slot aside. -/
def setAside (g : Nat) (d : Dev) : Dev :=
  forEach ((ctxList d).filter (fun e => keyGroup e.1 == g && decide (e.1 < 2 ^ 20))) (fun e d =>
    setCtx (e.1 + 2 ^ 20 * (e.2.gen + 1)) (some e.2) (setCtx e.1 none d)) d

def dropDenials (g : Nat) (d : Dev) : Dev :=
  { d with col := { d.col with denials := d.col.denials.filter (fun e => keyGroup e.1 != g) } }

/-- Contexts, parked cells and denials of a group go (R262, R264); a chunk that is streaming commits under its
old generation (R273). -/
def discardGroup (g : Nat) (d : Dev) : Dev :=
  dropDenials g (setAside g (freeGroup g (fun c => decide (c.state ≠ .streaming)) fateOther d))

/-- The running round of an all-to-all group (R267). -/
def roundOf (d : Dev) (g : Nat) : Option Round := sget (konst none) d.col.rounds g

def setRound (g : Nat) (r : Option Round) (d : Dev) : Dev :=
  { d with col := { d.col with rounds := sset (konst none) d.col.rounds g r } }

/-- The drain of the previous generation starts (R263); a new range of members starts its own round (R267). -/
def startDrain (now : W64) (g : Nat) (d : Dev) : Dev :=
  updGroupRec g (fun _ => { stale := 0, staleTick := now.toNat, resize := none })
    (setGrp g (setWBits (setWBits (grp d g) 0 30 30 1) 0 29 29 0) (setRound g none d))

/-- GEN goes up by one and the old generation drains (R238, R262, R272). -/
def nextGen (now : W64) (g : Nat) (d : Dev) : Dev :=
  startDrain now g (setGrp g (setWBits (grp d g) 0 23 16 (gGen (grp d g) + 1)) (dropDenials g d))

/-- The new range and generation of a resize, reported done (R262). -/
def applyResize (now : W64) (g base count : Nat) (d : Dev) : Dev :=
  let d1 := nextGen now g (setGrp g (setWBits (setWBits (grp d g) 4 21 0 base) 5 20 0 count) d)
  let p := Page.col
  let d2 := wr p Reg.COL_RESIZE_STAT_RESULT 2 (wr p Reg.COL_RESIZE_STAT_REASON 0
    (wr p Reg.COL_RESIZE_STAT_GEN (gGen (grp d1 g)) (wr p Reg.COL_RESIZE_STAT_GROUP g d1)))
  raiseIrq p 17 d2

/-- A slot of the new range is VALID for another group (R262): judged over the member entries that hold
anything. -/
def foreignSlot (s : State) (g base count : Nat) : Bool :=
  ((s.mem.map (fun e => e.1 / 64)).eraseDups.filter (fun i => decide (base ≤ i ∧ i < base + count))).any (fun i =>
    let ent := memberGet s i
    wbit ent 0 31 && decide (wbits ent 0 15 0 ≠ g))

/-- Why a resize is refused (R262, R271); the range must keep R237's limits. -/
def resizeRefusal (s : State) (g base count : Nat) : Option Nat :=
  let ws := grp s.dev g
  if !gValid ws then some 1
  else if gDraining ws || gResizing ws then some 2
  else if count = 0 ∨ 1048576 < count ∨ 4194304 < base + count ∨ count ≤ gRoot ws ∨
      (gOp ws = gopA2A ∧ 4096 < count) then some 3
  else if foreignSlot s g base count then some 4
  else none

/-- RESIZE_CMD with GO 1 (R262). -/
def resizeCmd (src : Src) (abort : Bool) (g : Nat) (s : State) : State :=
  let p := Page.col
  let base := rd s.dev p Reg.COL_RESIZE_BASE_BASE
  let count := rd s.dev p Reg.COL_RESIZE_COUNT_COUNT
  match resizeRefusal s g base count with
  | some reason =>
    onDev (fun d => setErr p 17 src 0x120 reason
      (wr p Reg.COL_RESIZE_STAT_RESULT 3 (wr p Reg.COL_RESIZE_STAT_REASON reason
        (wr p Reg.COL_RESIZE_STAT_GEN (gGen (grp d g)) (wr p Reg.COL_RESIZE_STAT_GROUP g d))))) s
  | none =>
    if abort then onDev (fun d => applyResize s.now g base count (discardGroup g d)) s
    else
      onDev (fun d =>
        let d1 := updGroupRec g (fun r => { r with resize := some (base, count) })
          (setGrp g (setWBits (grp d g) 0 29 29 1) d)
        wr p Reg.COL_RESIZE_STAT_RESULT 1 (wr p Reg.COL_RESIZE_STAT_REASON 0
          (wr p Reg.COL_RESIZE_STAT_GEN (gGen (grp d g)) (wr p Reg.COL_RESIZE_STAT_GROUP g d1)))) s

/-- RESIZE_DONE: a resizing group with no context left takes its range and generation (R262). -/
def resizeDone (now : W64) (g : Nat) (d : Dev) : Dev :=
  match (d.groupRec g).resize with
  | some (base, count) =>
    if gResizing (grp d g) && !groupBusy d g then applyResize now g base count d else d
  | none => d

def execResizeDone (group : Nat) (s : State) :=
  effect (.resizeDone group) (onDev (resizeDone s.now group)) s

/-- GEN_DRAIN_DONE (R263): no context of the old generation, and no stale arrival for GEN_QUIET. -/
def genDrainDone (now : W64) (g : Nat) (d : Dev) : Dev :=
  let old := (ctxList d).any (fun e => keyGroup e.1 == g && decide (2 ^ 20 ≤ e.1))
  let quiet := rd d Page.col Reg.COL_COL_CFG_GEN_QUIET * 10000
  if gDraining (grp d g) && !old && elapsed now (d.groupRec g).staleTick quiet then
    raiseIrq Page.col 18 (setGrp g (setWBits (grp d g) 0 30 30 0) d)
  else d

def execGenDrainDone (group : Nat) (s : State) :=
  effect (.genDrainDone group) (onDev (genDrainDone s.now group)) s

/-- An accepted WRITE or CMPWR of a group entry (R238): GEN goes up whatever word 0 carries, the bits hardware
keeps are kept, and the previous generation drains. -/
def groupWrite (now : W64) (g : Nat) (ws : List W32) (d : Dev) : Dev :=
  let gen := gGen (grp d g) + 1
  startDrain now g (setGrp g (setWBits ws 0 23 16 gen) (dropDenials g (setAside g d)))

/-- DELETE of a group entry (R264): VALID 0, DRAINING 1, GEN kept. -/
def groupDelete (now : W64) (g : Nat) (d : Dev) : Dev :=
  let d1 := discardGroup g d
  startDrain now g (setGrp g (setWBits (List.replicate 8 0) 0 23 16 (gGen (grp d1 g))) d1)

/-- STRAG_CLEAR (R260). -/
def stragClear (g : Nat) (d : Dev) : Dev := tset Page.col 2 g (List.replicate 4 0) d

/-- An abort of COL (R272): contexts, parked cells and denial records go without notification; groups that held
a context change generation. -/
def colAbort (now : W64) (fate : Nat) (d : Dev) : Dev :=
  let gs := ((ctxList d).map (fun e => keyGroup e.1)).eraseDups
  let d1 := forEach (ctxList d) (fun e d => freeCtx e.1 fate d) d
  let d2 := forEach ((parked d1 0 ++ parked d1 1).map Prod.snd) (fun b d => dropBox b fate d) d1
  let d3 := { d2 with sw := { d2.sw with parkA := [], parkB := [] },
                      col := { d2.col with denials := [], owed := [], rounds := [] } }
  forEach gs (nextGen now) d3

end Sys2Proof.Machine
end

