-- ==== Sys2Proof/Machine/Cores.lean ====
section
/-! DEFINITION. The runs of the Ladle cores (R312, R326, R327), core failure, spares and their rebuilds
(R329 to R333), and the meanings of the array's own events. -/

namespace Sys2Proof.Machine

/-! ### Which run a core takes (R326, R327) -/

/-- The core serves a position of a context. -/
def servedBy (c : Context) (n pos : Nat) : Bool :=
  decide (c.block = n / 25) && decide (coreOfPos pos c.slot = n % 25)

/-- Resident contexts whose core block is the core's. -/
def contextsOf (d : Dev) (n : Nat) : List (Nat × Context) :=
  (ctxList d).filter (fun e => e.2.isResident && e.2.block == n / 25)

/-- The finish runs a core may run now: its positions of contexts that have completed, with nothing left to
accumulate there; the oldest completion first. -/
def finishReady (d : Dev) (n : Nat) : List (Nat × Nat × Nat) :=
  (contextsOf d n).flatMap (fun e =>
    if e.2.rebuilding then []
    else (e.2.finishing.filter (fun pos =>
        servedBy e.2 n pos && !e.2.runs.any (fun r => r.pos == pos))).map (fun pos => (e.2.closeTick, e.1, pos)))

/-- Rebuild runs of the core's block: any working core takes them (R330). -/
def rebuildReady (d : Dev) (n : Nat) : List (Nat × Run) :=
  (contextsOf d n).flatMap (fun e => (e.2.runs.filter (fun r => r.rebuild)).map (fun r => (e.1, r)))

/-- The tail that gives a WSUM run its weight is held (R248). -/
def weightHeld (d : Dev) (c : Context) (m : Nat) : Bool :=
  let floatSum := decide (gOp c.entry ≤ gopREDUCE_SCATTER) && decide (gRed c.entry = 4)
  if floatSum || hasWsum (recipeOf d c.version c.recipe) then (c.contrib m).tail.isSome else true

/-- Accumulate runs the core may run now: no rebuild waits at the position, the weight is known. -/
def accReady (d : Dev) (n : Nat) : List (Nat × Run) :=
  (contextsOf d n).flatMap (fun e =>
    if e.2.rebuilding then []
    else (e.2.runs.filter (fun r =>
        !r.rebuild && servedBy e.2 n r.pos && weightHeld d e.2 r.member &&
          !e.2.runs.any (fun x => x.rebuild && x.pos == r.pos))).map (fun r => (e.1, r)))

def oldestRun (l : List (Nat × Run)) : Option (Nat × Run) :=
  l.foldl (fun best x =>
    match best with
    | some b => if x.2.num < b.2.num then some x else some b
    | none => some x) none

def oldestFinish (l : List (Nat × Nat × Nat)) : Option (Nat × Nat × Nat) :=
  l.foldl (fun best x =>
    match best with
    | some b => if x.1 < b.1 then some x else some b
    | none => some x) none

/-! ### Running -/

/-- Contributions with CELLS above 0 (R236, R248). -/
def fullContribs (c : Context) : Nat :=
  (c.contribs.filter (fun e => match e.2.tail with | some t => decide (0 < tCells t) | none => false)).length

def runEnv (c : Context) (m : Nat) (cell : Cell) : RunEnv :=
  { inFmt := gIn c.entry, outFmt := gOut c.entry, sfmt := gSfmt c.entry, highPrec := gHigh c.entry,
    payload := cell.payload, scales := cellScales cell,
    weight := match (c.contrib m).tail with | some t => tWeight t | none => 0,
    count := fullContribs c, store := c.version, slot := c.recipe }

def frameOf (c : Context) (pos : Nat) : List Lane := sget (konst []) c.frames pos

def setFrame (pos : Nat) (l : List Lane) (c : Context) : Context :=
  { c with frames := sset (konst []) c.frames pos l }

def evSrc (k : Nat) (c : Context) : EvSrc :=
  { source := 0, gen := c.gen, id := keyGroup k, chunk := chunkOf (keyGroup k) c }

/-- Events, draws and beats of a run on a core. -/
def chargeRun (n k kind : Nat) (c : Context) (sec : List (Nat × Step)) (st : RunSt) (d : Dev) : Dev :=
  useBeats n (classCode (keyGroup k) c.recipe) (gJob c.entry) (gIn c.entry) kind sec
    (takeDraws st.draws (recordEvents c.region (evSrc k c) st.events d))

/-- Run the accumulate section over one cell; `kind` is 0 for a contribution's own run, 1 for a rebuild. -/
def runCell (n k kind : Nat) (r : Run) (c : Context) (d : Dev) : Dev :=
  let st := runAccumulate d (runEnv c r.member r.cell) (frameOf c r.pos)
  let c1 := { setFrame r.pos st.frame c with runs := c.runs.erase r }
  chargeRun n k kind c (accSteps (recipeOf d c.version c.recipe)) st (setCtx k (some c1) d)

/-- ACCUMULATE_RUN (R312): behind the core's finish and rebuild runs (R327). -/
def accumulateRun (now : W64) (n : Nat) (d : Dev) : Dev :=
  if !coreWorks d n || !(finishReady d n).isEmpty || !(rebuildReady d n).isEmpty then d
  else
    match oldestRun (accReady d n) with
    | none => d
    | some (k, r) =>
      match d.ctx k with
      | some c =>
        endLifeCore now { mkBox r.cell r.lane r.num r.rxNs r.rxTick 12 with tag := r.tag } n (runCell n k 0 r c d)
      | none => d

def execAccumulateRun (core : Nat) (s : State) :=
  effect (.accumulateRun core) (onDev (accumulateRun s.now core)) s

/-- FINISH_RUN (R312, R316): the position's result cell. -/
def finishRun (n : Nat) (d : Dev) : Dev :=
  if !coreWorks d n then d
  else
    match oldestFinish (finishReady d n) with
    | none => d
    | some (_, k, pos) =>
      match d.ctx k with
      | none => d
      | some c =>
        let env := runEnv c 0 { hdr := 0, payload := 0 }
        let st := runFinish d env (frameOf c pos)
        let out := outCell env (st.out.getD [])
        let c1 := { c with finishing := c.finishing.filter (fun x => x != pos),
                           results := sset (konst none) c.results pos (some (cdnCell pos out.1 out.2)) }
        chargeRun n k 0 c (finSteps (recipeOf d c.version c.recipe)) st (setCtx k (some c1) d)

def execFinishRun (core : Nat) (s : State) := effect (.finishRun core) (onDev (finishRun core)) s

/-- REBUILD_RUN (R258, R330): behind the core's finish runs (R327); its beats are wasted (R334). -/
def rebuildRun (n : Nat) (d : Dev) : Dev :=
  if !coreWorks d n || !(finishReady d n).isEmpty then d
  else
    match rebuildReady d n with
    | [] => d
    | (k, r) :: _ =>
      match d.ctx k with
      | some c => runCell n k 1 r c d
      | none => d

def execRebuildRun (core : Nat) (s : State) := effect (.rebuildRun core) (onDev (rebuildRun core)) s

/-! ### Core failure (R329 to R332) -/

/-- A core block shows as fenced. -/
def markFenced (n : Nat) (d : Dev) : Dev :=
  let b := n / 25
  let p := Page.coreBlock b
  let d1 := updBlk b (fun x => { x with failTick := 0 }) (wr p Reg.CB_STAT_FENCED 1 d)
  syncRegionStat (b / 4) (raiseIrq p 17 (hwErr p 17 n (hwErr p errUncorrectable n d1)))

/-- Fence a core block (R332): its contexts fail as R265 gives. -/
def fenceBlock (n : Nat) (s : State) : State :=
  let b := n / 25
  let p := Page.coreBlock b
  let s1 := onDev (fun d => markFenced n (settleClock s.now (8 + b) d)) s
  let s2 := onDev (fun d => faultLog s.now
    { level := lvBlock, action := acUnitFenced, page := p, unit := n % 25, cls := 17, detail := n, recover := 0 } d) s1
  failLost (fun c => c.block == b && c.bound) s2

/-- Positions of a context the failed core served whose result has not been queued and that hold something. -/
def lostPositions (n : Nat) (c : Context) : List Nat :=
  (List.range 128).filter (fun pos =>
    servedBy c n pos && decide (c.streamPos ≤ pos) && !(frameOf c pos).isEmpty)

/-- The failed core's frames and unsent results of a context go; it waits to be rebuilt (R330, R331). -/
def loseFrames (n : Nat) (c : Context) : Context :=
  let l := lostPositions n c
  let undone := l.filter (fun pos => (sget (konst none) c.results pos).isSome)
  if l.isEmpty then c
  else
    { c with frames := c.frames.filter (fun e => !l.contains e.1),
             results := c.results.filter (fun e => !undone.contains e.1),
             finishing := c.finishing ++ undone,
             runs := c.runs ++ (rebuildRuns c (gCount c.entry) (accumulates c.entry)).filter (fun r =>
               l.contains r.pos && !c.runs.any (fun x => x.rebuild && x.member == r.member && x.pos == r.pos)),
             rebuilding := true }

/-- The failed core's frames go and the core is fenced (R330); SPARE_REPLAYS counts what is repeated. -/
def failCore (now : W64) (n : Nat) (d : Dev) : Dev :=
  let b := n / 25
  let p := Page.coreBlock b
  let hit := (boundTo d b).map (fun e => (e.1, lostPositions n e.2))
  let verbs := (d.stk.accs.filter (fun v => v.core == n)).length
  let blk := d.blk b
  let d0 := stopCore b (settleClock now (8 + b) d)
  let d1 := updBlk b (fun x => { x with
    failed := some (n % 25), failTick := now.toNat + 1, bad := blk.map.getD (n % 25) 0 :: x.bad,
    rebuilt := ((hit.map (fun h => h.2.length)).sum) + verbs }) d0
  let d2 := forEach hit (fun h d => updCtx h.1 (loseFrames n) d) d1
  bump Page.col Reg.COL_CNT 10 (bump p Reg.CB_CNT 17 (hwErr p 16 n d2))

/-- CORE_FAIL (R329 to R332, R340): the spare is to take over, or the block is fenced. -/
def coreFail (n : Nat) (s : State) : State :=
  let b := n / 25
  let blk := s.dev.blk b
  if blockFenced s.dev b then s
  else if blk.failed.isSome || !rdBit s.dev (Page.coreBlock b) Reg.CB_STAT_SPARE_OK then
    fenceBlock n (onDev (bump (Page.coreBlock b) Reg.CB_CNT 17) s)
  else onDev (failCore s.now n) s

def execCoreFail (core : Nat) (s : State) := effect (.coreFail core) (coreFail core) s

/-- SCRATCH_CORRECTED (R329). -/
def execScratchCorrected (core : Nat) (s : State) :=
  effect (.scratchCorrected core)
    (onDev (fun d => hwErr (Page.coreBlock (core / 25)) errCorrected core
      (bump (Page.coreBlock (core / 25)) Reg.CB_CNT 16 d))) s

/-- Units of 100 ns since a core's failure, for SPARE_TIME and RECOVER. -/
def sinceFail (now : W64) (blk : CoreBlk) : Nat := ticksSince now (blk.failTick - 1) / 160

/-- SPARE_TAKEOVER (R330): logical core j is mapped to the spare, which takes new runs; the marked positions may
now be rebuilt. -/
def spareTakeover (now : W64) (b : Nat) (d : Dev) : Dev :=
  let p := Page.coreBlock b
  let blk := d.blk b
  match blk.failed with
  | none => d
  | some j =>
    if blk.taken ∨ blk.failTick = 0 ∨ blockFenced d b = true then d
    else
      let spare := rd d p Reg.CB_STAT_SPARE_PHYS
      let t := sinceFail now blk
      let d1 := updBlk b (fun x => { x with taken := true, map := x.map.set j spare }) (resumeCore b (settleClock now (8 + b) d))
      let d2 := forEach (boundTo d1 b) (fun e d => updCtx e.1 (fun c => { c with rebuilding := false }) d) d1
      let d3 := wr p Reg.CB_STAT_SPARE_USED 1 (wr p Reg.CB_STAT_SPARE_OK 0 (wr p Reg.CB_STAT_SPARE_FOR j d2))
      let d4 := wr p Reg.CB_SPARE_TIME_SWITCH (min t 0xFFFF) d3
      faultLog now { level := lvBlock, action := acSpare, page := p, unit := j, cls := 16, detail := coreNum b j,
                     recover := t } (syncRegionStat (b / 4) d4)

def execSpareTakeover (coreBlock : Nat) (s : State) :=
  effect (.spareTakeover coreBlock) (onDev (spareTakeover s.now coreBlock)) s

/-- REBUILD_DONE (R330, R331): nothing is left to rebuild. -/
def rebuildDone (now : W64) (b : Nat) (d : Dev) : Dev :=
  let p := Page.coreBlock b
  let blk := d.blk b
  match blk.failed with
  | none => d
  | some j =>
    let left := (ctxList d).any (fun e => e.2.block == b && e.2.bound && e.2.inRebuild)
    if blk.taken = false ∨ blk.failTick = 0 ∨ left then d
    else
      let verbs := min blk.rebuilt (d.stk.accs.filter (fun v => v.core == coreNum b j)).length
      let us := sinceFail now blk / 10
      let d1 := wr p Reg.CB_SPARE_EVENT_VALID 1 (wr p Reg.CB_SPARE_EVENT_CORE (coreNum b j) (settleClock now (8 + b) d))
      let d2 := wr p Reg.CB_SPARE_TIME_REPLAY (min us 0xFFFF) (wr p Reg.CB_SPARE_REPLAYS_COUNT blk.rebuilt d1)
      let d3 := bumpN p Reg.CB_CNT 18 (blk.rebuilt - verbs) (bumpN p Reg.CB_CNT 19 verbs d2)
      raiseIrq p 16 (updBlk b (fun x => { x with failTick := 0, rebuilt := 0 }) d3)

def execRebuildDone (coreBlock : Nat) (s : State) :=
  effect (.rebuildDone coreBlock) (onDev (rebuildDone s.now coreBlock)) s

/-! ### Spares (R333) -/

/-- SPARE_SELFTEST (R333): an unused spare's periodic test. -/
def spareSelftest (b : Nat) (pass : Bool) (d : Dev) : Dev :=
  let p := Page.coreBlock b
  if rd d p Reg.CB_SELFTEST_PERIOD = 0 ∨ rdBit d p Reg.CB_STAT_SPARE_USED = true ∨ blockFenced d b = true then d
  else if pass then wr p Reg.CB_STAT_SPARE_OK 1 d
  else raiseIrq p 18 (wr p Reg.CB_STAT_SPARE_OK 0 d)

def execSpareSelftest (coreBlock : Nat) (pass : Bool) (s : State) :=
  effect (.spareSelftest coreBlock pass) (onDev (spareSelftest coreBlock pass)) s

/-- The re-test of a block reset (R333): logical cores on the lowest passing physical cores, the next passing
one as spare; with fewer than 25 the block stays fenced. -/
def retestBlock (now : W64) (b : Nat) (d : Dev) : Dev :=
  let p := Page.coreBlock b
  let good := (List.range 26).filter (fun k => !(d.blk b).bad.contains k)
  let ok := decide (25 ≤ good.length)
  let d1 := updBlk b (fun x => { x with map := good.take 25, failed := none, taken := false, failTick := 0, rebuilt := 0 })
    (resumeCore b (settleClock now (8 + b) d))
  let d2 := wrBit p Reg.CB_STAT_FENCED (!ok) (wr p Reg.CB_STAT_SPARE_USED 0 d1)
  let d3 := match good[25]? with
    | some k => wr p Reg.CB_STAT_SPARE_OK 1 (wr p Reg.CB_STAT_SPARE_PHYS k d2)
    | none => wr p Reg.CB_STAT_SPARE_OK 0 d2
  syncRegionStat (b / 4) (wr p Reg.CB_STAT_SPARE_FOR 0 d3)

/-- An abort of a core block (R339): its runs go and its contexts fail. -/
def abortBlock (b : Nat) (s : State) : State := failLost (fun c => c.block == b && c.bound) s

end Sys2Proof.Machine
end

