-- ==== Sys2Proof/Machine/Stockpot.lean ====
section
/-! DEFINITION. Stockpot and the fabric memory service (ch. 12): checks of a verb (R349), acceptance (R356),
responses (R353), accumulates (R354, R355), trackers and fences (R358, R359), poisoned lines (R345), the host
window (R360), and the meanings of these events. -/

namespace Sys2Proof.Machine

/-! ### Verb fields (R351) -/

def vDesc (c : Cell) : Nat := pb c 0 1 % 4096
def vKey (c : Cell) : Nat := pb c 2 3
def vSilent (c : Cell) : Bool := pb c 4 4 / 128 == 1
def vCounted (c : Cell) : Bool := pb c 4 4 / 64 % 2 == 1
def vFmt (c : Cell) : Nat := pb c 5 5 / 16
def vSfmt (c : Cell) : Nat := pb c 5 5 / 4 % 4
def vLen (c : Cell) : Nat := pb c 6 7
def vOffset (c : Cell) : Nat := pb c 8 15
def vArg (c : Cell) : Nat := pb c 16 19
def vTag (c : Cell) : Nat := pb c 24 27
def vData (c : Cell) : List Byte := (payBytes c).drop 32

/-! ### Descriptors and checks (R347, R349) -/

def descWords (d : Dev) (i : Nat) : List W32 := tget d Page.stk 0 i

/-- Start of the service area (R343). -/
def serviceStart (d : Dev) : Nat := (2 + rd d Page.col Reg.COL_CTX_AREA_GIB) * 2 ^ 30

/-- Target span of an accumulate's input format (R354). -/
def accSpan (fmt : Nat) : Nat := if fmt = 1 then 128 else if fmt = 4 then 512 else 64

/-- Elements that DATA holds (R354). -/
def accElems (fmt : Nat) : Nat := accSpan fmt / 4

def accFmtOk (c : Cell) : Bool :=
  if vFmt c = 4 then decide (vSfmt c = 1 ∨ vSfmt c = 2) else decide (vFmt c = 0 ∨ vFmt c = 1 ∨ vFmt c = 5)

/-- LEN, alignment and FMT as R352 requires. -/
def verbShapeOk (c : Cell) : Bool :=
  if cOp c = ocMEM_PUT then decide (1 ≤ vLen c) && decide (vOffset c % 64 + vLen c ≤ 64)
  else if cOp c = ocMEM_GET then decide (1 ≤ vLen c) && decide (vLen c ≤ 4096)
  else accFmtOk c && decide (vLen c = 64) && decide (vOffset c % accSpan (vFmt c) = 0)

/-- Bytes a verb touches. -/
def verbExtent (c : Cell) : Nat := if cOp c = ocMEM_ACC then accSpan (vFmt c) else vLen c

def matchOk (ws : List W32) (src : Nat) : Bool :=
  let owner := (word ws 1).toNat
  match wbits ws 0 28 27 with
  | 0 => true
  | 1 => decide (src / 2 ^ 18 = owner / 2 ^ 18)
  | _ => decide (src = owner)

/-- The first check of R349 that fails. -/
def verbDenied (d : Dev) (c : Cell) : Option Nat :=
  let ws := descWords d (vDesc c)
  let base := word64 ws 2
  let size := word64 ws 4
  if !wbit ws 0 31 then some 1
  else if vKey c ≠ wbits ws 0 15 0 then some 2
  else if !matchOk ws (cSrc c) then some 3
  else if !(if cOp c = ocMEM_GET then wbit ws 0 29 else wbit ws 0 30) then some 4
  else if !verbShapeOk c then some 5
  else if size < vOffset c + verbExtent c ∨ base < serviceStart d ∨ stockpotSize < base + size ∨
      d.rst.midFailed ≠ [] then some 6
  else none

/-- The device address of a verb's first byte. -/
def verbBase (d : Dev) (c : Cell) : Nat := word64 (descWords d (vDesc c)) 2 + vOffset c

def midOf (addr : Nat) : Nat := addr / 4096 % 2

/-- Lines of an extent. -/
def linesOf (addr n : Nat) : List Nat :=
  (List.range ((addr + n - 1) / 64 - addr / 64 + 1)).map (fun i => addr / 64 + i)

def anyPoisoned (d : Dev) (addr n : Nat) : Bool := (linesOf addr n).any (fun l => linePoisoned d (64 * l))

def setPoison (line : Nat) (v : Bool) (d : Dev) : Dev :=
  { d with stk := { d.stk with poisoned := sset (konst false) d.stk.poisoned line v } }

/-! ### Responses (R353) -/

/-- A MEM_RSP cell for a request. -/
def memRsp (d : Dev) (c : Cell) (status len index count arg : Nat) (data : List Byte) : Cell :=
  mkCell (cSrc c) 3 ocMEM_RSP (selfCoord d) (cMsgid c) (cSeq c)
    (bytesBE 2 (pb c 0 1) ++ bytesBE 1 status ++ bytesBE 1 (cOp c) ++ bytesBE 2 0 ++ bytesBE 2 len ++
      bytesBE 8 (vOffset c + 64 * index) ++ bytesBE 4 arg ++ bytesBE 4 0 ++ bytesBE 4 (vTag c) ++
      bytesBE 1 index ++ bytesBE 1 count ++ bytesBE 2 0 ++ data)

/-! ### Trackers (R358, R359) -/

/-- Key of a source and MSGID. -/
def trackKey (source msgid : Nat) : Nat := source * 65536 + msgid

def verbKey (c : Cell) : Nat := trackKey (cSrc c) (cMsgid c)

def trackCount (d : Dev) (k : Nat) : Nat := sget (konst 0) d.stk.trackers k

def setTrack (k n : Nat) (d : Dev) : Dev :=
  { d with stk := { d.stk with trackers := sset (konst 0) d.stk.trackers k n } }

def fenceKey (f : Fence) : Nat := trackKey f.source.toNat f.msgid

/-- Trackers in use: a count above 0, or a FENCE waiting. -/
def trackersUsed (d : Dev) : Nat :=
  d.stk.trackers.length +
    ((d.stk.fences.map fenceKey).eraseDups.filter (fun k => decide (trackCount d k = 0))).length

/-- A verb of this source and MSGID finds a tracker. -/
def trackable (d : Dev) (k : Nat) : Bool :=
  decide (trackCount d k ≠ 0) || d.stk.fences.any (fun f => fenceKey f == k) || decide (trackersUsed d < 16384)

/-- The verb is COUNTED and finds no tracker: STATUS 0x03 (R359). -/
def untracked (d : Dev) (c : Cell) : Bool := vCounted c && !trackable d (verbKey c)

/-- A completed verb counts toward FENCE, or raises the interrupt when untracked (R358, R359). -/
def countVerb (c : Cell) (d : Dev) : Dev :=
  if !vCounted c then d
  else if trackable d (verbKey c) then setTrack (verbKey c) (trackCount d (verbKey c) + 1) d
  else raiseIrq Page.stk 17 (bump Page.stk Reg.STK_CNT 6 d)

/-! ### Arrival of verb cells (R349, R352, R362) -/

/-- The service takes verb cells: STK runs and is not quiescing, or a MID has failed and verbs are denied
(R362, R456). -/
def stkTakes (d : Dev) : Bool :=
  accepting d Page.stk || (decide (pageState d Page.stk = stFailed) && !d.rst.midFailed.isEmpty)

def midQueue (d : Dev) (mid : Nat) : List Verb := if mid = 0 then d.stk.midA else d.stk.midB

def setMidQueue (mid : Nat) (l : List Verb) (d : Dev) : Dev :=
  if mid = 0 then { d with stk := { d.stk with midA := l } } else { d with stk := { d.stk with midB := l } }

def getQueue (d : Dev) (mid : Nat) : List Verb := if mid = 0 then d.stk.getsA else d.stk.getsB

def setGetQueue (mid : Nat) (l : List Verb) (d : Dev) : Dev :=
  if mid = 0 then { d with stk := { d.stk with getsA := l } } else { d with stk := { d.stk with getsB := l } }

/-- Verbs a MID holds. -/
def midLoad (d : Dev) (mid : Nat) : Nat :=
  (midQueue d mid).length + (getQueue d mid).length + (d.stk.accs.filter (fun v => midOf v.base == mid)).length

def popStk (d : Dev) : Dev := { d with stk := { d.stk with inbox := d.stk.inbox.drop 1 } }

/-- A denied verb: ACCESS_DENIED to its source (R349). -/
def denyVerb (now : W64) (b : Box) (detail : Nat) (d : Dev) : Dev :=
  let c := b.cell
  let info := bytesBE 2 (vDesc c) ++ [0, 0] ++ bytesBE 8 (vOffset c) ++ bytesBE 4 (vTag c)
  sendNotify now (dieOf b.source) (notifyAbout d c ntACCESS_DENIED detail info)
    (bump Page.stk Reg.STK_CNT 4 (dropUp b fateService d))

/-- A verb that passed its checks joins its MID's queue. -/
def queueVerb (b : Box) (d : Dev) : Dev :=
  let c := b.cell
  let base := verbBase d c
  let slot := wbits (descWords d (vDesc c)) 0 23 16
  let v : Verb := { cell := c, lane := b.source, base := base, recipe := slot, version := activeStore d slot,
                    num := b.num, core := 0, data := [] }
  setMidQueue (midOf base) (midQueue d (midOf base) ++ [v]) (dropUp b fateService d)

/-- MEM_PUT, MEM_GET, MEM_ACC: the head of the service's inbox, when it has the opcode (R349). A full MID queue
leaves it waiting (R356). -/
def takeVerb (now : W64) (op : Nat) (d : Dev) : Dev :=
  match d.stk.inbox with
  | [] => d
  | b :: _ =>
    if !stkTakes d || decide (cOp b.cell ≠ op) then d
    else
      match verbDenied d b.cell with
      | some detail => denyVerb now b detail (popStk d)
      | none =>
        if 4096 ≤ midLoad d (midOf (verbBase d b.cell)) then d else queueVerb b (popStk d)

def execMemPut (s : State) := effect .memPut (onDev (takeVerb s.now ocMEM_PUT)) s
def execMemGet (s : State) := effect .memGet (onDev (takeVerb s.now ocMEM_GET)) s
def execMemAcc (s : State) := effect .memAcc (onDev (takeVerb s.now ocMEM_ACC)) s

/-- MEM_FENCE (R358): it waits for its count; with every tracker in use it stays in the inbox. -/
def takeFence (now : W64) (d : Dev) : Dev :=
  match d.stk.inbox with
  | [] => d
  | b :: _ =>
    if !stkTakes d || decide (cOp b.cell ≠ ocMEM_FENCE) || !trackable d (verbKey b.cell) then d
    else
      let f : Fence := { source := BitVec.ofNat 32 (cSrc b.cell), msgid := cMsgid b.cell, count := vArg b.cell,
                         cell := b.cell, lane := b.source, tick := now.toNat }
      let d1 := dropUp b fateService (popStk d)
      { d1 with stk := { d1.stk with fences := d1.stk.fences ++ [f] } }

def execMemFence (s : State) := effect .memFence (onDev (takeFence s.now)) s

/-! ### Acceptance (R356, R357) -/

/-- The core an accumulate on a span runs on: its block, else the next usable one (R355). -/
def accCore (d : Dev) (a : Nat) : Nat :=
  let die := midOf a
  let r := a / 2 ^ 13 % 4
  let k := a / 2 ^ 15 % 4
  let blocks := (List.range 16).map (fun i => 4 * (4 * die + (r + i / 4) % 4) + (k + i) % 4)
  let first := 4 * (4 * die + r) + k
  coreNum ((blocks.find? (blockUsable d)).getD first) (a / 2 ^ 17 % 25)

/-- Accepted accumulates not yet written back hold the lines of their spans (R357). -/
def heldByAcc (d : Dev) (addr n : Nat) : Bool :=
  d.stk.accs.any (fun v => (linesOf v.base (verbExtent v.cell)).any (fun l => (linesOf addr n).contains l))

/-- Status of a verb on an extent that may be poisoned. -/
def verbStatus (d : Dev) (c : Cell) (bad : Bool) : Nat := if bad then 1 else if untracked d c then 3 else 0

/-- Send a response unless SILENT with STATUS 0x00; false when the service has no room for it (R172). -/
def respond (now : W64) (mid : Nat) (c : Cell) (status : Nat) (d : Dev) : Dev × Bool :=
  if vSilent c && decide (status = 0) then (d, true)
  else originate now (svcMem mid) (memRsp d c status 0 0 1 0 []) d

/-- A PUT is accepted: its bytes are visible (R356); a partial write of a poisoned line fails, a whole one
clears it (R345). -/
def acceptPut (mid : Nat) (v : Verb) (rest : List Verb) (s : State) : State :=
  let c := v.cell
  let line := v.base / 64
  let whole := decide (vLen c = 64)
  let bad := linePoisoned s.dev v.base && !whole
  let r := respond s.now mid c (verbStatus s.dev c bad) s.dev
  if !r.2 then { s with dev := r.1 }
  else
    let d1 := countVerb c (bump Page.stk Reg.STK_CNT 0 (setMidQueue mid rest r.1))
    if bad then { s with dev := d1 }
    else { s with dev := if whole then setPoison line false d1 else d1,
                  mem := memWrite s.mem v.base ((vData c).take (vLen c)) }

/-- The bytes a GET returns, cell by cell (R353). -/
def getCells (s : State) (v : Verb) : List (Nat × List Byte × Bool) :=
  (List.range (ceilDiv (vLen v.cell) 64)).map (fun i =>
    let n := min 64 (vLen v.cell - 64 * i)
    let a := v.base + 64 * i
    let bad := anyPoisoned s.dev a n
    (i, if bad then List.replicate n 0 else memRead s.mem a n, bad))

/-- VERB_ACCEPT (R356, R357): the MID takes the head of its queue; a verb on a line that an accumulate holds
waits. -/
def acceptVerb (mid : Nat) (s : State) : State :=
  match midQueue s.dev mid with
  | [] => s
  | v :: rest =>
    if !accepting s.dev Page.stk || heldByAcc s.dev v.base (verbExtent v.cell) then s
    else if cOp v.cell = ocMEM_PUT then acceptPut mid v rest s
    else if cOp v.cell = ocMEM_GET then
      onDev (fun d => setGetQueue mid (getQueue d mid ++ [{ v with data := getCells s v }])
        (setMidQueue mid rest d)) s
    else
      onDev (fun d =>
        let d1 := setMidQueue mid rest d
        { d1 with stk := { d1.stk with accs := d1.stk.accs ++ [{ v with core := accCore d v.base }] } }) s

def execVerbAccept (mid : Nat) (s : State) := effect (.verbAccept mid) (acceptVerb mid) s

/-- Queue the response cells of a GET while there is room; what is left. -/
def sendGet (now : W64) (mid count : Nat) (late : Bool) (c : Cell) :
    List (Nat × List Byte × Bool) → Dev → List (Nat × List Byte × Bool) × Dev
  | [], d => ([], d)
  | x :: xs, d =>
    let status := if x.2.2 then 1 else if late && xs.isEmpty then 3 else 0
    let r := originate now (svcMem mid) (memRsp d c status x.2.1.length x.1 count 0 x.2.1) d
    if r.2 then sendGet now mid count late c xs r.1 else (x :: xs, r.1)

/-- GET_READ_DONE (R352, R353): the response cells of the oldest GET. -/
def getReadDone (now : W64) (mid : Nat) (d : Dev) : Dev :=
  match getQueue d mid with
  | [] => d
  | v :: rest =>
    let r := sendGet now mid (ceilDiv (vLen v.cell) 64) (untracked d v.cell) v.cell v.data d
    if r.1.isEmpty then countVerb v.cell (bump Page.stk Reg.STK_CNT 1 (setGetQueue mid rest r.2))
    else setGetQueue mid ({ v with data := r.1 } :: rest) r.2

def execGetReadDone (mid : Nat) (s : State) := effect (.getReadDone mid) (onDev (getReadDone s.now mid)) s

/-! ### Accumulates (R354, R355) -/

/-- DATA as a contribution cell's payload: the lanes beyond it hold +0 codes. -/
def accPayload (c : Cell) : BitVec 768 := payloadOf (vData c)

def accScales (c : Cell) : List Nat := [pb c 20 20, pb c 21 21, pb c 22 22, pb c 23 23, 0, 0]

/-- The span's values as a frame (R354): FP32 decoded exactly, INT32 widened; little-endian (R9). -/
def spanFrame (m : List Host.Cell) (base fmt : Nat) : List Lane :=
  (List.range (fmtLanes fmt)).map (fun i =>
    let w := if i < accElems fmt then natOfLE (memRead m (base + 4 * i) 4) else 0
    if fmt = fmtINT32 then Lane.int (BitVec.ofInt 64 (signedOf 32 w)) else Lane.acc (decodeCode 0 w).1)

/-- ST ACC's conversion of a span element: its bytes and its events (R354, R288, R291). -/
def spanCode (fmt : Nat) (l : Lane) : Nat × List Nat :=
  if fmt = fmtINT32 then convertInt (laneInt l) else convertAcc 0 (laneAcc l) none false

/-- The core an accepted accumulate runs on now (R339, R355). -/
def verbCore (d : Dev) (v : Verb) : Nat := if blockUsable d (v.core / 25) then v.core else accCore d v.base

/-- Run an accumulate on a core: its span, its flags, its response (R354). -/
def runAcc (n : Nat) (v : Verb) (s : State) : State :=
  let c := v.cell
  let fmt := vFmt c
  let d := s.dev
  let bad := anyPoisoned d v.base (accSpan fmt)
  let r := respond s.now (midOf v.base) c (verbStatus d c bad) d
  if !r.2 then { s with dev := r.1 }
  else
    let env : RunEnv := { inFmt := fmt, outFmt := 0, sfmt := vSfmt c, highPrec := false, payload := accPayload c,
                          scales := accScales c, weight := vArg c, count := 1, store := v.version, slot := v.recipe }
    let sec := accSteps (recipeOf d v.version v.recipe)
    let st := runAccumulate d env (spanFrame s.mem v.base fmt)
    let codes := (st.frame.take (accElems fmt)).map (spanCode fmt)
    let stores := sec.any (fun x => isStAcc x.2)
    let evs := st.events ++ if stores then codes.map Prod.snd else []
    let d1 := { r.1 with stk := { r.1.stk with accs := r.1.stk.accs.erase v } }
    let d2 := countVerb c (bump Page.stk Reg.STK_CNT 2 d1)
    if bad then { s with dev := d2 }
    else
      let src : EvSrc := { source := 1, gen := 0, id := vDesc c, chunk := 0 }
      let d3 := useBeats n 0 65536 fmt 0 sec (takeDraws st.draws (recordEvents (n / 100) src evs d2))
      { s with dev := d3,
               mem := if stores then memWrite s.mem v.base (codes.flatMap (fun x => bytesLE 4 x.1)) else s.mem }

/-- ACC_RUN (R328, R355): the oldest accumulate of the core. -/
def accRun (n : Nat) (s : State) : State :=
  match s.dev.stk.accs.find? (fun v => verbCore s.dev v == n) with
  | some v => if coreWorks s.dev n then runAcc n v s else s
  | none => s

def execAccRun (core : Nat) (s : State) := effect (.accRun core) (accRun core) s

/-! ### Fences (R358) -/

def oldestFence (d : Dev) (source : W32) (msgid : Nat) : Option Fence :=
  d.stk.fences.find? (fun f => f.source == source && f.msgid == msgid)

/-- End a FENCE with its response, when there is room for it. -/
def endFence (now : W64) (f : Fence) (status arg left counter : Nat) (d : Dev) : Dev :=
  let r := originate now (svcMem 0) (memRsp d f.cell status 0 0 1 arg []) d
  if r.2 then
    let d1 := setTrack (fenceKey f) left r.1
    bump Page.stk Reg.STK_CNT counter { d1 with stk := { d1.stk with fences := d1.stk.fences.erase f } }
  else r.1

/-- FENCE_COMPLETE: the tracker holds at least COUNT. -/
def fenceComplete (now : W64) (source : W32) (msgid : Nat) (d : Dev) : Dev :=
  match oldestFence d source msgid with
  | none => d
  | some f =>
    let n := trackCount d (fenceKey f)
    if f.count ≤ n then endFence now f 0 f.count (n - f.count) 3 d else d

def execFenceComplete (source : W32) (msgid : Nat) (s : State) :=
  effect (.fenceComplete source msgid) (onDev (fenceComplete s.now source msgid)) s

/-- FENCE_TIMEOUT: a FENCE still waiting ends with the count reached; one whose count is reached completes
(R363). -/
def fenceTimeout (now : W64) (source : W32) (msgid : Nat) (d : Dev) : Dev :=
  match oldestFence d source msgid with
  | none => d
  | some f =>
    let n := trackCount d (fenceKey f)
    let us := rd d Page.stk Reg.STK_STK_CFG_FENCE_TIMEOUT
    if us = 0 ∨ elapsed now f.tick (us * 1000) = false then d
    else if f.count ≤ n then endFence now f 0 f.count (n - f.count) 3 d
    else endFence now f 2 n 0 5 d

def execFenceTimeout (source : W32) (msgid : Nat) (s : State) :=
  effect (.fenceTimeout source msgid) (onDev (fenceTimeout s.now source msgid)) s

/-! ### Poison and scrub (R344, R345) -/

/-- A line fails the controller code (R345): POISON_ADDR holds the first capture as R49 lays down. -/
def poisonLine (addr : Nat) (d : Dev) : Dev :=
  let line := addr / 64
  let first := decide (rdWord d Page.stk 0x018 = 0)
  let d1 := bump Page.stk Reg.STK_CNT 10 (setPoison line true d)
  let d2 := doIf first (wr64 Page.stk Reg.STK_POISON_ADDR (64 * line)) d1
  let d3 := raiseIrq Page.stk 16 (hwErr Page.stk 16 0 d2)
  doIf (decide (addr < 0x10000000)) (hwErr Page.col 18 0) d3

/-- LINE_POISON; a line of the context area fails its chunk (R259, R345). -/
def linePoison (addr : Nat) (s : State) : State :=
  let s1 := onDev (poisonLine addr) s
  if 2 ^ 31 ≤ addr ∧ addr < serviceStart s.dev then failChunk (Config.ctxOfLine addr) s1 else s1

def execLinePoison (addr : Nat) (s : State) := effect (.linePoison addr) (linePoison addr) s

/-- PATROL_SCRUB (R344): a patrol pass ends; HOURS 0 means no patrol. -/
def patrolScrub (corrected : Nat) (d : Dev) : Dev :=
  if rd d Page.stk Reg.STK_SCRUB_HOURS = 0 then d
  else
    let d1 := bumpN Page.stk Reg.STK_CNT 9 corrected d
    raiseIrq Page.stk 18 (doIf (decide (corrected ≠ 0)) (hwErr Page.stk errCorrected 0) d1)

def execPatrolScrub (corrected : Nat) (s : State) :=
  effect (.patrolScrub corrected) (onDev (patrolScrub corrected)) s

/-! ### The host window (R360) -/

/-- Accumulates accepted earlier on the lines of an access are executed first (R357). -/
def settleAccs (addr n : Nat) (s : State) : State :=
  s.dev.stk.accs.foldl (fun s v =>
    if (linesOf v.base (verbExtent v.cell)).any (fun l => (linesOf addr n).contains l) then
      runAcc (verbCore s.dev v) v s
    else s) s

/-- A host write: line by line; a part of a poisoned line is not written, a whole line clears the poison
(R345). -/
def windowWrite (addr : Nat) (data : List Byte) (s : State) : State :=
  (linesOf addr data.length).foldl (fun s l =>
    let lo := max addr (64 * l)
    let hi := min (addr + data.length) (64 * l + 64)
    let part := (data.drop (lo - addr)).take (hi - lo)
    if hi - lo = 64 then
      { onDev (setPoison l false) s with mem := memWrite s.mem lo part }
    else if linePoisoned s.dev (64 * l) then s
    else { s with mem := memWrite s.mem lo part }) s

/-- What a host read returns: all ones for the words of a poisoned line. -/
def windowRead (s : State) (addr n : Nat) : List Byte :=
  (List.range n).map (fun i => if linePoisoned s.dev (addr + i) then 0xFF else memByte s.mem (addr + i))

/-- HOST_WINDOW_ACCESS. With STK failed an access reads all ones and writes nothing (log 19). -/
def hostWindow (write : Bool) (offset n : Nat) (data : List Byte) (s : State) : State :=
  let d := s.dev
  let addr := rd d Page.stk Reg.STK_WIN_BASE_GIB * 2 ^ 30 + offset
  let ones := List.replicate n (0xFF : Byte)
  let outside := decide (addr < serviceStart d) || decide (stockpotSize < addr + n)
  let refuse := (rdBit d Page.stk Reg.STK_WIN_CTL_SVC_ONLY && outside) || decide (stockpotSize < addr + n)
  let answer := fun (bs : List Byte) (s : State) => if write then s else onDev (emit (.windowData offset bs)) s
  if decide (pageState d Page.stk = stFailed) then answer ones s
  else if refuse then
    answer ones (onDev (fun d => setErr Page.stk errBadAccess .pcie 0 0 (bump Page.stk Reg.STK_CNT 11 d)) s)
  else
    let s1 := settleAccs addr n s
    if write then windowWrite addr data s1 else answer (windowRead s1 addr n) s1

def execHostWindowAccess (write : Bool) (offset bytes : Nat) (data : List Byte) (s : State) :=
  effect (.hostWindowAccess write offset bytes data) (hostWindow write offset bytes data) s

/-! ### Abort (R362) -/

/-- An abort of STK: verbs not accepted go, counted as denied; trackers and waiting FENCEs are cleared. -/
def stkAbort (d : Dev) : Dev :=
  let waiting := d.stk.midA.length + d.stk.midB.length + (d.stk.inbox.filter (fun b => cOp b.cell != ocMEM_FENCE)).length
  let d1 := forEach d.stk.inbox (dropUp · fateOther) d
  let d2 := { d1 with stk := { d1.stk with inbox := [], midA := [], midB := [], trackers := [], fences := [] } }
  bumpN Page.stk Reg.STK_CNT 4 waiting d2

end Sys2Proof.Machine
end

