-- ==== Sys2Proof/Machine/Exchange.lean ====
section
/-! DEFINITION. Ordered all-to-all (R266 to R268): the rounds of a group, the source a destination takes in its
open phase, and the end of a phase. -/

namespace Sys2Proof.Machine

/-- The group of an A2A cell, or of a DTAIL of its message (R266): a VALID all-to-all group named by MSGID. -/
def exchangeGroup (d : Dev) (c : Cell) : Option Nat :=
  let ws := grp d (cMsgid c)
  if (cOp c = ocA2A ∨ (cOp c = ocDTAIL ∧ cTc c = 6)) ∧ gValid ws = true ∧ gOp ws = gopA2A ∧ 2 ≤ gCount ws then
    some (cMsgid c)
  else none

/-- A round as its first cell starts it: phase 1 open for every member (R267). -/
def startRound (g t0 : Nat) (d : Dev) : Dev :=
  let n := gCount (grp d g)
  setRound g (some { t0 := t0, phases := List.replicate n 1, ended := List.replicate n false, planDone := [] }) d

/-- The first A2A cell of a round reaches the device (R267). -/
def exchangeArrival (b : Box) (d : Dev) : Dev :=
  match exchangeGroup d b.cell with
  | some g => if (roundOf d g).isSome then d else startRound g b.rxNs d
  | none => d

/-- Rack position of member `m` of a group (R266). -/
def memberPos (s : State) (g m : Nat) : Nat :=
  wbits (memberGet s (gBase (grp s.dev g) + m)) 1 29 18

/-- The member at a rack position. -/
def memberAt (s : State) (g pos : Nat) : Option Nat :=
  (List.range (gCount (grp s.dev g))).find? (fun m => memberPos s g m == pos)

/-- Phase `k` of a round may open now (R267). -/
def phaseDue (now : W64) (d : Dev) (g k : Nat) (r : Round) : Bool :=
  decide (r.t0 + (k - 1) * gPhaseT (grp d g) * 10 ≤ fabricNs d now)

/-- The cell waits for its phase (R267): its ingress port is not the one its destination takes now. A cell for
a rack position outside the group is not held. -/
def exchangeHeld (s : State) (b : Box) : Bool :=
  match exchangeGroup s.dev b.cell with
  | none => false
  | some g =>
    match memberAt s g (coEntry (cDst b.cell)), roundOf s.dev g with
    | some m, some r =>
      let n := gCount (grp s.dev g)
      let k := r.phases.getD m 1
      let src := memberPos s g ((m + n - k % n) % n)
      r.ended.getD m true || decide (n ≤ k) || decide (coEntry (nbrCoord s.dev b.source) ≠ src)
    | _, _ => false

/-- The next phase of member `m` opens, if it may (R267). -/
def openPhase (now : W64) (g m : Nat) (d : Dev) : Dev :=
  match roundOf d g with
  | none => d
  | some r =>
    let k := r.phases.getD m 1
    if r.ended.getD m false && decide (k + 1 < r.phases.length) && phaseDue now d g (k + 1) r then
      setRound g (some { r with phases := r.phases.set m (k + 1), ended := r.ended.set m false }) d
    else d

/-- A2A_PHASE_END (R267): the source's DTAIL with LAST 1 is granted. The last phase of every member ends the
round. -/
def endPhase (now : W64) (g m : Nat) (d : Dev) : Dev :=
  match roundOf d g with
  | none => d
  | some r =>
    let r' := { r with ended := r.ended.set m true }
    let d1 := bump Page.col Reg.COL_CNT 11 (setRound g (some r') d)
    let n := r.phases.length
    let over' := (List.range n).all (fun m => r'.ended.getD m false && decide (n ≤ r'.phases.getD m 1 + 1))
    if over' then setRound g none d1 else openPhase now g m d1

/-- A granted cell of an exchange (R267). -/
def exchangeGranted (b : Box) (s : State) : State :=
  match exchangeGroup s.dev b.cell with
  | none => s
  | some g =>
    match memberAt s g (coEntry (cDst b.cell)) with
    | some m => if cOp b.cell = ocDTAIL ∧ tLast b.cell = true then onDev (endPhase s.now g m) s else s
    | none => s

/-- A cell held from before a round ended starts the next one (R267): the oldest held cell of the group. -/
def resumeRound (g : Nat) (d : Dev) : Dev :=
  let held := (d.sw.voqs.flatMap (fun e => e.2.esc ++ e.2.norm)).filter (fun b => exchangeGroup d b.cell == some g)
  match held with
  | [] => d
  | b :: bs => startRound g (bs.foldl (fun a b => if b.num < a.num then b else a) b).rxNs d

/-- Every group whose cells wait has a round. -/
def resumeRounds (d : Dev) : Dev :=
  let gs := (d.sw.voqs.flatMap (fun e => (e.2.esc ++ e.2.norm).filterMap (fun b => exchangeGroup d b.cell))).eraseDups
  forEach (gs.filter (fun g => (roundOf d g).isNone)) resumeRound d

/-- A2A_PHASE_OPEN (R267). -/
def execA2aPhaseOpen (group member : Nat) (s : State) :=
  effect (.a2aPhaseOpen group member) (onDev (openPhase s.now group member)) s

end Sys2Proof.Machine
end

