-- ==== Sys2Proof/Machine/Ingress.lean ====
section
/-! DEFINITION. Cells on their way in: the checks of R76, red drop and policing (R192 to R195), sampling tags
(R469), the Colander (R132), moves to the escape VC (R95, R150), the flush engines (R183, R184), lost units
and fenced bank groups (R173, R454), and the meanings of these events. -/

namespace Sys2Proof.Machine

/-! ### Receipt (R76, R192) -/

/-- DST names this device's services, with SUB as R85 requires (check 6). -/
def serviceOk (d : Dev) (c : Cell) : Bool :=
  forSelf d (cDst c) && (decide (cOp c = ocCUP) || decide (coSub (cDst c) = 0))

/-- The first check of R76 that fails. -/
def cellCheck (d : Dev) (c : Cell) : Option Nat :=
  if headCrc c ≠ cHcrc c then some 1
  else if !opcodeKnown (cOp c) then some 2
  else if cColour c = 3 then some 3
  else if !tcAllowed (cOp c) (cTc c) then some 4
  else if !rdBit d Page.fwd Reg.FWD_SELF_SET || decide (coPlane (cDst c) ≠ rd d Page.fwd Reg.FWD_SELF_PLANE) then some 5
  else if isService (cDst c) && !serviceOk d c then some 6
  else none

/-- A cell dropped before the Colander returns its credit (R113, R195). -/
def refuseCell (lane : Nat) (c : Cell) (d : Dev) : Dev := returnCredit lane (vcOf (cTc c) (cEsc c)) d

/-- A cell that fails check `k` (R76); without SELF no notification is sent (R134). -/
def dropChecked (now : W64) (lane k : Nat) (c : Cell) (d : Dev) : Dev :=
  let d1 := refuseCell lane c (countDrop lane k d)
  if k < 5 then d1
  else if !rdBit d Page.fwd Reg.FWD_SELF_SET then bump Page.fwd Reg.FWD_CNT 12 d1
  else if dataBody (cOp c) && decide (cOp c ≠ ocNOTIFY) then
    unreachable now lane c (Config.openDetail k).toNat [] d1
  else d1

/-- The sampling draw of R469: a free value. -/
def drawTag (c : Cell) (d : Dev) : Option Tag × Dev :=
  let p := Page.tel
  if rdBit d p Reg.TEL_SAMPLE_CFG_EN && accepting d p &&
      decide (rd d p Reg.TEL_SAMPLE_CFG_TC_MASK / 2 ^ cTc c % 2 = 1) then
    let hit := decide ((Config.draw d.ctl.draws).toNat % 2 ^ rd d p Reg.TEL_SAMPLE_CFG_K = 0)
    if hit then (some Tag0, bump p Reg.TEL_CNT 0 (drawNext d)) else (none, drawNext d)
  else (none, d)

/-- Red drop and policing (R194, R195, R208): the colour the cell leaves with, 2 for a drop. -/
def policeCell (now : W64) (lane : Nat) (c : Cell) (d : Dev) : Nat × Dev :=
  let p := Page.etm lane
  if cColour c = 2 then (2, bump p Reg.ETM_CNT 8 d)
  else
    match policerOf d lane (cTc c) with
    | none => (cColour c, d)
    | some i =>
      if pageState d p = stAborting then (cColour c, d)
      else
        let r := police now i (cColour c) d
        if r.1 = 2 then (2, bump p Reg.ETM_CNT 9 r.2)
        else if r.1 = 1 ∧ cColour c = 0 then (1, bump p Reg.ETM_CNT 10 r.2)
        else r

/-- A cell that passed the checks: tagged, policed, charged to landing (R168), in the Colander's pipeline. -/
def admitCell (now : W64) (lane : Nat) (f : Framed) (d : Dev) : Dev :=
  let t := drawTag f.cell d
  let r := policeCell now lane f.cell t.2
  let n := nextNum r.2
  let c := if r.1 = 1 then setHb f.cell 91 90 1 else f.cell
  let b := { mkBox c lane n.1 f.rxNs f.rxTick (vcOf (cTc c) (cEsc c)) with acct := .landing, tag := t.1 }
  if r.1 = 2 then endLife { b with acct := .none } fatePolice (refuseCell lane c n.2)
  else
    let d1 := countMoved (regionOf lane) (updUnits lane (cTc c) (fun u => u.add .landing) n.2)
    updPort lane (fun p => { p with pipe := p.pipe ++ [b] }) d1

/-- CELL_RECEIVE: the oldest framed cell that is not a TIME cell; while FWD takes no cell, or the port's LNK
page is not running, it waits in the link receive buffers (R163, R492, R497). -/
def cellReceive (now : W64) (lane : Nat) (d : Dev) : Dev :=
  if !accepting d Page.fwd || !accepting d (Page.lnk lane) then d
  else
    let l := (d.port lane).framed
    match l.find? (fun f => !isTime f.cell) with
    | none => d
    | some f =>
      let d1 := updPort lane (fun p => { p with framed := l.erase f }) d
      match cellCheck d1 f.cell with
      | some k => dropChecked now lane k f.cell d1
      | none => admitCell now lane f d1

def execCellReceive (lane : Nat) (s : State) := effect (.cellReceive lane) (onDev (cellReceive s.now lane)) s

/-! ### The Colander (R132) -/

/-- A hot or drain reset refuses service cells (R450). -/
def resetting (d : Dev) : Bool :=
  decide (1 ≤ rd d Page.pkg Reg.PKG_RESET_STAT_PHASE ∧ rd d Page.pkg Reg.PKG_RESET_STAT_PHASE ≤ 3)

/-- A service cell that no service takes is dropped and counted; its credit is returned. -/
def dropService (lane reason : Nat) (b : Box) (d : Dev) : Dev := dropUp b fateOther (countDrop lane reason d)

/-- Step 2 of R132: the cell goes to the service its opcode names; an opcode that names none is dropped
(log 20). -/
def toService (lane : Nat) (b : Box) (d : Dev) : Dev :=
  let op := cOp b.cell
  if op = ocMGMT then { d with mgt := { d.mgt with inbox := d.mgt.inbox ++ [b] } }
  else if resetting d then dropService lane 8 b d
  else if op = ocCUP ∨ op = ocCTAIL_UP then { d with col := { d.col with inbox := d.col.inbox ++ [b] } }
  else if [ocMEM_PUT, ocMEM_GET, ocMEM_ACC, ocMEM_FENCE].contains op then
    { d with stk := { d.stk with inbox := d.stk.inbox ++ [b] } }
  else dropService lane 7 b d

/-- Steps 4 and 5 of R132 for an MROW or MCOL cell: its flow is looked up, and it joins its port's multicast
list (R179). -/
def toMulticast (now : W64) (lane e : Nat) (b : Box) (d : Dev) : Dev :=
  let t := lookFlow now (dieOf lane) b.cell (some lane) (destEntry d e (coEntry (cDst b.cell))) d
  let r := admitCharge { b with counted := true, flow := t.1 } (drainInc e (noteFlow now t.1 t.2.1 t.2.2))
  mcastAppend now (mcastKey lane (cTc b.cell)) r.1 none r.2

/-- Queue a unicast cell for its egress port (R165, R168). -/
def toVoq (now : W64) (lane egress : Nat) (esc : Bool) (b : Box) (d : Dev) : Dev :=
  let r := admitCharge b d
  voqAppend now (voqKey lane egress (cTc b.cell)) esc r.1 r.2

/-- Steps 3 to 5 of R132 for a unicast cell whose entry does not miss. -/
def toEgress (now : W64) (lane e : Nat) (b : Box) (d : Dev) : Dev :=
  let c := b.cell
  let ws := destEntry d e (coEntry (cDst c))
  let r := chooseMember now (dieOf lane) lane c (some lane) ws d
  let follow := pinnedTc (cTc c) && cEsc c == 0 && flowEscaped d (flowOf d b)
  let member := if follow then escMember r.2 ws (coEntry (cDst c)) else r.1.member
  match member with
  | some k =>
    let c1 := if follow then setHb c 92 92 1 else c
    toVoq now lane (deMember ws k) (decide (cEsc c1 = 1)) { b with cell := c1, counted := true, flow := r.1.flow }
      (drainInc e r.2)
  | none => missCell now lane { b with flow := r.1.flow } e (coEntry (cDst c)) (if follow then 5 else 4) r.2

/-- The Colander takes one cell (R132). -/
def colander (now : W64) (lane : Nat) (b0 : Box) (d : Dev) : Dev :=
  let e := rd d Page.fwd Reg.FWD_EPOCH_STAT_ACTIVE
  let b := tagSet (fun t => { t with lookup := deltaNow now b0 }) { b0 with cell := setHb b0.cell 89 89 e }
  let c := b.cell
  let i := coEntry (cDst c)
  if forSelf d (cDst c) then toService lane b d
  else if cOp c = ocMROW ∨ cOp c = ocMCOL then toMulticast now lane e b d
  else
    match missOf d (dieOf lane) e i (cEsc c = 1) with
    | some detail => missCell now lane b e i detail (doIf (decide (detail = 2)) (reportParity e (dieOf lane) i) d)
    | none => toEgress now lane e b d

/-- COLANDER_INGRESS: the head of the port's pipeline. While FWD stamps no cell, and for a cell bound for a
queue while VOQ admits none, it waits (R163, R191). -/
def colanderIngress (now : W64) (lane : Nat) (d : Dev) : Dev :=
  match (d.port lane).pipe with
  | [] => d
  | b :: bs =>
    if !accepting d Page.fwd || !(forSelf d (cDst b.cell) || accepting d Page.voq) then d
    else colander now lane b (pruneEscFlows (exchangeArrival b (updPort lane (fun p => { p with pipe := bs }) d)))

def execColanderIngress (lane : Nat) (s : State) :=
  effect (.colanderIngress lane) (onDev (colanderIngress s.now lane)) s

/-! ### Moves to the escape VC (R95, R96, R150, R203, R268) -/

/-- Re-time the head of a list that has changed. -/
def rehead (now : W64) : List Box → List Box
  | b :: bs => { b with headTick := now.toNat } :: bs
  | [] => []

/-- The escape member a queued cell's entry offers, read in the bank of its stamp (R138, R150), or the DETAIL of the
miss (R149, R155). -/
def escapeRoute (d : Dev) (b : Box) : Nat ⊕ Nat :=
  let e := cEpoch b.cell
  let i := coEntry (cDst b.cell)
  match missOf d (dieOfSource b.source) e i true with
  | some detail => .inr detail
  | none =>
    match escMember d (destEntry d e i) i with
    | some m => .inl m
    | none => .inr 5

/-- Move one queued cell to the escape list of its escape member's VOQ; with none it is a miss (R149). -/
def moveEscape (now : W64) (k : Nat) (b : Box) (d : Dev) : Dev :=
  let c := b.cell
  let i := coEntry (cDst c)
  let ws := destEntry d (cEpoch c) i
  let l := (d.voq k).norm
  let rest := l.erase b
  let d1 := setVoq k { d.voq k with norm := if l.head? = some b then rehead now rest else rest } d
  match escapeRoute d b with
  | .inl m =>
    let b' := { b with cell := setHb c 92 92 1 }
    let k' := voqKey b.source (deMember ws m) (cTc c)
    let v := d1.voq k'
    let d2 := setVoq k' { v with esc := v.esc ++ [{ b' with headTick := now.toNat }] } d1
    bump Page.fwd Reg.FWD_CNT 5 d2
  | .inr detail =>
    let d2 := doIf (decide (detail = 2)) (reportParity (cEpoch c) (dieOfSource b.source) i) d1
    if b.source < 1024 then missCell now b.source b (cEpoch c) i detail d2
    else dropBox b fateMiss (bump Page.fwd Reg.FWD_CNT (detail - 1) d2)

/-- Every cell of a flow still on a normal list follows (R96). -/
def moveFlow (now : W64) (f : Nat × Nat × Nat) (d : Dev) : Dev :=
  forEach d.sw.voqs (fun e d =>
    forEach (e.2.norm.filter (fun b => flowOf d b == f)) (fun b d => moveEscape now e.1 b d) d) d

/-- ESCAPE_MOVE: the head of a normal list has waited longer than the escape timeout, not counting the
`ineligible` ns its class was shaped, gated, held or waiting for an all-to-all phase. -/
def escapeMove (now : W64) (source egress tc ineligible : Nat) (d : Dev) : Dev :=
  let k := voqKey source egress tc
  match (d.voq k).norm with
  | [] => d
  | b :: _ =>
    let limit := rd d Page.fwd Reg.FWD_ESC_TIMEOUT_T * 10 + ineligible
    if ticksSince now b.headTick * 5 ≤ limit * 8 ∨ inCircuit d egress = true then d
    else
      let d1 := moveEscape now k b d
      if pinnedTc tc then
        let f := flowOf d b
        moveFlow now f { d1 with sw := { d1.sw with escFlows := d1.sw.escFlows.erase f ++ [f] } }
      else d1

def execEscapeMove (source egress tc ineligible : Nat) (s : State) :=
  effect (.escapeMove source egress tc ineligible) (onDev (escapeMove s.now source egress tc ineligible)) s

/-! ### Charges and thresholds (R168, R171) -/

def execLandingPromote (source tc : Nat) (s : State) :=
  effect (.landingPromote source tc) (onDev (landingPromote source tc)) s

def execThresholdRecompute (s : State) := effect .thresholdRecompute (onDev recomputeFree) s

/-! ### The flush engines (R183, R184) -/

/-- The flushed cell calls for a notification (R184). -/
def flushNotified (d : Dev) (f : Flushed) : Bool :=
  let c := f.box.cell
  f.notify && !(f.box.multi && !f.ingress) && dataBody (cOp c) && decide (cOp c ≠ ocNOTIFY) &&
    !([ocCUP, ocCTAIL_UP, ocCDN, ocCTAIL_DN].contains (cOp c)) && decide (cSrc c ≠ selfCoord d)

/-- Consecutive cells of one list, SRC and MSGID form one run (R184). -/
def sameRun (a b : Flushed) : Bool :=
  a.lane == b.lane && a.listKey == b.listKey && cSrc a.box.cell == cSrc b.box.cell &&
    cMsgid a.box.cell == cMsgid b.box.cell

/-- The runs of a flush list: the first cell of each, and its length. -/
def flushRuns : List Flushed → List (Flushed × Nat)
  | [] => []
  | f :: fs =>
    match flushRuns fs with
    | (g, n) :: rs => if sameRun f g then (f, n + 1) :: rs else (f, 1) :: (g, n) :: rs
    | [] => [(f, 1)]

/-- One flushed cell: its charge and counts end, and it is counted (R183). A staged multicast copy is a copy
skipped (R180). -/
def flushOne (f : Flushed) (d : Dev) : Dev :=
  if f.box.multi && !f.ingress then skipCopies f.box 1 d
  else bump Page.voq Reg.VOQ_CNT (if f.ingress then 4 else 3) (dropBox f.box fateFlushed d)

/-- The FLUSHED notification of a run, within FLUSH_NOTIFY_MAX for the event (R184). -/
def flushNotify (now : W64) (die : Nat) (r : Flushed × Nat) (d : Dev) : Dev :=
  let f := r.1
  let sent := sget (konst 0) d.sw.flushCount f.lane
  if sent < rd d Page.voq Reg.VOQ_FLUSH_NOTIFY_MAX_MAX then
    let info := bytesBE 2 f.lane ++ [if f.ingress then 1 else 0, 0] ++ bytesBE 4 r.2
    let d1 := { d with sw := { d.sw with flushCount := sset (konst 0) d.sw.flushCount f.lane (sent + 1) } }
    sendCounted now die (notifyAbout d1 f.box.cell ntFLUSHED f.reason info) Page.voq Reg.VOQ_CNT 5 d1
  else bump Page.voq Reg.VOQ_CNT 6 d

/-- Landing reservations end with the flush of ports that are down (R170, R182). -/
def releaseFlushed (d : Dev) : Dev :=
  recomputeFree (forEach (d.lnk.ports.filter (fun e => e.2.flushing)) (fun e d =>
    updPort e.1 (fun p => { p with
      flushing := false, landing := if portUp d e.1 || departedOpen d e.1 then p.landing else 0 }) d) d)

/-- FLUSH_DONE: the die's engine has walked its list (R183). -/
def flushDone (now : W64) (die : Nat) (d : Dev) : Dev :=
  let active := if die = 0 then Reg.VOQ_FLUSH_STAT_ACTIVE_A else Reg.VOQ_FLUSH_STAT_ACTIVE_B
  if !rdBit d Page.voq active then d
  else
    let l := d.flushList die
    let d1 := forEach l flushOne (setFlushList die [] d)
    let d2 := forEach (flushRuns (l.filter (flushNotified d))) (flushNotify now die) d1
    let d3 := wr Page.voq active 0 d2
    let idle := !rdBit d3 Page.voq Reg.VOQ_FLUSH_STAT_ACTIVE_A && !rdBit d3 Page.voq Reg.VOQ_FLUSH_STAT_ACTIVE_B
    raiseIrq Page.voq 17 (doIf idle releaseFlushed d3)

def execFlushDone (die : Nat) (s : State) := effect (.flushDone die) (onDev (flushDone s.now die)) s

/-! ### Lost units (R173, R454) -/

/-- A stored multicast cell leaves without being sent: it and its copies still owed. -/
def dropMcast (fate : Nat) (m : Mcast) (d : Dev) : Dev :=
  let n := match m.copies with | some l => l.length | none => 0
  dropBox m.box fate (if n = 0 then d else copyEnds m.box n fate d)

/-- The unit lost, when its list holds one: the cell goes and is counted (R173). -/
def loseUnit (now : W64) (unit : EccUnit) (d : Dev) : Option Dev :=
  match unit with
  | .voq source egress tc esc =>
    let k := voqKey source egress tc
    match (if esc then (d.voq k).esc else (d.voq k).norm) with
    | b :: _ => some (bump Page.voq Reg.VOQ_CNT 8 (dropBox b fateOther (voqPop now k esc d)))
    | [] => none
  | .mcast source tc =>
    match d.mcasts (mcastKey source tc) with
    | m :: ms => some (bump Page.voq Reg.VOQ_CNT 8 (dropMcast fateOther m (setMcasts (mcastKey source tc) ms d)))
    | [] => none
  | .park die =>
    match parked d die with
    | e :: es => some (bump Page.voq Reg.VOQ_CNT 8 (dropBox e.2 fateOther (setParked die es d)))
    | [] => none
  | .context g p => if (d.ctx (ctxKey g p)).isSome then some d else none

/-- A bank group's cells, by the placement the spec leaves open. -/
def inGroup (bg : Nat) (b : Box) : Bool :=
  decide (dieOfSource b.source = bg / 64) && decide (Config.groupOfUnit b.num % 64 = bg % 64)

/-- Every cell held in a bank group is lost and counted (R454). -/
def loseGroup (bg : Nat) (d : Dev) : Dev :=
  let lose := fun (b : Box) (d : Dev) => bump Page.voq Reg.VOQ_CNT 8 (dropBox b fateOther d)
  let d1 := forEach d.sw.voqs (fun e d =>
    setVoq e.1 { norm := e.2.norm.filter (fun b => !inGroup bg b), esc := e.2.esc.filter (fun b => !inGroup bg b) }
      (forEach ((e.2.norm ++ e.2.esc).filter (inGroup bg)) lose d)) d
  let d2 := forEach d1.sw.mcast (fun e d =>
    setMcasts e.1 (e.2.filter (fun m => !inGroup bg m.box))
      (forEach (e.2.filter (fun m => inGroup bg m.box))
        (fun m d => bump Page.voq Reg.VOQ_CNT 8 (dropMcast fateOther m d)) d)) d1
  forEach [0, 1] (fun die d =>
    setParked die ((parked d die).filter (fun e => !inGroup bg e.2))
      (forEach (((parked d die).map Prod.snd).filter (inGroup bg)) lose d)) d2

/-- Fence a bank group (R454): its cells and its chunks go. -/
def fenceGroup (bg : Nat) (s : State) : State :=
  if s.dev.sw.fencedGroups.contains bg then s
  else
    let s1 := onDev (fun d =>
      let d1 := loseGroup bg { d with sw := { d.sw with fencedGroups := d.sw.fencedGroups ++ [bg] } }
      faultLog s.now { level := lvBlock, action := acUnitFenced, page := Page.voq, unit := bg, cls := 18,
                       detail := bg, recover := 0 } (raiseIrq Page.voq 18 (hwErr Page.voq 18 bg d1))) s
    ((ctxList s1.dev).filter (fun e =>
        decide (e.2.die = bg / 64) && e.2.bound && Config.groupHoldsCtx bg e.1 e.2.useNo)).foldl
      (fun s e => failChunk e.1 s) s1

/-- UNIT_ECC_ERROR (R173): the cell is lost, or the chunk whose input it was fails (R259); the fourth error of
its bank group within 1 s fences the group (R454). -/
def unitEcc (unit : EccUnit) (bg : Nat) (s : State) : State :=
  match loseUnit s.now unit s.dev with
  | none => s
  | some d =>
    let s1 := onDev (fun _ => hwErr Page.voq 18 bg d) s
    let s2 := match unit with | .context g p => failChunk (ctxKey g p) s1 | _ => s1
    let times := s.now.toNat :: ((sget (konst []) s.dev.sw.eccTimes bg).filter (fun t => !elapsed s.now t 1000000000))
    let s3 := onDev (fun d => { d with sw := { d.sw with eccTimes := sset (konst []) d.sw.eccTimes bg times } }) s2
    if 4 ≤ times.length then fenceGroup bg s3 else s3

def execUnitEccError (unit : EccUnit) (bankGroup : Nat) (s : State) :=
  effect (.unitEccError unit bankGroup) (unitEcc unit bankGroup) s

def execBankGroupControllerFail (bankGroup : Nat) (s : State) :=
  effect (.bankGroupControllerFail bankGroup) (fenceGroup bankGroup) s

end Sys2Proof.Machine
end

