-- ==== Sys2Proof/Machine/Crossbar.lean ====
section
/-! DEFINITION. The crossbar scheduler (R176 to R178), multicast replication (R179, R180), region loads (R185),
the transmit selector's slot (R202), gates, launches and the timing wheel as commands. -/

namespace Sys2Proof.Machine

/-! ### Requests (R177, R199, R207, R214) -/

/-- Shapers act in every page state except aborting (R208). -/
def shapesAct (d : Dev) (lane : Nat) : Bool := decide (pageState d (Page.etm lane) ≠ stAborting)

/-- The ETM page is quiescing or quiesced: its port's TC 0 to TC 6 make no new requests (R51, R214). -/
def etmHolds (d : Dev) (lane : Nat) : Bool :=
  rdBit d (Page.etm lane) Reg.PAGE_STAT_QUIESCING || decide (pageState d (Page.etm lane) = stQuiesced)

/-- The class is eligible at the egress port: in service, not held by a quiesce (R214), room in staging (R176, R207),
and shaping (R199). -/
def classEligible (now : W64) (d : Dev) (egress tc : Nat) : Bool :=
  portUp d egress && !fenced d egress &&
    !(etmHolds d egress && decide (tc < 7)) &&
    stagingRoom d egress tc && requestRoom now d egress tc &&
    (!shapesAct d egress || shapeOk now d egress tc)

/-- A request: the list of a VOQ whose head it offers. -/
structure Req where
  key : Nat
  esc : Bool
  deriving DecidableEq, Repr

/-- The cell a request offers. -/
def reqHead (d : Dev) (r : Req) : Option Box :=
  let v := d.voq r.key
  (if r.esc then v.esc else v.norm).head?

/-- The request may be granted now. -/
def requesting (s : State) (r : Req) : Bool :=
  match reqHead s.dev r with
  | some b => classEligible s.now s.dev (voqEgress r.key) (voqTc r.key) && !exchangeHeld s b
  | none => false

/-- The lists of the VOQs that lead to an egress port. -/
def reqsOf (d : Dev) (egress : Nat) : List Req :=
  (d.sw.voqs.filter (fun e => voqEgress e.1 == egress)).flatMap
    (fun e => [{ key := e.1, esc := true }, { key := e.1, esc := false }])

def arbOf (d : Dev) (egress : Nat) : Dwrr := sget (konst Dwrr.reset) d.sw.grantArb egress
def setArb (egress : Nat) (a : Dwrr) (d : Dev) : Dev :=
  { d with sw := { d.sw with grantArb := sset (konst Dwrr.reset) d.sw.grantArb egress a } }

def grantPtrOf (d : Dev) (k : Nat) : Nat := sget (konst 0) d.sw.grantPtr k
def setGrantPtr (k v : Nat) (d : Dev) : Dev :=
  { d with sw := { d.sw with grantPtr := sset (konst 0) d.sw.grantPtr k v } }

/-- The request the round-robin pointer reaches first, by source. -/
def roundRobin (ptr : Nat) (rank : Nat → Nat) (l : List Req) : Option Req :=
  let m := 2 ^ 21
  l.foldl (fun best r =>
    let w := fun (r : Req) => (rank (voqSource r.key) + m - ptr) % m
    match best with
    | some b => if w r < w b then some r else some b
    | none => some r) none

/-! ### A transfer -/

/-- Move a granted cell from its list into the egress port's staging buffer: its unit's charge ends and its
shapers pay (R168, R176, R199). -/
def takeGrant (now : W64) (r : Req) (d : Dev) : Dev :=
  match reqHead d r with
  | none => d
  | some b =>
    let egress := voqEgress r.key
    let tc := voqTc r.key
    let b' := tagSet (fun t => { t with grant := deltaNow now b }) { b with acct := .none }
    let d1 := endCharge b (voqPop now r.key r.esc d)
    let d2 := setStaged egress tc (d1.staged egress tc ++ [b']) d1
    let d3 := doIf (shapesAct d2 egress) (shapeCharge now egress tc) d2
    let d4 := bump Page.xbs Reg.XBS_CNT 0 d3
    doIf (decide (dieOfSource b.source ≠ dieOf egress)) (bump Page.xbs Reg.XBS_CNT 1) d4

/-- A transfer and what it does to an exchange (R267). -/
def transfer (r : Req) (s : State) : State :=
  match reqHead s.dev r with
  | none => s
  | some b => exchangeGranted b (onDev (takeGrant s.now r) s)

/-! ### Grant -/

/-- One decision of an egress port's grant arbiter: TC 7 strictly first, then the classes by R495; escape
requests before normal ones; ties by the pointer over the sources. -/
def decide1 (s : State) (egress : Nat) : Option Req × State :=
  let reqs := (reqsOf s.dev egress).filter (requesting s)
  let ofClass := fun tc => reqs.filter (fun r => voqTc r.key == tc)
  let cls : Option Nat × Dwrr :=
    if !(ofClass 7).isEmpty then (some 7, arbOf s.dev egress)
    else dwrr (classWeight s.dev) (fun tc => !(ofClass tc).isEmpty) 7 (arbOf s.dev egress)
  match cls.1 with
  | none => (none, s)
  | some tc =>
    let esc := (ofClass tc).filter (fun r => r.esc)
    let l := if esc.isEmpty then ofClass tc else esc
    match roundRobin (grantPtrOf s.dev (tcKey egress tc)) id l with
    | none => (none, s)
    | some r =>
      let s1 := transfer r s
      (some r, onDev (fun d => setGrantPtr (tcKey egress tc) (voqSource r.key + 1) (setArb egress cls.2 d)) s1)

/-- An egress port's grants of an iteration, as if each were accepted. -/
def grants (egress : Nat) : Nat → State → List Req
  | 0, _ => []
  | n + 1, s =>
    match decide1 s egress with
    | (some r, s') => r :: grants egress n s'
    | (none, _) => []

/-! ### Accept -/

/-- Cells matched so far: per egress port and per source. -/
structure Used where
  egress : SMap Nat
  source : SMap Nat
  deriving DecidableEq, Repr

/-- Cells per match of an egress port (R177). -/
def egressCap (d : Dev) (lane : Nat) : Nat := 2 * portWidth d lane

/-- Cells per match of a source: 2W for a port, 8 in each of four regions for a service source (R177, R178). -/
def sourceCap (d : Dev) (source : Nat) : Nat := if source < 1024 then 2 * portWidth d source else 32

def acceptPtrOf (d : Dev) (source : Nat) : Nat := sget (konst 0) d.sw.acceptPtr source
def setAcceptPtr (source v : Nat) (d : Dev) : Dev :=
  { d with sw := { d.sw with acceptPtr := sset (konst 0) d.sw.acceptPtr source v } }

/-- The grants a source accepts, within `n` cells: TC 7 first, then by round robin over egress ports. -/
def accepts (ptr : Nat) : Nat → List Req → List Req
  | 0, _ => []
  | n + 1, l =>
    let strict := l.filter (fun r => voqTc r.key == 7)
    let from' := if strict.isEmpty then l else strict
    let w := fun (r : Req) => (voqEgress r.key + 1024 - ptr % 1024) % 1024
    let pick := from'.foldl (fun best r =>
      match best with
      | some b => if w r < w b then some r else some b
      | none => some r) none
    match pick with
    | none => []
    | some r => r :: accepts (voqEgress r.key + 1) n (l.erase r)

/-- Apply an accepted grant: the transfer, the arbiter's state, both pointers (R177, R495). -/
def applyGrant (r : Req) (s : State) : State :=
  let egress := voqEgress r.key
  let tc := voqTc r.key
  onDev (fun d =>
    let a := if tc = 7 then arbOf d egress else (dwrr (classWeight d) (fun c => c == tc) 7 (arbOf d egress)).2
    setAcceptPtr (voqSource r.key) (egress + 1)
      (setGrantPtr (tcKey egress tc) (voqSource r.key + 1) (setArb egress a d))) (transfer r s)

/-- One request-grant-accept iteration (R177). -/
def iteration (u : Used) (s : State) : Used × State :=
  let egs := (s.dev.sw.voqs.map (fun e => voqEgress e.1)).eraseDups
  let gs := egs.flatMap (fun e => grants e (egressCap s.dev e - sget (konst 0) u.egress e) s)
  let srcs := (gs.map (fun r => voqSource r.key)).eraseDups
  let taken := srcs.flatMap (fun x =>
    accepts (acceptPtrOf s.dev x) (sourceCap s.dev x - sget (konst 0) u.source x)
      (gs.filter (fun r => voqSource r.key == x)))
  -- each egress port's accepted grants in the order it made them
  let ordered := egs.flatMap (fun e => taken.filter (fun r => voqEgress r.key == e))
  let u' := ordered.foldl (fun u r =>
    { egress := supd (konst 0) u.egress (voqEgress r.key) (· + 1),
      source := supd (konst 0) u.source (voqSource r.key) (· + 1) }) u
  (u', ordered.foldl (fun s r => applyGrant r s) s)

/-- CROSSBAR_MATCH: three iterations (R177); none while XBS is not running or is quiescing (R191). -/
def crossbarMatch (s : State) : State :=
  if !accepting s.dev Page.xbs then s
  else
    let s0 := onDev resumeRounds s
    let r1 := iteration { egress := [], source := [] } s0
    let r2 := iteration r1.1 r1.2
    onDev resumeRounds (iteration r2.1 r2.2).2

def execCrossbarMatch (s : State) := effect .crossbarMatch crossbarMatch s

/-! ### Multicast replication (R87, R138, R156, R179, R180) -/

/-- One copy for a rack position: the member chosen, or a skip. -/
def copyFor (die source e : Nat) (orig c : Cell) (ingress : Option Nat) (r : List Copy × Nat × Dev) :
    List Copy × Nat × Dev :=
  let d := r.2.2
  let i := coEntry (cDst c)
  let esc := decide (cEsc orig = 1)
  match missOf d die e i esc with
  | some detail => (r.1, r.2.1 + 1, doIf (decide (detail = 2)) (reportParity e die i) d)
  | none =>
    let ws := destEntry d e i
    let pick : Option Nat × Dev :=
      if esc then (escMember d ws i, d)
      else if isPinned ws (cTc c) then (hashMember d ws (flowHash (cDst c) (keySrc d c ingress) (cTc c)), d)
      else sprayMember source (cTc c) ws d
    match pick.1 with
    | some k => (r.1 ++ [{ egress := deMember ws k, cell := c }], r.2.1, pick.2)
    | none => (r.1, r.2.1 + 1, pick.2)

/-- The cells of the copies of a stored cell: MROW and MCOL positions whose entry is valid (R87), or the result
copies of the member list (R77). -/
def copyCells (d : Dev) (b : Box) : List Cell :=
  let c := b.cell
  let e := cEpoch c
  if cOp c = ocMROW then
    (List.range 64).filterMap (fun col =>
      if deValid (destEntry d e (coRow (cDst c) * 64 + col)) then some (reseal (setHb c 119 114 col)) else none)
  else if cOp c = ocMCOL then
    (List.range 64).filterMap (fun row =>
      if deValid (destEntry d e (row * 64 + coCol (cDst c))) then some (reseal (setHb c 125 120 row)) else none)
  else (sget (konst []) d.col.replicas b.num).map (fun m => addressed c m.1 m.2)

/-- Resolve a stored cell: its copies, the skips counted (R180). -/
def resolve (source : Nat) (b : Box) (d : Dev) : List Copy × Dev :=
  let die := dieOfSource source
  let ingress := if source < 1024 then some source else none
  let r := (copyCells d b).foldl (fun r c => copyFor die source (cEpoch b.cell) b.cell c ingress r) ([], 0, d)
  let d1 := bumpN Page.fwd Reg.FWD_CNT 11 r.2.1 r.2.2
  (r.1, addCopies b.num r.1.length
    { d1 with col := { d1.col with replicas := sset (konst []) d1.col.replicas b.num [] } })

/-- Send the cell to one region, while that region's replication buffer of 4,096 has room (R180). -/
def toRegion (now : W64) (b : Box) (region : Nat) (l : List Copy × Dev) : List Copy × Dev :=
  let mine := l.1.filter (fun c => regionOf c.egress == region)
  if mine.isEmpty then l
  else if 4096 ≤ (l.2.repls region).length then l
  else
    let d1 := setRepls region (l.2.repls region ++ [{ box := { b with acct := .none }, copies := mine }]) l.2
    let d2 := updMtag b.num (fun t => if t.grant = 0xFFFFFFFF then { t with grant := deltaNow now b } else t) d1
    (l.1.filter (fun c => regionOf c.egress != region), bump Page.xbs Reg.XBS_CNT 2 d2)

/-- MULTICAST_REPLICATE: the cell at the head of a multicast list (R179). With its last region transfer its unit
and account end (R180). -/
def multicastReplicate (now : W64) (source tc : Nat) (d : Dev) : Dev :=
  let k := mcastKey source tc
  if !accepting d Page.xbs then d
  else
    match d.mcasts k with
    | [] => d
    | m :: ms =>
      let r := match m.copies with
        | some l => (l, d)
        | none => resolve source m.box d
      let fresh := m.copies.isNone
      if r.1.isEmpty then
        let d1 := dropBox m.box fateOther (setMcasts k ms r.2)
        doIf (fresh && decide (cOp m.box.cell = ocMROW ∨ cOp m.box.cell = ocMCOL)) (bump Page.fwd Reg.FWD_CNT 13) d1
      else
        let r2 := (List.range 8).foldl (fun l region => toRegion now m.box region l) r
        if r2.1.isEmpty then dropBox m.box fateOther (setMcasts k ms r2.2)
        else setMcasts k ({ m with copies := some r2.1 } :: ms) r2.2

def execMulticastReplicate (source tc : Nat) (s : State) :=
  effect (.multicastReplicate source tc) (onDev (multicastReplicate s.now source tc)) s

/-- The first entry of a replication buffer with a copy for the port, whose class has staging room. -/
def replFor (d : Dev) (egress : Nat) (l : List Repl) : Option Repl :=
  l.find? (fun r => r.copies.any (fun c => c.egress == egress) && stagingRoom d egress (cTc r.box.cell))

/-- EGRESS_REPLICA_WRITE (R179): one copy into a port's staging buffer, as room appears. -/
def replicaWrite (region egress : Nat) (d : Dev) : Dev :=
  if pageState d Page.xbs ≠ stRunning then d
  else
    let l := d.repls region
    match replFor d egress l with
    | none => d
    | some r =>
      match r.copies.find? (fun c => c.egress == egress) with
      | none => d
      | some c =>
        let r' := { r with copies := r.copies.erase c }
        let l' := if r'.copies.isEmpty then l.erase r else l.map (fun x => if x = r then r' else x)
        let tc := cTc r.box.cell
        let d1 := setRepls region l' d
        if portUp d1 egress then
          setStaged egress tc (d1.staged egress tc ++ [{ r.box with cell := c.cell, multi := true }]) d1
        else skipCopies r.box 1 d1

def execEgressReplicaWrite (region egress : Nat) (s : State) :=
  effect (.egressReplicaWrite region egress) (onDev (replicaWrite region egress)) s

/-! ### Region loads (R185, R455) -/

def regionFenced (d : Dev) (r : Nat) : Bool :=
  decide (rd d Page.pkg Reg.PKG_CHIP_STAT_REGIONS_FENCED / 2 ^ r % 2 = 1)

/-- Resident contexts of a region as a share of 512, in units of 1/256. -/
def ctxLoad (d : Dev) (r : Nat) : Nat :=
  min 255 (((ctxList d).filter (fun e => e.2.region == r && e.2.isResident)).length * 256 / 512)

/-- Cells moved as a share of twice the region's port capacity: 128 lanes, one cell each 2.24 ns. -/
def portLoad (d : Dev) (r : Nat) : Nat :=
  min 255 (sget (konst 0) d.sw.moved r * 224 / (100000 * rd d Page.xbs Reg.XBS_PLACE_CFG_WINDOW))

/-- One region's loads; a fenced region reads 255 in every field. -/
def regionWindow (ladle : List Nat) (r : Nat) (d : Dev) : Dev :=
  let v := fun n => if regionFenced d r then 255 else n
  let d1 := wr Page.xbs (Reg.XBS_LOAD_CTX.idx r) (v (ctxLoad d r))
    (wr Page.xbs (Reg.XBS_LOAD_LADLE.idx r) (v (min 255 (ladle.getD r 0)))
      (wr Page.xbs (Reg.XBS_LOAD_PORT.idx r) (v (portLoad d r)) d))
  let d2 := { d1 with sw := { d1.sw with moved := sset (konst 0) d1.sw.moved r 0 } }
  let is := decide (16 * rd d2 Page.xbs Reg.XBS_PLACE_CFG_SAT ≤ regionLoad d2 r)
  let bit : Fd := ⟨Reg.XBS_SAT_STAT_SATURATED.off, r, r⟩
  doIf (is && !saturated d r) (raiseIrq Page.xbs 16) (wrBit Page.xbs bit is d2)

def execLoadWindow (ladle : List Nat) (s : State) :=
  effect (.loadWindow ladle) (onDev (forEach (List.range 8) (regionWindow ladle))) s

/-! ### The transmit selector, gates and the wheel as commands -/

def execTxCellSlot (lane : Nat) (s : State) := effect (.txCellSlot lane) (onDev (txSlot s.now lane)) s

def execWheelSlot (die : Nat) (s : State) := effect (.wheelSlot die) (onDev (wheelSlot s.now die)) s

def execGateEntry (lane : Nat) (s : State) := effect (.gateEntry lane) (onDev (gateAdvance s.now lane)) s

end Sys2Proof.Machine
end

