-- ==== Sys2Proof/Machine/Upkeep.lean ====
section
/-! DEFINITION. The upkeep of the forwarding tables: swaps and drains of the two banks (R139 to R142), the
flow sweep (R153), parity repair (R157) and the scrubber's digests (R158 to R160). -/

namespace Sys2Proof.Machine

/-! ### Swaps (R141, R142) -/

/-- The other bank becomes active. -/
def swapBanks (now : W64) (d : Dev) : Dev :=
  let p := Page.fwd
  let d1 := wr p Reg.FWD_EPOCH_STAT_ACTIVE (1 - rd d p Reg.FWD_EPOCH_STAT_ACTIVE) d
  let d2 := wr p Reg.FWD_SWAP_COUNT_COUNT (rd d1 p Reg.FWD_SWAP_COUNT_COUNT + 1) d1
  let d3 := wr p Reg.FWD_EPOCH_STAT_ARMED 0 d2
  raiseIrq p 20 { d3 with fwd := { d3.fwd with swapTick := some now.toNat, warned := false } }

/-- EPOCH_CTL.SWAP; while a swap is armed it is refused. -/
def swapNow (now : W64) (src : Src) (d : Dev) : Dev :=
  if rdBit d Page.fwd Reg.FWD_EPOCH_STAT_ARMED then setErr Page.fwd 16 src 0x104 0 d else swapBanks now d

def armSwap (d : Dev) : Dev := wr Page.fwd Reg.FWD_EPOCH_STAT_ARMED 1 d
def disarmSwap (d : Dev) : Dev := wr Page.fwd Reg.FWD_EPOCH_STAT_ARMED 0 d

/-- A write of EPOCH_CTL: DISARM, SWAP, ARM in this order, each judged as the one before left the state. -/
def epochCtl (now : W64) (src : Src) (disarm swap arm : Bool) (d : Dev) : Dev :=
  doIf arm armSwap (doIf swap (swapNow now src) (doIf disarm disarmSwap d))

/-- The epoch-swap action of a trigger (R378): whether a swap was armed. -/
def swapTrigger (now : W64) (d : Dev) : Dev × Bool :=
  if rdBit d Page.fwd Reg.FWD_EPOCH_STAT_ARMED then (swapBanks now d, true) else (d, false)

/-- BANK_DRAINED (R139). -/
def bankDrained (e : Nat) (d : Dev) : Dev :=
  if sget (konst false) d.fwd.drained e then
    raiseIrq Page.fwd 16 { d with fwd := { d.fwd with drained := sset (konst false) d.fwd.drained e false } }
  else d

def execBankDrained (e : Nat) (s : State) := effect (.bankDrained e) (onDev (bankDrained e)) s

/-- DRAIN_WARNING (R142): the inactive bank has not drained within DRAIN_WARN µs of the swap. -/
def drainWarning (now : W64) (d : Dev) : Dev :=
  let us := rd d Page.fwd Reg.FWD_DRAIN_WARN_US
  let e := 1 - rd d Page.fwd Reg.FWD_EPOCH_STAT_ACTIVE
  match d.fwd.swapTick with
  | some t =>
    if us ≠ 0 ∧ d.fwd.warned = false ∧ elapsed now t (us * 1000) = true ∧
        rd d Page.fwd (Reg.FWD_DRAIN_CELLS.idx e) ≠ 0 then
      raiseIrq Page.fwd 17 { d with fwd := { d.fwd with warned := true } }
    else d
  | none => d

def execDrainWarning (s : State) := effect .drainWarning (onDev (drainWarning s.now)) s

/-! ### The flow sweep (R153) -/

/-- Delete every stale flow entry. -/
def flowSweep (now : W64) (d : Dev) : Dev :=
  forEach (tblListed d Page.fwd 2) (fun e d =>
    if flowStale now d e.2 then tset Page.fwd 2 e.1 (List.replicate 7 0) d else d) d

def execFlowAgeSweep (s : State) := effect .flowAgeSweep (onDev (flowSweep s.now)) s

/-! ### Parity (R157) -/

/-- PARITY_REPAIR: a die's copy of a destination entry is copied from the other die, or both are bad; a flow
entry is cleared. -/
def parityRepair (table die i : Nat) (otherBad : Bool) (d : Dev) : Dev :=
  let d0 := if parityBad d table die i then d else reportParity table die i d
  if table = 2 then
    hwErr Page.fwd errCorrected (i % 4096) (setParityBad 2 die i false (tset Page.fwd 2 i (List.replicate 7 0) d0))
  else if otherBad then
    setErrs Page.fwd [errUncorrectable, 17] 0 0 (i % 4096) (setParityBad table 0 i true (setParityBad table 1 i true d0))
  else hwErr Page.fwd errCorrected (i % 4096) (setParityBad table die i false d0)

def execParityRepair (table die index : Nat) (otherBad : Bool) (s : State) :=
  effect (.parityRepair table die index otherBad) (onDev (parityRepair table die index otherBad)) s

/-! ### Digests (R158 to R160) -/

/-- One byte of the reflected CRC-64 (R158). -/
def crc64Byte (crc : Nat) (b : Byte) : Nat :=
  [0, 1, 2, 3, 4, 5, 6, 7].foldl
    (fun c _ => if c % 2 = 1 then (c / 2) ^^^ 0xC96C5795D7870F42 else c / 2) (crc ^^^ b.toNat)

/-- CRC-64, polynomial 0x42F0_E1EB_A9EA_3693 reflected, initial value and final XOR all ones (R158). -/
def crc64 (bs : List Byte) : Nat := bs.foldl crc64Byte (2 ^ 64 - 1) ^^^ (2 ^ 64 - 1)

/-- Bank and first index of a segment. -/
def segBase (g : Nat) : Nat × Nat := (g / 4, 1024 * (g % 4))

/-- The digest of a segment's entries in index order. -/
def segDigest (d : Dev) (g : Nat) : Nat :=
  crc64 ((List.range 1024).flatMap (fun k => wordsBytes (destEntry d (segBase g).1 ((segBase g).2 + k))))

def segState (d : Dev) (g : Nat) : Nat := rd d Page.fwd (segStateFd g)

def setPassed (g : Nat) (v : Bool × Bool) (d : Dev) : Dev :=
  { d with fwd := { d.fwd with passed := sset (konst (false, false)) d.fwd.passed g v } }

/-- Marks of entries written since their segment became suspect go. -/
def clearFresh (g die : Nat) (d : Dev) : Dev :=
  { d with fwd := { d.fwd with
      fresh := d.fwd.fresh.filter (fun e => !(e.1 / 8192 == die && segOf (e.1 / 4096 % 2) (e.1 % 4096) == g)) } }

/-- A table-port write to an entry (R159, R160): its segment is stale, and a suspect entry stops missing. -/
def segWritten (bank i : Nat) (d : Dev) : Dev :=
  let g := segOf bank i
  let d1 := setPassed g (false, false) (wr Page.fwd (segStateFd g) 0 d)
  forEach [0, 1] (fun die d =>
    setParityBad bank die i false
      (if rdBit d Page.fwd (suspectFd g die) then
        { d with fwd := { d.fwd with fresh := sset (konst false) d.fwd.fresh (freshKey die bank i) true } }
      else d)) d1

/-- A write of DIGEST[g]'s high word (R159, R160): the segment is armed and no longer suspect. -/
def armSegment (g : Nat) (d : Dev) : Dev :=
  let d1 := setPassed g (false, false) (wr Page.fwd (segStateFd g) 1 d)
  forEach [0, 1] (fun die d => clearFresh g die (wr Page.fwd (suspectFd g die) 0 d)) d1

/-- SCRUB_PASS: a die's pass over a segment ends; it found parity errors at the entries listed (R157, R159,
R160). The comparison is judged only without a parity error. -/
def scrubPass (g die : Nat) (bad : List Nat) (d : Dev) : Dev :=
  if !rdBit d Page.fwd Reg.FWD_SCRUB_CTL_ENABLE then d
  else
    let bank := (segBase g).1
    let found := (bad.filter (fun k => decide (k < 1024))).map (fun k => (segBase g).2 + k)
    let d1 := forEach found (fun i d => setParityBad bank die i true (reportParity bank die i d)) d
    let st := segState d1 g
    let idle := decide (st ≠ 1 ∧ st ≠ 2) || rdBit d1 Page.fwd (suspectFd g die) || !found.isEmpty
    if idle then d1
    else if segDigest d1 g = rd64 d1 Page.fwd (Reg.FWD_DIGEST.idx g 8) then
      let was := sget (konst (false, false)) d1.fwd.passed g
      let v := if die = 0 then (true, was.2) else (was.1, true)
      let d2 := setPassed g v d1
      if v.1 && v.2 then wr Page.fwd (segStateFd g) 2 d2 else d2
    else
      raiseIrq Page.fwd 18 (hwErr Page.fwd 18 g (clearFresh g die (wr Page.fwd (suspectFd g die) 1 d1)))

def execScrubPass (g die : Nat) (bad : List Nat) (s : State) :=
  effect (.scrubPass g die bad) (onDev (scrubPass g die bad)) s

end Sys2Proof.Machine
end

