-- ==== Sys2Proof/Machine/Telemetry.lean ====
section
/-! DEFINITION. Telemetry (ch. 17): captures (R468), the ring of sampling records (R471 to R473) and an abort of
TEL (R476). -/

namespace Sys2Proof.Machine

/-! ### Captures (R468) -/

/-- The counter at a BAR0 offset: stored, or the front-starved beats of a core block's slot (R338). -/
def counterAt (now : W64) (d : Dev) (a : Nat) : Nat :=
  let stored := (d.ctl.word a).toNat + 2 ^ 32 * (d.ctl.word (a + 4)).toNat
  match pageOf a with
  | some (p, off) =>
    if p.blk = .ldl ∧ 8 ≤ p.inst ∧ 0x180 ≤ off ∧ off < 0x200 ∧ (off - 0x180) / 8 % 4 = 2 then
      blockFront now d (p.inst - 8) ((off - 0x180) / 32)
    else stored
  | none => stored

/-- Start a capture: the named counters and the watches' counts at this instant; one in progress refuses. -/
def capture (now : W64) (d : Dev) : Dev :=
  if rdBit d Page.tel Reg.TEL_CAPTURE_STAT_BUSY then bump Page.tel Reg.TEL_CNT 6 d
  else
    let set' := (tblListed d Page.tel 0).filter (fun e => wbit e.2 0 31 && wbit e.2 0 30)
    let take := fun (ws : List W32) =>
      (counterAt now d (wbits ws 0 27 0), word64 ws 1)
    let d1 := wr Page.tel Reg.TEL_CAPTURE_STAT_BUSY 1 d
    { d1 with tel := { d1.tel with
        captureNs := fabricNs d now,
        samples := set'.foldl (fun m e => sset (konst (0, 0)) m e.1 (take e.2)) [] } }

/-- CAPTURE_DONE: the samples are in the capture window of BAR4. -/
def captureDone (d : Dev) : Dev :=
  if !rdBit d Page.tel Reg.TEL_CAPTURE_STAT_BUSY then d
  else
    let bytes := (List.range 256).flatMap (fun w =>
      let v := sget (konst (0, 0)) d.tel.samples w
      bytesLE 8 v.1 ++ bytesLE 8 v.2)
    let d1 := setBar4 0x800000 bytes { d with tel := { d.tel with samples := [] } }
    let d2 := wr64 Page.tel Reg.TEL_CAPTURE_NS d1.tel.captureNs (wr Page.tel Reg.TEL_CAPTURE_STAT_BUSY 0 d1)
    raiseIrq Page.tel 18 (wr Page.tel Reg.TEL_CAPTURE_STAT_COUNT (rd d2 Page.tel Reg.TEL_CAPTURE_STAT_COUNT + 1) d2)

def execCaptureDone (s : State) := effect .captureDone (onDev captureDone) s

/-! ### The ring (R471 to R473) -/

/-- Records the ring holds, and its first byte in Stockpot. -/
def ringSize (d : Dev) : Nat := rd d Page.tel Reg.TEL_RING_CFG_SIZE_MIB * 16384
def ringBase (d : Dev) : Nat := 0x10000000 + rd d Page.tel Reg.TEL_RING_CFG_OFFSET_MIB * 2 ^ 20

def ringWr (d : Dev) : Nat := rd d Page.tel Reg.TEL_RING_WR_RECORDS
def ringRd (d : Dev) : Nat := rd d Page.tel Reg.TEL_RING_RD_RECORDS

/-- Records not yet consumed. -/
def ringFill (d : Dev) : Nat := (ringWr d + 2 ^ 32 - ringRd d) % 2 ^ 32

/-- The whole record: NUM and CRC join its 56 bytes (R470). -/
def sealRecord (num : Nat) (body : List Byte) : List Byte :=
  let b := body ++ bytesLE 4 num
  b ++ bytesLE 4 (crc32c b)

def dieBuffer (d : Dev) (die : Nat) : List (List Byte) := if die = 0 then d.tel.waitA else d.tel.waitB

def setDieBuffer (die : Nat) (l : List (List Byte)) (d : Dev) : Dev :=
  if die = 0 then { d with tel := { d.tel with waitA := l } } else { d with tel := { d.tel with waitB := l } }

/-- The ring, which held `old` records, takes a record: the count and the threshold interrupt (R472). -/
def ringAdvance (old : Nat) (d : Dev) : Dev :=
  let d1 := bump Page.tel Reg.TEL_CNT 1 (wr Page.tel Reg.TEL_RING_WR_RECORDS (ringWr d + 1) d)
  let th := rd d1 Page.tel Reg.TEL_RING_THRESH_RECORDS
  doIf (decide (old < th ∧ th ≤ ringFill d1)) (raiseIrq Page.tel 16) d1

/-- RECORD_WRITE: the oldest record of a die's buffer goes to the ring. A record that overwrites the oldest leaves the fill as
it is, so that it crosses no threshold (R472). A whole line clears its poison (R345). -/
def recordWrite (die : Nat) (s : State) : State :=
  match dieBuffer s.dev die with
  | [] => s
  | body :: rest =>
    let d := setDieBuffer die rest s.dev
    let full := decide (ringSize d ≤ ringFill d)
    if full && !rdBit d Page.tel Reg.TEL_RING_CFG_MODE then { s with dev := bump Page.tel Reg.TEL_CNT 3 d }
    else
      let d1 := doIf full (fun d =>
        bump Page.tel Reg.TEL_CNT 4 (wr Page.tel Reg.TEL_RING_RD_RECORDS (ringRd d + 1) d)) d
      let n := ringWr d1
      let a := ringBase d1 + 64 * (n % ringSize d1)
      { s with dev := setPoison (a / 64) false (ringAdvance (ringFill d) d1), mem := memWrite s.mem a (sealRecord n body) }

def execRecordWrite (die : Nat) (s : State) := effect (.recordWrite die) (recordWrite die) s

/-- An abort of TEL (R476). -/
def telAbort (d : Dev) : Dev :=
  let n := d.tel.waitA.length + d.tel.waitB.length
  let d1 := bumpN Page.tel Reg.TEL_CNT 2 n { d with tel := { d.tel with waitA := [], waitB := [], samples := [] } }
  wr Page.tel Reg.TEL_CAPTURE_STAT_BUSY 0 d1

end Sys2Proof.Machine
end

