-- ==== Sys2Proof/Machine/Bypass.lean ====
section
/-! DEFINITION. Optical circuit bypass (ch. 8): setting circuits up (R220 to R225), tearing them down (R226),
confirmation (R227), faults (R228), circuit plans (R229, R269) and candidates (R230, R231). -/

namespace Sys2Proof.Machine

/-! ### Fields of an entry (R219) -/

def cValid (ws : List W32) : Bool := wbit ws 0 31
def cPlan (ws : List W32) : Bool := wbit ws 0 30
def cWidth (ws : List W32) : Nat := wbits ws 0 27 26
def cPairs (ws : List W32) : Nat := wbits ws 0 25 24 + 1
def cConfirm (ws : List W32) : Nat := wbits ws 0 15 0
def cArmedDown (ws : List W32) : Bool := wbit ws 5 17

/-- Lanes of both ports of the chosen pair. -/
def circAllLanes (d : Dev) (i : Nat) : List Nat := (circLanes d i).flatMap (lanesOfPort d)

/-- DL and LL in ns (R222). -/
def drainLead (d : Dev) : Nat := 100 * rd d Page.byp Reg.BYP_BYP_CFG_DRAIN_LEAD
def lastLead (d : Dev) : Nat := 100 * rd d Page.byp Reg.BYP_BYP_CFG_LAST_LEAD

def matrixFaulted (d : Dev) : Bool := rdBit d Page.byp Reg.BYP_MATRIX_HEALTH_FAULT

/-! ### Choosing a pair (R187, R215, R220) -/

/-- The lane is an express lane (R215). -/
def isExpress (lane : Nat) : Bool := decide (lane % 16 < 4)

/-- The lane is in another entry that is armed to tearing down. -/
def laneTaken (d : Dev) (i lane : Nat) : Bool :=
  (circListed d).any (fun j =>
    decide (j ≠ i ∧ csArmed ≤ circState d j ∧ circState d j ≤ csTearing) && (circAllLanes d j).contains lane)

/-- A spare serves the lane. -/
def spareServes (d : Dev) (lane : Nat) : Bool := decide (carrier d lane ≠ lane)

/-- The first check of R220 that pair `k` fails. -/
def pairRefusal (d : Dev) (i k : Nat) : Option Nat :=
  let ws := circWords d i
  let a := circPairA ws k
  let b := circPairB ws k
  let lanes := lanesOfPort d a ++ lanesOfPort d b
  if !(isPort d a && isPort d b && decide (widthCode d a = cWidth ws) && decide (widthCode d b = cWidth ws)) then some 2
  else if lanes.any (fun l => !isExpress l) || decide (a = b) then some 2
  else if lanes.any (laneTaken d i) then some 3
  else if !(portUp d a && portUp d b) || lanes.any (spareServes d) then some 4
  else none

/-- PORT loads of the two regions of a pair (R187). -/
def pairLoad (d : Dev) (i k : Nat) : Nat :=
  let ws := circWords d i
  rd d Page.xbs (Reg.XBS_LOAD_PORT.idx (regionOf (circPairA ws k))) +
    rd d Page.xbs (Reg.XBS_LOAD_PORT.idx (regionOf (circPairB ws k)))

/-- Choose among the qualifying pairs by load, or refuse with the first failed check of pair 0 (R187, R220). -/
def choosePair (i : Nat) (d : Dev) : Option Nat × Dev :=
  let ok := (List.range (cPairs (circWords d i))).filter (fun k => (pairRefusal d i k).isNone)
  match ok with
  | [] => (pairRefusal d i 0, d)
  | k :: ks =>
    let best := ks.foldl (fun a b => if pairLoad d i b < pairLoad d i a then b else a) k
    (none, doIf (!ks.isEmpty) (bump Page.xbs Reg.XBS_CNT 5) (setCircBits i 19 18 best d))

/-! ### Commands (R225, R227, R229, R233) -/

/-- The outcome of a command in CIRC_CMD_STAT. -/
def circStat (result reason i : Nat) (d : Dev) : Dev :=
  wr Page.byp Reg.BYP_CIRC_CMD_STAT_RESULT result (wr Page.byp Reg.BYP_CIRC_CMD_STAT_REASON reason
    (wr Page.byp Reg.BYP_CIRC_CMD_STAT_INDEX i d))

/-- Refuse a command: its source is none for the collective engine's. -/
def circRefuse (src : Option Src) (i reason : Nat) (d : Dev) : Dev :=
  let d1 := setCircReason i reason (circStat 2 reason i d)
  let d2 := match src with
    | some s => setErr Page.byp 16 s 0x104 (circDetail i reason) d1
    | none => hwErr Page.byp 16 (circDetail i reason) d1
  raiseIrq Page.byp 18 (bump Page.byp Reg.BYP_CNT 2 d2)

/-- The next trigger slot with the circuit-switch action for an entry, and its time (R225, R378). -/
def circTrigger (d : Dev) (i : Nat) : Option Nat :=
  let ts := (tblListed d Page.tim 0).filterMap (fun e =>
    let ws := e.2
    if wbit ws 0 31 && decide (wbits ws 0 27 24 = 2) && decide (wbits ws 0 9 0 = i) &&
        decide (wbits ws 4 31 28 = 1 ∨ wbits ws 4 31 28 = 2) then some (word64 ws 1) else none)
  match ts with
  | [] => none
  | t :: rest => some (rest.foldl min t)

/-- A trigger is programmed for an armed entry with less than DL left: the entry is to fail (R225). -/
def circTriggerSet (now : W64) (i ns : Nat) (d : Dev) : Dev :=
  if circState d i = csArmed ∧ ns < fabricNs d now + drainLead d then
    updCirc i (fun c => { c with late := some ns }) d
  else d

/-- The drain starts with switch time `ts` (R221, R222). -/
def startCircDrain (i ts : Nat) (d : Dev) : Dev :=
  setCirc i { Circ.idle with ts := some ts } (setCircState i csDraining d)

/-- The teardown starts (R226): the matrix paths are released and the transmitters light the lanes. -/
def startTeardown (now : W64) (i : Nat) (d : Dev) : Dev :=
  let counted := decide (csSwitching ≤ circState d i ∧ circState d i ≤ csConfirmed)
  let d1 := setCircBits i 17 17 0 (setCircState i csTearing d)
  let d2 := setCirc i Circ.idle d1
  let f := Reg.BYP_MATRIX_STAT_CIRCUITS
  let d3 := doIf counted (fun d => wr Page.byp f (rd d Page.byp f - 1) d) d2
  forEach (circAllLanes d3 i) (fun l d => emit (.light l true) d) (bump Page.byp Reg.BYP_CNT 1 d3)

/-- Why a SETUP is refused before its pairs are checked. -/
def setupRefusal (d : Dev) (plan : Bool) (i : Nat) : Option Nat :=
  let ws := circWords d i
  let st := circState d i
  if matrixFaulted d then some 0xA
  else if !cValid ws then some 1
  else if cPlan ws != plan then some 5
  else if (st ≠ csIdle ∧ st ≠ csFailed) || !accepting d Page.byp then some 0xB
  else none

/-- SETUP with switch time `ts`, or armed for its trigger. -/
def circSetup (now : W64) (src : Option Src) (i : Nat) (ts : Option Nat) (d : Dev) : Dev :=
  match setupRefusal d src.isNone i with
  | some r => circRefuse src i r d
  | none =>
    let c := choosePair i d
    match c.1 with
    | some r => circRefuse src i r c.2
    | none =>
      let d1 := setCircBits i 17 17 0 (circStat 1 0 i c.2)
      match ts with
      | some t => startCircDrain i t d1
      | none =>
        let d2 := setCirc i Circ.idle (setCircState i csArmed d1)
        match circTrigger d2 i with
        | some t => circTriggerSet now i t d2
        | none => d2

/-- TEARDOWN, at once or at the entry's trigger. -/
def circTeardown (now : W64) (src : Option Src) (i : Nat) (timed : Bool) (d : Dev) : Dev :=
  let ws := circWords d i
  let st := circState d i
  if !cValid ws then circRefuse src i 1 d
  else if cPlan ws != src.isNone then circRefuse src i 5 d
  else if st = csIdle ∨ st = csTearing ∨ st = csFailed then circRefuse src i 0xB d
  else
    let d1 := circStat 1 0 i d
    if st = csArmed then setCirc i Circ.idle (setCircState i csIdle d1)
    else if timed then setCircBits i 17 17 1 d1
    else if st = csUp ∨ st = csConfirmed then startTeardown now i d1
    else updCirc i (fun c => { c with tearAfterUp := true }) d1

/-- CONFIRM (R227). -/
def circConfirm (src : Src) (i : Nat) (d : Dev) : Dev :=
  let ws := circWords d i
  if !cValid ws then circRefuse (some src) i 1 d
  else if cPlan ws then circRefuse (some src) i 5 d
  else if circState d i ≠ csUp then circRefuse (some src) i 0xB d
  else setCircState i csConfirmed (circStat 1 0 i d)

/-- A write of CIRC_CMD (R234). -/
def circCommand (now : W64) (src : Src) (op : Nat) (timed : Bool) (i : Nat) (d : Dev) : Dev :=
  match op with
  | 1 => circSetup now (some src) i (if timed then none else some (fabricNs d now + drainLead d)) d
  | 2 => circTeardown now (some src) i timed d
  | 3 => circConfirm src i d
  | _ => d

/-! ### The handover (R222, R223, R225) -/

/-- CIRC_DRAIN_START: an armed entry's trigger is DL away; its pair is chosen now (R187, R225). -/
def circDrain (now : W64) (i : Nat) (d : Dev) : Dev :=
  if circState d i ≠ csArmed ∨ (d.circ i).late.isSome = true then d
  else
    match circTrigger d i with
    | none => d
    | some t =>
      if fabricNs d now + drainLead d < t then d
      else if matrixFaulted d then circFail i 0xA d
      else
        let c := choosePair i d
        match c.1 with
        | some r => circFail i r c.2
        | none => startCircDrain i t c.2

def execCircDrainStart (index : Nat) (s : State) :=
  effect (.circDrainStart index) (onDev (circDrain s.now index)) s

/-- CIRC_TRIGGER_LATE (R225). -/
def circLate (i : Nat) (d : Dev) : Dev :=
  if circState d i = csArmed ∧ (d.circ i).late.isSome = true then circFail i 6 d else d

def execCircTriggerLate (index : Nat) (s : State) := effect (.circTriggerLate index) (onDev (circLate index)) s

/-- The entry drains, and its switch time is at most `ns100` hundredths of a ns away. -/
def circNear (now : W64) (d : Dev) (i ns100 : Nat) : Bool :=
  match (d.circ i).ts with
  | some t => decide (circState d i = csDraining) && decide (t * 6553600 ≤ fabricAt d now * 100 + ns100 * 65536)
  | none => false

/-- CIRCUIT_FENCE: no new cell starts on either port (R222). -/
def circFence (now : W64) (i : Nat) (d : Dev) : Dev :=
  let guardT := ((circLanes d i).map (guardTime d)).foldl max 0
  if circNear now d i (100 * lastLead d + guardT) && !(d.circ i).fenced then
    forEach (circLanes d i) (fun l d => updPort l (fun p => { p with fence := true }) d)
      (updCirc i (fun c => { c with fenced := true }) d)
  else d

def execCircuitFence (index : Nat) (s : State) := effect (.circuitFence index) (onDev (circFence s.now index)) s

/-- Cells an egress flush of a port takes from its queues, its staging buffer and its framing. -/
def egressCells (d : Dev) (lane : Nat) : Nat :=
  ((d.sw.voqs.filter (fun e => voqEgress e.1 == lane)).map (fun e => e.2.norm.length + e.2.esc.length)).sum +
    stagedTotal d lane + ((d.port lane).txStream.filter (fun b => b.start && !b.time)).length

/-- CIRC_FLUSH: cells still queued or staged for either port are flushed, with DETAIL 0x00 (R222, R223). -/
def circFlush (now : W64) (i : Nat) (d : Dev) : Dev :=
  if circNear now d i (100 * lastLead d) && (d.circ i).fenced && !(d.circ i).flushed then
    forEach (circLanes d i) (fun l d =>
      let n := egressCells d l
      startFlush l (flushEgress l 0 (flushFraming l (bumpN Page.byp Reg.BYP_CNT 5 n d))))
      (updCirc i (fun c => { c with flushed := true }) d)
  else d

def execCircFlush (index : Nat) (s : State) := effect (.circFlush index) (onDev (circFlush s.now index)) s

/-- Cells of the codewords a port has sent and no ACK covers. -/
def replayCells (d : Dev) (lane : Nat) : Nat :=
  ((d.port lane).replay.map (fun cw => (cw.body.filter (fun b => b.start && !b.time)).length)).sum

/-- CIRC_REPLAY_CUT (R222): the codewords not acknowledged are dropped, their cells counted as lost. -/
def circCut (now : W64) (i : Nat) (d : Dev) : Dev :=
  if circNear now d i 10000 && (d.circ i).flushed && !(d.circ i).cut then
    forEach (circLanes d i) (fun l d =>
      updPort l (fun p => { p with replay := [], ackHeld := [], replayAt := none, ackNext := p.txSeq })
        (bumpN Page.byp Reg.BYP_CNT 6 (replayCells d l) d))
      (updCirc i (fun c => { c with cut := true }) d)
  else d

def execCircReplayCut (index : Nat) (s : State) := effect (.circReplayCut index) (onDev (circCut s.now index)) s

/-- CIRC_SWITCH: the express switches turn to the Trivet and the matrix paths are driven (R216, R222). -/
def circSwitch (now : W64) (i : Nat) (d : Dev) : Dev :=
  if circNear now d i 0 && (d.circ i).cut then
    let f := Reg.BYP_MATRIX_STAT_CIRCUITS
    let d1 := wr Page.byp f (rd d Page.byp f + 1) (setCircState i csSwitching d)
    let d2 := forEach (circLanes d1 i) (fun l d => updPort l (fun p => { p with suspended := true }) d) d1
    forEach (circAllLanes d2 i) (fun l d => emit (.light l false) d) d2
  else d

def execCircSwitch (index : Nat) (s : State) := effect (.circSwitch index) (onDev (circSwitch s.now index)) s

/-- CIRCUIT_UP: the paths have settled with light on all of them (R222); a TEARDOWN that waited goes on (R232). -/
def circUp (now : W64) (i : Nat) (d : Dev) : Dev :=
  if circState d i ≠ csSwitching then d
  else
    let c := d.circ i
    let d1 := setCircState i csUp d
    let d2 := setCirc i { c with upTick := now.toNat } (setCircWords i (setW64 (circWords d1 i) 6 (c.ts.getD 0)) d1)
    let d3 := raiseIrq Page.byp 16 (bump Page.byp Reg.BYP_CNT 0 d2)
    if c.tearAfterUp then startTeardown now i d3 else d3

def execCircuitUp (index : Nat) (s : State) := effect (.circuitUp index) (onDev (circUp s.now index)) s

/-- The circuit-switch action of a trigger (R225, R378): the Ts of the entry, or the start of its timed
teardown; whether it had an effect. -/
def circTriggerFire (now : W64) (i ns : Nat) (d : Dev) : Dev × Bool :=
  let st := circState d i
  if (st = csUp ∨ st = csConfirmed) ∧ cArmedDown (circWords d i) = true then (startTeardown now i d, true)
  else (d, decide ((d.circ i).ts = some ns ∧ csDraining ≤ st ∧ st ≤ csUp) || decide (st = csArmed))

/-! ### Teardown (R226) -/

/-- CIRC_LIGHT_RETURN: light at the local receivers; both ports enter SEARCH. -/
def lightReturn (now : W64) (i : Nat) (d : Dev) : Dev :=
  if circState d i = csTearing ∧ (d.circ i).lightBack = false then
    forEach (circLanes d i) (fun l d => if portUp d l then startSearch now l 0x10 d else d)
      (updCirc i (fun c => { c with lightBack := true }) d)
  else d

def execCircLightReturn (index : Nat) (s : State) :=
  effect (.circLightReturn index) (onDev (lightReturn s.now index)) s

/-- CIRCUIT_TEARDOWN_DONE: the entry is idle, even when a port stays out of UP. -/
def teardownDone (i : Nat) (d : Dev) : Dev :=
  if circState d i = csTearing ∧ (d.circ i).lightBack = true then
    raiseIrq Page.byp 17 (setCirc i Circ.idle (setCircState i csIdle d))
  else d

def execCircuitTeardownDone (index : Nat) (s : State) :=
  effect (.circuitTeardownDone index) (onDev (teardownDone index)) s

/-- A circuit is torn down for a cause (R227, R228). -/
def tearFor (now : W64) (i reason : Nat) (d : Dev) : Dev :=
  raiseIrq Page.byp 18 (startTeardown now i (setCircReason i reason d))

/-- CONFIRM_TIMEOUT (R227). -/
def confirmTimeout (now : W64) (i : Nat) (d : Dev) : Dev :=
  let us := cConfirm (circWords d i)
  if circState d i = csUp ∧ us ≠ 0 ∧ elapsed now (d.circ i).upTick (us * 1000) = true then
    bump Page.byp Reg.BYP_CNT 4 (tearFor now i 9 d)
  else d

def execConfirmTimeout (index : Nat) (s : State) :=
  effect (.confirmTimeout index) (onDev (confirmTimeout s.now index)) s

/-- The entry's paths are driven. -/
def circDriven (d : Dev) (i : Nat) : Bool := decide (csSwitching ≤ circState d i ∧ circState d i ≤ csConfirmed)

/-- PATH_POWER_LOSS (R228). -/
def pathLoss (now : W64) (i : Nat) (d : Dev) : Dev :=
  if circDriven d i then bump Page.byp Reg.BYP_CNT 7 (tearFor now i 8 d) else d

def execPathPowerLoss (index : Nat) (s : State) := effect (.pathPowerLoss index) (onDev (pathLoss s.now index)) s

/-- A circuit in handover fails (R228): a draining one's ports resume; a switching one's ports search again. -/
def failHandover (now : W64) (i reason : Nat) (d : Dev) : Dev :=
  if circState d i = csDraining then circFail i reason (resumePorts i d)
  else
    let f := Reg.BYP_MATRIX_STAT_CIRCUITS
    let d1 := forEach (circAllLanes d i) (fun l d => emit (.light l true) d) (wr Page.byp f (rd d Page.byp f - 1) d)
    circFail i reason (forEach (circLanes d1 i) (fun l d => if portUp d l then startSearch now l 0x10 d else d) d1)

/-- MATRIX_FAULT (R228). -/
def matrixFault (now : W64) (d : Dev) : Dev :=
  let p := Page.byp
  let d1 := wr p Reg.BYP_MATRIX_HEALTH_FAULT 1 (wr p Reg.BYP_MATRIX_HEALTH_READY 0 d)
  let d2 := raiseIrq p 20 (setErrs p [errUncorrectable, 17] 0 0 0 d1)
  forEach (circListed d2) (fun i d =>
    let st := circState d i
    if st = csUp ∨ st = csConfirmed then tearFor now i 0xA d
    else if st = csDraining ∨ st = csSwitching then failHandover now i 0xA d
    else d) d2

def execMatrixFault (s : State) := effect .matrixFault (onDev (matrixFault s.now)) s

/-! ### Abort and block reset (R232) -/

/-- Armed and draining entries return to idle and their ports resume. -/
def releaseCirc (i : Nat) (d : Dev) : Dev :=
  let st := circState d i
  if st = csArmed then setCirc i Circ.idle (setCircState i csIdle d)
  else if st = csDraining then setCirc i Circ.idle (setCircBits i 17 17 0 (setCircState i csIdle (resumePorts i d)))
  else d

def bypAbort (d : Dev) : Dev := forEach (circListed d) releaseCirc d

/-- A block reset tears every circuit down; the table keeps words 0 to 4, and a matrix fault clears (R228). -/
def bypReset (now : W64) (d : Dev) : Dev :=
  let d1 := forEach (circListed d) (fun i d =>
    if circDriven d i then startTeardown now i d else releaseCirc i d) d
  wr Page.byp Reg.BYP_MATRIX_HEALTH_FAULT 0 (wr Page.byp Reg.BYP_MATRIX_HEALTH_READY 1 d1)

/-! ### Circuit plans (R229, R269) -/

/-- A plan entry acts: it is VALID for the group, and both the group and its circuit have PLAN 1. -/
def planOf (d : Dev) (g i : Nat) : Option (Nat × Nat) :=
  let ws := tget d Page.col 3 i
  if wbit ws 0 31 && decide (wbits ws 0 15 0 = g) && cPlan (circWords d i) && gPlan (grp d g) then
    some (wbits ws 1 27 16, wbits ws 1 11 0)
  else none

/-- The entry holds a circuit a plan may tear down. -/
def planHolds (d : Dev) (i : Nat) : Bool :=
  decide (csArmed ≤ circState d i ∧ circState d i ≤ csConfirmed)

/-- The commands of a boundary: TEARDOWN of the entries whose DOWN_PHASE it is, SETUP of those whose UP_PHASE
it is, with Ts the boundary plus DL. -/
def planCommands (now : W64) (g k boundary : Nat) (d : Dev) : Dev :=
  forEach ((tblListed d Page.col 3).map Prod.fst) (fun i d =>
    match planOf d g i with
    | none => d
    | some (up, down) =>
      let d1 := if down = k then (if planHolds d i then circTeardown now none i false d else d) else d
      if up = k ∧ k ≠ 0 then circSetup now none i (some (boundary + drainLead d1)) d1 else d1) d

/-- PLAN_PHASE_BOUNDARY: phase `k` of the group's round is reached; phase 0 stands for the end of the round
(R269). -/
def planBoundary (now : W64) (g k : Nat) (d : Dev) : Dev :=
  if pageState d Page.col ≠ stRunning then d
  else
    match roundOf d g with
    | none => if k = 0 then planCommands now g 0 0 d else d
    | some r =>
      if k = 0 ∨ r.planDone.contains k = true ∨ phaseDue now d g k r = false then d
      else
        planCommands now g k (r.t0 + (k - 1) * gPhaseT (grp d g) * 10)
          (setRound g (some { r with planDone := r.planDone ++ [k] }) d)

def execPlanPhaseBoundary (group phase : Nat) (s : State) :=
  effect (.planPhaseBoundary group phase) (onDev (planBoundary s.now group phase)) s

/-! ### Candidates (R230, R231) -/

/-- Credit an increase to a pair: 256 counters with least-count replacement. -/
def tally (pair n : Nat) (l : List Cand) : List Cand :=
  if l.any (fun c => c.pair == pair) then
    l.map (fun c => if c.pair = pair then { c with sum := c.sum + n, flows := c.flows + 1 } else c)
  else if l.length < 256 then l ++ [{ pair := pair, sum := n, flows := 1 }]
  else
    let least := l.foldl (fun m c => min m c.sum) ((l.head?.map (fun c => c.sum)).getD 0)
    match l.find? (fun c => c.sum == least) with
    | some v => l.map (fun c => if c = v then { pair := pair, sum := least + n, flows := 1 } else c)
    | none => l

/-- A flow's identity, and what its snapshot holds. -/
def flowId (ws : List W32) : Nat := (wbits ws 1 31 0 * 2 ^ 32 + wbits ws 2 31 0) * 8 + wbits ws 0 24 22
def snapOf (ws : List W32) : Nat := flowId ws * 2 ^ 64 + word64 ws 3

/-- The increase of a flow's BYTES since the last window. -/
def flowGrowth (d : Dev) (i : Nat) (ws : List W32) : Nat :=
  let s := sget (konst 0) d.byp.snapshots i
  if s / 2 ^ 64 = flowId ws then word64 ws 3 - s % 2 ^ 64 else word64 ws 3

/-- The flows a window counts. -/
def countedFlow (d : Dev) (ws : List W32) : Bool :=
  wbit ws 0 31 && decide (rd d Page.byp Reg.BYP_CAND_CFG_TC / 2 ^ wbits ws 0 24 22 % 2 = 1)

/-- Words of a candidate (R231). -/
def candWords (c : Cand) : List W32 :=
  [BitVec.ofNat 32 (2 ^ 31 + c.pair), lo32 c.sum, hi32 c.sum, BitVec.ofNat 32 c.flows]

/-- CAND_WINDOW: the tally replaces the candidate table whole. -/
def candWindow (d : Dev) : Dev :=
  if pageState d Page.byp ≠ stRunning then d
  else
    let flows := tblListed d Page.fwd 2
    let l := (flows.filter (fun e => countedFlow d e.2)).foldl (fun l e =>
      let n := flowGrowth d e.1 e.2
      let pair := wbits e.2 2 29 18 * 4096 + wbits e.2 1 29 18
      if n = 0 then l else tally pair n l) []
    let big := l.filter (fun c => decide (rd d Page.byp Reg.BYP_CAND_CFG_MIN * 2 ^ 20 ≤ c.sum))
    let best := (sortBy (fun c => 2 ^ 64 - c.sum) big).take 64
    let d1 := forEach (List.range 64) (fun k d =>
      tset Page.byp 1 k (match best[k]? with | some c => candWords c | none => List.replicate 4 0) d) d
    let d2 := { d1 with byp := { d1.byp with
      snapshots := flows.foldl (fun m e => sset (konst 0) m e.1 (snapOf e.2)) [] } }
    let p := Page.byp
    let d3 := wr p Reg.BYP_CAND_STAT_WINDOWS (rd d2 p Reg.BYP_CAND_STAT_WINDOWS + 1)
      (wr p Reg.BYP_CAND_STAT_ENTRIES best.length d2)
    raiseIrq p 19 d3

def execCandWindow (s : State) := effect .candWindow (onDev candWindow) s

end Sys2Proof.Machine
end

