-- ==== Sys2Proof/Machine/Time.lean ====
section
/-! DEFINITION. Fabric time (ch. 13): rate changes and steps (R365 to R370), time exchange (R372, R373), the
servo's status (R374, R376), trigger slots (R377 to R380) and the PPS pins (R381). -/

namespace Sys2Proof.Machine

/-! ### Offset and rate (R365, R366) -/

/-- The tick at which a change written now takes effect. -/
def nextTick (now : W64) : W64 := now + 1

/-- A new RATE at a tick: the elapsed term joins OFFSET, ANCHOR is that tick (R366). -/
def reanchor (at' : W64) (rate : W32) (d : Dev) : Dev :=
  let term := timeTerm (rateOf d) (at' - d.tim.anchor).toInt
  wrWord Page.tim Reg.TIM_RATE_RATE.off rate
    { d with tim := { d.tim with offset := d.tim.offset + BitVec.ofInt 80 term, anchor := at' } }

/-- A step of the signed 48-bit value, in units of 2^-16 ns (R368). -/
def stepValue (ns : W32) (frac : Nat) : Int := signedOf 48 (ns.toNat * 65536 + frac % 65536)

/-! ### Trigger slots (R377 to R380) -/

def trigWords (d : Dev) (i : Nat) : List W32 := tget d Page.tim 0 i
def setTrigWords (i : Nat) (ws : List W32) (d : Dev) : Dev := tset Page.tim 0 i ws d
def trigState (ws : List W32) : Nat := wbits ws 4 31 28
def trigAction (ws : List W32) : Nat := wbits ws 0 27 24
def trigTarget (ws : List W32) : Nat := wbits ws 0 9 0

/-- When a handed slot fires, and whether late. -/
def fireTime (d : Dev) (i : Nat) : Option (Nat × Bool) := sget (konst none) d.tim.fireAt i

def setFireTime (i : Nat) (v : Option (Nat × Bool)) (d : Dev) : Dev :=
  { d with tim := { d.tim with fireAt := sset (konst none) d.tim.fireAt i v } }

/-- Notice of a slot in ns (R378). A circuit-switch slot that sets the Ts of an armed setup follows R225 and is
never late. -/
def trigNotice (d : Dev) (ws : List W32) : Nat :=
  if trigAction ws = 4 then 1000
  else if trigAction ws = 2 ∧ circState d (trigTarget ws) < csUp then 0
  else 100

/-- TRIGGER_HANDOFF (R379): at TIME_NS − 10 µs, or at once if less remains. With less than its notice left the
slot fires at the handoff plus the notice, late. -/
def handoff (now : W64) (i : Nat) (d : Dev) : Dev :=
  let ws := trigWords d i
  let t := word64 ws 1
  let f := fabricNs d now
  if trigState ws ≠ 1 ∨ f + 10000 < t then d
  else
    let late := decide (t < f + trigNotice d ws)
    setFireTime i (some (if late then f + trigNotice d ws else t, late)) (setTrigWords i (setWBits ws 4 31 28 2) d)

def execTriggerHandoff (slot : Nat) (s : State) :=
  effect (.triggerHandoff slot) (onDev (handoff s.now slot)) s

/-- Drive PPS_OUT high for a width in µs from now (R378, R381). -/
def pulse (now : W64) (us : Nat) (d : Dev) : Dev :=
  { d with tim := { d.tim with ppsPin := true, pulseEnd := max d.tim.pulseEnd (now.toNat + ticksOfNs (us * 1000)) } }

/-- The page of the block a slot acts on (R378). -/
def trigPage (ws : List W32) : Page :=
  match trigAction ws with
  | 1 => Page.fwd
  | 2 => Page.byp
  | 3 | 4 => Page.etm (trigTarget ws)
  | 5 => Page.tel
  | _ => Page.tim

/-- The action of a slot at fabric time `ns`; whether it had an effect (R378). On a block that is being reset it
has none (R461). -/
def trigAct (now : W64) (ns : Nat) (ws : List W32) (d : Dev) : Dev × Bool :=
  let t := trigTarget ws
  if pageState d (trigPage ws) = stAborting then (d, false)
  else match trigAction ws with
  | 1 => swapTrigger now d
  | 2 => circTriggerFire now t (word64 ws 1) d
  | 3 => if isPort d t then (launch t (wbits ws 0 22 16) d, true) else (d, false)
  | 4 => if isPort d t then (gateStartAt (hwErr (Page.etm t) 16) t ns d, true) else (d, false)
  | 5 => (capture now d, true)
  | 6 => (pulse now t d, true)
  | _ => (d, false)

/-- Fire a handed slot: its action, its record, its next state (R378 to R380). -/
def fireSlot (now : W64) (i ns : Nat) (late : Bool) (d : Dev) : Dev :=
  let p := Page.tim
  let ws := trigWords d i
  let r := trigAct now ns ws d
  let d1 := doIf (!r.2) (bump p Reg.TIM_CNT 8) r.1
  let period := wbits ws 3 31 0
  let ws1 := setW64 (setWBits (setWBits ws 4 27 27 (if late then 1 else 0)) 4 15 0 (wbits ws 4 15 0 + 1)) 5 (fabricNs d now)
  let ws2 := if period = 0 then setWBits ws1 4 31 28 3 else setWBits (setW64 ws1 1 (word64 ws 1 + period)) 4 31 28 1
  let d2 := setFireTime i none (setTrigWords i ws2 (bump p Reg.TIM_CNT 6 d1))
  let d3 := doIf (wbit ws 0 30) (raiseIrq p 17) d2
  doIf late (fun d => raiseIrq p 18 (bump p Reg.TIM_CNT 7 d)) d3

/-- TRIGGER_FIRE: fabric time has reached the slot's time. -/
def triggerFire (now : W64) (i : Nat) (d : Dev) : Dev :=
  match fireTime d i with
  | some (ns, late) =>
    if trigState (trigWords d i) = 2 ∧ ns ≤ fabricNs d now then fireSlot now i ns late d else d
  | none => d

def execTriggerFire (slot : Nat) (s : State) := effect (.triggerFire slot) (onDev (triggerFire s.now slot)) s

/-- Handed slots that a step forward passes fire at the step, in slot order, late (R386). -/
def firePassed (now : W64) (old : Nat) (d : Dev) : Dev :=
  forEach (List.range 64) (fun i d =>
    match fireTime d i with
    | some (ns, _) =>
      if trigState (trigWords d i) = 2 ∧ old < ns ∧ ns ≤ fabricNs d now then fireSlot now i ns true d else d
    | none => d) d

/-! ### Steps and SET (R368 to R370) -/

/-- A refused step. -/
def refuseStep (src : Option Src) (s : Int) (d : Dev) : Dev :=
  let p := Page.tim
  let d1 := bump p Reg.TIM_CNT 4 (wr p Reg.TIM_LAST_REFUSED_NS (unsignedOf 32 (s / 65536)) d)
  raiseIrq p 16 (match src with | some x => setErr p 16 x 0x12C 0 d1 | none => hwErr p 16 0 d1)

/-- Add a step to OFFSET. -/
def applyStep (now : W64) (s : Int) (d : Dev) : Dev :=
  let old := fabricNs d now
  let d1 := { d with tim := { d.tim with offset := d.tim.offset + BitVec.ofInt 80 s } }
  firePassed now old (bump Page.tim Reg.TIM_CNT 3 d1)

/-- The step lies within JUMP_LIMIT. -/
def withinLimit (d : Dev) (s : Int) : Bool :=
  decide (s.natAbs ≤ rd d Page.tim Reg.TIM_JUMP_LIMIT_NS * 65536)

/-- ADJ_CTL with GO 1 (R368): FORCE counts only from the PCI Express host. -/
def stepRequest (now : W64) (src : Src) (force : Bool) (frac : Nat) (d : Dev) : Dev :=
  let p := Page.tim
  let s := stepValue d.tim.adjNs frac
  let forced := force && decide (src = .pcie)
  let d1 := doIf (force && !forced) (setErr p 17 src 0x12C 0) d
  if forced then applyStep now s (bump p Reg.TIM_CNT 5 d1)
  else if withinLimit d1 s then applyStep now s d1
  else refuseStep (some src) s d1

/-- SET_CTL with GO 1 (R369): fabric time at the next tick. -/
def setTime (now : W64) (src : Src) (frac : Nat) (d : Dev) : Dev :=
  let p := Page.tim
  if src ≠ .pcie then setErr p 17 src 0x138 0 d
  else
    let old := fabricNs d now
    let term := timeTerm (rateOf d) (nextTick now - d.tim.anchor).toInt
    let target : Int := ((d.tim.setNs.toNat * 65536 + frac % 65536 : Nat) : Int)
    let d1 := { d with tim := { d.tim with offset := BitVec.ofInt 80 (target - term) } }
    firePassed now old (bump p Reg.TIM_CNT 5 d1)

/-- SNAP_CTL.GO (R367). -/
def snap (now : W64) (d : Dev) : Dev :=
  let p := Page.tim
  let f := fabricAt d now
  wr64 p Reg.TIM_SNAP_COUNTER now.toNat (wr64 p Reg.TIM_SNAP_NS (f / 65536) (wr p Reg.TIM_SNAP_FRAC_FRAC (f % 65536) d))

/-! ### The servo (R370, R374, R376) -/

def servoOn (d : Dev) : Bool := rdBit d Page.tim Reg.TIM_TIM_CFG_SERVO_EN
def isRoot (d : Dev) : Bool := rdBit d Page.tim Reg.TIM_TIM_CFG_ROOT

/-- Publish an offset estimate in units of 1/256 ns, and judge the lock by it (R374). -/
def estimate (now : W64) (e : Int) (d : Dev) : Dev :=
  let p := Page.tim
  let d1 := wr p Reg.TIM_SERVO_OFFSET_OFFSET (unsignedOf 32 e) d
  if isRoot d then d1
  else
    let ok := if e.natAbs ≤ 2560 then d1.tim.okTick.or (some now.toNat) else none
    let d2 := { d1 with tim := { d1.tim with okTick := ok } }
    if 5120 < e.natAbs ∧ rdBit d2 p Reg.TIM_TIM_STAT_LOCKED = true then
      raiseIrq p 21 (wr p Reg.TIM_TIM_STAT_LOCKED 0 d2)
    else d2

/-- The latest estimate. -/
def servoOffset (d : Dev) : Int := signedOf 32 (rd d Page.tim Reg.TIM_SERVO_OFFSET_OFFSET)

/-- SERVO_RATE_CHANGE (R366, R370); in holdover the servo keeps the last RATE (R376). -/
def servoRate (now : W64) (rate : W32) (d : Dev) : Dev :=
  if servoOn d && !isRoot d && !rdBit d Page.tim Reg.TIM_TIM_STAT_HOLDOVER then reanchor (nextTick now) rate d else d

def execServoRateChange (rate : W32) (s : State) :=
  effect (.servoRateChange rate) (onDev (servoRate s.now rate)) s

/-- SERVO_STEP (R370): the estimate falls by the step taken. -/
def servoStep (now : W64) (step : BitVec 48) (d : Dev) : Dev :=
  if !servoOn d || isRoot d then d
  else if withinLimit d step.toInt then
    estimate now (servoOffset d - step.toInt / 256) (applyStep now step.toInt d)
  else refuseStep none step.toInt d

def execServoStep (step : BitVec 48) (s : State) := effect (.servoStep step) (onDev (servoStep s.now step)) s

/-- SERVO_EN and ROOT as they now stand (R374): a root counts its 1 ms from when both are 1, and loses LOCKED
when either is cleared. -/
def servoBits (now : W64) (wasServo wasRoot : Bool) (d : Dev) : Dev :=
  let p := Page.tim
  let was := wasServo && wasRoot
  let is := servoOn d && isRoot d
  let d1 :=
    if was && !is then wr p Reg.TIM_TIM_STAT_LOCKED 0 { d with tim := { d.tim with okTick := none } } else d
  let d2 := if !was && is then { d1 with tim := { d1.tim with okTick := some now.toNat } } else d1
  if isRoot d2 then wr p Reg.TIM_TIM_STAT_HOPS 0 (wr p Reg.TIM_TIM_STAT_HOLDOVER 0 d2)
  else if wasRoot then wr p Reg.TIM_TIM_STAT_HOPS 255 d2
  else d2

/-- LOCKED (R374): the estimate, or ROOT with SERVO_EN, has held for 1 ms. -/
def locked (now : W64) (d : Dev) : Dev :=
  match d.tim.okTick with
  | some t => if servoOn d && elapsed now t 1000000 then wr Page.tim Reg.TIM_TIM_STAT_LOCKED 1 d else d
  | none => d

def execLocked (s : State) := effect .locked (onDev (locked s.now)) s

/-- HOLD_TIME in ns (R376). -/
def holdTime (d : Dev) : Nat := max 100000 (10000 * rd d Page.tim Reg.TIM_TIM_CFG_TX_PERIOD)

/-- HOLDOVER_ENTER (R376). -/
def holdover (now : W64) (d : Dev) : Dev :=
  let quiet := elapsed now (d.tim.syncTick.getD 0) (holdTime d)
  if isRoot d || rdBit d Page.tim Reg.TIM_TIM_STAT_HOLDOVER || !quiet then d
  else
    raiseIrq Page.tim 19 (wr Page.tim Reg.TIM_TIM_STAT_HOLDOVER 1 d)

def execHoldoverEnter (s : State) := effect .holdoverEnter (onDev (holdover s.now)) s

/-! ### TIME cells (R372, R373, R384) -/

/-- TIME_CELL_SEND: a TIME cell is due on an UP port. -/
def timeDue (lane : Nat) (d : Dev) : Dev :=
  if isPort d lane && portUp d lane && !(d.port lane).suspended && rdBit d Page.tim Reg.TIM_TIM_CFG_TX_EN then
    updPort lane (fun p => { p with timeDue := true }) d
  else d

def execTimeCellSend (lane : Nat) (s : State) := effect (.timeCellSend lane) (onDev (timeDue lane)) s

/-- Fields of a TIME cell's payload (R372), times in units of 2^-16 ns. -/
def tcFlag (c : Cell) (bit : Nat) : Bool := pb c 1 1 / 2 ^ bit % 2 == 1
def tcSeq (c : Cell) : Nat := pb c 2 3
def tcTx (c : Cell) : Nat := pb c 4 13

/-- Table words of an exchange (R384). -/
def exchangeWords (c : Cell) (t4 : Nat) : List W32 :=
  let t1 := pb c 16 25
  let t2 := pb c 26 35
  let t3 := tcTx c
  let ns := [t1, t2, t3, t4].flatMap (fun t => [lo32 (t / 65536), hi32 (t / 65536)])
  ns ++ [BitVec.ofNat 32 (t1 % 65536 * 65536 + t2 % 65536), BitVec.ofNat 32 (t3 % 65536 * 65536 + t4 % 65536),
    BitVec.ofNat 32 (2 ^ 31 + (if tcFlag c 7 then 2 ^ 30 else 0) + pb c 40 40 * 65536 + tcSeq c),
    BitVec.ofNat 32 (pb c 36 39)]

/-- The lowest HOPS of the SYNC neighbours with a valid exchange (R374). -/
def bestHops (d : Dev) : Nat :=
  ((tblListed d Page.tim 1).filter (fun e => wbit e.2 10 31 && wbit e.2 10 30)).foldl
    (fun m e => min m (wbits e.2 10 23 16)) 255

/-- The servo follows an exchange of a SYNC neighbour with the lowest HOPS (R373, R374). -/
def follow (now : W64) (c : Cell) (t4 : Nat) (d : Dev) : Dev :=
  let hops := pb c 40 40
  if !servoOn d || isRoot d || !tcFlag c 7 || decide (bestHops d < hops) then d
  else
    let t1 : Int := (pb c 16 25 : Nat)
    let t2 : Int := (pb c 26 35 : Nat)
    let t3 : Int := (tcTx c : Nat)
    let twice := (t2 - t1) - ((t4 : Int) - t3)
    let d1 := wr Page.tim Reg.TIM_TIM_STAT_HOPS (min 255 (hops + 1)) { d with tim := { d.tim with root := BitVec.ofNat 32 (pb c 36 39) } }
    estimate now (twice / 512) d1

/-- A good TIME cell (R372, R373). -/
def timeCellGood (now : W64) (lane : Nat) (f : Framed) (d : Dev) : Dev :=
  let c := f.cell
  let t4 := fabricAt d (BitVec.ofNat 64 f.rxTick) - rxDelay d lane
  let p := d.port lane
  let age := (p.tseq + 65536 - pb c 14 15) % 65536
  let exchange := tcFlag c 5 && decide (1 ≤ age ∧ age ≤ p.timeSent)
  let d1 := updPort lane (fun p => { p with peerTime := some (tcSeq c, tcTx c, t4) }) (bump Page.tim Reg.TIM_CNT 1 d)
  let d2 :=
    if tcFlag c 7 then
      wr Page.tim Reg.TIM_TIM_STAT_HOLDOVER 0 { d1 with tim := { d1.tim with syncTick := some now.toNat } }
    else d1
  if exchange then follow now c t4 (tset Page.tim 1 lane (exchangeWords c t4) d2) else d2

/-- TIME_CELL_RECEIVE: the link layer consumes the oldest TIME cell framed on a port (R372). -/
def timeCellReceive (now : W64) (lane : Nat) (d : Dev) : Dev :=
  match (d.port lane).framed.find? (fun f => isTime f.cell) with
  | none => d
  | some f =>
    let d1 := updPort lane (fun p => { p with framed := p.framed.erase f }) d
    if pb f.cell 0 0 ≠ 1 then bump Page.tim Reg.TIM_CNT 2 d1 else timeCellGood now lane f d1

def execTimeCellReceive (lane : Nat) (s : State) :=
  effect (.timeCellReceive lane) (onDev (timeCellReceive s.now lane)) s

/-! ### The PPS pins (R381) -/

def ppsIn (now : W64) (d : Dev) : Dev :=
  let p := Page.tim
  raiseIrq p 20 (bump p Reg.TIM_CNT 9
    (wr64 p Reg.TIM_PPS_IN_COUNTER now.toNat (wr64 p Reg.TIM_PPS_IN_NS (fabricNs d now) d)))

def execPpsInEdge (s : State) := effect .ppsInEdge (onDev (ppsIn s.now)) s

/-- PPS_OUT_PULSE: fabric time is within 2 ns of a whole second. -/
def ppsOut (now : W64) (d : Dev) : Dev :=
  let p := Page.tim
  if rdBit d p Reg.TIM_TIM_CFG_PPS_OUT_EN && decide ((fabricNs d now + 2) % 1000000000 ≤ 4) then
    pulse now (rd d p Reg.TIM_PPS_OUT_CFG_WIDTH) d
  else d

def execPpsOutPulse (s : State) := effect .ppsOutPulse (onDev (ppsOut s.now)) s

/-- PPS_OUT falls at the end of its pulse. -/
def ppsFall (now : W64) (d : Dev) : Dev :=
  if d.tim.ppsPin && decide (d.tim.pulseEnd ≤ now.toNat) then { d with tim := { d.tim with ppsPin := false } } else d

/-- An abort of TIM (R385): armed slots return to idle. -/
def timAbort (d : Dev) : Dev :=
  forEach (tblListed d Page.tim 0) (fun e d =>
    if trigState e.2 = 1 then setTrigWords e.1 (setWBits e.2 4 31 28 0) d else d) d

end Sys2Proof.Machine
end

