-- ==== Sys2Proof/Machine/Power.lean ====
section
/-! DEFINITION. Power, droop, ageing and thermal control (ch. 14): the budget of an interval and its sharing
(R387 to R401), changes of operating point (R392, R393), droops (R402, R403), ageing trims (R404, R405), the
temperature responses (R406) and energy per job (R407, R408). Powers are in mW; an interval's energy in units
of 10 nJ is the same number. -/

namespace Sys2Proof.Machine

/-! ### Operating points (R392) -/

def pointMv (p : Nat) : Nat := [800, 770, 740, 710, 670, 630, 600, 580].getD p 580

def Dev.rpwr (d : Dev) (r : Nat) : RegionPwr := sget (konst RegionPwr.reset) d.pmc.regions r

def updRpwr (r : Nat) (f : RegionPwr → RegionPwr) (d : Dev) : Dev :=
  { d with pmc := { d.pmc with regions := supd (konst RegionPwr.reset) d.pmc.regions r f } }

def trimFd (x : Nat) : Fd := Reg.PMC_AGE_TRIM_STEPS.idx x
def trimLimitFd (x : Nat) : Fd := Reg.PMC_AGE_TRIM_LIMIT.idx x

/-- The fastest and slowest points the controller may choose for a region (R393, R405). -/
def fastOf (d : Dev) (r : Nat) : Nat :=
  max (rd d Page.pmc (Reg.PMC_LP_LIMIT_FAST.idx r)) (if rdBit d Page.pmc (trimLimitFd r) then 1 else 0)

def slowOf (d : Dev) (r : Nat) : Nat := max (rd d Page.pmc (Reg.PMC_LP_LIMIT_SLOW.idx r)) (fastOf d r)

/-- A point within the region's limits. -/
def clampPoint (d : Dev) (r p : Nat) : Nat := min (slowOf d r) (max (fastOf d r) p)

/-- Voltage applied to a region at a point: the nominal voltage plus the trim that has taken effect (R392,
R404). -/
def appliedMv (d : Dev) (r p : Nat) : Nat :=
  pointMv p + 5 * (rd d Page.pmc (trimFd r) - if (d.rpwr r).trimDue then 1 else 0)

/-- Eighths of the clock that a region's four core blocks run, summed: a block whose spare is switching or
rebuilding runs all eight (R401). -/
def dutySum (d : Dev) (r duty : Nat) : Nat :=
  ((List.range 4).map (fun i => if (d.blk (4 * r + i)).failTick ≠ 0 then 8 else duty)).sum

/-- Predicted power of a region at a point and duty (R390). -/
def predicted (d : Dev) (m : PowerSample) (r p duty : Nat) : Nat :=
  let lp := lpOf d r
  let dyn := m.ladle.getD r 0 - Config.leakage r lp
  Config.leakage r p +
    dyn * (pointMhz p * appliedMv d r p ^ 2 * dutySum d r duty) /
      (pointMhz lp * appliedMv d r lp ^ 2 * dutySum d r (dutyOf d r))

/-! ### Changes of point (R393, R403) -/

/-- Decide a region's point: a change starts, or follows the one in progress; one that becomes due in a droop
is held (R403). -/
def decidePoint (r p : Nat) (d : Dev) : Dev :=
  let x := d.rpwr r
  match x.target with
  | some t => updRpwr r (fun x => { x with next := if t = p then none else some p }) d
  | none =>
    if lpOf d r = p then d
    else updRpwr r (fun x => { x with target := some p, held := x.held || droopActive d r }) d

/-- A change waits for no droop. -/
def changeFree (d : Dev) (r : Nat) : Bool := !droopActive d r && !(d.rpwr r).held

/-- POINT_CHANGE_DONE: the change in progress completes, with any trim that is due; a decision made meanwhile
starts the next change. With no change in progress, a due trim takes effect as a voltage-only change (R404). -/
def pointChangeDone (now : W64) (r : Nat) (d : Dev) : Dev :=
  if !changeFree d r then d
  else
    match (d.rpwr r).target with
    | some t =>
      bump Page.pmc Reg.PMC_CNT 2
        (updRpwr r (fun x => { x with target := x.next, next := none, trimDue := false })
          (wr (Page.region r) Reg.LDL_REGION_STAT_LP t (settleRegion now r d)))
    | none => updRpwr r (fun x => { x with trimDue := false }) d

def execPointChangeDone (region : Nat) (s : State) :=
  effect (.pointChangeDone region) (onDev (pointChangeDone s.now region)) s

/-! ### The budget (R389, R390) -/

/-- Samples kept: the longest averaging window. -/
def historyMax : Nat := 255000

def sustLen (d : Dev) : Nat := 1000 * rd d Page.pmc Reg.PMC_SUST_CFG_WINDOW
def peakLen (d : Dev) : Nat := 100 * rd d Page.pmc Reg.PMC_CAP_PEAK_WINDOW_MS

/-- Average of the latest `n` samples, over those measured since reset. -/
def averageOf (n : Nat) (l : List Nat) : Nat :=
  let w := l.take n
  if w.isEmpty then 0 else w.sum / w.length

def totalMw (m : PowerSample) : Nat :=
  m.ladle.sum + m.core.sum + m.tile.sum + m.d2d + m.memory + m.mgt + m.matrix

/-- Power of the domains that are never reduced. -/
def fixedMw (m : PowerSample) : Nat := m.core.sum + m.tile.sum + m.d2d + m.mgt + m.matrix

/-- PWR_NOW and PWR_AVG. -/
def measure (m : PowerSample) (d : Dev) : Dev :=
  let h := (totalMw m :: d.pmc.history).take historyMax
  let d1 := { d with pmc := { d.pmc with history := h } }
  let p := Page.pmc
  wr p Reg.PMC_PWR_AVG_PEAK_W (min 4095 (averageOf (peakLen d) h / 1000))
    (wr p Reg.PMC_PWR_AVG_SUST_W (min 4095 (averageOf (sustLen d) h / 1000))
      (wr p Reg.PMC_PWR_NOW_W (min 4095 (totalMw m / 1000)) d1))

/-- The sustained average lets the budget be the peak limit. -/
def peakBudget (d : Dev) : Bool :=
  decide (averageOf (sustLen d) d.pmc.history ≤
    (rd d Page.pmc Reg.PMC_CAP_SUST_W - rd d Page.pmc Reg.PMC_SUST_CFG_BURST_MARGIN) * 1000)

def budgetW (d : Dev) : Nat :=
  if peakBudget d then rd d Page.pmc Reg.PMC_CAP_PEAK_W else rd d Page.pmc Reg.PMC_CAP_SUST_W

/-! ### Sharing (R394 to R396) -/

/-- Points chosen, and whether memory was given less than its demand. -/
structure Share where
  points : List Nat
  limited : Bool
  deriving DecidableEq, Repr

def sumPoints (d : Dev) (m : PowerSample) (duty : Nat) (points : List Nat) : Nat :=
  ((points.zipIdx).map (fun x => predicted d m x.2 x.1 duty)).sum

/-- Compatible mode: memory first, then one point for all regions: the fastest within every LP_LIMIT that fits,
else the slowest. -/
def shareCompatible (d : Dev) (m : PowerSample) (room : Nat) : Share :=
  let compute := room - min m.memDemand room
  let all := fun p => (List.range 8).map (fun r => clampPoint d r p)
  let common := (List.range 8).filter (fun p => (List.range 8).all (fun r => clampPoint d r p == p))
  let pick := (common.find? (fun p => decide (sumPoints d m 8 (all p) ≤ compute))).getD (common.getLast?.getD 7)
  { points := all pick, limited := decide (room < m.memDemand) }

/-- A phase class's average of the latest 64 intervals in which it ran (R397). -/
def avgOf (l : List Nat) : Nat := if l.isEmpty then 0 else l.sum / l.length

def classOf (d : Dev) (cls : Nat) : Option (Nat × PhaseClass) :=
  (d.pmc.classes.filterMap (fun e => e.2.map (fun c => (e.1, c)))).find?
    (fun e => classCode e.2.group e.2.recipe == cls)

/-- Learned beat demand of a region (R397): beats per cell times the cells that arrived in the last interval,
over its classes. -/
def beatDemand (d : Dev) (r : Nat) : Nat :=
  ((d.pmc.arrivals.filter (fun e => decide (e.1 / 2 ^ 25 = r))).map (fun e =>
    match classOf d (e.1 % 2 ^ 25) with
    | some (_, c) => avgOf c.perCell * e.2 / 65536
    | none => 0)).sum

/-- Vector beats of a region in an interval at a point: 100 cores, 4 beats a cycle (R307, R334). -/
def vectorBeats (p : Nat) : Nat := 4000 * pointMhz p

/-- The slowest allowed point that covers the demand with 25 % margin; the fastest when none does. -/
def demandPoint (d : Dev) (r : Nat) : Nat :=
  let ok := (List.range 8).filter (fun p =>
    clampPoint d r p == p && decide (5 * beatDemand d r ≤ 4 * vectorBeats p))
  ok.getLast?.getD (fastOf d r)

/-- Retained units of a region's contexts. -/
def retainedUnits (d : Dev) (r : Nat) : Nat :=
  (((ctxList d).filter (fun e => e.2.region == r)).map (fun e => e.2.units)).sum

/-- The regions, fewest retained units first. -/
def regionOrder (d : Dev) : List Nat := sortBy (retainedUnits d) (List.range 8)

/-- Seven rounds over the regions: as many single steps as any point change needs. -/
def rounds (l : List Nat) : List Nat := (List.replicate 7 l).flatten

/-- One step slower at a time, in turn, until the total fits. -/
def stepSlower (d : Dev) (m : PowerSample) (compute : Nat) (points : List Nat) : List Nat :=
  (rounds (regionOrder d)).foldl (fun ps r =>
    let p := ps.getD r 7
    if sumPoints d m 8 ps ≤ compute ∨ slowOf d r ≤ p then ps else ps.set r (p + 1)) points

/-- One step faster at a time, in turn, while the total fits. -/
def stepFaster (d : Dev) (m : PowerSample) (compute : Nat) (points : List Nat) : List Nat :=
  (rounds (regionOrder d).reverse).foldl (fun ps r =>
    let p := ps.getD r 7
    let ps' := ps.set r (p - 1)
    if fastOf d r < p ∧ sumPoints d m 8 ps' ≤ compute then ps' else ps) points

/-- Native mode: each side its learned demand, or shares in proportion; what compute leaves goes to memory. -/
def shareNative (d : Dev) (m : PowerSample) (room : Nat) : Share :=
  let start := (List.range 8).map (demandPoint d)
  let want := sumPoints d m 8 start
  let compute :=
    if m.memDemand + want ≤ room then room - m.memDemand else room * want / (m.memDemand + want)
  let points := stepFaster d m compute (stepSlower d m compute start)
  { points := points, limited := decide (room - sumPoints d m 8 points < m.memDemand) }

def shareOf (d : Dev) (m : PowerSample) (room : Nat) : Share :=
  if rdBit d Page.pmc Reg.PMC_PMC_CFG_MODE then shareCompatible d m room else shareNative d m room

/-! ### Stages (R398 to R400) -/

/-- Memory power at guaranteed shares. -/
def guaranteed (m : PowerSample) : Nat := min m.memDemand Config.guaranteedMw

def slowPoints (d : Dev) : List Nat := (List.range 8).map (slowOf d)

/-- Predicted power with the stages up to `stage` in force, at a duty from stage 3 on. -/
def stagePower (d : Dev) (m : PowerSample) (sh : Share) (stage duty : Nat) : Nat :=
  fixedMw m + (if sh.limited ∨ 1 ≤ stage then guaranteed m else m.memDemand) +
    (if stage < 2 then sumPoints d m 8 sh.points
     else sumPoints d m (if stage < 3 then 8 else duty) (slowPoints d))

/-- The stage that the budget calls for. -/
def stageNeeded (d : Dev) (m : PowerSample) (sh : Share) (b : Nat) : Nat :=
  if stagePower d m sh 0 8 ≤ b then 0
  else if stagePower d m sh 1 8 ≤ b then 1
  else if stagePower d m sh 2 8 ≤ b then 2
  else if stagePower d m sh 3 1 ≤ b then 3
  else 5

/-- The largest duty that fits, at least 1. -/
def dutyFor (d : Dev) (m : PowerSample) (sh : Share) (b : Nat) : Nat :=
  ([8, 7, 6, 5, 4, 3, 2].find? (fun k => decide (stagePower d m sh 3 k ≤ b))).getD 1

def stageNow (d : Dev) : Nat := rd d Page.pmc Reg.PMC_PWR_STAT_STAGE

/-- The stage of the next interval, with the count of intervals in which the highest stage could be lifted: a
stage is left only after 1 ms at 5 % below the budget, and never while PMC is quiescing (R400, R411). -/
def stageNext (d : Dev) (m : PowerSample) (sh : Share) (b : Nat) (noRaise : Bool) : Nat × Nat :=
  let cur := stageNow d
  let need := stageNeeded d m sh b
  if cur ≤ need then (need, 0)
  else if noRaise || !decide (20 * stagePower d m sh (cur - 1) 1 ≤ 19 * b) then (cur, 0)
  else if d.pmc.liftable + 1 < 100 then (cur, d.pmc.liftable + 1)
  else (cur - 1, 0)

/-- PWR_STAT and the interrupts of stages newly taken (R398). -/
def showStage (old new b : Nat) (peak limited : Bool) (d : Dev) : Dev :=
  let p := Page.pmc
  let d1 := wr p Reg.PMC_PWR_STAT_BUDGET b (wrBit p Reg.PMC_PWR_STAT_PEAK_BUDGET peak d)
  let d2 := wr p Reg.PMC_PWR_STAT_STAGE new (wrBit p Reg.PMC_PWR_STAT_MEM_LIMITED (limited || decide (1 ≤ new)) d1)
  let d3 := wrBit p Reg.PMC_PWR_STAT_CAP_UNREACHABLE (decide (new = 5))
    (wrBit p Reg.PMC_PWR_STAT_ADMIT_STOP (decide (4 ≤ new)) d2)
  let d4 := doIf (decide (old < 3 ∧ 3 ≤ new)) (raiseIrq p 20) d3
  let d5 := doIf (decide (old < 4 ∧ 4 ≤ new)) (raiseIrq p 21) d4
  let d6 := doIf (decide (old < 5 ∧ new = 5)) (fun d => hwErr p 16 0 (raiseIrq p 16 d)) d5
  if new = 0 then d6 else bump p Reg.PMC_CNT (3 + new) d6

/-- The point a region is given: the share's, no faster than its thermal steps allow (R406); no faster than now
while PMC is quiescing (R411); one step slower at most while stages are being left (R400). -/
def givenPoint (d : Dev) (noRaise easing : Bool) (r p : Nat) : Nat :=
  let x := d.rpwr r
  let now := x.next.getD (x.target.getD (lpOf d r))
  let p1 := min (slowOf d r) (max p x.floor)
  let p2 := if noRaise then max now p1 else p1
  if easing then min p2 (now + 1) else p2

/-- PMC takes part in the allocation (R411). -/
def pmcWorks (d : Dev) : Bool := decide (pageState d Page.pmc = stRunning ∨ pageState d Page.pmc = stQuiesced)

/-- Voruir's allocation for the next interval (R390 to R400). -/
def allocate (now : W64) (m : PowerSample) (d : Dev) : Dev :=
  let noRaise := !accepting d Page.pmc
  let bW := budgetW d
  let b := bW * 1000
  let sh := shareOf d m (b - fixedMw m)
  let old := stageNow d
  let st := stageNext d m sh b noRaise
  let new := st.1
  let easing := if old < new then false else decide (new < old) || (d.pmc.easing && decide (old ≤ new))
  let duty := if new < 3 then 8 else if new = 3 then dutyFor d m sh b else 1
  let points := if 2 ≤ new then slowPoints d else sh.points
  let d1 := { d with pmc := { d.pmc with liftable := st.2, easing := easing, missed := 0 } }
  let d2 := showStage old new bW (peakBudget d) sh.limited d1
  forEach (List.range 8) (fun r d =>
    decidePoint r (givenPoint d noRaise (easing && decide (new < 2)) r (points.getD r 7))
      (wr (Page.region r) Reg.LDL_REGION_STAT_DUTY (if noRaise then min duty (dutyOf d r) else duty) (settleRegion now r d))) d2

/-! ### Energy (R407, R408) -/

/-- The job slot of a job, if one counts for it. -/
def jobSlot (d : Dev) (job : Nat) : Option Nat :=
  ((tblListed d Page.pmc 0).find? (fun e => wbit e.2 0 31 && decide (wbits e.2 0 15 0 = job))).map Prod.fst

/-- Energy not attributed to a job. -/
def addUnattributed (e : Nat) (d : Dev) : Dev :=
  let t := d.pmc.unattributed + e
  bumpN Page.pmc Reg.PMC_CNT 9 (t / 100) { d with pmc := { d.pmc with unattributed := t % 100 } }

/-- Add energy to a 64-bit word pair of a job slot, carrying what is below 1 µJ. -/
def addEnergy (i k e : Nat) (d : Dev) : Dev :=
  let key := 4 * i + k / 2
  let t := sget (konst 0) d.pmc.energyFrac key + e
  let ws := tget d Page.pmc 0 i
  tset Page.pmc 0 i (setW64 ws k (word64 ws k + t / 100))
    { d with pmc := { d.pmc with energyFrac := sset (konst 0) d.pmc.energyFrac key (t % 100) } }

/-- Attribute energy to a job: TOTAL_UJ and the part in words `k` and `k + 1`. -/
def addJob (job k e : Nat) (d : Dev) : Dev :=
  match jobSlot d job with
  | some i => addEnergy i k e (addEnergy i 1 e d)
  | none => addUnattributed e d

/-- Beats of a region in this interval, by class and job. -/
def beatsIn (d : Dev) (r : Nat) : List (Nat × Nat × Nat) :=
  (d.pmc.beats.filter (fun e => decide (e.1 / 2 ^ 42 = r))).map
    (fun e => (e.1 / 2 ^ 17 % 2 ^ 25, e.1 % 2 ^ 17, e.2))

def beatTotal (d : Dev) (r : Nat) : Nat := ((beatsIn d r).map (fun x => x.2.2)).sum

/-- A region's Ladle energy, by beats; rounding and beats of no job go to UNATTRIBUTED. -/
def shareLadle (m : PowerSample) (r : Nat) (d : Dev) : Dev :=
  let e := m.ladle.getD r 0
  let total := beatTotal d r
  let parts := (beatsIn d r).map (fun x => (x.2.1, e * x.2.2 / total))
  let d1 := forEach parts (fun x d => if x.1 < 65536 then addJob x.1 3 x.2 d else addUnattributed x.2 d) d
  addUnattributed (e - (parts.map Prod.snd).sum) d1

/-- The energy of switch cores, tiles and D2D, by cells moved. -/
def shareSwitch (m : PowerSample) (d : Dev) : Dev :=
  let e := m.core.sum + m.tile.sum + m.d2d
  let parts := d.pmc.jobCells.map (fun x => (x.1, e * x.2 / d.pmc.cellsMoved))
  let d1 := forEach parts (fun x d => addJob x.1 5 x.2 d) d
  addUnattributed (e - (parts.map Prod.snd).sum) d1

/-- The energy of one interval. -/
def shareEnergy (m : PowerSample) (d : Dev) : Dev :=
  addUnattributed (m.memory + m.mgt + m.matrix)
    (shareSwitch m (forEach (List.range 8) (shareLadle m) d))

/-! ### Learning (R397) -/

/-- Classes that ran in this interval. -/
def classesRan (d : Dev) : List Nat :=
  ((d.pmc.beats.map (fun (e : Nat × Nat) => e.1 / 2 ^ 17 % 2 ^ 25)) ++ (d.pmc.arrivals.map (fun (e : Nat × Nat) => e.1 % 2 ^ 25))).eraseDups.filter
    (fun c => c != 0)

/-- Vector beats of a class over the regions, beats and energy in all, and its cells. -/
def classVector (d : Dev) (cls : Nat) : Nat :=
  ((d.pmc.vectorBeats.filter (fun e => e.1 % 2 ^ 25 == cls)).map Prod.snd).sum

def classBeats (d : Dev) (cls : Nat) : Nat :=
  ((List.range 8).map (fun r => (((beatsIn d r).filter (fun x => x.1 == cls)).map (fun x => x.2.2)).sum)).sum

def classEnergy (d : Dev) (m : PowerSample) (cls : Nat) : Nat :=
  ((List.range 8).map (fun r =>
    m.ladle.getD r 0 * (((beatsIn d r).filter (fun x => x.1 == cls)).map (fun x => x.2.2)).sum / beatTotal d r)).sum

def classCells (d : Dev) (cls : Nat) : Nat :=
  ((d.pmc.arrivals.filter (fun e => e.1 % 2 ^ 25 == cls)).map Prod.snd).sum

def setClass (i : Nat) (c : Option PhaseClass) (d : Dev) : Dev :=
  { d with pmc := { d.pmc with classes := sset (konst none) d.pmc.classes i c } }

/-- One interval of a class: a new class takes the lowest free entry of the 256. -/
def learnClass (d0 : Dev) (m : PowerSample) (cls : Nat) (d : Dev) : Dev :=
  let fresh : PhaseClass := { group := (cls - 1) / 256, recipe := (cls - 1) % 256, perCell := [], perBeat := [], unseen := 0 }
  let place : Option (Nat × PhaseClass) :=
    match classOf d cls with
    | some e => some e
    | none => ((List.range 256).find? (fun i => decide (sget (konst none) d.pmc.classes i = none))).map (fun i => (i, fresh))
  let beats := classBeats d0 cls
  let cells := classCells d0 cls
  match place with
  | none => d
  | some (i, c) =>
    setClass i (some { c with
      unseen := 0,
      perCell := if cells = 0 then c.perCell else (classVector d0 cls * 65536 / cells :: c.perCell).take 64,
      perBeat := if beats = 0 then c.perBeat else (classEnergy d0 m cls * 65536 / beats :: c.perBeat).take 64 }) d

/-- Classes that did not run grow older; one not seen in 1,024 intervals is deleted. -/
def ageClass (ran : List Nat) (e : Nat × Option PhaseClass) (d : Dev) : Dev :=
  match e.2 with
  | some c =>
    if ran.contains (classCode c.group c.recipe) then d
    else setClass e.1 (if 1024 ≤ c.unseen + 1 then none else some { c with unseen := c.unseen + 1 }) d
  | none => d

def learn (m : PowerSample) (d : Dev) : Dev :=
  if !rdBit d Page.pmc Reg.PMC_PMC_CFG_LEARN_EN then d
  else
    let ran := classesRan d
    forEach ran (learnClass d m) (forEach d.pmc.classes (ageClass ran) d)

/-! ### The interval (R387, R390, R391) -/

/-- A controller pair runs Voruir (R391, R433, R456). -/
def voruirRuns (d : Dev) : Bool :=
  decide (rd d Page.mgt Reg.MGT_BOOT_STAT_STAGE = 2) &&
    [0, 1].any (fun p => !d.mgt.failedPairs.contains p &&
      decide (rd d Page.dbg Reg.DBG_HALT_STAT_HALTED / 2 ^ p % 2 = 0))

/-- The interval's counts start again. -/
def clearCounts (d : Dev) : Dev :=
  { d with pmc := { d.pmc with beats := [], vectorBeats := [], arrivals := [], cellsMoved := 0, jobCells := [] } }

/-- POWER_INTERVAL: measurement and energy, then Voruir's allocation; without Voruir an interval is missed. -/
def powerInterval (now : W64) (m : PowerSample) (d : Dev) : Dev :=
  let d1 := learn m (shareEnergy m (measure m d))
  let d2 :=
    if voruirRuns d1 && pmcWorks d1 then allocate now m d1
    else { d1 with pmc := { d1.pmc with missed := d1.pmc.missed + 1 } }
  clearCounts d2

def execPowerInterval (sample : PowerSample) (s : State) :=
  effect (.powerInterval sample) (onDev (powerInterval s.now sample)) s

/-- ALLOCATION_WATCHDOG (R391): five intervals without an allocation. -/
def allocationWatchdog (d : Dev) : Dev :=
  if d.pmc.missed < 5 then d
  else
    hwErr Page.pmc 17 0 (wr Page.pmc Reg.PMC_PWR_STAT_STAGE 2
      (forEach (List.range 8) (fun r d => decidePoint r 7 d) d))

def execAllocationWatchdog (s : State) := effect .allocationWatchdog (onDev allocationWatchdog) s

/-! ### Droop (R402, R403) -/

/-- DROOP_START: the region stretches; a change or trim pending or in progress is held. -/
def droopStart (now : W64) (r : Nat) (d : Dev) : Dev :=
  if droopActive d r then d
  else
    let act := rd d Page.pmc Reg.PMC_DROOP_STAT_ACTIVE
    let d1 := bump Page.pmc Reg.PMC_CNT 0 (wr Page.pmc Reg.PMC_DROOP_STAT_ACTIVE (act + 2 ^ r) (settleRegion now r d))
    updRpwr r (fun x => { x with droopStart := now.toNat, droopEnd := none,
                                  held := x.held || x.target.isSome || x.trimDue }) d1

def execDroopStart (region : Nat) (s : State) := effect (.droopStart region) (onDev (droopStart s.now region)) s

/-- Cycles a region runs in a number of ticks at half its clock. -/
def halfCycles (ticks mhz : Nat) : Nat := ticks * mhz / 3200

/-- DROOP_END: the clock returns to full speed; the stretched cycles are counted. -/
def droopEnd (now : W64) (r : Nat) (d : Dev) : Dev :=
  if !droopActive d r then d
  else
    let act := rd d Page.pmc Reg.PMC_DROOP_STAT_ACTIVE
    let n := halfCycles (ticksSince now (d.rpwr r).droopStart) (pointMhz (lpOf d r))
    bumpN Page.pmc Reg.PMC_CNT 1 n
      (updRpwr r (fun x => { x with droopEnd := some now.toNat })
        (wr Page.pmc Reg.PMC_DROOP_STAT_ACTIVE (act - 2 ^ r) (settleRegion now r d)))

def execDroopEnd (region : Nat) (s : State) := effect (.droopEnd region) (onDev (droopEnd s.now region)) s

/-- HELD_CHANGE_RESUME: 2 µs after the droop ended a held change goes on, and is counted. -/
def heldResume (now : W64) (r : Nat) (d : Dev) : Dev :=
  let x := d.rpwr r
  match x.droopEnd with
  | some t =>
    if x.held && !droopActive d r && elapsed now t 2000 then
      bump Page.pmc Reg.PMC_CNT 3 (updRpwr r (fun x => { x with held := false, droopEnd := none }) d)
    else d
  | none => d

def execHeldChangeResume (region : Nat) (s : State) :=
  effect (.heldChangeResume region) (onDev (heldResume s.now region)) s

/-! ### Temperature (R406) -/

/-- TEMP_MAX: the die with the hottest sensor, lower number first, and its reading. -/
def showTemp (d : Dev) : Dev :=
  let l := d.pmc.temps.filterMap (fun e => e.2.map (fun c => (e.1, c)))
  let best := l.foldl (fun b e =>
    match b with
    | some x => if x.2 < e.2 then some e else some x
    | none => some e) (none : Option (Nat × Int))
  match best with
  | some (die, c) =>
    wr Page.pmc Reg.PMC_TEMP_MAX_DIE die (wr Page.pmc Reg.PMC_TEMP_MAX_C (unsignedOf 8 (max (-128) (min 127 c))) d)
  | none => d

def setTemp (die : Nat) (c : Int) (d : Dev) : Dev :=
  showTemp { d with pmc := { d.pmc with temps := sset (konst none) d.pmc.temps die (some c) } }

def throttleC (d : Dev) : Int := (rd d Page.pmc Reg.PMC_TEMP_CFG_THROTTLE : Nat)

/-- A region steps one point slower than it is or is going to be, within its limit. -/
def thermalRegion (r : Nat) (d : Dev) : Dev :=
  let x := d.rpwr r
  let p := min (slowOf d r) (max x.floor (x.next.getD (x.target.getD (lpOf d r))) + 1)
  decidePoint r p (updRpwr r (fun x => { x with floor := p, hot := true }) d)

/-- THERMAL_STEP: the readings of a die's sensors at the 100 µs check. -/
def thermalStep (die : Nat) (readings : List Int) (d : Dev) : Dev :=
  match readings with
  | [] => d
  | t :: ts =>
    let top := ts.foldl max t
    let d1 := setTemp die top d
    let hot := decide (throttleC d1 ≤ top)
    let d2 := doIf hot (raiseIrq Page.pmc 18) d1
    if 2 ≤ die then d2
    else
      forEach ((List.range 4).map (fun i => 4 * die + i)) (fun r d =>
        if hot || ((d.rpwr r).hot && decide (throttleC d - 3 ≤ top)) then thermalRegion r d
        else updRpwr r (fun x => { x with hot := false, floor := 0 }) d) d2

def execThermalStep (die : Nat) (readings : List Int) (s : State) :=
  effect (.thermalStep die readings) (onDev (thermalStep die readings)) s

/-- TEMP_WARN: a sensor at or above WARN. -/
def tempWarn (die : Nat) (c : Int) (d : Dev) : Dev :=
  let d1 := setTemp die c d
  if ((rd d Page.pmc Reg.PMC_TEMP_CFG_WARN : Nat) : Int) ≤ c then raiseIrq Page.pmc 17 d1 else d1

def execTempWarn (die : Nat) (reading : Int) (s : State) :=
  effect (.tempWarn die reading) (onDev (tempWarn die reading)) s

/-- THERM_TRIP: THERM_TRIP_N is asserted until cold reset. -/
def thermTrip (die : Nat) (c : Int) (d : Dev) : Dev :=
  let d1 := setTemp die c d
  if 120 ≤ c then { d1 with pmc := { d1.pmc with thermTrip := true } } else d1

def execThermTrip (die : Nat) (reading : Int) (s : State) :=
  effect (.thermTrip die reading) (onDev (thermTrip die reading)) s

/-! ### Ageing (R404, R405) -/

/-- The journal's record of a trim: TYPE 0x02, the domain as KEY, STEPS and LIMIT as VALUE. -/
def journalTrim (x : Nat) (d : Dev) : Dev :=
  journalAdd 2 x false true [BitVec.ofNat 8 (rd d Page.pmc (trimFd x)), BitVec.ofNat 8 (rd d Page.pmc (trimLimitFd x))] d

/-- A Ladle domain past its eighth step loses LP0. -/
def ladleLimit (x : Nat) (d : Dev) : Dev :=
  raiseIrq Page.pmc 19 (journalTrim x (wr Page.pmc (trimLimitFd x) 1 d))

/-- A domain's trim rises by one step; a region's takes effect at its next change of point. -/
def raiseTrim (x : Nat) (d : Dev) : Dev :=
  let d1 := journalTrim x (wr Page.pmc (trimFd x) (rd d Page.pmc (trimFd x) + 1) d)
  if x < 8 then updRpwr x (fun p => { p with trimDue := true, held := p.held || droopActive d x }) d1 else d1

/-- AGEING_CHECK of a domain: regions 0 to 7, then the switch cores of dies A and B. -/
def ageingCheck (x : Nat) (slowed : Bool) (d : Dev) : Dev :=
  if !slowed then d
  else if rd d Page.pmc (trimFd x) < 8 then raiseTrim x d
  else if x < 8 then ladleLimit x d
  else hwErr Page.pmc errUncorrectable x (raiseIrq Page.pmc 19 d)

def execAgeingCheck (domain : Nat) (slowed : Bool) (s : State) :=
  effect (.ageingCheck domain slowed) (onDev (ageingCheck domain slowed)) s

/-! ### Abort (R411) -/

/-- An abort of PMC restarts the allocation from the present points and stage. -/
def pmcAbort (d : Dev) : Dev :=
  forEach (List.range 8) (fun r d => updRpwr r (fun x => { x with next := none }) d)
    { d with pmc := { d.pmc with liftable := 0, easing := false } }

end Sys2Proof.Machine
end

