-- ==== Sys2Proof/Machine/Secure.lean ====
section
/-! DEFINITION. The security processor and the journal (ch. 15): images and their checks (R426, R427), the
security commands (R428 to R430), the DBG page's commands and halts (R431 to R433), the journal's append,
compaction and replay (R434 to R436). -/

namespace Sys2Proof.Machine

/-! ### Fuses and keys (R427) -/

def currentOwner (d : Dev) : Option (List Byte) := d.mgt.ownerKeys.getLast?

/-- FUSE_STAT shows the fuses. -/
def syncFuses (d : Dev) : Dev :=
  let p := Page.mgt
  wrBit p Reg.MGT_FUSE_STAT_VENDOR_DEBUG_OFF d.mgt.vendorDebugOff
    (wr p Reg.MGT_FUSE_STAT_ENROLLED (2 ^ d.mgt.ownerKeys.length - 1)
      (wr p Reg.MGT_FUSE_STAT_MIN_SVN d.mgt.minSvn d))

/-! ### Images (R426, R427) -/

/-- Bytes of an image slot, and the offset of a slot in flash. -/
def slotSize : Nat := 32 * 2 ^ 20
def slotBase (slot : Nat) : Nat := slot % 2 * slotSize

/-- `n` bytes of flash from offset `a`. -/
def flashBytes (d : Dev) (a n : Nat) : List Byte := (List.range n).map (fun k => sget Config.flashByte d.mgt.flash (a + k))

/-- An image read through `get`: header fields. -/
structure Image where
  get : Nat → Nat → List Byte

def Image.svn (i : Image) : Nat := natOfLE (i.get 4 2)
def Image.len (i : Image) : Nat := natOfLE (i.get 8 4)
def Image.digest (i : Image) : List Byte := i.get 12 64

def slotImage (d : Dev) (slot : Nat) : Image := { get := fun a n => flashBytes d (slotBase slot + a) n }

/-- The first check of R427 that an image fails. -/
def imageFails (d : Dev) (i : Image) : Option Nat :=
  if natOfLE (i.get 0 4) ≠ 0x564F5255 ∨ slotSize - 4096 < i.len then some 1
  else if i.svn < d.mgt.minSvn then some 2
  else if i.digest ≠ digestBytes (Config.sha512 (i.get 4096 i.len)) then some 3
  else if !Config.edVerify Config.vendorKey i.digest (i.get 76 64) then some 4
  else
    match currentOwner d with
    | some key => if Config.edVerify key i.digest (i.get 140 64) then none else some 5
    | none => none

/-- The running image's slot. -/
def runningSlot (d : Dev) : Nat := rd d Page.mgt Reg.MGT_BOOT_STAT_SLOT

/-! ### The security buffers (R415) -/

def secIn (d : Dev) (a n : Nat) : List Byte := bar4Bytes d (0x90000 + a) n
def secOut (a : Nat) (bs : List Byte) (d : Dev) : Dev := setBar4 (0x91000 + a) bs d

/-! ### Security commands (R428) -/

def scENROLL : Nat := 1
def scSVN_COMMIT : Nat := 2
def scATTEST : Nat := 3
def scUNLOCK : Nat := 4
def scRELOCK : Nat := 5
def scEXTEND : Nat := 6
def scCHALLENGE : Nat := 7
def scUPDATE : Nat := 8

/-- What a command does: its refusal reason, or its effect. -/
abbrev SecResult := Except Nat (Dev → Dev)

/-- ENROLL: burns the next owner entry. -/
def secEnroll (d : Dev) : SecResult :=
  let key := secIn d 0 32
  if 4 ≤ d.mgt.ownerKeys.length then .error 4
  else
    let burn : Dev → Dev := fun d => syncFuses { d with mgt := { d.mgt with ownerKeys := d.mgt.ownerKeys ++ [key] } }
    match currentOwner d with
    | none => .ok burn
    | some owner =>
      let msg := digestBytes (Config.sha512 (key ++ bytesLE 8 Config.serial.toNat))
      if Config.edVerify owner msg (secIn d 32 64) then .ok burn else .error 1

/-- SVN_COMMIT: MIN_SVN rises to the running image's SVN. -/
def secSvn (_ : Dev) : SecResult :=
  .ok (fun d => syncFuses { d with mgt := { d.mgt with
    minSvn := max d.mgt.minSvn (rd d Page.mgt Reg.MGT_BOOT_STAT_SVN) } })

/-- The ATTEST report (R429): bytes 0 to 603, then its signature. -/
def attestBody (now : W64) (nonce : List Byte) (d : Dev) : List Byte :=
  bytesLE 4 0x54544149 ++ bytesLE 8 Config.serial.toNat ++ nonce ++ d.mgt.measure.flatMap digestBytes ++
    bytesLE 8 (fabricNs d now) ++ bytesLE 4 d.mgt.coldResets ++ (Config.identityKey ++ List.replicate 36 0).take 36

def secAttest (now : W64) (d : Dev) : SecResult :=
  let body := attestBody now (secIn d 0 32) d
  let sig := (Config.edSign (digestBytes (Config.sha512 body)) ++ List.replicate 64 0).take 64
  .ok (fun d => secOut 1024 ((Config.identityCert ++ List.replicate 512 0).take 512)
    (secOut 0 (body ++ sig ++ bytesLE 4 0) d))

/-- Why a debug token is refused (R430). -/
def tokenFails (d : Dev) (t : List Byte) : Option Nat :=
  let signer := natOfLE (t.drop 41 |>.take 1)
  let msg := digestBytes (Config.sha512 (t.take 44))
  let sig := t.drop 44 |>.take 64
  if t.take 8 ≠ bytesLE 8 Config.serial.toNat ∨ d.mgt.challenge ≠ some (t.drop 8 |>.take 32) then some 5
  else if signer = 0 then
    if !Config.edVerify Config.vendorKey msg sig then some 1
    else if d.mgt.vendorDebugOff then some 6 else none
  else
    match currentOwner d with
    | some key => if signer = 1 ∧ Config.edVerify key msg sig = true then none else some 1
    | none => some 3

/-- UNLOCK: the SCOPE of the token comes into force and M5 is extended. -/
def secUnlock (d : Dev) : SecResult :=
  let t := secIn d 0 108
  match tokenFails d t with
  | some r => .error r
  | none => .ok (fun d =>
      extendM 5 (digestBytes (Config.sha512 t))
        (wr Page.mgt Reg.MGT_DBG_STAT_UNLOCKED 1
          (wr Page.mgt Reg.MGT_DBG_STAT_SCOPE (natOfLE (t.drop 40 |>.take 1)) d)))

/-! ### Controller pairs (R433, R456) -/

def haltedMask (d : Dev) : Nat := rd d Page.dbg Reg.DBG_HALT_STAT_HALTED

/-- A controller pair can run Voruir. -/
def pairRuns (d : Dev) (p : Nat) : Bool := !d.mgt.failedPairs.contains p && decide (haltedMask d / 2 ^ p % 2 = 0)

/-- Voruir passes to the other pair when the active one cannot run and the other can. -/
def passVoruir (d : Dev) : Dev :=
  let a := d.mgt.activePair
  if pairRuns d a then d
  else if pairRuns d (1 - a) then { d with mgt := { d.mgt with activePair := 1 - a } } else d

/-- Halt the pairs of a mask and release the others (R433). -/
def setHalted (mask : Nat) (d : Dev) : Dev := passVoruir (wr Page.dbg Reg.DBG_HALT_STAT_HALTED mask d)

/-- Debug unlock ends: both pairs are released (R430, R433). -/
def relockDebug (d : Dev) : Dev :=
  setHalted 0 (wr Page.dbg Reg.DBG_HALT_CTL_HALT 0
    (wr Page.mgt Reg.MGT_DBG_STAT_UNLOCKED 0 (wr Page.mgt Reg.MGT_DBG_STAT_SCOPE 0 d)))

def secExtend (d : Dev) : SecResult :=
  let data := secIn d 0 64
  .ok (extendM 7 data)

/-- CHALLENGE: 32 fresh random bytes. -/
def secChallenge (d : Dev) : SecResult :=
  let bs := (List.range 4).flatMap (fun k => bytesLE 8 (Config.draw (d.ctl.draws + k)).toNat)
  .ok (fun d => secOut 0 bs { d with
    ctl := { d.ctl with draws := d.ctl.draws + 4 },
    mgt := { d.mgt with challenge := some bs } })

/-- UPDATE: the staged image goes to the slot that is not running, if it passes the checks of R427. -/
def secUpdate (mem : List Host.Cell) (d : Dev) : SecResult :=
  let src := rd d Page.mgt Reg.MGT_UPDATE_SRC_ADDR * 4096
  let len := rd d Page.mgt Reg.MGT_UPDATE_LEN_BYTES
  let img : Image := { get := fun a n => (List.range n).map (fun k => if a + k < len then memByte mem (src + a + k) else 0) }
  if len < 4096 + img.len ∨ slotSize < len ∨ stockpotSize < src + len then .error 7
  else
    match imageFails d img with
    | some _ => .error 7
    | none => .ok (fun d =>
        let base := slotBase (1 - runningSlot d)
        { d with mgt := { d.mgt with
            flash := ((memRead mem src len).zipIdx).foldl (fun m x => splace m (base + x.2) x.1) d.mgt.flash } })

/-- The command's outcome at its write. -/
def secOutcome (now : W64) (mem : List Host.Cell) (src : Src) (op : Nat) (d : Dev) : SecResult :=
  if (op = scENROLL ∨ op = scSVN_COMMIT) ∧ src = .inband then .error 2
  else if op = scENROLL then secEnroll d
  else if op = scSVN_COMMIT then secSvn d
  else if op = scATTEST then secAttest now d
  else if op = scUNLOCK then secUnlock d
  else if op = scRELOCK then .ok relockDebug
  else if op = scEXTEND then secExtend d
  else if op = scCHALLENGE then secChallenge d
  else secUpdate mem d

def secStat (result reason op : Nat) (d : Dev) : Dev :=
  let p := Page.mgt
  wr p Reg.MGT_SEC_STAT_RESULT result (wr p Reg.MGT_SEC_STAT_REASON reason (wr p Reg.MGT_SEC_STAT_OP op d))

/-- A write of SEC_CMD: the command is pending until SEC_CMD_DONE reports it. A challenge serves one UNLOCK. -/
def secCmd (now : W64) (mem : List Host.Cell) (src : Src) (op : Nat) (d : Dev) : Dev :=
  if op = 0 ∨ d.mgt.secPend ≠ none then d
  else
    let r := secOutcome now mem src op d
    let d1 := secStat 1 0 op d
    let d2 := if op = scUNLOCK then { d1 with mgt := { d1.mgt with challenge := none } } else d1
    match r with
    | .ok f => f { d2 with mgt := { d2.mgt with secPend := some (2, 0) } }
    | .error why => { d2 with mgt := { d2.mgt with secPend := some (3, why) } }

/-- SEC_CMD_DONE. -/
def secCmdDone (d : Dev) : Dev :=
  match d.mgt.secPend with
  | none => d
  | some (result, reason) =>
    let d1 := { d with mgt := { d.mgt with secPend := none } }
    raiseIrq Page.mgt 20 (secStat result reason (rd d Page.mgt Reg.MGT_SEC_STAT_OP) d1)

def execSecCmdDone (s : State) := effect .secCmdDone (onDev secCmdDone) s

/-! ### The DBG page (R431 to R433) -/

def dbgUnlocked (d : Dev) : Bool := rdBit d Page.mgt Reg.MGT_DBG_STAT_UNLOCKED
def dbgScope (d : Dev) (bit : Nat) : Bool := decide (rd d Page.mgt Reg.MGT_DBG_STAT_SCOPE / 2 ^ bit % 2 = 1)

/-- Writes other than to PAGE_OWNER, PAGE_IRQ and PAGE_ERR take effect (R431). -/
def dbgOpen (d : Dev) : Bool := dbgUnlocked d && dbgScope d 0

/-- A write discarded because debug is locked or SCOPE lacks the bit. -/
def dbgRefuse (src : Src) (off : Nat) (d : Dev) : Dev := setErr Page.dbg 16 src off 0 d

def dbgKey (die space w : Nat) : Nat := (die * 8 + space) * 2 ^ 24 + w

/-- The die is fenced or failed: a failed MID, the tile dies of a fenced region (R455, R456). -/
def dieDown (d : Dev) (die : Nat) : Bool :=
  let fencedRegion := fun t => decide (rd d Page.pkg Reg.PKG_CHIP_STAT_REGIONS_FENCED / 2 ^ t % 2 = 1)
  if die = 4 ∨ die = 5 then d.rst.midFailed.contains (die - 4)
  else if 6 ≤ die ∧ die < 14 then fencedRegion (die - 6)
  else decide (14 ≤ die ∧ die < 22) && fencedRegion (die - 14)

/-- Why a command is refused; 0 when it is not. -/
def dbgReason (d : Dev) (die space w : Nat) : Nat :=
  if Config.dbgProtected die space w then 2
  else if dieDown d die then 3
  else if !Config.dbgExists die space w ∨ (space = 2 ∧ die ≠ 23) then 1
  else 0

/-- A write of DBG_CMD: 1 READ, 2 WRITE. -/
def dbgCommand (src : Src) (op : Nat) (d : Dev) : Dev :=
  if op = 0 ∨ d.mgt.dbgCmd ≠ none then d
  else
    let p := Page.dbg
    let die := rd d p Reg.DBG_DBG_ADDR_DIE
    let space := rd d p Reg.DBG_DBG_ADDR_SPACE
    let w := rd d p Reg.DBG_DBG_ADDR_WORD
    let c : DbgCmd := { write := decide (op = 2), key := dbgKey die space w,
                        data := rdWord d p Reg.DBG_DBG_DATA_DATA.off, reason := dbgReason d die space w, src := src }
    wr p Reg.DBG_DBG_RESULT_RESULT 1 (wr p Reg.DBG_DBG_RESULT_REASON 0
      { d with mgt := { d.mgt with dbgCmd := some c } })

/-- What a word of internal state holds. -/
def dbgWordAt (d : Dev) (key : Nat) : W32 :=
  sget (fun k => Config.dbgWord (k / 2 ^ 27) (k / 2 ^ 24 % 8) (k % 2 ^ 24)) d.mgt.dbgWords key

def setDbgWord (key : Nat) (v : W32) (d : Dev) : Dev :=
  { d with mgt := { d.mgt with dbgWords := splace d.mgt.dbgWords key v } }

/-- DBG_CMD_DONE. -/
def dbgDone (d : Dev) : Dev :=
  match d.mgt.dbgCmd with
  | none => d
  | some c =>
    let p := Page.dbg
    let d1 := { d with mgt := { d.mgt with dbgCmd := none } }
    if c.reason ≠ 0 then
      raiseIrq p 16 (bump p Reg.DBG_CNT 1 (setErr p 17 c.src 0x108 c.reason
        (wr p Reg.DBG_DBG_RESULT_RESULT 3 (wr p Reg.DBG_DBG_RESULT_REASON c.reason d1))))
    else
      let d2 := if c.write then setDbgWord c.key c.data d1 else wrWord p Reg.DBG_DBG_DATA_DATA.off (dbgWordAt d1 c.key) d1
      raiseIrq p 16 (bump p Reg.DBG_CNT 0 (wr p Reg.DBG_DBG_RESULT_RESULT 2 d2))

def execDbgCmdDone (s : State) := effect .dbgCmdDone (onDev dbgDone) s

/-- A write of HALT_CTL (R433): without SCOPE bit 2 it is discarded. -/
def haltWrite (src : Src) (mask : Nat) (d : Dev) : Dev :=
  if !dbgScope d 2 then dbgRefuse src 0x110 d
  else setHalted (mask % 4) (wr Page.dbg Reg.DBG_HALT_CTL_HALT mask d)

/-- An abort of DBG ends a pending command (R431). -/
def dbgAbort (d : Dev) : Dev :=
  if d.mgt.dbgCmd = none then d
  else wr Page.dbg Reg.DBG_DBG_RESULT_RESULT 3 { d with mgt := { d.mgt with dbgCmd := none } }

/-! ### The journal (R434 to R436) -/

/-- JOURNAL_APPEND: a program that fails its read-back leaves a bad record, and the record is written again. -/
def journalAppend (type key : Nat) (value : List Byte) (delete readBackOk : Bool) (d : Dev) : Dev :=
  let v := value.take 4064
  let d1 :=
    if readBackOk then d else hwErr Page.mgt 18 0 (journalAdd type key delete false v d)
  journalAdd type key delete true v d1

def execJournalAppend (type key : Nat) (value : List Byte) (delete readBackOk : Bool) (s : State) :=
  effect (.journalAppend type key value delete readBackOk) (onDev (journalAppend type key value delete readBackOk)) s

/-- The keys of a half, first record first. -/
def journalKeys (h : Half) : List (Nat × Nat) := ((h.recs.filter (fun r => r.good)).map (fun r => (r.type, r.key))).eraseDups

/-- Copy the standing record of each key, then the commit record (R436). -/
def compactHalf (h : Half) (seq : Nat) : Half × Nat :=
  let keep := (journalKeys h).filterMap (fun k => if k.1 = 8 then none else standing h k.1 k.2)
  let step := fun (r : Half × Nat) (x : JRec) =>
    let x' := { x with seq := r.2 }
    ({ r.1 with recs := r.1.recs ++ [x'], fill := r.1.fill + recBytes x' }, r.2 + 1)
  let commit : JRec := { type := 8, delete := false, seq := 0, key := 0, value := bytesLE 4 (h.gen + 1), good := true }
  let r := (keep ++ [commit]).foldl step (Half.empty, seq)
  ({ r.1 with gen := h.gen + 1 }, r.2)

/-- COMPACTION, when the active half is 75 % full: the other half is active from its commit record on. -/
def compaction (d : Dev) : Dev :=
  let h := activeHalf d
  if 4 * h.fill < 3 * halfSize then d
  else
    let r := compactHalf h d.mgt.nextSeq
    let d1 := setActiveHalf Half.empty d
    let d2 := setActiveHalf r.1 { d1 with mgt := { d1.mgt with activeHalf := 1 - d1.mgt.activeHalf, nextSeq := r.2 } }
    raiseIrq Page.mgt 22 (bumpN Page.mgt Reg.MGT_CNT 10 r.1.recs.length (journalStat d2))

def execCompaction (s : State) := effect .compaction (onDev compaction) s

/-- The records before the first bad one (R435). -/
def goodPrefix : List JRec → List JRec
  | [] => []
  | r :: rs => if r.good then r :: goodPrefix rs else []

/-- Replay at a reset (R435): the half of the higher generation, cut at its first bad record; the records
discarded are counted, and the next append starts at the following 4 KiB boundary. -/
def replayJournal (d : Dev) : Dev :=
  let d1 := { d with mgt := { d.mgt with activeHalf := if d.mgt.half0.gen < d.mgt.half1.gen then 1 else 0 } }
  let h := activeHalf d1
  let good := goodPrefix h.recs
  let lost := h.recs.length - good.length
  let fill := (good.map recBytes).sum
  let h' := { h with recs := good, fill := if lost = 0 then h.fill else ceilDiv fill 4096 * 4096 }
  journalStat (bumpN Page.mgt Reg.MGT_CNT 11 lost (setActiveHalf h' d1))

/-- Ageing trims restored from the journal (R404, R443). -/
def restoreTrims (d : Dev) : Dev :=
  forEach (List.range 10) (fun x d =>
    match standing (activeHalf d) 2 x with
    | some r =>
      wr Page.pmc (trimFd x) (natOfLE (r.value.take 1)) (wr Page.pmc (trimLimitFd x) (natOfLE (r.value.drop 1 |>.take 1)) d)
    | none => d) d

end Sys2Proof.Machine
end

