-- ==== Sys2Proof/Machine/Commits.lean ====
section
/-! DEFINITION. Commits (R54 to R57): taking the staged values, the checks of each block, and what the values
do as they come into force at the block's boundary. -/

namespace Sys2Proof.Machine

/-! ### Listed encodings (R15) -/

/-- Every two-bit code of a value is below 3 (R100). -/
def pairsOk : Nat → Nat → Bool
  | 0, _ => true
  | n + 1, v => decide (v % 4 ≠ 3) && pairsOk n (v / 4)

def Enc.ok (e : Enc) (v : Nat) : Bool :=
  match e with
  | .any => true
  | .range lo hi => decide (lo ≤ v ∧ v ≤ hi)
  | .notRange lo hi => !decide (lo ≤ v ∧ v ≤ hi)
  | .pairsNot3 => pairsOk 8 v

/-- The field's value in a word is listed. -/
def Fld.ok (f : Fld) (w : W32) : Bool := f.enc.ok (bitsOf w f.hi f.lo)

def isWritable (f : Fld) : Bool := decide (f.acc ≠ .ro)

/-- A field of the class has an unlisted encoding in the word. -/
def badField (c : Cls) (r : RegDef) (w : W32) : Bool :=
  r.flds.any (fun f => decide (f.cls = c) && isWritable f && !f.ok w)

/-- The lowest offset of the taken words that holds an unlisted encoding. -/
def unlisted (p : Page) (l : List (Nat × W32)) : Option Nat :=
  (l.find? (fun e =>
    match p.regAt (e.1 % 4096) with
    | some r => badField .S r e.2
    | none => false)).map (fun e => e.1 % 4096)

/-! ### Consistency (RESULT 0x4) -/

/-- Port blocks of a tile whose width a commit changes while a lane of theirs is not DISABLED (R101). -/
def widthBlocked (d d' : Dev) (t : Nat) : Bool :=
  (List.range 8).any (fun k =>
    let lane := 128 * t + 16 * k
    decide (widthCode d lane ≠ widthCode d' lane) &&
      (List.range 16).any (fun i => decide (linkState d (lane + i) ≠ lsDisabled)))

/-- Offset of the first field of a set that disagrees, with the values of `d'` in force. -/
def disagrees (p : Page) (d d' : Dev) : Option Nat :=
  match p.blk with
  | .opt => if p.inst < 8 ∧ widthBlocked d d' p.inst = true then some 0x100 else none
  | .voq =>
    if [0, 1].any (fun die => decide (switchingUnits d' die < minReserve d' die + landingReserve d' die)) then some 0x120
    else none
  | .byp => if rd d' p Reg.BYP_BYP_CFG_DRAIN_LEAD < rd d' p Reg.BYP_BYP_CFG_LAST_LEAD then some 0x100 else none
  | .pmc =>
    if rd d' p Reg.PMC_CAP_PEAK_W < rd d' p Reg.PMC_CAP_SUST_W then some 0x104
    else
      ((List.range 8).find? (fun r =>
        decide (rd d' p (Reg.PMC_LP_LIMIT_SLOW.idx r) < rd d' p (Reg.PMC_LP_LIMIT_FAST.idx r)))).map (fun r => 0x130 + 4 * r)
  | _ => none

/-! ### Into force -/

/-- The staged fields of the taken words become active. -/
def activate (l : List (Nat × W32)) (d : Dev) : Dev :=
  forEach l (fun e d => { d with ctl := d.ctl.setWord e.1 (merge (d.ctl.word e.1) (maskAt .S e.1) e.2) }) d

/-- A committed RATE waits for its tick: the other words come into force as they stand (R366). -/
def activateTim (now : W64) (l : List (Nat × W32)) (d : Dev) : Dev :=
  let rateAt := Page.tim.base + Reg.TIM_RATE_RATE.off
  let d1 := activate (l.filter (fun e => e.1 != rateAt)) d
  let d2 := servoBits now (servoOn d) (isRoot d) d1
  match l.find? (fun e => e.1 == rateAt) with
  | some e => reanchor (nextTick now) e.2 d2
  | none => d2

/-- Shapers keep their tokens through a change of rate or burst, cut to the new burst (R199). -/
def activateEtm (now : W64) (lane : Nat) (l : List (Nat × W32)) (d : Dev) : Dev :=
  let d1 := activate l d
  forEach (List.range 8) (fun tc d' =>
    setShaper lane tc { tokens := min (classLevel now d lane tc) (classBurst d' lane tc * byteUnits), tick := now.toNat } d') d1

/-- A commit of the NBR fields starts SEARCH on a port that is HELD, and on its block's spare (R108, R111). -/
def leaveHeld (now : W64) (lane : Nat) (d : Dev) : Dev :=
  let s := spareOf lane
  let d1 :=
    if lane % 16 = 0 ∧ linkState d s = lsHeld then
      raiseIrq (Page.lnk s) 16 (updPort s (fun p => { p with sinceTick := now.toNat }) (setLinkState s lsSearch d))
    else d
  if linkState d1 lane = lsHeld then startSearch now lane (downReason d1 lane) d1 else d1

/-- A port that is UP and whose committed neighbour no longer matches its peer is held (R112); a HELD one leaves. -/
def judgeNeighbour (now : W64) (lane : Nat) (l : List (Nat × W32)) (d : Dev) : Dev :=
  let p := Page.lnk lane
  if !isPort d lane then d
  else if !portUp d lane then
    doIf (l.any (fun e => e.1 % 4096 == 0x104 || e.1 % 4096 == 0x108)) (leaveHeld now lane) d
  else if rd d p Reg.LNK_NBR_COORD_COORD ≠ rd d p Reg.LNK_PEER_COORD_COORD then holdPort now lane 6 d
  else if rd d p Reg.LNK_NBR_PORT_PORT ≠ rd d p Reg.LNK_PEER_PORT_PORT then holdPort now lane 7 d
  else d

/-- The taken words come into force with what their block does about them. -/
def comeIntoForce (now : W64) (p : Page) (l : List (Nat × W32)) (d : Dev) : Dev :=
  match p.blk with
  | .tim => activateTim now l d
  | .etm => activateEtm now p.inst l d
  | .lnk => judgeNeighbour now p.inst l (activate l d)
  | .voq => recomputeFree (activate l d)
  | .opt => recomputeFree (activate l d)
  | _ => activate l d

/-- A rejected commit applies nothing and restores every S field (R56). Its errors are the PAGE_COMMIT write's:
the owner's, since a change of owner discards a pending commit (R61). -/
def rejectCommit (p : Page) (result off : Nat) (d : Dev) : Dev :=
  let src := pageOwner d p
  let d1 := doIf (decide (result = 3)) (setErr p errBadEncoding src off 0) d
  endCommit p result (discardStaged p (wr p Reg.PAGE_COMMIT_STAT_REJ_OFFSET off (setErr p errCommitReject src 0x024 0 d1)))

/-- COMMIT_APPLY: the pending commit is judged and applied whole, or rejected whole. -/
def commitApply (now : W64) (p : Page) (d : Dev) : Dev :=
  if !commitPending d p then d
  else
    let l := commitSet d p
    match unlisted p l with
    | some off => rejectCommit p 3 off d
    | none =>
      match disagrees p d (activate l d) with
      | some off => rejectCommit p 4 off d
      | none => endCommit p 2 (comeIntoForce now p l d)

def execCommitApply (page : Page) (s : State) := effect (.commitApply page) (onDev (commitApply s.now page)) s

/-! ### Taking a commit (R55 to R57) -/

/-- The staged words become the pending commit's, and later writes belong to the next. -/
def takeCommit (p : Page) (tag : Nat) (d : Dev) : Dev :=
  let l := stagedOf d p
  let d1 := setCommitSet p l (discardStaged p d)
  syncBusy p (wr p Reg.PAGE_COMMIT_STAT_RESULT 1 (wr p Reg.PAGE_COMMIT_STAT_TAG tag d1))

/-- PAGE_COMMIT written with GO 1. -/
def commitWrite (src : Src) (p : Page) (tag : Nat) (d : Dev) : Dev :=
  if commitPending d p then setErr p errCommitReject src 0x024 0 d
  else if pageState d p = stAborting ∨ pageState d p = stFailed then
    endCommit p 5 (discardStaged p (wr p Reg.PAGE_COMMIT_STAT_TAG tag d))
  else takeCommit p tag d

end Sys2Proof.Machine
end

