-- ==== Sys2Proof/Machine/Tables.lean ====
section
/-! DEFINITION. The table access port (R68 to R72): what each table's entries show, which commands it takes,
its write checks and what a write does; the commands and their completion. A command is judged and acts when
TBL_CMD is written, and shows its result when it completes. -/

namespace Sys2Proof.Machine

/-! ### Commands (R69, R70) -/

def toREAD : Nat := 1
def toWRITE : Nat := 2
def toINSERT : Nat := 3
def toDELETE : Nat := 4
def toCMPWR : Nat := 5

/-- A command as TBL_CMD, TBL_IDX, TBL_CMP and TBL_DATA give it. -/
structure TblReq where
  src : Src
  page : Page
  table : Nat
  op : Nat
  index : Nat
  expect : W32
  data : List W32

/-- A command's outcome: the result, the entry acted on, what TBL_DATA takes, and the machine after it. -/
structure TblAns where
  result : Nat
  index : Nat
  data : Option (List W32)
  state : State

/-- The commands a table takes; none where the page has no such table. -/
def tblOps (p : Page) (t : Nat) : List Nat :=
  let full := [toREAD, toWRITE, toDELETE, toCMPWR]
  match p.blk, t with
  | .pkg, 0 | .mgt, 0 | .mgt, 2 | .tim, 1 | .byp, 1 | .col, 4 => [toREAD]
  | .voq, 0 | .voq, 1 | .voq, 2 => [toREAD]
  | .lnk, 1 => if p.inst = 0 then [toREAD] else []
  | .mgt, 1 => [toREAD, toINSERT, toDELETE]
  | .pmc, 0 => [toREAD, toINSERT, toDELETE, toCMPWR]
  | .pmc, 1 => [toREAD, toDELETE]
  | .fwd, 2 => [toREAD, toINSERT, toDELETE, toCMPWR]
  | .tim, 0 | .fwd, 0 | .fwd, 1 | .etm, 0 | .byp, 0 | .col, 0 | .col, 1 | .stk, 0 | .tel, 0 => full
  | .etm, 1 | .etm, 2 => if p.inst = 0 then [toREAD, toWRITE, toCMPWR] else []
  | .col, 2 => [toREAD, toWRITE]
  | .col, 3 => [toREAD, toWRITE, toDELETE]
  | .ldl, 0 => if p.inst = 0 then [toREAD, toWRITE] else if 8 ≤ p.inst then [toREAD] else []
  | .ldl, 1 | .ldl, 2 => if p.inst = 0 then [toREAD, toWRITE] else []
  | _, _ => []

/-! ### Standing host configuration of the journal (R435, R437) -/

/-- The keys of a half, first record first. -/
def standingRecs (h : Half) : List JRec := (journalKeys h).filterMap (fun k => standing h k.1 k.2)

def isHostType (t : Nat) : Bool := decide (0x10 ≤ t ∧ t ≤ 0x1F)

/-- Bytes of the standing host-configuration records but those of a key. -/
def hostBytes (h : Half) (type key : Nat) : Nat :=
  (((standingRecs h).filter (fun r => isHostType r.type && !(r.type == type && r.key == key))).map recBytes).sum

/-- A record as table 0x01 shows it: VALUE up to 56 bytes. -/
def journalWords (r : JRec) : List W32 :=
  let v := r.value.take 56
  [BitVec.ofNat 32 (r.type * 2 ^ 24 + v.length), BitVec.ofNat 32 r.key] ++
    (List.range 14).map (fun k => BitVec.ofNat 32 (natOfLE (v.drop (4 * k) |>.take 4)))

/-! ### Indexes -/

def tblCount (p : Page) (t : Nat) : Nat :=
  match p.blk, t with
  | .pkg, 0 => 256
  | .mgt, 0 => 1024
  | .mgt, 2 => 8
  | .pmc, 0 => 4096
  | .pmc, 1 => 256
  | .tim, 0 => 64
  | .tim, 1 => 1024
  | .lnk, 1 => d2dCount
  | .fwd, 0 | .fwd, 1 => 4096
  | .fwd, 2 => 1048576
  | .voq, 0 => 8388608
  | .voq, 1 => 65536
  | .voq, 2 => 8256
  | .etm, 0 => 512
  | .etm, 1 => 16384
  | .etm, 2 => 4096
  | .byp, 0 => 128
  | .byp, 1 => 64
  | .col, 0 | .col, 2 => 65536
  | .col, 1 => 4194304
  | .col, 3 => 128
  | .col, 4 => 4096
  | .ldl, 0 => if p.inst = 0 then 65536 else 100
  | .ldl, 1 => 1024
  | .ldl, 2 => 8
  | .stk, 0 => 4096
  | .tel, 0 => 256
  | _, _ => 0

/-- The index names an entry (R69 and the chapters' tables). -/
def tblIndexOk (d : Dev) (p : Page) (t i : Nat) : Bool :=
  match p.blk, t with
  | .mgt, 1 => decide (i < (standingRecs (activeHalf d)).length)
  | .voq, 0 => decide (i < 8388608) && isPort d (i / 8192) && isPort d (i / 8 % 1024)
  | .voq, 1 => decide (i < 65536) && isPort d (i / 8 % 1024)
  | .voq, 2 => decide (i < 8256) && (decide (8192 ≤ i) || isPort d (i / 8))
  | .tim, 1 => isPort d i
  | .ldl, 0 => decide (i < tblCount p t) && (decide (p.inst ≠ 0) || decide (i % 128 < 80))
  | _, _ => decide (i < tblCount p t)

/-! ### What a READ shows -/

/-- Which instances 32 w + k of a block request an interrupt (R418). -/
def requestWord (d : Dev) (i : Nat) : W32 :=
  match blockOfCode (i / 64) with
  | some b =>
    BitVec.ofNat 32 (((List.range 32).map (fun k =>
      let n := 32 * (i % 64) + k
      if decide (n < b.instances) && pageRequests d ⟨b, n⟩ then 2 ^ k else 0)).sum)
  | none => 0

/-- A session as table 0x02 shows it (R438). -/
def sessionWords (d : Dev) (i : Nat) : List W32 :=
  let x := sget (konst Session.closed) d.mgt.sessions i
  if x.opened then [BitVec.ofNat 32 (2 ^ 31 + x.port), x.peer, lo32 x.seqOut, lo32 x.seqIn]
  else List.replicate 4 0

/-- A phase class (R397): the layout is open (log 21); an empty entry shows zeros. -/
def classWords (d : Dev) (i : Nat) : List W32 :=
  match sget (konst none) d.pmc.classes i with
  | some c =>
    (List.range 16).map (fun k =>
      Config.classWord c.group c.recipe (avgOf c.perCell / 65536) (avgOf c.perBeat / 65536) k)
  | none => List.replicate 16 0

/-- Age of a head in units of 10 ns: 16 ticks each. -/
def headAge (now : W64) (l : List Box) : Nat :=
  match l with
  | b :: _ => ticksSince now b.rxTick / 16
  | [] => 0

/-- A VOQ (R189). -/
def voqWords (now : W64) (d : Dev) (k : Nat) : List W32 :=
  let v := d.voq k
  [BitVec.ofNat 32 v.norm.length, BitVec.ofNat 32 v.esc.length,
   BitVec.ofNat 32 (min (max (headAge now v.norm) (headAge now v.esc)) 0xFFFFFFFF)]

/-- The account of a source and class (R189). -/
def accountWords (d : Dev) (i : Nat) : List W32 :=
  let u := d.units (i / 8) (i % 8)
  [BitVec.ofNat 32 u.landing, BitVec.ofNat 32 u.minimum, BitVec.ofNat 32 u.shared]

/-- The context of a region's slot, if it is bound there. -/
def slotContext (d : Dev) (i : Nat) : Option (Nat × Context) :=
  (ctxList d).find? (fun e => e.2.bound && decide (e.2.region = i / 512 ∧ e.2.slot = i % 512))

/-- A resident context (R270). -/
def residentWords (d : Dev) (i : Nat) : List W32 :=
  match slotContext d i with
  | none => List.replicate 4 0
  | some (k, c) =>
    let st := match c.paging with
      | .goingOut => 3
      | .goingIn => 4
      | _ => match c.state with | .openS => 0 | .complete => 1 | .streaming => 2
    [BitVec.ofNat 32 (2 ^ 31 + st * 2 ^ 28 + keyPhase k * 2 ^ 24 + c.gen * 2 ^ 16 + keyGroup k),
     BitVec.ofNat 32 (c.chunk.getD 0), BitVec.ofNat 32 c.closed, BitVec.ofNat 32 c.units]

/-- The words of an entry as a READ shows them: stored words, and live ones where the chapter says so. -/
def entryWords (s : State) (p : Page) (t i : Nat) : List W32 :=
  let d := s.dev
  match p.blk, t with
  | .mgt, 0 => [requestWord d i]
  | .mgt, 1 => (((standingRecs (activeHalf d))[i]?).map journalWords).getD []
  | .mgt, 2 => sessionWords d i
  | .pmc, 1 => classWords d i
  | .voq, 0 => voqWords s.now d i
  | .voq, 1 => voqWords s.now d (voqKey (1024 + i / 8192) (i / 8 % 1024) (i % 8))
  | .voq, 2 => accountWords d i
  | .etm, 1 =>
    let b := polLevels s.now d i
    setW (setW (polWords d i) 4 (BitVec.ofNat 32 (b.1 / byteUnits))) 5 (BitVec.ofNat 32 (b.2 / byteUnits))
  | .etm, 2 => setW (tget d p 2 i) 2 (BitVec.ofNat 32 (aggLevel s.now d i / byteUnits))
  | .col, 1 => memberGet s i
  | .col, 4 => residentWords d i
  | .ldl, 0 =>
    if p.inst = 0 then recipeWords d (storeOf d (i / 128 % 256) (i / 32768)) (i / 128 % 256) (i % 128)
    else setW64 (tget d p 0 i) 4 (frontBeats s.now d (p.inst - 8) (i / 4) (i % 4))
  | .ldl, 2 => setW (tget d p 2 i) 8 (BitVec.ofNat 32 (tileUse d i))
  | _, _ => tget d p t i

/-- The stored entry has a parity error, or lies in a poisoned line (R70, R157, R345). -/
def entryBad (d : Dev) (p : Page) (t i : Nat) : Bool :=
  match p.blk, t with
  | .fwd, 2 => parityBad d 2 (i / 524288) i
  | .fwd, _ => parityBad d t 0 i || parityBad d t 1 i
  | .col, 1 => linePoisoned d (64 * i)
  | _, _ => false

/-- What finding it does (R157): a destination entry is reported for each bad copy, a flow entry cleared. -/
def foundBad (p : Page) (t i : Nat) (d : Dev) : Dev :=
  match p.blk with
  | .fwd =>
    if t = 2 then scrubSet (i / 524288) [i] d
    else forEach [0, 1] (fun die d => doIf (parityBad d t die i) (reportParity t die i) d) d
  | _ => d

/-! ### The words software writes -/

/-- Bits of word `k` that software writes; the rest is reserved or hardware's. -/
def tblMask (p : Page) (t k : Nat) : Nat :=
  match p.blk, t, k with
  | .pmc, 0, 0 => 0x8000FFFF
  | .tim, 0, 0 => 0xCF7F03FF
  | .tim, 0, 1 | .tim, 0, 2 | .tim, 0, 3 => 0xFFFFFFFF
  | .fwd, 2, 0 => 0xFFE00000
  | .fwd, 2, 6 => 0
  | .fwd, 2, _ => 0xFFFFFFFF
  | .fwd, _, 0 => 0x9FFFFFFF
  | .fwd, _, 6 => 0x3FF
  | .fwd, _, _ => 0x3FFFFFFF
  | .etm, 0, 0 => 0xFF
  | .etm, 0, 1 => 0x3FFFFFFF
  | .etm, 1, 0 | .etm, 1, 1 => 0x1FFFFF
  | .etm, 1, 2 | .etm, 1, 3 => 0xFFFFFF
  | .etm, 2, 0 => 0x1FFFFF
  | .etm, 2, 1 => 0xFFFFFF
  | .byp, 0, 0 => 0xCF00FFFF
  | .byp, 0, 1 | .byp, 0, 2 | .byp, 0, 3 | .byp, 0, 4 => 0xFFFFF
  | .col, 0, 0 => 0x8000FFFF
  | .col, 0, 1 => 0xFFFFF0FF
  | .col, 0, 2 => 0xFCFFFF00
  | .col, 0, 3 => 0x1FFFFFFF
  | .col, 0, 4 => 0x3FFFFF
  | .col, 0, 5 | .col, 0, 6 => 0x1FFFFF
  | .col, 0, 7 => 0x800FFFFF
  | .col, 1, 0 => 0x8000FFFF
  | .col, 1, 1 => 0xFFFFFFFF
  | .col, 3, 0 => 0x8000FFFF
  | .col, 3, 1 => 0x0FFF0FFF
  | .ldl, 0, _ => 0xFFFFFFFF
  | .ldl, 1, _ => 0xFFFFFFFF
  | .ldl, 2, 8 => 0
  | .ldl, 2, _ => 0xFFFFFFFF
  | .stk, 0, 0 => 0xF8FFFFFF
  | .stk, 0, _ => 0xFFFFFFFF
  | .tel, 0, 5 => 0
  | .tel, 0, _ => 0xFFFFFFFF
  | _, _, _ => 0

/-- TBL_DATA cut to the entry's length, with its reserved and hardware bits 0. -/
def newWords (p : Page) (t : Nat) (data : List W32) : List W32 :=
  (List.range (tblWords p t)).map (fun k => data.getD k 0 &&& BitVec.ofNat 32 (tblMask p t k))

/-- Words `a` to `b` from the first list, the others from the second. -/
def takeWords (a b : Nat) (new old : List W32) : List W32 :=
  (List.range old.length).map (fun k => if a ≤ k ∧ k ≤ b then word new k else word old k)

/-! ### Refusals (RESULT 0x6) -/

/-- No refusal; a plain one; or one that sets a BLOCK_ERR class with a detail. -/
inductive Refuse where
  | no
  | plain
  | err (cls detail : Nat)
  deriving DecidableEq, Repr

/-- Bank b may be written (R140). -/
def bankWritable (d : Dev) (b : Nat) : Bool :=
  let active := rd d Page.fwd Reg.FWD_EPOCH_STAT_ACTIVE
  (decide (active ≠ b) || decide (pageState d Page.fwd = stIdle)) &&
    decide (rd d Page.fwd (Reg.FWD_DRAIN_CELLS.idx b) = 0) &&
    !(rdBit d Page.fwd Reg.FWD_EPOCH_STAT_ARMED && decide (active ≠ b))

/-- Two entries differ only in word 0 bits [15:0]. -/
def healthOnly (old new : List W32) : Bool :=
  decide (old.drop 1 = new.drop 1) && decide (wbits old 0 31 16 = wbits new 0 31 16)

/-- OP and RED are listed and agree with the formats; RED is ignored where the operation reduces nothing
(R236). -/
def groupCheck1 (ws : List W32) : Bool :=
  let op := gOp ws
  let fmts := decide (gIn ws ≤ 5 ∧ gOut ws ≤ 5)
  let red :=
    if gRed ws ≤ 4 then decide (gIn ws ≠ 5 ∧ gOut ws ≠ 5)
    else decide (8 ≤ gRed ws ∧ gRed ws ≤ 13) && decide (gIn ws = 5 ∧ gOut ws = 5)
  decide (1 ≤ op ∧ op ≤ 6) && fmts && (decide (4 ≤ op) || red)

/-- HIGH_PREC, COMPRESSED and SFMT agree with the formats. -/
def groupCheck2 (ws : List W32) : Bool :=
  let blk := isBlockFmt (gIn ws) || isBlockFmt (gOut ws)
  (!gHigh ws || decide (gIn ws ≤ 1 ∧ gOut ws ≤ 1)) &&
    (if blk then gCompressed ws && decide (gSfmt ws = 1 ∨ gSfmt ws = 2) else decide (gSfmt ws = 0))

def groupCheck4 (ws : List W32) : Bool :=
  let n := gCount ws
  decide (1 ≤ n ∧ n ≤ 1048576 ∧ gBase ws + n ≤ 4194304 ∧ gRoot ws < n) &&
    decide (wbits ws 2 15 8 ≤ wbits ws 2 23 16)

def groupCheck5 (ws : List W32) : Bool :=
  let a2a := decide (gOp ws = gopA2A)
  (!a2a || decide (gCount ws ≤ 4096)) && (!gPlan ws || (a2a && decide (0 < gPhaseT ws)))

/-- The first check of R237 that fails. -/
def groupRefusal (d : Dev) (g : Nat) (ws : List W32) : Option Nat :=
  if !groupCheck1 ws then some 1
  else if !groupCheck2 ws then some 2
  else if gHigh ws && gCompressed ws then some 3
  else if !groupCheck4 ws then some 4
  else if !groupCheck5 ws then some 5
  else if gDraining (grp d g) || gResizing (grp d g) || groupBusy d g then some 6
  else none

/-- A member slot in use that its group still holds (R240). -/
def memberRefused (s : State) (i : Nat) : Bool :=
  let ent := memberGet s i
  let ws := grp s.dev (wbits ent 0 15 0)
  wbit ent 0 31 && ((gValid ws && decide (gBase ws ≤ i ∧ i < gBase ws + gCount ws)) || gDraining ws)

/-- The first check of R348 that fails. -/
def descRefusal (ws : List W32) : Option Nat :=
  let base := word64 ws 2
  let size := word64 ws 4
  let recipe := wbits ws 0 23 16
  if wbits ws 0 28 27 = 3 then some 1
  else if base % 4096 ≠ 0 ∨ size % 4096 ≠ 0 ∨ size < 4096 ∨ stockpotSize < base + size then some 2
  else if recipe ≤ 4 ∨ (6 ≤ recipe ∧ recipe ≤ 15) ∨ 32 ≤ recipe then none
  else some 3

/-- ACTION, TARGET and PERIOD of a trigger slot are listed (R377, R378). -/
def triggerListed (ws : List W32) : Bool :=
  let t := trigTarget ws
  let period := wbits ws 3 31 0
  (match trigAction ws with
    | 1 | 5 => decide (t = 0)
    | 2 => decide (t < 128)
    | 3 | 4 => true
    | 6 => decide (1 ≤ t ∧ t ≤ 1023)
    | _ => false) && decide (period = 0 ∨ 10000 ≤ period)

/-- Offset and number of a page's counters. -/
def counterRange (p : Page) : Nat × Nat :=
  match p.blk with
  | .pkg | .tim | .pmc => (0x180, 10)
  | .mgt | .col | .stk => (0x180, 12)
  | .opt => (0, 0)
  | .lnk | .byp => (0x180, 8)
  | .fwd => (0x180, 14)
  | .voq => (0x180, 9)
  | .xbs => (0x180, 6)
  | .etm => (0x200, 14)
  | .ldl => if p.inst < 8 then (0x340, 11) else (0x180, 20)
  | .tel => (0x180, 7)
  | .dbg => (0x180, 2)

/-- The page's hardware is present (R39). -/
def pagePresent (d : Dev) (p : Page) : Bool := p.exists && (decide (p.blk ≠ .etm) || isPort d p.inst)

/-- A watch names a counter (R466). -/
def watchNames (d : Dev) (addr : Nat) : Bool :=
  match pageOf addr with
  | some (p, off) =>
    let r := counterRange p
    pagePresent d p && decide (off % 8 = 0 ∧ r.1 ≤ off ∧ off < r.1 + 8 * r.2)
  | none => false

/-- Refusal of a WRITE, DELETE or CMPWR of an entry in its present state, or by the table's write checks. `new`
is the entry software writes. -/
def tblRefuse (s : State) (p : Page) (t op i : Nat) (new : List W32) : Refuse :=
  let d := s.dev
  let orPlain := fun (b : Bool) => if b then Refuse.plain else Refuse.no
  let orErr := fun (cls : Nat) (r : Option Nat) => match r with | some k => Refuse.err cls k | none => Refuse.no
  match p.blk, t with
  | .tim, _ =>
    let bad := decide (trigState (trigWords d i) = 2)
    if op = toDELETE then orPlain bad else orErr 18 (if bad || !triggerListed new then some i else none)
  | .fwd, 2 => .no
  | .fwd, _ =>
    orPlain (!bankWritable d t && !(decide (op = toCMPWR) && healthOnly (tget d p t i) new))
  | .etm, 0 => orPlain ((gateOf d p.inst).isSome && decide (activeList d p.inst = i / 256))
  | .byp, _ => orPlain (decide (circState d i ≠ csIdle ∧ circState d i ≠ csFailed))
  | .col, 0 => if op = toDELETE then orPlain (gDraining (grp d i)) else orErr 16 (groupRefusal d i new)
  | .col, 1 => orPlain (memberRefused s i)
  | .col, 3 =>
    let ws := grp d (wbits new 0 15 0)
    orPlain (decide (op = toWRITE) && gValid ws && gPlan ws)
  | .ldl, 0 =>
    let slot := i / 128 % 256
    orPlain (decide (slot < 32) || decide (32768 ≤ i) || isRetiring d slot || (d.ldl.cmd.map Prod.snd == some slot))
  | .ldl, 1 => orPlain (decide (0 < tileUse d (i / 128)))
  | .ldl, 2 => orPlain (decide (0 < tileUse d i))
  | .stk, _ => if op = toDELETE then .no else orErr 17 (descRefusal new)
  | .tel, _ =>
    if op = toDELETE then .no
    else orErr 16 (if wbit new 0 31 && !watchNames d (wbits new 0 27 0) then some i else none)
  | _, _ => .no

/-! ### Tiles (R296, R297, R324) -/

/-- Code `k` of the 32 codes a WRITE supplies, in the form of MODE. -/
def tileCode (mode : Nat) (data : List W32) (k : Nat) : Nat :=
  if mode = 0 then wbits data (k / 2) (16 * (k % 2) + 15) (16 * (k % 2))
  else if mode = 1 then wbits data (k / 4) (8 * (k % 4) + 7) (8 * (k % 4))
  else wbits data (k / 8) (4 * (k % 8) + 3) (4 * (k % 8))

/-- Words a WRITE supplies. -/
def tileForm (mode : Nat) : Nat := if mode = 0 then 16 else if mode = 1 then 8 else 4

/-- A coefficient, expanded to FP16, and its events. -/
def tileExpand (d : Dev) (t mode code : Nat) : Nat × List Nat :=
  let p := Page.region 0
  let zp := rd d p (Reg.LDL_TILE_CFG_ZP.idx t)
  let scale := rd d p (Reg.LDL_TILE_CFG_SCALE.idx t)
  match mode with
  | 0 => (code, [])
  | 1 => expandCode (signedOf 8 code) (signedOf 8 zp) scale
  | 2 => expandCode (signedOf 4 code) (signedOf 4 zp) scale
  | _ => (expandTable (wbits (tget d p 2 t) (code / 2) (16 * (code % 2) + 15) (16 * (code % 2))), [])

/-- Two coefficients to a word. -/
def packHalves : List Nat → List W32
  | a :: b :: r => BitVec.ofNat 32 (a + b * 2 ^ 16) :: packHalves r
  | [a] => [BitVec.ofNat 32 a]
  | [] => []

/-- M4 takes every tile write (R429). -/
def measureTile (t : Nat) (ws : List W32) (d : Dev) : Dev := extendM 4 (bytesLE 1 t ++ wordsBytes ws) d

/-- The device expands the coefficients; every region's cores take the FP16 result, and each region records the
expansion's events (R298, R324). -/
def tileWrite (i : Nat) (data : List W32) (d : Dev) : Dev :=
  let t := i / 128
  let mode := rd d (Page.region 0) (Reg.LDL_TILE_CFG_MODE.idx t)
  let es := (List.range 32).map (fun k => tileExpand d t mode (tileCode mode data k))
  let d1 := measureTile t (fitWords (tileForm mode) data) (tset (Page.region 0) 1 i (packHalves (es.map Prod.fst)) d)
  forEach (List.range 8) (fun r d =>
    recordEvents r { source := 2, gen := 0, id := 100 * r, chunk := 0 } (es.map Prod.snd) d) d1

/-! ### Writes of indexed tables -/

/-- A trigger slot is written (R377): armed if VALID, LATE cleared; a circuit-switch slot for an armed entry is
judged by its lead (R225). -/
def triggerWrite (now : W64) (i : Nat) (new : List W32) (d : Dev) : Dev :=
  let old := trigWords d i
  let ws := setWBits (setWBits (takeWords 0 3 new old) 4 31 28 (if wbit new 0 31 then 1 else 0)) 4 27 27 0
  let d1 := setFireTime i none (setTrigWords i ws d)
  if wbit ws 0 31 && decide (trigAction ws = 2) then circTriggerSet now (trigTarget ws) (word64 ws 1) d1 else d1

/-- A WRITE, or a CMPWR whose comparison holds. `data` is TBL_DATA, `new` the entry it spells. -/
def tblStore (p : Page) (t i : Nat) (data new : List W32) (s : State) : State :=
  let set := onDev (tset p t i new)
  match p.blk, t with
  | .pmc, 0 => onDev (fun d => tset p 0 i (takeWords 0 0 new (tget d p 0 i)) d) s
  | .tim, _ => onDev (triggerWrite s.now i new) s
  | .fwd, 2 => onDev (fun d => tset p 2 i (takeWords 0 5 new (tget d p 2 i)) d) s
  | .fwd, _ => onDev (segWritten t i) (set s)
  | .etm, 1 => onDev (fillPolicer s.now i) (set s)
  | .etm, 2 => onDev (fillAggregate s.now i) (set s)
  | .byp, _ => onDev (fun d => setCircWords i (takeWords 0 4 new (circWords d i)) d) s
  | .col, 0 => onDev (groupWrite s.now i new) s
  | .col, 1 => memberSet i new s
  | .col, 2 => onDev (stragClear i) s
  | .ldl, 0 =>
    let slot := i / 128 % 256
    let ws := if 64 ≤ i % 128 then setW new 1 0 else new
    onDev (fun d => tset p 0 (storeOf d slot 0 * 32768 + slot * 128 + i % 128) ws d) s
  | .ldl, 1 => onDev (tileWrite i data) s
  | .ldl, 2 => onDev (measureTile i (new.take 8)) (set s)
  | _, _ => set s

/-- A DELETE of an indexed entry: its empty encoding. -/
def tblErase (p : Page) (t i : Nat) (s : State) : State :=
  let zero := List.replicate (tblWords p t) (0 : W32)
  match p.blk, t with
  | .tim, _ => onDev (fun d => setFireTime i none (setTrigWords i zero d)) s
  | .fwd, _ => onDev (fun d => segWritten t i (tset p t i zero d)) s
  | .etm, _ => onDev (tset p 0 i (tblDefaultOf p 0 0)) s
  | .byp, _ => onDev (fun d => setCircWords i (setWBits (takeWords 0 4 zero (circWords d i)) 5 31 28 csIdle) d) s
  | .col, 0 => onDev (groupDelete s.now i) s
  | .col, 1 => memberSet i zero s
  | _, _ => onDev (tset p t i zero) s

/-! ### Keyed tables -/

/-- Index of the flow entry with the key of the words given, in its set (R151). -/
def flowFind (d : Dev) (ws : List W32) : Option Nat :=
  (flowSet (wbits ws 0 21 21) (flowHash (wbits ws 1 31 0) (wbits ws 2 31 0) (wbits ws 0 24 22))).find? (fun i =>
    feMatches (tget d Page.fwd 2 i) (wbits ws 1 31 0) (wbits ws 2 31 0) (wbits ws 0 24 22))

/-- The empty way of the set of that key. -/
def flowEmpty (d : Dev) (ws : List W32) : Option Nat :=
  (flowSet (wbits ws 0 21 21) (flowHash (wbits ws 1 31 0) (wbits ws 2 31 0) (wbits ws 0 24 22))).find? (fun i =>
    !wbit (tget d Page.fwd 2 i) 0 31)

def flowClear (i : Nat) (d : Dev) : Dev := tset Page.fwd 2 i (List.replicate 7 0) d

/-- The journal record that words 0 and 1 name. -/
def jType (ws : List W32) : Nat := wbits ws 0 31 24
def jKey (ws : List W32) : Nat := wbits ws 1 31 0
def jValue (ws : List W32) : List Byte := ((wordsBytes (fitWords 16 ws)).drop 8).take (min 56 (wbits ws 0 15 0))

/-- Index of a standing record. -/
def journalFind (d : Dev) (ws : List W32) : Option Nat :=
  (standingRecs (activeHalf d)).findIdx? (fun r => r.type == jType ws && r.key == jKey ws)

/-- A new job slot takes word 0 and energies of 0 (R407). -/
def jobNew (i : Nat) (w : W32) (d : Dev) : Dev :=
  let clear := fun (d : Dev) (k : Nat) =>
    { d with pmc := { d.pmc with energyFrac := sset (konst 0) d.pmc.energyFrac (4 * i + k) 0 } }
  tset Page.pmc 0 i (w :: List.replicate 6 0) ((List.range 4).foldl clear d)

/-- Index of a class by its key, which the words spell in a layout the spec leaves open (log 21). -/
def classFind (d : Dev) (ws : List W32) : Option Nat :=
  let key := Config.classKey ws
  (d.pmc.classes.find? (fun e =>
    match e.2 with
    | some c => c.group == key.1 && c.recipe == key.2
    | none => false)).map Prod.fst

def noKey (s : State) : TblAns := { result := 2, index := 0, data := none, state := s }
def noRoom (s : State) : TblAns := { result := 3, index := 0, data := none, state := s }
def done (i : Nat) (s : State) : TblAns := { result := 0, index := i, data := none, state := s }

/-- DELETE by key. -/
def keyedDelete (p : Page) (t : Nat) (data : List W32) (s : State) : TblAns :=
  match p.blk, t with
  | .fwd, _ =>
    match flowFind s.dev data with
    | some i => done i (onDev (flowClear i) s)
    | none => noKey s
  | .mgt, _ =>
    match journalFind s.dev data with
    | some i =>
      if isHostType (jType data) then done i (onDev (journalAdd (jType data) (jKey data) true true []) s)
      else { result := 6, index := i, data := none, state := s }
    | none => noKey s
  | .pmc, 0 =>
    match jobSlot s.dev (wbits data 0 15 0) with
    | some i => done i (onDev (jobNew i 0) s)
    | none => noKey s
  | _, _ =>
    match classFind s.dev data with
    | some i => done i (onDev (setClass i none) s)
    | none => noKey s

/-- INSERT by key. -/
def keyedInsert (p : Page) (t : Nat) (data : List W32) (s : State) : TblAns :=
  let new := newWords p t data
  match p.blk with
  | .fwd =>
    if !wbit new 0 31 then keyedDelete p t data s
    else
      match flowFind s.dev new, flowEmpty s.dev new with
      | some i, _ => done i (onDev (fun d => tset p 2 i (takeWords 0 5 new (tget d p 2 i)) d) s)
      | none, some i => done i (onDev (tset p 2 i new) s)
      | none, none => noRoom s
  | .mgt =>
    let r : JRec := { type := jType data, delete := false, seq := 0, key := jKey data, value := jValue data, good := true }
    let after := hostBytes (activeHalf s.dev) r.type r.key + recBytes r
    if isHostType r.type then
      if 64 * 2 ^ 20 < after then noRoom s
      else
        let s' := onDev (journalAdd r.type r.key false true r.value) s
        done ((journalFind s'.dev data).getD 0) s'
    else { result := 6, index := 0, data := none, state := s }
  | _ =>
    match jobSlot s.dev (wbits new 0 15 0), (List.range 4096).find? (fun i => !wbit (tget s.dev p 0 i) 0 31) with
    | some i, _ => done i (onDev (fun d => tset p 0 i (takeWords 0 0 new (tget d p 0 i)) d) s)
    | none, some i => done i (onDev (jobNew i (word new 0)) s)
    | none, none => noRoom s

def isKeyed (p : Page) (t : Nat) : Bool :=
  match p.blk, t with
  | .fwd, 2 | .mgt, 1 | .pmc, 0 | .pmc, 1 => true
  | _, _ => false

/-! ### Judging a command (R70) -/

/-- READ: the entry, with RESULT 0x5 where it is stored badly. -/
def tblRead (r : TblReq) (s : State) : TblAns :=
  let bad := entryBad s.dev r.page r.table r.index
  { result := if bad then 5 else 0, index := r.index, data := some (entryWords s r.page r.table r.index),
    state := if bad then onDev (foundBad r.page r.table r.index) s else s }

/-- The refusal's error, captured as the TBL_CMD write's. -/
def refuseErr (r : TblReq) (x : Refuse) (s : State) : State :=
  match x with
  | .err cls detail => onDev (setErr r.page cls r.src 0x040 detail) s
  | _ => s

/-- WRITE, CMPWR and DELETE of entry INDEX. -/
def tblChange (r : TblReq) (s : State) : TblAns :=
  let new := newWords r.page r.table r.data
  let refuse := tblRefuse s r.page r.table r.op r.index new
  let old := entryWords s r.page r.table r.index
  if r.page.blk = .col ∧ entryBad s.dev r.page r.table r.index = true then
    { result := 5, index := r.index, data := none, state := s }
  else if refuse ≠ .no then { result := 6, index := r.index, data := none, state := refuseErr r refuse s }
  else if r.op = toDELETE then done r.index (tblErase r.page r.table r.index s)
  else if r.op = toCMPWR ∧ word old 0 ≠ r.expect then
    { result := 4, index := r.index, data := some old, state := s }
  else done r.index (tblStore r.page r.table r.index r.data new s)

/-- A command judged in the order of R70. -/
def tblRun (r : TblReq) (s : State) : TblAns :=
  if !(tblOps r.page r.table).contains r.op then { result := 7, index := 0, data := none, state := s }
  else if r.op = toINSERT then keyedInsert r.page r.table r.data s
  else if r.op = toDELETE ∧ isKeyed r.page r.table = true then keyedDelete r.page r.table r.data s
  else if !tblIndexOk s.dev r.page r.table r.index then
    { result := 1, index := r.index, data := none, state := s }
  else if r.op = toREAD then tblRead r s
  else tblChange r s

/-! ### The port (R68 to R72) -/

def setTblPend (p : Page) (x : Option TblPend) (d : Dev) : Dev :=
  { d with ctl := { d.ctl with tblPend := sset (konst none) d.ctl.tblPend p.num x } }

/-- TBL_DATA as written. -/
def tblData (d : Dev) (p : Page) : List W32 := (List.range 16).map (fun k => rdWord d p (0x050 + 4 * k))

/-- A command starts: it is judged and acts, and BUSY is set until it completes. -/
def tblStart (src : Src) (p : Page) (table op : Nat) (s : State) : State :=
  let r : TblReq :=
    { src := src, page := p, table := table, op := op, index := (rdWord s.dev p 0x044).toNat,
      expect := rdWord s.dev p 0x04C, data := tblData s.dev p }
  let a := tblRun r s
  onDev (fun d =>
    syncBusy p (setTblPend p (some { src := src, result := a.result, index := a.index, data := a.data })
      (wr p Reg.TBL_CMD_BUSY 1 d))) a.state

/-- TBL_CMD_COMPLETE: BUSY clears, TBL_STAT and TBL_DATA show the outcome, TBL_ERR records a failure (R71). -/
def tblComplete (p : Page) (d : Dev) : Dev :=
  match sget (konst none) d.ctl.tblPend p.num with
  | none => d
  | some x =>
    let d1 := wr p Reg.TBL_CMD_BUSY 0 (setTblPend p none d)
    let d2 := wr p Reg.TBL_STAT_RESULT x.result (wr p Reg.TBL_STAT_RESULT_INDEX x.index d1)
    let d3 :=
      match x.data with
      | some ws => forEach (List.range 16) (fun k d => wrWord p (0x050 + 4 * k) (ws.getD k 0) d) d2
      | none => d2
    syncBusy p (doIf (decide (x.result ≠ 0)) (setErr p errTblErr x.src 0x040 0) d3)

def execTblCmdComplete (page : Page) (s : State) := effect (.tblCmdComplete page) (onDev (tblComplete page)) s

end Sys2Proof.Machine
end

