-- ==== Sys2Proof/Machine/Lifecycle.lean ====
section
/-! DEFINITION. The life of a page (ch. 2): ENABLE and QUIESCE_REQ (R44, R50, R51), abort (R63 to R65), block
reset (R445, R446), failure (R50), ownership (R58 to R61, R67); and the departure of ports (R442, R448), which
a block reset of a link or tile page starts. -/

namespace Sys2Proof.Machine

/-! ### Departure (R448) -/

/-- An UP port starts to depart: DEPART goes out from now, and DOWN_REASON is written (R496). -/
def departPort (now : W64) (lane : Nat) (d : Dev) : Dev :=
  if isPort d lane && portUp d lane && decide ((d.port lane).departing = .no) then
    updPort lane (fun p => { p with departing := .sending, departTick := now.toNat }) (setReason lane 0x0F d)
  else d

/-- The cause a port shows when it goes dark: a port that is not UP or training keeps its own (R496). -/
def darkReason (d : Dev) (lane : Nat) : Nat :=
  let st := linkState d lane
  if st = lsHeld ∨ st = lsFailed ∨ st = lsDeparted then downReason d lane else 0x0F

/-- A port's transmitters go dark; codewords of a departing port left without an ACK are counted (R448). -/
def goDark (now : W64) (lane : Nat) (d : Dev) : Dev :=
  if !isPort d lane || decide (linkState d lane = lsDisabled) || (d.port lane).dark then d
  else
    let p := d.port lane
    let lost := if p.departing = .no then 0 else p.replay.length
    let d1 := restoreLanes lane (takeTo now lane lsSearch (darkReason d lane) (bumpN Page.pkg Reg.PKG_CNT 5 lost d))
    emit (.light lane false)
      (updPort lane (fun p => { p with dark := true, departing := .no, sinceTick := now.toNat }) d1)

/-- A port of a tile that is reset starts SEARCH without going dark: the lasers stay lit, and R446 names darkness
for a link page alone (log 24). -/
def searchAgain (now : W64) (lane : Nat) (d : Dev) : Dev :=
  if !isPort d lane || decide (linkState d lane = lsDisabled) then d
  else
    let p := d.port lane
    let lost := if p.departing = .no then 0 else p.replay.length
    updPort lane (fun p => { p with departing := .no })
      (startSearch now lane (darkReason d lane) (bumpN Page.pkg Reg.PKG_CNT 5 lost d))

/-- The spare of a port block goes dark with the port that holds lane 16b. -/
def spareDark (lane : Nat) (d : Dev) : Dev :=
  let s := spareOf lane
  if lane % 16 ≠ 0 ∨ linkState d s = lsDisabled then d else emit (.light s false) (setLinkState s lsDisabled d)

/-- A dark port starts SEARCH (R446, R450). -/
def relight (now : W64) (lane : Nat) (d : Dev) : Dev :=
  if !(d.port lane).dark then d
  else
    let d1 := updPort lane (fun p => { p with dark := false, sinceTick := now.toNat }) d
    if linkState d1 lane = lsDisabled then d1 else spareSearch now lane (emit (.light lane true) d1)

/-- A port leaves service: an UP port departs, any other goes dark at once. -/
def leaveService (now : W64) (lane : Nat) (d : Dev) : Dev :=
  if portUp d lane then departPort now lane d else spareDark lane (goDark now lane d)

/-- The wait for ACKs is over (R448): every codeword is covered, or 2 µs have passed since DEPART ended. -/
def ackWaitOver (now : W64) (p : Port) : Bool :=
  match p.departing with
  | .no => false
  | .sending => elapsed now p.departTick 2000 && (p.replay.isEmpty || elapsed now p.departTick 4000)
  | .waiting => p.replay.isEmpty || elapsed now p.departTick 2000

def failStopped (d : Dev) : Bool := rdBit d Page.pkg Reg.PKG_CHIP_STAT_FAIL_STOP

/-- A drain or hot reset keeps its departing ports lit until its discard point (R450). -/
def drainHolds (d : Dev) (lane : Nat) : Bool :=
  resetting d && decide (rd d Page.pkg Reg.PKG_RESET_STAT_PHASE ≠ 3) && !regionFenced d (regionOf lane) && !failStopped d

/-- The port departs for a block reset of its tile page and nothing else. -/
def onlyTileResets (d : Dev) (lane : Nat) : Bool :=
  (d.act (Page.tile (lane / 128))).resetting && !(d.act (Page.lnk lane)).resetting && !resetting d &&
    !regionFenced d (regionOf lane) && !failStopped d && !d.rst.warmDue

/-- DEPART_DARK (R448): the departing port goes dark; its block's spare too, unless its own page alone is
being reset. -/
def departDark (now : W64) (lane : Nat) (d : Dev) : Dev :=
  if !ackWaitOver now (d.port lane) || drainHolds d lane then d
  else if onlyTileResets d lane then searchAgain now lane d
  else
    let d1 := goDark now lane d
    if (d.act (Page.lnk lane)).resetting then d1 else spareDark lane d1

/-! ### Work discarded (R163, R191, R214) -/

/-- Every queued, multicast and parked cell goes; `cnt` counts each. -/
def clearQueued (cnt : Dev → Dev) (d : Dev) : Dev :=
  let drop := fun (b : Box) (d : Dev) => cnt (dropBox b fateReset d)
  let d1 := forEach d.sw.voqs (fun e d => setVoq e.1 Voq.empty (forEach (e.2.esc ++ e.2.norm) drop d)) d
  let d2 := forEach d1.sw.mcast (fun e d =>
    setMcasts e.1 [] (forEach e.2 (fun m d => cnt (dropMcast fateReset m d)) d)) d1
  forEach [0, 1] (fun die d => setParked die [] (forEach ((parked d die).map Prod.snd) drop d)) d2

/-- Every staged cell and every cell of the replication buffers goes; `cnt` counts each. -/
def clearStaged (cnt : Dev → Dev) (d : Dev) : Dev :=
  let drop := fun (b : Box) (d : Dev) =>
    cnt (if b.multi then copyEnds b 1 fateReset d else dropBox b fateReset d)
  let d1 := forEach d.sw.staging (fun e d => forEach e.2 drop d) d
  let d2 := forEach d1.sw.repl (fun e d =>
    forEach e.2 (fun r d => cnt (copyEnds r.box r.copies.length fateReset d)) d) d1
  { d2 with sw := { d2.sw with staging := [], repl := [] } }

/-- Every cell in the Colander pipeline goes, its credit returned; `cnt` counts each. -/
def clearPipes (cnt : Dev → Dev) (d : Dev) : Dev :=
  forEach d.lnk.ports (fun e d =>
    updPort e.1 (fun p => { p with pipe := [] }) (forEach e.2.pipe (fun b d => cnt (dropUp b fateReset d)) d)) d

/-- The cells in a port's link receive buffers go, their credits returned; `cnt` counts each. -/
def clearFramed (cnt : Dev → Dev) (lane : Nat) (d : Dev) : Dev :=
  let l := (d.port lane).framed
  updPort lane (fun p => { p with framed := [] })
    (forEach (l.filter (fun f => !isTime f.cell)) (fun f d => cnt (refuseCell lane f.cell d)) d)

def countIngress (d : Dev) : Dev := bump Page.voq Reg.VOQ_CNT 4 d
def countEgress (d : Dev) : Dev := bump Page.voq Reg.VOQ_CNT 3 d

/-- An abort of an ETM page (R214, R495): no gate list, no hold, full shapers, a fresh transmit selector; ETM[0]
also fills the policers and aggregates. -/
def etmAbort (now : W64) (lane : Nat) (d : Dev) : Dev :=
  let d1 := setTxArb lane Dwrr.reset (wr (Page.etm lane) Reg.ETM_HOLD_HOLD 0 (gateStop lane d))
  let d2 := forEach (List.range 8) (fun tc d =>
    setShaper lane tc (fullBucket (classBurst d lane tc) 0) d) d1
  if lane ≠ 0 then d2
  else
    let keys := fun (t : Nat) (l : List Nat) => (l ++ (tblListed d2 (Page.etm 0) t).map Prod.fst).eraseDups
    forEach (keys 2 (d2.sw.aggregates.map Prod.fst)) (fillAggregate now)
      (forEach (keys 1 (d2.sw.policers.map Prod.fst)) (fillPolicer now) d2)

/-- What a block discards at an abort (R63), as its chapter details. -/
def discardWork (p : Page) (s : State) : State :=
  match p.blk with
  | .lnk => onDev (clearFramed id p.inst) s
  | .fwd => onDev (clearPipes countIngress) s
  | .voq => onDev (clearQueued countIngress) s
  | .xbs => onDev (fun d =>
      let d1 := clearStaged countEgress d
      { d1 with sw := { d1.sw with grantArb := [] } }) s
  | .etm => onDev (etmAbort s.now p.inst) s
  | .byp => onDev bypAbort s
  | .col => onDev (colAbort s.now fateReset) s
  | .ldl => if p.inst = 0 then onDev recipeAbort s else if 8 ≤ p.inst then abortBlock (p.inst - 8) s else s
  | .stk => onDev stkAbort s
  | .tim => onDev timAbort s
  | .pmc => onDev pmcAbort s
  | .dbg => onDev dbgAbort s
  | .tel => onDev telAbort s
  | .pkg | .mgt | .opt => s

/-! ### Further effects of a block reset (R445, R446) -/

/-- Change every stored unit's record. -/
def mapBoxes (f : Box → Box) (d : Dev) : Dev :=
  let m := fun (c : Mcast) => { c with box := f c.box }
  let fl := fun (x : Flushed) => { x with box := f x.box }
  { d with
    sw := { d.sw with
      voqs := d.sw.voqs.map (fun e => (e.1, { norm := e.2.norm.map f, esc := e.2.esc.map f })),
      mcast := d.sw.mcast.map (fun e => (e.1, e.2.map m)),
      repl := d.sw.repl.map (fun e => (e.1, e.2.map (fun r => { r with box := f r.box }))),
      staging := d.sw.staging.map (fun e => (e.1, e.2.map f)),
      parkA := d.sw.parkA.map (fun e => (e.1, f e.2)),
      parkB := d.sw.parkB.map (fun e => (e.1, f e.2)),
      flushA := d.sw.flushA.map fl,
      flushB := d.sw.flushB.map fl } }

/-- FWD: non-STATIC flow entries go, DRAIN reads 0 and ARMED is cleared (R446); cells still queued are no longer
counted. -/
def fwdReset (d : Dev) : Dev :=
  let gone := ((tblListed d Page.fwd 2).filter (fun e => !wbit e.2 0 30)).map Prod.fst
  let d1 := forEach gone (fun i d => tset Page.fwd 2 i (List.replicate 7 0) d) d
  let d2 := wrWord Page.fwd 0x110 0 (wrWord Page.fwd 0x114 0 (disarmSwap d1))
  let d3 := mapBoxes (fun b =>
    { b with counted := false, flow := b.flow.bind (fun i => if gone.contains i then none else some i) }) d2
  { d3 with fwd := { d3.fwd with drained := [] } }

/-- A session ends (R423, R424, R440): EVENT_SESSION that names it turns invalid. -/
def closeSession (i : Nat) (d : Dev) : Dev :=
  let p := Page.mgt
  let d1 := { d with mgt := { d.mgt with sessions := sset (konst Session.closed) d.mgt.sessions i Session.closed } }
  let d2 := wr p ⟨Reg.MGT_SESSION_STAT_OPEN.off, i, i⟩ 0 d1
  if rd d2 p Reg.MGT_EVENT_SESSION_SESSION = i then wr p Reg.MGT_EVENT_SESSION_VALID 0 d2 else d2

/-- MGT: sessions are closed and the relay rings emptied (R446). -/
def mgtReset (d : Dev) : Dev :=
  let p := Page.mgt
  let d1 := forEach (List.range 8) closeSession { d with mgt := { d.mgt with inbox := [] } }
  wr p Reg.MGT_MBX_TX_TAIL_PTR (rd d1 p Reg.MGT_MBX_TX_HEAD_PTR)
    (wr p Reg.MGT_MBX_RX_HEAD_PTR (rd d1 p Reg.MGT_MBX_RX_TAIL_PTR) d1)

/-- A laser module is verified again while its partner carries the tile; otherwise it is left as it is
(R446). -/
def laserReset (now : W64) (m : Nat) (d : Dev) : Dev :=
  let q := partner m
  if !lsrLit d q then hwErr (Page.laser m) 16 0 d
  else if !(d.laserRec m).present then d
  else
    let d1 := setOutput now m 0 (updLaser m (fun l => { l with en := false, boost := false, insertTick := now.toNat }) d)
    syncTile (tileOfModule m) (updLaser q (fun l => { l with boost := true }) (setLsrState m lmVerifying d1))

/-- Working lanes of a tile or region. -/
def lanesOfTile (t : Nat) : List Nat := (List.range 128).map (fun k => 128 * t + k)

/-- The link layer of a page restarts (R446): a port's own page takes its port, a serving spare's page the port
it serves; a spare serving none starts SEARCH. -/
def lnkReset (now : W64) (lane : Nat) (d : Dev) : Dev :=
  if lane < 1024 then
    if !isPort d lane then d else if portUp d lane then departPort now lane d else goDark now lane d
  else
    let st := linkState d lane
    if st = lsUp then departPort now (portOfLane d lane) d
    else if st = lsDisabled then d
    else updPort lane (fun p => { p with sinceTick := now.toNat }) (setLinkState lane lsSearch d)

/-- What a block reset does beyond the abort's discards (R445, R446, R495). -/
def resetWork (p : Page) (s : State) : State :=
  match p.blk with
  | .lnk => onDev (lnkReset s.now p.inst) s
  | .opt =>
    if p.inst < 8 then
      onDev (forEach (lanesOfTile p.inst) (fun l d =>
        if portUp d l then departPort s.now l d else searchAgain s.now l d)) s
    else onDev (laserReset s.now (p.inst - 8)) s
  | .fwd => onDev fwdReset s
  | .voq => onDev recomputeFree s
  | .xbs => onDev (fun d => { d with sw := { d.sw with grantPtr := [], acceptPtr := [] } }) s
  | .byp => onDev (bypReset s.now) s
  | .ldl => if 8 ≤ p.inst then onDev (retestBlock s.now (p.inst - 8)) s else s
  | .mgt => onDev mgtReset s
  | _ => s

/-! ### Work in flight (R50, R51) -/

/-- The block still has work it accepted before (R191, R214, R272, R339, R362, R476). -/
def inFlight (d : Dev) (p : Page) : Bool :=
  match p.blk with
  | .voq => !d.sw.voqs.isEmpty || !d.sw.mcast.isEmpty || !d.sw.parkA.isEmpty || !d.sw.parkB.isEmpty
  | .xbs => !d.sw.repl.isEmpty
  | .etm => (List.range 7).any (fun tc => !(d.staged p.inst tc).isEmpty)
  | .col => !(ctxList d).isEmpty
  | .ldl =>
    if 8 ≤ p.inst then !(boundTo d (p.inst - 8)).isEmpty
    else (blocksOfRegion p.inst).any (fun b => !(boundTo d b).isEmpty) || (decide (p.inst = 0) && d.ldl.cmd.isSome)
  | .stk => !d.stk.getsA.isEmpty || !d.stk.getsB.isEmpty || !d.stk.accs.isEmpty
  | .tel => !d.tel.waitA.isEmpty || !d.tel.waitB.isEmpty
  | _ => false

/-- With nothing in flight a page written ENABLE 0 becomes idle, and a quiescing page quiesced (R50, R51). -/
def settle (p : Page) (d : Dev) : Dev :=
  let st := pageState d p
  let a := d.act p
  if inFlight d p || !(decide (st = stRunning) || decide (st = stQuiesced)) then d
  else if a.finishing then
    setAct p { a with finishing := false } (setPageState p stIdle (wr p Reg.PAGE_STAT_QUIESCING 0 d))
  else if st = stRunning ∧ rdBit d p Reg.PAGE_STAT_QUIESCING = true then
    raiseIrq p irqQuiesced (setPageState p stQuiesced (wr p Reg.PAGE_STAT_QUIESCING 0 d))
  else d

/-- QUIESCED (R51). -/
def quiesced (p : Page) (d : Dev) : Dev := if (d.act p).finishing then d else settle p d

def execQuiesced (page : Page) (s : State) := effect (.quiesced page) (onDev (quiesced page)) s

/-- GO_IDLE (R50). -/
def goIdle (p : Page) (d : Dev) : Dev := if (d.act p).finishing then settle p d else d

def execGoIdle (page : Page) (s : State) := effect (.goIdle page) (onDev (goIdle page)) s

/-! ### ENABLE and QUIESCE_REQ (R44, R50) -/

/-- What a block does when it starts, or starts again, to accept work. -/
def blockRuns (p : Page) (s : State) : State :=
  match p.blk with
  | .lnk => if p.inst < 1024 then onDev (tryLeaveDisabled s.now p.inst) s else s
  | .byp => onDev (fun d => if matrixFaulted d then d else wr Page.byp Reg.BYP_MATRIX_HEALTH_READY 1 d) s
  | .col => unparkReady s
  | .ldl => onDev pump s
  | _ => s

/-- What a block does at once when it stops accepting work. -/
def blockHolds (p : Page) (d : Dev) : Dev :=
  match p.blk with
  | .ldl => pump d
  | _ => d

/-- The two stored bits act on a page that is idle, running or quiesced (R50). -/
def applyCtl (enable quiesce : Bool) (p : Page) (d : Dev) : Dev :=
  let d1 := wrBit p Reg.PAGE_CTL_QUIESCE_REQ quiesce (wrBit p Reg.PAGE_CTL_ENABLE enable d)
  let st := pageState d p
  if st = stIdle then
    if enable then wrBit p Reg.PAGE_STAT_QUIESCING quiesce (setPageState p stRunning d1) else d1
  else
    let d2 := setAct p { d1.act p with finishing := !enable } d1
    if st = stQuiesced then (if quiesce then d2 else setPageState p stRunning d2)
    else wrBit p Reg.PAGE_STAT_QUIESCING quiesce d2

/-- ENABLE 0, and the start of an idle ETM page, stop the page's gate list and open every gate (R208). -/
def gatesAtEnable (enable : Bool) (p : Page) (was : Nat) (d : Dev) : Dev :=
  match p.blk with
  | .etm => doIf (!enable || decide (was = stIdle)) (gateStop p.inst) d
  | _ => d

/-- A write of ENABLE and QUIESCE_REQ; an aborting or failed page ignores it (R44, R50). -/
def writeEnable (enable quiesce : Bool) (p : Page) (s : State) : State :=
  let st := pageState s.dev p
  if st = stAborting ∨ st = stFailed then s
  else
    let s1 := onDev (fun d => gatesAtEnable enable p st (applyCtl enable quiesce p d)) s
    let was := accepting s.dev p
    let is := accepting s1.dev p
    let s2 := if is && !was then blockRuns p s1 else if was && !is then onDev (blockHolds p) s1 else s1
    onDev (settle p) s2

/-! ### Abort and block reset (R63, R64, R445) -/

/-- A running table command is discarded (R443). -/
def dropTable (p : Page) (d : Dev) : Dev :=
  if tblRunning d p then setTblPend p none (wr p Reg.TBL_CMD_BUSY 0 d) else d

/-- The page enters aborting: `forced` when it was failed (R63), and the reset starts at once when it is a block
reset or forced. -/
def enterAborting (now : W64) (p : Page) (reset : Bool) (d : Dev) : Dev :=
  let st := pageState d p
  let a := d.act p
  let forced := a.forced || decide (st = stFailed)
  let d1 := wr p Reg.PAGE_CTL_ENABLE 0 (wr p Reg.PAGE_CTL_QUIESCE_REQ 0 (wr p Reg.PAGE_STAT_QUIESCING 0
    (setPageState p stAborting d)))
  let d2 := setAct p { finishing := false, abortAt := if st = stAborting then a.abortAt else now.toNat,
                       forced := forced, resetting := reset || forced } d1
  syncBusy p (wr p Reg.PAGE_ABORT_STAT_RESULT 1 (discardPending p (doIf reset (dropTable p) d2)))

/-- One page's abort or block reset starts. An abort while aborting, and a reset while resetting, do nothing. -/
def startAbort (p : Page) (reset : Bool) (s : State) : State :=
  let aborting := decide (pageState s.dev p = stAborting)
  if aborting && (!reset || (s.dev.act p).resetting) then s
  else
    let s1 := onDev (enterAborting s.now p reset) s
    let s2 := if aborting then s1 else discardWork p s1
    if (s2.dev.act p).resetting then resetWork p s2 else s2

/-- Core-block pages a page's abort and reset also act on: a region page's four (R339, R446). -/
def pagesUnder (p : Page) : List Page :=
  if p.blk = .ldl ∧ p.inst < 8 then (blocksOfRegion p.inst).map Page.coreBlock else []

/-- An abort, or a block reset; a reset of PKG has no effect (R445). -/
def abortPage (p : Page) (reset : Bool) (s : State) : State :=
  if reset = true ∧ p = Page.pkg then s
  else
    let failed := decide (pageState s.dev p = stFailed)
    (p :: pagesUnder p).foldl (fun s q => startAbort q (reset || (failed && decide (q ≠ p))) s) s

/-- A hot or drain reset is running and has the page in its scope (R441, R461). -/
def inHotReset (d : Dev) (p : Page) : Bool := resetting d && decide (5 ≤ p.blk.code ∧ p.blk.code ≤ 0xE)

/-- The blocks in scope are being reset (R450, from the discard point on). -/
def frozen (d : Dev) (p : Page) : Bool := inHotReset d p && decide (rd d Page.pkg Reg.PKG_RESET_STAT_PHASE = 3)

/-- A write of PAGE_CTL (R44): BLOCK_RESET wins over ABORT; it has no effect inside a running hot reset (R461). -/
def ctlWrite (p : Page) (v : Nat) (s : State) : State :=
  let reset := decide (v / 8 % 2 = 1) && !inHotReset s.dev p
  if reset then abortPage p true s
  else if v / 4 % 2 = 1 then abortPage p false s
  else writeEnable (v % 2 == 1) (v / 2 % 2 == 1) p s

/-- ABORT_DEADLINE (R63): an abort not idle after 100 µs is forced. -/
def abortDeadline (p : Page) (s : State) : State :=
  let a := s.dev.act p
  if pageState s.dev p = stAborting ∧ a.resetting = false ∧ elapsed s.now a.abortAt 100000 = true ∧
      frozen s.dev p = false then
    (pagesUnder p).foldl (fun s q => startAbort q true s)
      (resetWork p (onDev (setAct p { a with forced := true, resetting := true }) s))
  else s

def execAbortDeadline (page : Page) (s : State) := effect (.abortDeadline page) (abortDeadline page) s

/-! ### The chip abort (R65, R66) -/

/-- Block codes of a wave. -/
def waveCodes (k : Nat) : List Nat :=
  match k with
  | 0 => [0x5, 0x6]
  | 1 => [0x7, 0x8, 0x9, 0xA, 0xB, 0xC, 0xD]
  | _ => [0xE]

/-- The pages of a block code that control hardware (R39). -/
def pagesOfCode (d : Dev) (c : Nat) : List Page :=
  match blockOfCode c with
  | some b => ((List.range b.instances).map (fun i => (⟨b, i⟩ : Page))).filter (pagePresent d)
  | none => []

def wavePages (d : Dev) (k : Nat) : List Page := (waveCodes k).flatMap (pagesOfCode d)

def startWave (k : Nat) (s : State) : State :=
  (wavePages s.dev k).foldl (fun s p => startAbort p false s)
    (onDev (fun d => { d with ctl := { d.ctl with abortWave := some k } }) s)

/-- ABORT_ALL.GO (R65); ignored while a chip abort runs (R66). -/
def abortAll (s : State) : State :=
  let p := Page.pkg
  if rd s.dev p Reg.PKG_ABORT_ALL_STAT_RESULT = 1 then s
  else
    startWave 0 (onDev (fun d =>
      wr p Reg.PKG_ABORT_ALL_STAT_RESULT 1 { d with ctl := { d.ctl with abortAllAt := s.now.toNat } }) s)

/-- The chip abort ends: ELAPSED in µs, the pages forced, and RESULT (R66). -/
def endAbortAll (now : W64) (result : Option Nat) (d : Dev) : Dev :=
  let p := Page.pkg
  let forced := ((List.range 3).flatMap (wavePages d)).filter (fun q => rd d q Reg.PAGE_ABORT_STAT_RESULT == 3)
  let r := result.getD (if forced.isEmpty then 2 else 3)
  let us := ticksSince now d.ctl.abortAllAt / 1600
  wr p Reg.PKG_ABORT_ALL_STAT_RESULT r (wr p Reg.PKG_ABORT_ALL_STAT_FORCED (min 255 forced.length)
    (wr p Reg.PKG_ABORT_ALL_STAT_ELAPSED (min 0xFFFF us) { d with ctl := { d.ctl with abortWave := none } }))

def waveDone (d : Dev) (k : Nat) : Bool := (wavePages d k).all (fun p => decide (pageState d p ≠ stAborting))

/-- ABORT_ALL_WAVE (R65): the next wave starts once every page of the previous one has ended its abort. -/
def abortAllWave (s : State) : State :=
  match s.dev.ctl.abortWave with
  | some k =>
    if !waveDone s.dev k then s
    else if k < 2 then startWave (k + 1) s
    else onDev (endAbortAll s.now none) s
  | none => s

def execAbortAllWave (s : State) := effect .abortAllWave abortAllWave s

/-- The last wave is TEL alone: the chip abort ends with it. -/
def lastWaveEnds (now : W64) (d : Dev) : Dev :=
  if d.ctl.abortWave = some 2 ∧ pageState d Page.tel ≠ stAborting then endAbortAll now none d else d

/-! ### Completion (R63, R64, R445) -/

/-- Ports a reset of the page keeps dark until it completes. -/
def portsUnder (d : Dev) (p : Page) : List Nat :=
  match p.blk with
  | .lnk => if p.inst < 1024 then [p.inst] else [portOfLane d p.inst]
  | .opt => if p.inst < 8 then lanesOfTile p.inst else []
  | _ => []

/-- No port of the page is still departing, and a link page's port has been dark for 10 µs (R446). -/
def portsReady (now : W64) (d : Dev) (p : Page) : Bool :=
  (portsUnder d p).all (fun l =>
    decide ((d.port l).departing = .no) &&
      (!(d.port l).dark || decide (p.blk ≠ .lnk) || elapsed now (d.port l).sinceTick 10000))

/-- The abort or reset of one page ends (R63, R64, R445): RESULT, ELAPSED, ABORT_DONE; a reset that leaves the
block failing its checks ends failed and is logged. -/
def endAbort (now : W64) (p : Page) (pass : Bool) (d : Dev) : Dev :=
  let a := d.act p
  let t := ticksSince now a.abortAt / 160
  let d1 := wr p Reg.PAGE_ABORT_STAT_ELAPSED (min 0xFFFF t)
    (wr p Reg.PAGE_ABORT_STAT_RESULT (if a.resetting then 3 else 2) (setPageState p stIdle d))
  let d2 := raiseIrq p irqAbortDone (syncBusy p (setAct p PageAct.idle d1))
  let d3 := doIf a.resetting (bump Page.pkg Reg.PKG_CNT 3) d2
  let d4 := doIf a.forced (fun d => hwErr p errForcedAbort 0 (bump Page.pkg Reg.PKG_CNT 4 d)) d3
  let d5 := doIf a.resetting (fun d => forEach (portsUnder d p) (relight now) d) d4
  let d6 := doIf (a.resetting && !pass) (pageFailLogged now p 0 0) d5
  lastWaveEnds now d6

/-- A reset of STK that passes its checks has both MIDs working again (R456). -/
def midRestored (p : Page) (pass : Bool) (d : Dev) : Dev :=
  if p = Page.stk ∧ pass = true then { d with rst := { d.rst with midFailed := [] } } else d

/-- ABORT_COMPLETE (R63): an aborting block is idle; a running table command completes first (R72). -/
def abortComplete (now : W64) (p : Page) (d : Dev) : Dev :=
  forEach (pagesUnder p ++ [p]) (fun q d =>
    if pageState d q = stAborting ∧ (d.act q).resetting = false ∧ tblRunning d q = false ∧
        frozen d q = false then
      endAbort now q true d
    else d) d

def execAbortComplete (page : Page) (s : State) := effect (.abortComplete page) (onDev (abortComplete s.now page)) s

/-- BLOCK_RESET_COMPLETE (R445). -/
def resetComplete (now : W64) (p : Page) (pass : Bool) (d : Dev) : Dev :=
  forEach (pagesUnder p ++ [p]) (fun q d =>
    if (d.act q).resetting && portsReady now d q && !frozen d q then midRestored q pass (endAbort now q pass d)
    else d) d

def execBlockResetComplete (page : Page) (checksPass : Bool) (s : State) :=
  effect (.blockResetComplete page checksPass) (onDev (resetComplete s.now page checksPass)) s

/-- BLOCK_FAIL (R50, R453). -/
def execBlockFail (page : Page) (unit detail : Nat) (s : State) :=
  effect (.blockFail page unit detail) (onDev (pageFailLogged s.now page unit detail)) s

/-! ### Ownership (R58 to R61, R67) -/

/-- The write to PAGE_OWNER is one that takes effect (R59). -/
def ownerAllowed (d : Dev) (src : Src) (p : Page) (owner : Src) : Bool :=
  let now := pageOwner d p
  if owner = src then
    decide (src = .pcie) || decide (now = .inband) || !rdBit d p Reg.PAGE_OWNER_LOCK
  else decide (src = now)

/-- A write of PAGE_OWNER: a claim or a hand-over writes OWNER and LOCK; a change of owner returns S fields to
their active values, discards a pending commit and sets OWNER_CHANGED (R59, R61). -/
def ownerWrite (src : Src) (p : Page) (owner : Src) (lock : Bool) (d : Dev) : Dev :=
  if !ownerAllowed d src p owner then setErr p errNonOwner src 0x020 0 d
  else
    let changed := decide (pageOwner d p ≠ owner)
    let d1 := withIrq p (fun d => wrBit p Reg.PAGE_OWNER_LOCK lock (wr p Reg.PAGE_OWNER_OWNER owner.bit d)) d
    if changed then raiseIrq p irqOwnerChanged (discardPending p d1) else d1

/-- OWNER_ALL (R67): a PAGE_OWNER write on every page of each selected block code, and BUSY until it is done. -/
def ownerAll (src : Src) (mask : Nat) (lock : Bool) (owner : Src) (d : Dev) : Dev :=
  let codes := (List.range 16).filter (fun c => decide (mask / 2 ^ c % 2 = 1))
  let d1 := forEach (codes.flatMap (pagesOfCode d)) (fun p d => ownerWrite src p owner lock d) d
  syncBusy Page.pkg { d1 with ctl := { d1.ctl with ownerAll := true } }

/-- OWNER_ALL_DONE (R67). -/
def ownerAllDone (d : Dev) : Dev := syncBusy Page.pkg { d with ctl := { d.ctl with ownerAll := false } }

def execOwnerAllDone (s : State) := effect .ownerAllDone (onDev ownerAllDone) s

end Sys2Proof.Machine
end

