-- ==== Sys2Proof/Machine/Resets.lean ====
section
/-! DEFINITION. Resets of the running device and the faults of the upper levels (ch. 16): hot and drain resets
(R441 to R444, R450, R451, R461), region fence (R455), MID and controller-pair failure (R456), chip fail-stop
(R457, R491), and the function-level events of PCI Express (R416, R447). -/

namespace Sys2Proof.Machine

def resetPhase (d : Dev) : Nat := rd d Page.pkg Reg.PKG_RESET_STAT_PHASE
def setPhase (n : Nat) (d : Dev) : Dev := wr Page.pkg Reg.PKG_RESET_STAT_PHASE n d

/-- Pages of block codes 0x5 to 0xE (R441). -/
def scopePages (d : Dev) : List Page :=
  [0x5, 0x6, 0x7, 0x8, 0x9, 0xA, 0xB, 0xC, 0xD, 0xE].flatMap (pagesOfCode d)

/-! ### Starting a hot or drain reset (R444, R450, R451) -/

/-- The reset takes effect; while one runs it is refused (R461). TYPE 1 is HOT, 2 is DRAIN. -/
def resetStart (src : Src) (type : Nat) (s : State) : State :=
  let p := Page.pkg
  if resetting s.dev then onDev (setErr p 19 src 0x110 0) s
  else
    let s1 := onDev (fun d =>
      let d1 := if d.ctl.abortWave.isSome then endAbortAll s.now (some 3) d else d
      let d2 := setPhase 1 (wr p Reg.PKG_RESET_STAT_LAST (type + 1) (bump p Reg.PKG_CNT type d1))
      { d2 with rst := { d2.rst with
          tick := s.now.toNat,
          enables := (scopePages d2).filter (fun q => rdBit d2 q Reg.PAGE_CTL_ENABLE) } }) s
    onDev (fun d => forEach (allPorts d) (departPort s.now) d) (startAbort Page.col false s1)

/-- RESET_CTL with GO 1 (R450, R451): PKG's pending commit reaches its boundary (R462); a write of the in-band
channel waits 10 µs. -/
def resetWrite (src : Src) (type : Nat) (s : State) : State :=
  let s1 := onDev (commitApply s.now Page.pkg) s
  match src with
  | .pcie => resetStart src type s1
  | .inband =>
    onDev (fun d => { d with rst := { d.rst with delayed := d.rst.delayed ++ [(type, s.now.toNat)] } }) s1

/-- INBAND_RESET_DELAY (R451). -/
def inbandReset (s : State) : State :=
  match s.dev.rst.delayed with
  | (type, t) :: rest =>
    if elapsed s.now t 10000 then
      resetStart .inband type (onDev (fun d => { d with rst := { d.rst with delayed := rest } }) s)
    else s
  | [] => s

def execInbandResetDelay (s : State) := effect .inbandResetDelay inbandReset s

/-! ### The discard point (R450) -/

/-- Nothing is queued, parked or staged. -/
def nothingQueued (d : Dev) : Bool :=
  d.sw.voqs.isEmpty && d.sw.mcast.isEmpty && d.sw.parkA.isEmpty && d.sw.parkB.isEmpty && d.sw.staging.isEmpty &&
    d.sw.repl.isEmpty

/-- Units on the flush lists go at once, and both engines stop. -/
def clearFlushes (cnt : Dev → Dev) (d : Dev) : Dev :=
  let drop := fun (f : Flushed) (d : Dev) =>
    cnt (if f.box.multi && !f.ingress then copyEnds f.box 1 fateReset d else dropBox f.box fateReset d)
  let d1 := setFlushList 0 [] (forEach (d.flushList 0) drop d)
  let d2 := setFlushList 1 [] (forEach (d1.flushList 1) drop d1)
  releaseFlushed (wr Page.voq Reg.VOQ_FLUSH_STAT_ACTIVE_A 0 (wr Page.voq Reg.VOQ_FLUSH_STAT_ACTIVE_B 0 d2))

/-- Cells waiting for the collective engine and the memory service go. -/
def clearServices (cnt : Dev → Dev) (d : Dev) : Dev :=
  let drop := fun (b : Box) (d : Dev) => cnt (dropUp b fateReset d)
  let d1 := forEach (d.col.inbox ++ d.stk.inbox) drop d
  { d1 with col := { d1.col with inbox := [] }, stk := { d1.stk with inbox := [] } }

/-- Every cell in the device is discarded; `cnt` counts each. -/
def clearCells (cnt : Dev → Dev) (d : Dev) : Dev :=
  let d1 := clearFlushes cnt (clearStaged cnt (clearQueued cnt d))
  clearServices cnt (forEach d1.lnk.ports (fun e d => clearFramed cnt e.1 d) (clearPipes cnt d1))

def countDiscard (d : Dev) : Dev :=
  wr64 Page.pkg Reg.PKG_DRAIN_DISCARD (rd64 d Page.pkg Reg.PKG_DRAIN_DISCARD + 1) d

/-- Accepted verbs and FENCEs of the memory service go with a reset of STK. -/
def clearVerbs (d : Dev) : Dev := { d with stk := { d.stk with getsA := [], getsB := [], accs := [] } }

/-- An abort of a page that the reset overtakes ends with it, as a forced one (R461). -/
def overtakeAbort (now : W64) (p : Page) (d : Dev) : Dev :=
  if pageState d p = stAborting then
    let t := ticksSince now (d.act p).abortAt / 160
    raiseIrq p irqAbortDone (wr p Reg.PAGE_ABORT_STAT_ELAPSED (min 0xFFFF t) (wr p Reg.PAGE_ABORT_STAT_RESULT 3 d))
  else d

/-- A page in scope is being reset: its staged values, commit and table command go (R443). -/
def freezePage (now : W64) (p : Page) (d : Dev) : Dev :=
  let d1 := discardPending p (dropTable p (overtakeAbort now p d))
  let d2 := wr p Reg.PAGE_CTL_ENABLE 0 (wr p Reg.PAGE_STAT_QUIESCING 0 (setPageState p stAborting d1))
  syncBusy p (setAct p PageAct.idle d2)

/-- The block of a page in scope is reset; the ports take their own way (R450). -/
def scopeReset (p : Page) (s : State) : State :=
  match p.blk with
  | .lnk => s
  | _ => resetWork p (discardWork p s)

/-- The ports at the discard point: a departing port waits for its ACKs, any other goes dark. -/
def portsResetting (now : W64) (d : Dev) : Dev :=
  forEach (allPorts d) (fun l d =>
    if (d.port l).departing = .no then spareDark l (goDark now l d)
    else updPort l (fun p => { p with departing := .waiting, departTick := now.toNat }) d) d

/-- The discard point itself: every cell still in the device is discarded and counted, and the blocks in scope
are reset. -/
def discardNow (s : State) : State :=
  let p := Page.pkg
  let us := ticksSince s.now s.dev.rst.tick / 1600
  let s1 := onDev (fun d =>
    let d1 := setPhase 3 (wr p Reg.PKG_RESET_STAT_DRAIN_TIME (min 0xFFFF us) d)
    let d2 := clearVerbs (clearCells countDiscard (wr64 p Reg.PKG_DRAIN_DISCARD 0 d1))
    portsResetting s.now d2) s
  let pages := scopePages s1.dev
  onDev (fun d => forEach pages (freezePage s.now) d) (pages.foldl (fun s q => scopeReset q s) s1)

/-- Time since the RESET_CTL write, in ns, has reached a bound. -/
def resetElapsed (s : State) (ns : Nat) : Bool := elapsed s.now s.dev.rst.tick ns

/-- DRAIN_DISCARD_POINT (R450): 5 µs into a hot reset; in a drain when nothing is queued, or at DRAIN_US. -/
def discardPoint (s : State) : State :=
  let d := s.dev
  let hot := decide (rd d Page.pkg Reg.PKG_RESET_STAT_LAST = 2)
  let due :=
    if hot then resetElapsed s 5000
    else (resetElapsed s 1000 && nothingQueued d) ||
      resetElapsed s (rd d Page.pkg Reg.PKG_RESET_CFG_DRAIN_US * 1000)
  if resetting d && decide (resetPhase d ≠ 3) && due then discardNow s else s

def execDrainDiscardPoint (s : State) := effect .drainDiscardPoint discardPoint s

/-! ### Chip fail-stop (R457) -/

/-- A page shows failed without a class of its own: the event is reported at chip level (R452). -/
def pageDown (p : Page) (d : Dev) : Dev :=
  if pageState d p = stAborting then d
  else discardPending p (wr p Reg.PAGE_STAT_QUIESCING 0 (setAct p PageAct.idle (setPageState p stFailed d)))

/-- The chip fails stop: it departs on every UP port, discards every cell, goes dark and reports. -/
def failStop (detail : Nat) (s : State) : State :=
  let p := Page.pkg
  let s0 := if resetting s.dev && decide (resetPhase s.dev ≠ 3) then discardNow s else s
  onDev (fun d =>
    let d1 := clearCells id (forEach (allPorts d) (leaveService s.now) d)
    let d2 := pageDown p (wr p Reg.PKG_CHIP_STAT_FAIL_STOP 1 d1)
    let d3 := raiseIrq p 19 (hwErr p 18 detail d2)
    faultLog s.now { level := lvChip, action := acFailStop, page := p, unit := 0, cls := 18, detail := detail,
                     recover := 0 } d3) s0

/-- FAIL_STOP; a chip already stopped stays stopped. -/
def execFailStop (detail : Nat) (s : State) :=
  effect (.failStop detail) (fun s => if failStopped s.dev then s else failStop detail s) s

/-- RAIL_UNDERVOLTAGE (R491): a fail-stop whose DETAIL names the rail, while PWR_GOOD is asserted. -/
def execRailUndervoltage (rail : Nat) (s : State) :=
  effect (.railUndervoltage rail)
    (fun s => if failStopped s.dev || !s.dev.rst.pwrGood then s else failStop rail s) s

/-! ### The reset is done (R444, R450) -/

/-- A region's fence, the fail-stop and the MIDs as the re-test of a hot reset finds them. -/
def hotRetest (failed : List Page) (d : Dev) : Dev :=
  let p := Page.pkg
  let still := ((List.range 8).filter (fun r => regionFenced d r && failed.contains (Page.region r))).map (2 ^ ·)
  let d1 := wr p Reg.PKG_CHIP_STAT_REGIONS_FENCED still.sum (wr p Reg.PKG_CHIP_STAT_FAIL_STOP 0 d)
  if failed.contains Page.stk then d1 else { d1 with rst := { d1.rst with midFailed := [] } }

/-- One page leaves its reset: failed when its checks fail, else idle (R444, R450). -/
def thawPage (now : W64) (failed : List Page) (p : Page) (d : Dev) : Dev :=
  let d1 := syncBusy p (setPageState p stIdle d)
  if failed.contains p then pageFailLogged now p 0 0 d1 else d1

/-- Ports start SEARCH again, but for those of a fenced region. -/
def relightAll (now : W64) (d : Dev) : Dev :=
  forEach (allPorts d) (fun l d => if regionFenced d (regionOf l) then d else relight now l d) d

/-- The core blocks of a region that is still fenced stay fenced. -/
def refence (d : Dev) : Dev :=
  forEach ((List.range 8).filter (regionFenced d)) (fun r d =>
    forEach (blocksOfRegion r) (fun b d => syncRegionStat r (wr (Page.coreBlock b) Reg.CB_STAT_FENCED 1 d)) d) d

/-- HOT_RESET_DONE (R450): `failed` names the pages whose blocks fail their checks, and PKG when the cause of a
fail-stop is still present (R457). -/
def hotDone (failed : List Page) (s : State) : State :=
  if resetPhase s.dev ≠ 3 then s
  else
    let again := failStopped s.dev && failed.contains Page.pkg
    let pages := scopePages s.dev
    let s1 := onDev (fun d =>
      let d1 := forEach (allPorts d) (fun l d => if (d.port l).departing = .no then d else spareDark l (goDark s.now l d)) d
      refence (forEach pages (thawPage s.now failed) (hotRetest failed d1))) s
    if again then failStop 0 (onDev (setPhase 4) s1)
    else
      let s2 := onDev (relightAll s.now) s1
      let s3 := (s2.dev.rst.enables.filter (fun q => pages.contains q && !failed.contains q)).foldl
        (fun s q => writeEnable true (rdBit s.dev q Reg.PAGE_CTL_QUIESCE_REQ) q s) s2
      onDev (fun d => raiseIrq Page.pkg 16 (setPhase 4 { d with rst := { d.rst with enables := [] } })) s3

def execHotResetDone (failed : List Page) (s : State) := effect (.hotResetDone failed) (hotDone failed) s

/-! ### Region fence (R455) -/

/-- LOAD[r] reads 255 in every field and the region is saturated. -/
def loadFull (r : Nat) (d : Dev) : Dev :=
  let d1 := wr Page.xbs (Reg.XBS_LOAD_CTX.idx r) 255 (wr Page.xbs (Reg.XBS_LOAD_LADLE.idx r) 255
    (wr Page.xbs (Reg.XBS_LOAD_PORT.idx r) 255 d))
  doIf (!saturated d r) (raiseIrq Page.xbs 16) (wrBit Page.xbs ⟨Reg.XBS_SAT_STAT_SATURATED.off, r, r⟩ true d1)

/-- REGION_FENCE: ports depart, core blocks are fenced and their contexts fail, and PKG reports. -/
def regionFence (r : Nat) (s : State) : State :=
  let p := Page.pkg
  if regionFenced s.dev r then s
  else
    let s1 := onDev (fun d =>
      let d1 := wrBit p ⟨Reg.PKG_CHIP_STAT_REGIONS_FENCED.off, r, r⟩ true d
      let d2 := forEach ((lanesOfTile r).filter (isPort d1)) (leaveService s.now) d1
      loadFull r (forEach ((blocksOfRegion r).filter (fun b => !blockFenced d2 b)) (fun b d =>
        markFenced (25 * b) (settleClock s.now (8 + b) d)) d2)) s
    let s2 := failLost (fun c => decide (c.block / 4 = r) && c.bound) s1
    onDev (fun d => faultLog s.now { level := lvRegion, action := acRegionFenced, page := p, unit := r, cls := 17,
                                     detail := r, recover := 0 } (raiseIrq p 18 (hwErr p 17 r d))) s2

def execRegionFence (region : Nat) (s : State) := effect (.regionFence region) (regionFence region) s

/-! ### MID and management controllers (R456) -/

/-- MID_FAIL: existing contexts fail, STK and COL fail, and PKG reports. -/
def midFail (mid : Nat) (s : State) : State :=
  if s.dev.rst.midFailed.contains mid then s
  else
    let s1 := failLost (fun _ => true) s
    onDev (fun d =>
      let d1 := { d with rst := { d.rst with midFailed := d.rst.midFailed ++ [mid] } }
      let d2 := hwErr Page.pkg 18 mid (pageFail Page.col mid (pageFail Page.stk mid d1))
      faultLog s.now { level := lvChip, action := acPageFailed, page := Page.stk, unit := mid, cls := errUncorrectable,
                       detail := mid, recover := 0 } d2) s1

def execMidFail (mid : Nat) (s : State) := effect (.midFail mid) (midFail mid) s

/-- LOCKSTEP_MISMATCH: Voruir passes from the failed pair to the other; with both failed MGT fails. -/
def lockstep (now : W64) (pair : Nat) (d : Dev) : Dev :=
  if d.mgt.failedPairs.contains pair then d
  else
    let active := d.mgt.activePair
    let d1 := { d with mgt := { d.mgt with failedPairs := d.mgt.failedPairs ++ [pair] } }
    let both := d1.mgt.failedPairs.contains (1 - pair)
    let d2 := if both then pageFail Page.mgt pair d1 else passVoruir d1
    let action := if both then acPageFailed else if pair = active then acPairChanged else acUnitFenced
    faultLog now { level := lvChip, action := action, page := Page.mgt, unit := pair, cls := errUncorrectable,
                   detail := pair, recover := 0 } (hwErr Page.pkg 18 pair d2)

def execLockstepMismatch (pair : Nat) (s : State) :=
  effect (.lockstepMismatch pair) (onDev (lockstep s.now pair)) s

/-! ### The PCI Express function (R416, R447) -/

/-- Vectors whose condition is true are pending. -/
def holdVectors (d : Dev) : Dev := forEach (List.range 256) (fun v d => setPba v (vectorTrue d v) d) d

/-- PCIE_HOT_RESET: configuration space, BAR decode and the MSI-X table alone are reset. -/
def pcieHotReset (d : Dev) : Dev :=
  let d1 := { d with
    ctl := { d.ctl with busMaster := false, msixEnable := false, d3hot := false },
    mgt := { d.mgt with bar4 := d.mgt.bar4.filter (fun e => !(decide (0x80000 ≤ e.1) && decide (e.1 < 0x81000))) } }
  holdVectors d1

def execPcieHotReset (s : State) := effect .pcieHotReset (onDev pcieHotReset) s

/-- POWER_STATE_CHANGE: vectors held in D3hot are sent on return to D0 (R416). -/
def powerState (v : Bool) (d : Dev) : Dev :=
  let d1 := { d with ctl := { d.ctl with d3hot := v } }
  if v then d1 else msixFlush d1

def execPowerStateChange (d3hot : Bool) (s : State) :=
  effect (.powerStateChange d3hot) (onDev (powerState d3hot)) s

/-! ### Power-good (R490) -/

/-- POWER_DOWN: every LSR_EN is driven low, and flash writes end. -/
def powerDown (now : W64) (d : Dev) : Dev :=
  forEach (List.range 16) (fun m d => setOutput now m 0 (updLaser m (fun l => { l with en := false, boost := false }) d))
    { d with rst := { d.rst with pwrGood := false } }

def execPowerDown (s : State) := effect .powerDown (onDev (powerDown s.now)) s

end Sys2Proof.Machine
end

