-- ==== Sys2Proof/Machine/Sessions.lean ====
section
/-! DEFINITION. The relay rings (R420, R421), the in-band sessions (R422 to R424) and the in-band events
(R419): what the management channel does with the MGMT cells that wait for it. A DATA request is performed in
Machine/Requests.lean, over the register accesses of Machine/Registers.lean. -/

namespace Sys2Proof.Machine

/-! ### Cells of the management channel (R172, R422) -/

/-- Bytes `a` to `b` of a payload. -/
def payPart (c : Cell) (a b : Nat) : List Byte := ((payBytes c).drop a).take (b + 1 - a)

/-- `n` bytes that no rule fixes (log 2). -/
def drawBytes (n : Nat) (d : Dev) : List Byte × Dev :=
  let k := ceilDiv n 8
  let bs := ((List.range k).flatMap (fun i => bytesLE 8 (Config.draw (d.ctl.draws + i)).toNat)).take n
  (bs, { d with ctl := { d.ctl with draws := d.ctl.draws + k } })

/-- An MGMT cell of this device: SRC is its service coordinate; no rule gives its MSGID and SEQ (log 22). -/
def mgmtCell (dst : Nat) (payload : List Byte) (d : Dev) : Cell × Dev :=
  let r := drawBytes 5 d
  let ids := natOfLE r.1
  (mkCell dst 7 ocMGMT (selfCoord d) (ids % 65536) (ids / 65536 % 2 ^ 20) payload, r.2)

/-- Queue a cell for a port when the management channel's source has room (R172, R420, R423). -/
def mgmtSend (now : W64) (lane dst : Nat) (payload : List Byte) (d : Dev) : Option Dev :=
  let source := svcMgt (dieOf lane)
  match roomIn d source 7 with
  | some a =>
    let c := mgmtCell dst payload d
    some (sendVia now source lane c.1 a c.2)
  | none => none

/-- A reply to a port that is no longer UP goes nowhere (log 22). -/
def mgmtReply (now : W64) (lane dst : Nat) (payload : List Byte) (d : Dev) : Option Dev :=
  if isPort d lane && portUp d lane then mgmtSend now lane dst payload d else some d

/-! ### The cells waiting (R422) -/

def kHELLO : Nat := 1
def kACCEPT : Nat := 2
def kPROOF : Nat := 3
def kAUTH : Nat := 4
def kDATA : Nat := 5
def kCLOSE : Nat := 6

def toHost (c : Cell) : Bool := pb c 1 1 / 128 == 1
def kindOf (c : Cell) : Nat := pb c 0 0
def sessionOf (c : Cell) : Nat := pb c 2 2
def seqOf (c : Cell) : Nat := pb c 4 11

/-- A cell of the session engine or of the relay that some rule acts on. -/
def kindKnown (c : Cell) : Bool := toHost c || [kHELLO, kAUTH, kDATA, kCLOSE].contains (kindOf c)

/-- A cell dropped by the session engine, counted with those dropped by tag or SEQ (R422, R424, log 22). -/
def dropMgmt (b : Box) (d : Dev) : Dev := bump Page.mgt Reg.MGT_CNT 3 (dropUp b fateOther d)

/-- Cells of an unlisted KIND ahead of the queue are dropped (R422). -/
def dropUnknown : List Box → Dev → Dev
  | [], d => { d with mgt := { d.mgt with inbox := [] } }
  | b :: bs, d =>
    if kindKnown b.cell then { d with mgt := { d.mgt with inbox := b :: bs } } else dropUnknown bs (dropMgmt b d)

/-- Take the oldest waiting cell if it is one the event is for; a page that takes no work leaves it (R51). -/
def takeMgmt (mine : Cell → Bool) (f : Box → State → State) (s : State) : State :=
  if !accepting s.dev Page.mgt then s
  else
    let s1 := onDev (fun d => dropUnknown d.mgt.inbox d) s
    match s1.dev.mgt.inbox with
    | [] => s1
    | b :: _ => if mine b.cell then f b s1 else s1

/-- The cell has been taken: it leaves the queue, its unit freed and its credit returned. -/
def consume (b : Box) (d : Dev) : Dev :=
  dropUp b fateService { d with mgt := { d.mgt with inbox := d.mgt.inbox.drop 1 } }

/-- A cell leaves the queue without effect and is counted. -/
def discardMgmt (b : Box) (d : Dev) : Dev := dropMgmt b { d with mgt := { d.mgt with inbox := d.mgt.inbox.drop 1 } }

/-! ### The relay (R420, R421) -/

def relayOn (d : Dev) : Bool := rdBit d Page.mgt Reg.MGT_RELAY_CTL_RELAY_EN

/-- RELAY_SLOT_SEND: the slot at MBX_TX_TAIL; without room it waits. -/
def relaySlot (now : W64) (d : Dev) : Dev :=
  let p := Page.mgt
  let tail := rd d p Reg.MGT_MBX_TX_TAIL_PTR
  if !relayOn d || !accepting d p || decide (rd d p Reg.MGT_MBX_TX_HEAD_PTR = tail) then d
  else
    let slot := bar4Bytes d (128 * tail) 104
    let via := natOfBE ((slot.drop 4).take 2)
    let next := wr p Reg.MGT_MBX_TX_TAIL_PTR ((tail + 1) % 2048)
    if isPort d via && portUp d via then
      match mgmtSend now via (natOfBE (slot.take 4)) (slot.drop 8) d with
      | some d1 => bump p Reg.MGT_CNT 7 (next d1)
      | none => d
    else raiseIrq p 17 (bump p Reg.MGT_CNT 8 (next d))

def execRelaySlotSend (s : State) := effect .relaySlotSend (onDev (relaySlot s.now)) s

/-- An arriving cell with TO_HOST 1 goes to the RX ring, or is dropped when the ring is full or relaying is
off. -/
def relayTake (b : Box) (d : Dev) : Dev :=
  let p := Page.mgt
  let head := rd d p Reg.MGT_MBX_RX_HEAD_PTR
  let tail := rd d p Reg.MGT_MBX_RX_TAIL_PTR
  let d1 := consume b d
  if !relayOn d || decide ((head + 1) % 2048 = tail) then hwErr p 16 0 (bump p Reg.MGT_CNT 9 d1)
  else
    let slot := bytesBE 4 (cSrc b.cell) ++ bytesBE 2 b.source ++ [0, 0] ++ payBytes b.cell ++ List.replicate 24 0
    let d2 := wr p Reg.MGT_MBX_RX_HEAD_PTR ((head + 1) % 2048) (setBar4 (0x40000 + 128 * head) slot d1)
    if head = tail then raiseIrq p 16 d2 else d2

/-- RELAY_RX. -/
def execRelayRx (s : State) := effect .relayRx (takeMgmt toHost (fun b => onDev (relayTake b))) s

/-! ### Sessions (R423, R424) -/

def Dev.session (d : Dev) (i : Nat) : Session := sget (konst Session.closed) d.mgt.sessions i

def setSession (i : Nat) (x : Session) (d : Dev) : Dev :=
  { d with mgt := { d.mgt with sessions := sset (konst Session.closed) d.mgt.sessions i x } }

/-- The device's service coordinate as bytes. -/
def coordBytes (d : Dev) : List Byte := bytesBE 4 (selfCoord d)

/-- A payload the device sends: TO_HOST is set (R422). -/
def mgmtPayload (kind session seq : Nat) (body tag : List Byte) : List Byte :=
  [BitVec.ofNat 8 kind, 0x80, BitVec.ofNat 8 session, 0] ++ bytesBE 8 seq ++
    (body ++ List.replicate 68 0).take 68 ++ (tag ++ List.replicate 16 0).take 16

/-- A session closes and reports it (R424, R438). -/
def endSession (i : Nat) (d : Dev) : Dev := raiseIrq Page.mgt 19 (closeSession i d)

/-- Seal and send a cell in a session: nonce and additional data of R424. -/
def sealSend (now : W64) (i kind : Nat) (plain : List Byte) (d : Dev) : Option Dev :=
  let x := d.session i
  let seq := x.seqOut + 1
  let nonce := [BitVec.ofNat 8 i, 0x01, 0, 0] ++ bytesBE 8 seq
  let head := [BitVec.ofNat 8 kind, 0x80, BitVec.ofNat 8 i, 0] ++ bytesBE 8 seq
  let r := Config.gcmSeal x.keyOut nonce (head ++ coordBytes d) plain
  (mgmtReply now x.port x.peer.toNat (mgmtPayload kind i seq r.1 r.2) d).map (setSession i { x with seqOut := seq })

/-- The device closes a session with a CLOSE that carries the reason: 2 idle, 3 SEQ limit (R424). -/
def deviceClose (now : W64) (i reason : Nat) (d : Dev) : Dev :=
  let plain := BitVec.ofNat 8 reason :: List.replicate 67 0
  endSession i ((sealSend now i kCLOSE plain d).getD d)

/-- A session whose SEQ of either direction has reached 2^32 closes (R424). -/
def seqLimit (now : W64) (i : Nat) (d : Dev) : Dev :=
  let x := d.session i
  if x.established ∧ (2 ^ 32 ≤ x.seqIn ∨ 2 ^ 32 ≤ x.seqOut) then deviceClose now i 3 d else d

/-- The plaintext of a DATA or CLOSE cell that passes its tag and SEQ (R424). -/
def openCell (d : Dev) (c : Cell) : Option (List Byte) :=
  let i := sessionOf c
  let x := d.session i
  if i < 8 ∧ x.established = true ∧ x.seqIn < seqOf c then
    Config.gcmOpen x.keyIn ([BitVec.ofNat 8 i, 0, 0, 0] ++ payPart c 4 11) (payPart c 0 11 ++ coordBytes d)
      (payPart c 12 79) (payPart c 80 95)
  else none

/-- Sessions neither open nor opening. -/
def freeSessions (d : Dev) : List Nat := (List.range 8).filter (fun i => !(d.session i).opened)

/-- The device's ephemeral key and nonce of an ACCEPT (R423): fresh at each. -/
def ephemeral (d : Dev) : W64 × List Byte × Dev :=
  let k := Config.draw d.ctl.draws
  let r := drawBytes 16 (drawNext d)
  (k, Config.x25519Public k ++ r.1, r.2)

/-- Which free session an ACCEPT names is open: a free value chooses (log 22). -/
def pickSession (d : Dev) : Option Nat × Dev :=
  let l := freeSessions d
  if l.isEmpty then (none, d) else (l[(Config.draw d.ctl.draws).toNat % l.length]?, drawNext d)

/-- HELLO (R423): ACCEPT and PROOF, or a refusal; without room it waits (R172). -/
def helloTake (now : W64) (b : Box) (d : Dev) : Dev :=
  let p := Page.mgt
  let c := b.cell
  let lane := b.source
  let e := ephemeral d
  let body := e.2.1
  let pick := if rdBit d p Reg.MGT_SESSION_CFG_INBAND_EN then pickSession e.2.2 else (none, e.2.2)
  match pick.1 with
  | none =>
    match mgmtReply now lane (cSrc c) (mgmtPayload kACCEPT 0xFF 0 body []) pick.2 with
    | some d1 => bump p Reg.MGT_CNT 1 (consume b d1)
    | none => d
  | some i =>
    let t := digestBytes (Config.sha512 (payPart c 12 59 ++ (body ++ List.replicate 48 0).take 48 ++ coordBytes d))
    let accept := mgmtReply now lane (cSrc c) (mgmtPayload kACCEPT i 0 body []) pick.2
    let proof := accept.bind (mgmtReply now lane (cSrc c) (mgmtPayload kPROOF i 0 (Config.edSign (t ++ [1])) []))
    match proof with
    | some d1 =>
      let x : Session := { Session.closed with
        opened := true, port := lane, peer := BitVec.ofNat 32 (cSrc c), transcript := t,
        shared := Config.x25519Shared e.1 (payPart c 12 43), tick := now.toNat }
      setSession i x (consume b d1)
    | none => d

/-- HELLO: MGT's pending commit reaches its boundary (R438). -/
def execHello (s : State) :=
  effect .hello (takeMgmt (fun c => !toHost c && decide (kindOf c = kHELLO)) (fun b s =>
    onDev (fun d => helloTake s.now b (commitApply s.now Page.mgt d)) s)) s

/-- AUTH (R423): with a valid signature of the current owner the session is established; otherwise it closes
without reply. -/
def authTake (now : W64) (b : Box) (d : Dev) : Dev :=
  let p := Page.mgt
  let i := sessionOf b.cell
  let x := d.session i
  if 8 ≤ i ∨ x.opened = false ∨ x.established = true then discardMgmt b d
  else
    let d1 := consume b d
    let ok := match currentOwner d with
      | some key => Config.edVerify key (x.transcript ++ [2]) (payPart b.cell 12 75)
      | none => false
    if ok then
      let k := digestBytes (Config.sha512 (x.shared ++ x.transcript))
      let x' := { x with established := true, keyIn := k.take 32, keyOut := k.drop 32, tick := now.toNat }
      raiseIrq p 18 (bump p Reg.MGT_CNT 0 (wr p ⟨Reg.MGT_SESSION_STAT_OPEN.off, i, i⟩ 1 (setSession i x' d1)))
    else endSession i (hwErr p 17 0 (bump p Reg.MGT_CNT 2 d1))

def execAuth (s : State) :=
  effect .auth (takeMgmt (fun c => !toHost c && decide (kindOf c = kAUTH)) (fun b s => onDev (authTake s.now b) s)) s

/-- AUTH_TIMEOUT: 100 ms after the ACCEPT without a valid AUTH (R423). -/
def authExpire (now : W64) (i : Nat) (d : Dev) : Dev :=
  let x := d.session i
  if x.opened && !x.established && elapsed now x.tick 100000000 then endSession i d else d

def execAuthTimeout (session : Nat) (s : State) := effect (.authTimeout session) (onDev (authExpire s.now session)) s

/-- CLOSE (R424): the session ends; a cell that fails its tag or SEQ is dropped. -/
def closeTake (b : Box) (d : Dev) : Dev :=
  match openCell d b.cell with
  | some _ => endSession (sessionOf b.cell) (consume b d)
  | none => discardMgmt b d

def execClose (s : State) :=
  effect .close (takeMgmt (fun c => !toHost c && decide (kindOf c = kCLOSE)) (fun b => onDev (closeTake b))) s

/-- SESSION_IDLE_TIMEOUT (R424): IDLE_S seconds without a valid cell; 0 sets no limit. -/
def idleExpire (now : W64) (i : Nat) (d : Dev) : Dev :=
  let x := d.session i
  let secs := rd d Page.mgt Reg.MGT_SESSION_CFG_IDLE_S
  if x.established && decide (secs ≠ 0) && elapsed now x.tick (secs * 1000000000) then deviceClose now i 2 d else d

def execSessionIdleTimeout (session : Nat) (s : State) :=
  effect (.sessionIdleTimeout session) (onDev (idleExpire s.now session)) s

/-! ### Events (R419, R425) -/

/-- The event session, while VALID and established. -/
def eventSession (d : Dev) : Option Nat :=
  let i := rd d Page.mgt Reg.MGT_EVENT_SESSION_SESSION
  if rdBit d Page.mgt Reg.MGT_EVENT_SESSION_VALID && (d.session i).established then some i else none

/-- Words of a DATA record, most significant byte first, padded to 14. -/
def recordWords (ws : List W32) : List Byte := (fitWords 14 ws).flatMap (fun w => bytesBE 4 w.toNat)

/-- A DATA record (R425). -/
def dataRecord (req op n offset : Nat) (ws : List W32) (status : Nat) : List Byte :=
  bytesBE 2 req ++ [BitVec.ofNat 8 op, BitVec.ofNat 8 n] ++ bytesBE 4 offset ++ recordWords ws ++
    [BitVec.ofNat 8 status, 0, 0, 0]

/-- Send the EVENT record of a page; without a session or room it waits (R172, R419). -/
def sendEvent (now : W64) (p : Page) (d : Dev) : Dev :=
  match eventSession d with
  | none => d
  | some i =>
    let ws := [rdWord d p 0x000, rdWord d p 0x010, rdWord d p 0x018]
    match sealSend now i kDATA (dataRecord 0 0x10 3 p.base ws 0) d with
    | some d1 => seqLimit now i (setEventSent p true (bump Page.mgt Reg.MGT_CNT 6 d1))
    | none => d

/-- The page delivers its interrupt in band and requests one (R419). -/
def inbandRequests (d : Dev) (p : Page) : Bool := decide (pageOwner d p = .inband) && pageRequests d p

/-- EVENT: once for each rise of the request. -/
def event (now : W64) (p : Page) (d : Dev) : Dev :=
  if inbandRequests d p && !sget (konst false) d.ctl.eventSent p.num then sendEvent now p d else d

def execEvent (page : Page) (s : State) := effect (.event page) (onDev (event s.now page)) s

/-- Every page of the device that has OWNER 1 and requests an interrupt now. -/
def inbandPages (d : Dev) : List Page :=
  (List.range 16).flatMap (fun c => (pagesOfCode d c).filter (inbandRequests d))

/-- EVENT_SESSION written valid: one EVENT for every page with OWNER 1 then requesting (R419). -/
def eventSessionValid (now : W64) (d : Dev) : Dev :=
  if rdBit d Page.mgt Reg.MGT_EVENT_SESSION_VALID then
    forEach (inbandPages d) (fun p d => sendEvent now p (setEventSent p false d)) d
  else d

end Sys2Proof.Machine
end

