-- ==== Sys2Proof/Machine/Registers.lean ====
section
/-! DEFINITION. Register accesses (ch. 1, 2): what a read of BAR0 shows and latches (R7, R8, R39), how a write acts
by class and access (R10, R12, R15, R54, R59, R62), what each register does when it is written, the windows of BAR4
(R415), and the rows of the table that are writes of one register. -/

namespace Sys2Proof.Machine

/-! ### Pages that answer (R39, R427, R489) -/

/-- The running image has started: until then PKG and MGT alone answer. -/
def imageRuns (d : Dev) : Bool := decide (rd d Page.mgt Reg.MGT_BOOT_STAT_STAGE = 2)

def pageAnswers (d : Dev) (p : Page) : Bool := decide (p = Page.pkg ∨ p = Page.mgt) || imageRuns d

/-- The source reaches no register: no power, or for the host PERST_N asserted or D3hot (R416, R441). -/
def unreachable' (d : Dev) (src : Src) : Bool :=
  !d.rst.pwrGood || (decide (src = .pcie) && (d.rst.perst || d.ctl.d3hot))

/-- Port-level fields of a LNK page that is not its port's lowest lane (R112): bits that read 0 and take no
write. -/
def portBits (d : Dev) (p : Page) (off : Nat) : W32 :=
  if p.blk ≠ .lnk ∨ isPort d p.inst = true then 0
  else if off = 0x100 then 0x5
  else if [0x104, 0x108, 0x110, 0x114, 0x118].contains off then 0xFFFFFFFF
  else 0

/-! ### What a register shows (R10, R54) -/

/-- RESET_STAT with PHASE as it stands: a drain is draining from 1 µs after its write (R450). -/
def resetStat (s : State) : W32 :=
  let d := s.dev
  let w := rdWord d Page.pkg 0x118
  if resetPhase d = 1 ∧ rd d Page.pkg Reg.PKG_RESET_STAT_LAST = 3 ∧ resetElapsed s 1000 = true then withBits w 27 24 2
  else w

/-- DRAIN_STAT of the group DRAIN_SEL names (R263). -/
def drainStat (d : Dev) : W32 :=
  let g := rd d Page.col Reg.COL_DRAIN_SEL_GROUP
  let ws := grp d g
  BitVec.ofNat 32 ((if gDraining ws then 2 ^ 31 else 0) + gGen ws * 65536 + min 0xFFFF (d.groupRec g).stale)

/-- The straggler entry STRAG_SEL names (R260). -/
def stragEntry (d : Dev) : List W32 := tget d Page.col 2 (rd d Page.col Reg.COL_STRAG_SEL_GROUP)

/-- COL's registers that show live state (R271). -/
def colWord (d : Dev) (off : Nat) : Option W32 :=
  match off with
  | 0x10C => some (BitVec.ofNat 32 ((ctxList d).filter (fun e => e.2.isResident)).length)
  | 0x110 => some (BitVec.ofNat 32 ((ctxList d).filter (fun e => !e.2.isResident)).length)
  | 0x114 => some (BitVec.ofNat 32 ((areaSize d - areaUsed d) / 2 ^ 20))
  | 0x12C => some (drainStat d)
  | 0x134 =>
    let ws := stragEntry d
    some (BitVec.ofNat 32 ((if word ws 3 = 0 then 0 else 2 ^ 31) + wbits ws 0 20 0))
  | 0x138 => some (word (stragEntry d) 1)
  | 0x13C => some (word (stragEntry d) 2)
  | _ => none

/-- LDL's registers that show live state (R336, R337). -/
def ldlWord (now : W64) (d : Dev) (inst off : Nat) : Option W32 :=
  let slot := rd d (Page.region 0) Reg.LDL_RECIPE_SEL_SLOT
  let half := fun (v : Nat) => some (if off % 8 = 0 then lo32 v else hi32 v)
  if inst < 8 ∧ (off = 0x108 ∨ off = 0x10C) then half (clockAt now d inst).cycles
  else if 8 ≤ inst ∧ 0x180 ≤ off ∧ off < 0x200 ∧ (off - 0x180) / 8 % 4 = 2 then
    half (blockFront now d (inst - 8) ((off - 0x180) / 32))
  else if inst < 8 ∧ off = 0x104 then some (BitVec.ofNat 32 (residentLimit d inst))
  else if inst = 0 ∧ off = 0x11C then some (BitVec.ofNat 32 (versionUse d (storeOf d slot 1) slot))
  else if inst = 0 ∧ off = 0x120 then
    some (if isRetiring d slot then BitVec.ofNat 32 (versionUse d (storeOf d slot 0) slot) else 0)
  else none

/-- TIM's registers that show live state (R364, R367). -/
def timWord (s : State) (off : Nat) : Option W32 :=
  let f := fabricAt s.dev s.now
  match off with
  | 0x110 => some (lo32 (f / 65536))
  | 0x114 => some (hi32 (f / 65536))
  | 0x118 => some (BitVec.ofNat 32 (f % 65536))
  | 0x120 => some (lo32 s.now.toNat)
  | 0x124 => some (hi32 s.now.toNat)
  | _ => none

/-- Registers computed at the read. -/
def liveWord (s : State) (p : Page) (off : Nat) : Option W32 :=
  let d := s.dev
  match p.blk with
  | .pkg => if off = 0x118 then some (resetStat s) else none
  | .fwd =>
    if off = 0x108 then
      some (withBits (withBits (rdWord d p off) 3 3 (if bankWritable d 1 then 1 else 0)) 2 2 (if bankWritable d 0 then 1 else 0))
    else none
  | .etm =>
    if 0x1C0 ≤ off ∧ off < 0x1E0 then
      some (BitVec.ofNat 32 (classLevel s.now d p.inst ((off - 0x1C0) / 4) / byteUnits))
    else if off = 0x10C && !etmRunning d p.inst then some 0xFF
    else none
  | .col => colWord d off
  | .ldl => ldlWord s.now d p.inst off
  | .stk =>
    if off = 0x10C then some (BitVec.ofNat 32 ((2 + rd d Page.col Reg.COL_CTX_AREA_GIB) * 65536 + 480))
    else if off = 0x110 then some (BitVec.ofNat 32 (trackersUsed d))
    else none
  | .tim => timWord s off
  | _ => none

/-- The word a present page shows at a mapped offset. -/
def pageWord (s : State) (p : Page) (off : Nat) : W32 :=
  ((liveWord s p off).getD (shownWord s.dev (p.base + off))) &&& ~~~(portBits s.dev p off)

/-- The word a page whose PRESENT is 0 shows (R39). -/
def absentWord (p : Page) (off : Nat) : W32 :=
  if off = 0x000 then p.resetWord 0 else if off = 0x004 then p.resetWord 4 &&& ~~~0x8 else 0

def shown (s : State) (p : Page) (off : Nat) : W32 :=
  if pagePresent s.dev p then pageWord s p off else absentWord p off

/-! ### The read latch (R8, R367) -/

def latchOf (d : Dev) (src : Src) : Option Latch :=
  match src with
  | .pcie => d.ctl.latchHost
  | .inband => d.ctl.latchInband

def setLatch (src : Src) (l : Latch) (d : Dev) : Dev :=
  match src with
  | .pcie => { d with ctl := { d.ctl with latchHost := some l } }
  | .inband => { d with ctl := { d.ctl with latchInband := some l } }

/-- The value the source's latch holds for an address: the high word of its register, or the further word that
NOW_NS latches. -/
def latched (d : Dev) (src : Src) (addr : Nat) : Option W32 :=
  match latchOf d src with
  | none => none
  | some l =>
    if addr = l.offset + 4 then some l.high
    else if l.offset = Page.tim.base + 0x110 ∧ addr = l.offset + 8 then some l.further
    else none

/-- The latch a 32-bit read of a low word takes. -/
def takeLatch (src : Src) (p : Page) (off : Nat) (s : State) : State :=
  onDev (setLatch src { offset := p.base + off, high := shown s p (off + 4), further := shown s p (off + 8) }) s

/-! ### Reads of BAR0 (R7, R13, R39) -/

/-- An access refused under R7, R13, R39 or R415: recorded in PKG. -/
def refuseAccess (src : Src) (addr : Nat) (s : State) : State :=
  onDev (setErr Page.pkg errBadAccess src (addr % 4096) 0) s

/-- A read at this instant of a page's state shows it settled (R50, R51). -/
def settleRead (p : Page) (off : Nat) (s : State) : State := if off = 0x00C then onDev (settle p) s else s

def halfOf (p : Page) (off : Nat) : Nat := match p.regAt off with | some r => r.half | none => 0

/-- A register of the page is mapped at the offset; on an absent page every offset reads. -/
def maps (d : Dev) (p : Page) (off : Nat) : Bool := !pagePresent d p || (p.regAt off).isSome

/-- One word of a page; `narrow` is a 32-bit read, which uses and sets the latch (R8). -/
def readPage (src : Src) (narrow : Bool) (p : Page) (off : Nat) (s : State) : W32 × State :=
  if !pageAnswers s.dev p then (0xFFFFFFFF, s)
  else if !maps s.dev p off then (0, onDev (setErr p errBadAccess src off 0) s)
  else
    let s1 := settleRead p off s
    let held := if narrow then latched s1.dev src (p.base + off) else none
    let s2 := if narrow && halfOf p off == 1 then takeLatch src p off s1 else s1
    (held.getD (shown s1 p off), s2)

/-- An aligned 32-bit or 64-bit access. -/
def alignedAccess (addr bytes : Nat) : Bool := decide (bytes = 4 ∨ bytes = 8) && decide (addr % bytes = 0)

/-- The page of an access that is not refused under R7 or for an absent instance (R39). -/
def bar0Page (addr bytes : Nat) : Option (Page × Nat) :=
  if !alignedAccess addr bytes then none
  else
    match pageOf addr with
    | some (p, off) => if p.exists then some (p, off) else none
    | none => none

/-- All ones of the access's width. -/
def allOnes (bytes : Nat) : W64 := if bytes = 8 then 0xFFFFFFFFFFFFFFFF else 0xFFFFFFFF

def join (lo hi : W32) : W64 := BitVec.ofNat 64 (lo.toNat + 2 ^ 32 * hi.toNat)

/-- A read in BAR0. -/
def bar0Read (src : Src) (addr bytes : Nat) (s : State) : W64 × State :=
  match bar0Page addr bytes with
  | none => (allOnes bytes, refuseAccess src addr s)
  | some (p, off) =>
    if bytes = 4 then
      let r := readPage src true p off s
      (join r.1 0, r.2)
    else
      let a := readPage src false p off s
      let b := readPage src false p (off + 4) a.2
      (join a.1 b.1, b.2)

/-! ### Fields as written (R10, R12, R15, R54) -/

/-- Bits of a register's fields that satisfy a test. -/
def fldMask (ok : Fld → Bool) (l : List Fld) : W32 :=
  BitVec.ofNat 32 ((l.filter ok).map (fun f => 2 ^ (f.hi + 1) - 2 ^ f.lo)).sum

/-- Q fields take a value now (R54). -/
def quiescedOrIdle (d : Dev) (p : Page) : Bool := decide (pageState d p = stIdle ∨ pageState d p = stQuiesced)

/-- Fields that take the value written at once: L fields, and Q fields of a page idle or quiesced, with a listed
encoding (R15). -/
def takesNow (open' : Bool) (v : W32) (f : Fld) : Bool :=
  decide (f.acc = .rw) && f.ok v && (decide (f.cls = .L) || (decide (f.cls = .Q) && open'))

/-- Error classes of a write: an unlisted encoding of an L or Q field (R15), a Q field of a page that is neither
idle nor quiesced (R54). -/
def writeErrs (open' : Bool) (v : W32) (l : List Fld) : List Nat :=
  (if l.any (fun f => isWritable f && !f.ok v && (decide (f.cls = .L) || (decide (f.cls = .Q) && open'))) then [errBadEncoding] else []) ++
    (if l.any (fun f => decide (f.cls = .Q) && !open') then [errQReject] else [])

/-- The S fields of a register are staged (R54). -/
def stageFields (p : Page) (off : Nat) (v : W32) (l : List Fld) (d : Dev) : Dev :=
  let m := fldMask (fun f => decide (f.cls = .S)) l
  if m = 0 then d else setStagedAt (p.base + off) (some (v &&& m)) d

/-- A write of a register by its fields, without what the register does beyond holding them. -/
def fieldWrite (src : Src) (p : Page) (off : Nat) (v : W32) (r : RegDef) (d : Dev) : Dev :=
  let closed := portBits d p off
  let open' := quiescedOrIdle d p
  let w := rdWord d p off
  let w1c := fldMask (fun f => decide (f.acc = .w1c)) r.flds
  let set := fldMask (takesNow open' v) r.flds &&& ~~~closed
  let d1 := wrWord p off (merge (w &&& ~~~(v &&& w1c)) set v) d
  let d2 := if closed = 0xFFFFFFFF then d1 else stageFields p off v r.flds d1
  if closed = 0xFFFFFFFF then d2
  else
    match writeErrs open' v r.flds with
    | [] => d2
    | es => setErrs p es src.bit off 0 d2

/-- No WO field that starts an action has an unlisted encoding (R15). -/
def actionOk (r : RegDef) (v : W32) : Bool := !r.flds.any (fun f => decide (f.acc = .wo) && !f.ok v)

/-! ### The header and the table port (R41, R68) -/

/-- A W1C write of PAGE_IRQ: the vector's message goes again while its condition stands (R417). -/
def irqWrite (p : Page) (v : W32) (d : Dev) : Dev :=
  let v' := v &&& 0xFFFF001F
  let d1 := withIrq p (fun d => wrWord p 0x010 (rdWord d p 0x010 &&& ~~~v') d) d
  if vectorTrue d1 (vectorOf p) then msixSend (vectorOf p) d1 else d1

def irqEnWrite (p : Page) (v : W32) (d : Dev) : Dev := withIrq p (wrWord p 0x014 (v &&& 0xFFFF001F)) d

/-- A write of TBL_CMD: TABLE takes its value, a listed OP starts (R69). -/
def tblCmdWrite (src : Src) (p : Page) (v : W32) (s : State) : State :=
  let table := bitsOf v 23 16
  let op := bitsOf v 3 0
  let s1 := onDev (wr p Reg.TBL_CMD_TABLE table) s
  if op = 0 then s1
  else if 5 < op then onDev (setErr p errBadEncoding src 0x040 0) s1
  else tblStart src p table op s1

/-- Offsets of the table port that a running command closes (R72). -/
def portRegister (p : Page) (off : Nat) : Bool := p.hasTables && decide (0x040 ≤ off ∧ off < 0x090 ∧ off ≠ 0x048)

/-! ### What registers do when written -/

/-- LNK_CTL (R112). -/
def lnkCtl (now : W64) (lane : Nat) (v : W32) (d : Dev) : Dev :=
  let p := Page.lnk lane
  let d1 := wrBit p Reg.LNK_LNK_CTL_SPARE_AUTO (v.getLsbD 1) d
  if !isPort d lane then d1
  else
    let d2 := if rdBit d1 p Reg.LNK_LNK_CTL_ADMIN_UP = v.getLsbD 0 then d1 else adminUp now lane (v.getLsbD 0) d1
    doIf (v.getLsbD 2) (retrain now lane) d2

/-- LSR_CTL (R130, R131). -/
def lsrCtl (src : Src) (now : W64) (m : Nat) (v : W32) (d : Dev) : Dev :=
  doIf (v.getLsbD 2) (resume now m) (doIf (v.getLsbD 0) (release src m (v.getLsbD 1)) d)

/-- CARVE (R188): discarded while COL is not idle. -/
def carveWrite (src : Src) (v : W32) (r : RegDef) (d : Dev) : Dev :=
  let p := Page.voq
  if pageState d Page.col ≠ stIdle then
    setErrs p ((if quiescedOrIdle d p then [] else [errQReject]) ++ [16]) src.bit 0x100 0 d
  else recomputeFree (fieldWrite src p 0x100 v r d)

/-- RING_CFG (R471): a ring beyond the sampling area is refused; a write that takes effect empties the ring. -/
def ringCfg (src : Src) (v : W32) (r : RegDef) (d : Dev) : Dev :=
  let p := Page.tel
  let d1 := fieldWrite src p 0x104 v r d
  if !quiescedOrIdle d p then d1
  else if 1024 < rd d1 p Reg.TEL_RING_CFG_OFFSET_MIB + rd d1 p Reg.TEL_RING_CFG_SIZE_MIB then
    setErr p errBadEncoding src 0x104 0 d
  else wrWord p 0x108 0 (wrWord p 0x10C 0 d1)

/-- TIM_CFG (R383): SERVO_EN and PPS_OUT_EN are live. -/
def timCfg (src : Src) (now : W64) (v : W32) (r : RegDef) (d : Dev) : Dev :=
  servoBits now (servoOn d) (isRoot d) (fieldWrite src Page.tim 0x100 v r d)

/-- JUMP_LIMIT (R369): from the host alone. -/
def jumpLimit (src : Src) (v : W32) (r : RegDef) (d : Dev) : Dev :=
  if src = .inband then setErr Page.tim 17 src 0x104 0 d else fieldWrite src Page.tim 0x104 v r d

/-- The WO registers that hold part of a step or a SET (R368, R369). -/
def timOperand (off : Nat) (v : W32) (d : Dev) : Dev :=
  match off with
  | 0x128 => { d with tim := { d.tim with adjNs := v } }
  | 0x130 => { d with tim := { d.tim with setNs := join v (hi32 d.tim.setNs.toNat) } }
  | _ => { d with tim := { d.tim with setNs := join (lo32 d.tim.setNs.toNat) v } }

/-- The registers of TIM (R383). -/
def timWrite (src : Src) (now : W64) (off : Nat) (v : W32) (r : RegDef) (d : Dev) : Dev :=
  match off with
  | 0x100 => timCfg src now v r d
  | 0x104 => jumpLimit src v r d
  | 0x128 | 0x130 | 0x134 => timOperand off v d
  | 0x12C => doIf (v.getLsbD 31) (stepRequest now src (v.getLsbD 30) (bitsOf v 15 0)) d
  | 0x138 => doIf (v.getLsbD 31) (setTime now src (bitsOf v 15 0)) d
  | 0x140 => doIf (v.getLsbD 0) (snap now) d
  | _ => fieldWrite src Page.tim off v r d

/-- The registers of ETM (R213): START takes NEXT_LIST as it is in force (R205). -/
def etmWrite (src : Src) (now : W64) (lane off : Nat) (v : W32) (r : RegDef) (d : Dev) : Dev :=
  let p := Page.etm lane
  match off with
  | 0x104 => doIf (v.getLsbD 1) (gateStartAt (setErr p 16 src off) lane (fabricNs d now)) (fieldWrite src p off v r d)
  | 0x128 => setHold lane (bitsOf v 6 0) d
  | 0x1BC => fieldWrite src p off (v &&& 0x7FFFFFFF) r d
  | _ => fieldWrite src p off v r d

/-- The registers of FWD (R162): EPOCH_CTL, and the high word of a digest, which arms its segment (R159). -/
def fwdWrite (src : Src) (now : W64) (off : Nat) (v : W32) (r : RegDef) (d : Dev) : Dev :=
  let d1 := fieldWrite src Page.fwd off v r d
  if off = 0x104 then epochCtl now src (v.getLsbD 2) (v.getLsbD 0) (v.getLsbD 1) d
  else if 0x140 ≤ off ∧ off < 0x180 ∧ off % 8 = 4 then armSegment ((off - 0x140) / 8) d1
  else d1

/-- The registers of MGT (R439). -/
def mgtWrite (src : Src) (off : Nat) (v : W32) (r : RegDef) (s : State) : State :=
  let s1 := onDev (fieldWrite src Page.mgt off v r) s
  match off with
  | 0x108 => if actionOk r v then onDev (secCmd s.now s.mem src (bitsOf v 31 28)) s1 else s1
  | 0x11C => onDev (eventSessionValid s.now) s1
  | _ => s1

/-- The registers of PKG (R66, R463). -/
def pkgWrite (src : Src) (off : Nat) (v : W32) (r : RegDef) (s : State) : State :=
  let s1 := onDev (fieldWrite src Page.pkg off v r) s
  match off with
  | 0x100 => if v.getLsbD 0 then abortAll s1 else s1
  | 0x108 => onDev (ownerAll src (bitsOf v 31 16) (v.getLsbD 8) (srcOfBit (bitsOf v 0 0))) s1
  | 0x110 => if actionOk r v && v.getLsbD 0 then resetWrite src (bitsOf v 7 4) s1 else s1
  | _ => s1

/-- The registers of COL (R271). -/
def colWrite (src : Src) (off : Nat) (v : W32) (r : RegDef) (s : State) : State :=
  let s1 := onDev (fieldWrite src Page.col off v r) s
  match off with
  | 0x120 => if v.getLsbD 31 then resizeCmd src (v.getLsbD 30) (bitsOf v 15 0) s1 else s1
  | 0x140 => onDev (stragClear (bitsOf v 15 0)) s1
  | _ => s1

/-- The registers of LDL[0] that start a command (R337). -/
def ldlWrite (src : Src) (inst off : Nat) (v : W32) (r : RegDef) (d : Dev) : Dev :=
  let d1 := fieldWrite src (Page.region inst) off v r d
  let op := bitsOf v 31 30
  if inst = 0 ∧ off = 0x110 ∧ actionOk r v = true ∧ op ≠ 0 then recipeCmd src (decide (op = 1)) (bitsOf v 7 0) d1 else d1

/-- The registers of DBG (R431). -/
def dbgWrite (src : Src) (off : Nat) (v : W32) (r : RegDef) (d : Dev) : Dev :=
  match off with
  | 0x108 => doIf (actionOk r v) (dbgCommand src (bitsOf v 31 30)) (fieldWrite src Page.dbg off v r d)
  | 0x110 => haltWrite src (bitsOf v 1 0) d
  | _ => fieldWrite src Page.dbg off v r d

/-- A register of the block's own part of a page. -/
def blockWrite (src : Src) (p : Page) (off : Nat) (v : W32) (r : RegDef) (s : State) : State :=
  match p.blk with
  | .pkg => pkgWrite src off v r s
  | .mgt => mgtWrite src off v r s
  | .col => colWrite src off v r s
  | .tim => onDev (timWrite src s.now off v r) s
  | .etm => onDev (etmWrite src s.now p.inst off v r) s
  | .fwd => onDev (fwdWrite src s.now off v r) s
  | .ldl => onDev (ldlWrite src p.inst off v r) s
  | .dbg => onDev (dbgWrite src off v r) s
  | .lnk => if off = 0x100 then onDev (lnkCtl s.now p.inst v) s else onDev (fieldWrite src p off v r) s
  | .opt =>
    if 8 ≤ p.inst ∧ off = 0x100 then onDev (lsrCtl src s.now (p.inst - 8) v) s else onDev (fieldWrite src p off v r) s
  | .byp =>
    onDev (fun d =>
      let d1 := fieldWrite src p off v r d
      if off = 0x104 then circCommand s.now src (bitsOf v 31 30) (v.getLsbD 29) (bitsOf v 6 0) d1 else d1) s
  | .voq => if off = 0x100 then onDev (carveWrite src v r) s else onDev (fieldWrite src p off v r) s
  | .tel =>
    if off = 0x104 then onDev (ringCfg src v r) s
    else if off = 0x140 then (if v.getLsbD 0 then onDev (capture s.now) s else s)
    else onDev (fieldWrite src p off v r) s
  | .xbs | .stk | .pmc => onDev (fieldWrite src p off v r) s

/-- A mapped register, written by its page's owner. -/
def regWrite (src : Src) (p : Page) (off : Nat) (v : W32) (r : RegDef) (s : State) : State :=
  if portRegister p off && tblRunning s.dev p then onDev (setErr p errTblBusy src off 0) s
  else
    match off with
    | 0x008 => ctlWrite p v.toNat s
    | 0x010 => onDev (irqWrite p v) s
    | 0x014 => onDev (irqEnWrite p v) s
    | 0x024 => if v.getLsbD 0 then onDev (commitWrite src p (bitsOf v 31 24)) s else s
    | _ =>
      if off < 0x100 then
        if off = 0x040 ∧ p.hasTables = true then tblCmdWrite src p v s else onDev (fieldWrite src p off v r) s
      else blockWrite src p off v r s

/-! ### Writes of BAR0 (R7, R13, R39, R59, R62) -/

/-- Debug is locked for this register of the DBG page (R62, R431). -/
def dbgLocked (d : Dev) (p : Page) (off : Nat) : Bool :=
  decide (p = Page.dbg) && !dbgOpen d && !([0x010, 0x018, 0x020].contains off)

/-- One word of a present page. PAGE_OWNER is judged by R59 alone; every other write must be the owner's. -/
def writePage (src : Src) (p : Page) (off : Nat) (v : W32) (s : State) : State :=
  let d := s.dev
  if !pageAnswers d p then s
  else if off = 0x020 then onDev (ownerWrite src p (srcOfBit (bitsOf v 0 0)) (v.getLsbD 8)) s
  else
    let owned := decide (pageOwner d p = src)
    let locked := dbgLocked d p off
    match p.regAt off with
    | some r =>
      if !owned then onDev (setErr p errNonOwner src off 0) s
      else if locked then onDev (dbgRefuse src off) s
      else regWrite src p off v r s
    | none =>
      onDev (setErrs p ((if owned then [] else [errNonOwner]) ++ [errBadAccess] ++ (if owned && locked then [16] else []))
        src.bit off 0) s

/-- A 64-bit write refused under R59 is refused once. -/
def refusedOnce (src : Src) (p : Page) (off : Nat) (d : Dev) : Bool :=
  decide (pageOwner d p ≠ src) && decide (off ≠ 0x020) && pageAnswers d p

/-- A write in BAR0. -/
def bar0Write (src : Src) (addr bytes : Nat) (value : W64) (s : State) : State :=
  match bar0Page addr bytes with
  | none => refuseAccess src addr s
  | some (p, off) =>
    if !pagePresent s.dev p then (if pageAnswers s.dev p then refuseAccess src addr s else s)
    else
      let s1 := writePage src p off (lo32 value.toNat) s
      if bytes = 4 ∨ refusedOnce src p off s.dev = true then s1 else writePage src p (off + 4) (hi32 value.toNat) s1

/-! ### BAR4 (R415, R468, R473) -/

/-- The kinds of a BAR4 word. -/
inductive Win where
  | store (rw : Bool) | pba | dest (bank : Nat) | group | trace | reserved
  deriving DecidableEq, Repr

def winOf (a : Nat) : Win :=
  if a < 0x40000 then .store true
  else if a < 0x80000 then .store false
  else if a < 0x81000 then .store true
  else if a < 0x81020 then .pba
  else if 0x90000 ≤ a ∧ a < 0x91000 then .store true
  else if 0x91000 ≤ a ∧ a < 0x92000 then .store false
  else if 0x100000 ≤ a ∧ a < 0x120000 then .dest 0
  else if 0x120000 ≤ a ∧ a < 0x140000 then .dest 1
  else if 0x200000 ≤ a ∧ a < 0x400000 then .group
  else if 0x800000 ≤ a ∧ a < 0x801000 then .store false
  else if 0xC00000 ≤ a ∧ a < 0x1000000 then .trace
  else .reserved

/-- A word of the pending bit array. -/
def pbaWord (d : Dev) (k : Nat) : W32 :=
  BitVec.ofNat 32 (((List.range 32).map (fun i => if sget (konst false) d.ctl.pba (32 * k + i) then 2 ^ i else 0)).sum)

/-- A word of the ring window (R473). -/
def traceWord (s : State) (off : Nat) : W32 :=
  let at' := rd s.dev Page.tel Reg.TEL_TRACE_WIN_WIN * 2 ^ 22 + off
  if ringSize s.dev * 64 ≤ at' then 0xFFFFFFFF
  else BitVec.ofNat 32 (natOfLE (memRead s.mem (ringBase s.dev + at') 4))

/-- A word of BAR4; none for a reserved range. -/
def bar4Word (s : State) (a : Nat) : Option W32 :=
  match winOf a with
  | .store _ => some (BitVec.ofNat 32 (natOfLE (bar4Bytes s.dev a 4)))
  | .pba => some (pbaWord s.dev ((a - 0x81000) / 4))
  | .dest b =>
    let k := (a - (0x100000 + b * 0x20000)) / 4
    some (if k % 8 = 7 then 0 else word (tget s.dev Page.fwd b (k / 8)) (k % 8))
  | .group =>
    let k := (a - 0x200000) / 4
    some (word (entryWords s Page.col 0 (k / 8)) (k % 8))
  | .trace => some (traceWord s (a - 0xC00000))
  | .reserved => none

/-- The source reaches the word: the in-band channel has the security buffers alone (R425). -/
def bar4Reach (src : Src) (a : Nat) : Bool := decide (src = .pcie) || decide (0x90000 ≤ a ∧ a < 0x92000)

def bar4ReadWord (src : Src) (a : Nat) (s : State) : W32 × State :=
  match (if bar4Reach src a then bar4Word s a else none) with
  | some w => (w, s)
  | none => (0xFFFFFFFF, refuseAccess src a s)

/-- A word of the MSI-X table as PCI Express stores it: a message address is 4-byte aligned, and of the vector
control word the mask bit alone is held (log 8). -/
def msixMask (a : Nat) (v : W32) : W32 :=
  if 0x80000 ≤ a ∧ a < 0x81000 then
    (if a % 16 = 0 then v &&& 0xFFFFFFFC else if a % 16 = 12 then v &&& 1 else v)
  else v

def bar4WriteWord (src : Src) (a : Nat) (v : W32) (s : State) : State :=
  if bar4Reach src a && decide (winOf a = .store true) then
    onDev (fun d => msixFlush (setBar4 a (bytesLE 4 (msixMask a v).toNat) d)) s
  else refuseAccess src a s

def bar4Size : Nat := 0x1000000

def bar4Read (src : Src) (addr bytes : Nat) (s : State) : W64 × State :=
  if !alignedAccess addr bytes || decide (bar4Size ≤ addr) then (allOnes bytes, refuseAccess src addr s)
  else
    let a := bar4ReadWord src addr s
    if bytes = 4 then (join a.1 0, a.2)
    else
      let b := bar4ReadWord src (addr + 4) a.2
      (join a.1 b.1, b.2)

def bar4Write (src : Src) (addr bytes : Nat) (value : W64) (s : State) : State :=
  if !alignedAccess addr bytes || decide (bar4Size ≤ addr) then refuseAccess src addr s
  else
    let s1 := bar4WriteWord src addr (lo32 value.toNat) s
    if bytes = 4 then s1 else bar4WriteWord src (addr + 4) (hi32 value.toNat) s1

/-! ### Configuration space (R413, R414, log 8) -/

def cfgWord (d : Dev) : W64 := (if d.ctl.busMaster then 1 else 0) + (if d.ctl.msixEnable then 2 else 0)

/-- A host write of Bus Master Enable and MSI-X Enable; vectors that were held are sent (R447). -/
def cfgWrite (value : W64) (d : Dev) : Dev :=
  msixFlush { d with ctl := { d.ctl with busMaster := value.getLsbD 0, msixEnable := value.getLsbD 1 } }

/-! ### Accesses -/

def access (src : Src) (bar : Bar) (addr bytes : Nat) (value : W64) (s : State) : State :=
  match bar with
  | .bar0 => if unreachable' s.dev src then s else bar0Write src addr bytes value s
  | .bar4 => if unreachable' s.dev src then s else bar4Write src addr bytes value s
  | .cfg => if src = .pcie ∧ s.dev.rst.pwrGood = true ∧ s.dev.rst.perst = false then onDev (cfgWrite value) s else s

/-- A read and what it returns; a function that decodes nothing returns all ones (log 8). -/
def accessRead (src : Src) (bar : Bar) (addr bytes : Nat) (s : State) : W64 × State :=
  match bar with
  | .bar0 => if unreachable' s.dev src then (allOnes bytes, s) else bar0Read src addr bytes s
  | .bar4 => if unreachable' s.dev src then (allOnes bytes, s) else bar4Read src addr bytes s
  | .cfg => if src = .pcie ∧ s.dev.rst.pwrGood = true ∧ s.dev.rst.perst = false then (cfgWord s.dev, s) else (allOnes bytes, s)

/-- REGISTER_WRITE: a write of any register or window; one that has a row of its own acts as that row. -/
def execRegisterWrite (src : Src) (bar : Bar) (addr bytes : Nat) (value : W64) (s : State) :=
  effect (.registerWrite src bar addr bytes value) (access src bar addr bytes value) s

/-- LOW_WORD_READ: a read of any register or window; that of a low word latches (R8). Its value is recorded as
an output. -/
def execLowWordRead (src : Src) (bar : Bar) (addr bytes : Nat) (s : State) :=
  effect (.lowWordRead src bar addr bytes)
    (fun s =>
      let r := accessRead src bar addr bytes s
      onDev (emit (.readData src addr r.1)) r.2) s

/-! ### The rows that are a write of one register -/

/-- A 32-bit write of a register of a page. -/
def write32 (src : Src) (p : Page) (off v : Nat) (s : State) : State :=
  access src .bar0 (p.base + off) 4 (BitVec.ofNat 64 (v % 2 ^ 32)) s

def bit (b : Bool) : Nat := if b then 1 else 0

/-- ENABLE written, QUIESCE_REQ as it stands (R50). -/
def execEnable (src : Src) (page : Page) (v : Bool) (s : State) :=
  effect (.enable src page v)
    (fun s => write32 src page 0x008 (bit v + 2 * rd s.dev page Reg.PAGE_CTL_QUIESCE_REQ) s) s

/-- QUIESCE_REQ written, ENABLE as it stands (R50). -/
def execQuiesceReq (src : Src) (page : Page) (v : Bool) (s : State) :=
  effect (.quiesceReq src page v)
    (fun s => write32 src page 0x008 (rd s.dev page Reg.PAGE_CTL_ENABLE + 2 * bit v) s) s

def execAbort (src : Src) (page : Page) (s : State) := effect (.abort src page) (write32 src page 0x008 4) s

def execBlockReset (src : Src) (page : Page) (s : State) := effect (.blockReset src page) (write32 src page 0x008 8) s

def execCommit (src : Src) (page : Page) (tag : Nat) (s : State) :=
  effect (.commit src page tag) (write32 src page 0x024 (tag % 256 * 2 ^ 24 + 1)) s

def execPageOwnerWrite (src : Src) (page : Page) (owner : Src) (lock : Bool) (s : State) :=
  effect (.pageOwnerWrite src page owner lock) (write32 src page 0x020 (owner.bit + 256 * bit lock)) s

def execAbortAll (src : Src) (s : State) := effect (.abortAll src) (write32 src Page.pkg 0x100 1) s

def execOwnerAll (src : Src) (mask : Nat) (lock : Bool) (owner : Src) (s : State) :=
  effect (.ownerAll src mask lock owner)
    (write32 src Page.pkg 0x108 (mask % 65536 * 65536 + 256 * bit lock + owner.bit)) s

/-- A table command with the given OP (R69, R70). -/
def tblWriteCmd (src : Src) (page : Page) (table op : Nat) (s : State) : State :=
  write32 src page 0x040 (table % 256 * 65536 + op) s

def execTblRead (src : Src) (page : Page) (table : Nat) (s : State) :=
  effect (.tblRead src page table) (tblWriteCmd src page table toREAD) s

def execTblWrite (src : Src) (page : Page) (table : Nat) (s : State) :=
  effect (.tblWrite src page table) (tblWriteCmd src page table toWRITE) s

def execTblInsert (src : Src) (page : Page) (table : Nat) (s : State) :=
  effect (.tblInsert src page table) (tblWriteCmd src page table toINSERT) s

def execTblDelete (src : Src) (page : Page) (table : Nat) (s : State) :=
  effect (.tblDelete src page table) (tblWriteCmd src page table toDELETE) s

def execCmpwr (src : Src) (page : Page) (table : Nat) (s : State) :=
  effect (.cmpwr src page table) (tblWriteCmd src page table toCMPWR) s

/-- GATE_CTL.START, NEXT_LIST as last written. -/
def execGateStart (src : Src) (lane : Nat) (s : State) :=
  effect (.gateStart src lane)
    (fun s => write32 src (Page.etm lane) 0x104 (2 + (shownWord s.dev ((Page.etm lane).base + 0x104)).toNat % 2) s) s

def execHoldWrite (src : Src) (lane mask : Nat) (s : State) :=
  effect (.holdWrite src lane mask) (write32 src (Page.etm lane) 0x128 mask) s

/-- ADMIN_UP written, SPARE_AUTO as it stands. -/
def execAdminUp (src : Src) (lane : Nat) (v : Bool) (s : State) :=
  effect (.adminUp src lane v)
    (fun s => write32 src (Page.lnk lane) 0x100 (bit v + 2 * rd s.dev (Page.lnk lane) Reg.LNK_LNK_CTL_SPARE_AUTO) s) s

/-- RETRAIN written, the other fields as they stand. -/
def execRetrain (src : Src) (lane : Nat) (s : State) :=
  effect (.retrain src lane)
    (fun s => write32 src (Page.lnk lane) 0x100 (4 + (rdWord s.dev (Page.lnk lane) 0x100).toNat % 4) s) s

def execRelease (src : Src) (m : Nat) (force : Bool) (s : State) :=
  effect (.release src m force) (write32 src (Page.laser m) 0x100 (1 + 2 * bit force)) s

def execResume (src : Src) (m : Nat) (s : State) := effect (.resume src m) (write32 src (Page.laser m) 0x100 4) s

def execSwap (src : Src) (s : State) := effect (.swap src) (write32 src Page.fwd 0x104 1) s
def execArm (src : Src) (s : State) := effect (.arm src) (write32 src Page.fwd 0x104 2) s
def execDisarm (src : Src) (s : State) := effect (.disarm src) (write32 src Page.fwd 0x104 4) s

/-- The high word of DIGEST[g] (R159). -/
def execDigestWrite (src : Src) (g : Nat) (high : W32) (s : State) :=
  effect (.digestWrite src g high) (write32 src Page.fwd (0x144 + 8 * g) high.toNat) s

/-- CIRC_CMD with the given OP (R234). -/
def circWrite (src : Src) (op index : Nat) (timed : Bool) (s : State) : State :=
  write32 src Page.byp 0x104 (op * 2 ^ 30 + bit timed * 2 ^ 29 + index) s

def execCircSetup (src : Src) (index : Nat) (timed : Bool) (s : State) :=
  effect (.circSetup src index timed) (circWrite src 1 index timed) s

def execCircTeardown (src : Src) (index : Nat) (timed : Bool) (s : State) :=
  effect (.circTeardown src index timed) (circWrite src 2 index timed) s

def execConfirm (src : Src) (index : Nat) (s : State) :=
  effect (.confirm src index) (circWrite src 3 index false) s

def execResize (src : Src) (abort : Bool) (group : Nat) (s : State) :=
  effect (.resize src abort group) (write32 src Page.col 0x120 (2 ^ 31 + bit abort * 2 ^ 30 + group)) s

def execStragClear (src : Src) (group : Nat) (s : State) :=
  effect (.stragClear src group) (write32 src Page.col 0x140 group) s

def execLoad (src : Src) (slot : Nat) (s : State) :=
  effect (.load src slot) (write32 src (Page.region 0) 0x110 (2 ^ 30 + slot)) s

def execCopy (src : Src) (slot : Nat) (s : State) :=
  effect (.copy src slot) (write32 src (Page.region 0) 0x110 (2 * 2 ^ 30 + slot)) s

def execSnap (src : Src) (s : State) := effect (.snap src) (write32 src Page.tim 0x140 1) s

/-- ADJ_CTL with GO 1 (R368). -/
def execStepRequest (src : Src) (force : Bool) (frac : Nat) (s : State) :=
  effect (.stepRequest src force frac) (write32 src Page.tim 0x12C (2 ^ 31 + bit force * 2 ^ 30 + frac % 65536)) s

/-- SET_CTL with GO 1 (R369). -/
def execSet (src : Src) (frac : Nat) (s : State) :=
  effect (.set src frac) (write32 src Page.tim 0x138 (2 ^ 31 + frac % 65536)) s

def execMbxTxHeadWrite (src : Src) (ptr : Nat) (s : State) :=
  effect (.mbxTxHeadWrite src ptr) (write32 src Page.mgt 0x124 ptr) s

def execEventSessionWrite (src : Src) (valid : Bool) (session : Nat) (s : State) :=
  effect (.eventSessionWrite src valid session) (write32 src Page.mgt 0x11C (8 * bit valid + session)) s

/-- SEC_CMD with the given OP (R428). -/
def secWrite (src : Src) (op : Nat) (s : State) : State := write32 src Page.mgt 0x108 (op * 2 ^ 28) s

def execEnroll (src : Src) (s : State) := effect (.enroll src) (secWrite src scENROLL) s
def execSvnCommit (src : Src) (s : State) := effect (.svnCommit src) (secWrite src scSVN_COMMIT) s
def execAttest (src : Src) (s : State) := effect (.attest src) (secWrite src scATTEST) s
def execUnlock (src : Src) (s : State) := effect (.unlock src) (secWrite src scUNLOCK) s
def execRelock (src : Src) (s : State) := effect (.relock src) (secWrite src scRELOCK) s
def execExtend (src : Src) (s : State) := effect (.extend src) (secWrite src scEXTEND) s
def execChallenge (src : Src) (s : State) := effect (.challenge src) (secWrite src scCHALLENGE) s
def execUpdate (src : Src) (s : State) := effect (.update src) (secWrite src scUPDATE) s

def execDbgRead (src : Src) (s : State) := effect (.dbgRead src) (write32 src Page.dbg 0x108 (2 ^ 30)) s
def execDbgWrite (src : Src) (s : State) := effect (.dbgWrite src) (write32 src Page.dbg 0x108 (2 * 2 ^ 30)) s

def execHalt (src : Src) (mask : Nat) (s : State) := effect (.halt src mask) (write32 src Page.dbg 0x110 mask) s

def execHot (src : Src) (s : State) := effect (.hot src) (write32 src Page.pkg 0x110 0x11) s
def execDrain (src : Src) (s : State) := effect (.drain src) (write32 src Page.pkg 0x110 0x21) s

def execCapture (src : Src) (s : State) := effect (.capture src) (write32 src Page.tel 0x140 1) s

def execRingCfgWrite (src : Src) (value : W32) (s : State) :=
  effect (.ringCfgWrite src value) (write32 src Page.tel 0x104 value.toNat) s

end Sys2Proof.Machine
end

