-- ==== Sys2Proof/Machine/Requests.lean ====
section
/-! DEFINITION. The DATA request of an in-band session (R425): its accesses are those of Machine/Registers.lean
with the in-band channel as source (R59, R60). -/

namespace Sys2Proof.Machine

/-- A request as its plaintext gives it. -/
structure Request where
  req : Nat
  op : Nat
  n : Nat
  offset : Nat
  words : List W32
  deriving DecidableEq, Repr

def parseRequest (plain : List Byte) : Request :=
  { req := natOfBE (plain.take 2),
    op := natOfBE ((plain.drop 2).take 1),
    n := natOfBE ((plain.drop 3).take 1),
    offset := natOfBE ((plain.drop 4).take 4),
    words := (List.range 14).map (fun k => BitVec.ofNat 32 (natOfBE ((plain.drop (8 + 4 * k)).take 4))) }

def opREAD : Nat := 1
def opWRITE : Nat := 2
def opSREAD : Nat := 3
def opSWRITE : Nat := 4

/-- An access in BAR0 is refused under R7 or R39. -/
def refused0 (d : Dev) (write : Bool) (addr : Nat) : Bool :=
  match bar0Page addr 4 with
  | none => true
  | some (p, _) => write && !pagePresent d p

/-- An access in BAR4 is refused under R7 or R415. -/
def refused4 (write : Bool) (addr : Nat) : Bool :=
  !alignedAccess addr 4 || !bar4Reach .inband addr || (write && decide (winOf addr ≠ .store true))

/-- One 32-bit access of a request: the word it read or wrote, and whether it was refused. -/
def requestAccess (op addr : Nat) (v : W32) (s : State) : W32 × Bool × State :=
  let bar : Bar := if op = opREAD ∨ op = opWRITE then .bar0 else .bar4
  let write := decide (op = opWRITE ∨ op = opSWRITE)
  let bad := if bar = .bar0 then refused0 s.dev write addr else refused4 write addr
  if write then (v, bad, access .inband bar addr 4 (join v 0) s)
  else
    let r := accessRead .inband bar addr 4 s
    (lo32 r.1.toNat, bad, r.2)

/-- The words in ascending order: what they gave, whether any was refused. -/
def requestWords (op : Nat) : Nat → List W32 → State → List W32 × Bool × State
  | _, [], s => ([], false, s)
  | addr, v :: vs, s =>
    let a := requestAccess op addr v s
    let rest := requestWords op (addr + 4) vs a.2.2
    (a.1 :: rest.1, a.2.1 || rest.2.1, rest.2.2)

def wordsOfBytes (bs : List Byte) : List W32 :=
  (List.range (bs.length / 4)).map (fun k => BitVec.ofNat 32 (natOfBE ((bs.drop (4 * k)).take 4)))

/-- A free STATUS or free words, where R425 fixes none (log 22). -/
def freeWords (n : Nat) (s : State) : List W32 × State :=
  let r := drawBytes (4 * n) s.dev
  (wordsOfBytes r.1, { s with dev := r.2 })

/-- Perform a request: the words and STATUS of its response. An OP not listed makes no access; R425 gives no
STATUS to an N outside 1 to 14 and no words to an unlisted OP. -/
def performRequest (q : Request) (s : State) : List W32 × Nat × State :=
  if q.op < opREAD ∨ opSWRITE < q.op then
    let r := freeWords 14 s
    (r.1, 2, r.2)
  else if q.n < 1 ∨ 14 < q.n then
    let r := freeWords 15 s
    (r.1.take 14, ((r.1[14]?).getD 0).toNat % 256, r.2)
  else
    let r := requestWords q.op q.offset (q.words.take q.n) s
    (r.1, if r.2.1 then 1 else 0, r.2.2)

/-- The response stays with the session: the latest 16 distinct REQ values. -/
def storeResponse (i req : Nat) (record : List Byte) (d : Dev) : Dev :=
  let x := d.session i
  setSession i { x with responses := ((req, record) :: x.responses.filter (fun r => decide (r.1 ≠ req))).take 16 } d

/-- Queue the response in its session; a session that the request itself has closed sends none. -/
def respondIn (now : W64) (i : Nat) (record : List Byte) (d : Dev) : Dev :=
  if (d.session i).established then seqLimit now i ((sealSend now i kDATA record d).getD d) else d

/-- A request of a session: answered from its store, or performed. -/
def serveRequest (i : Nat) (q : Request) (s : State) : State :=
  match (s.dev.session i).responses.find? (fun r => decide (r.1 = q.req)) with
  | some r => onDev (fun d => respondIn s.now i r.2 (bump Page.mgt Reg.MGT_CNT 5 d)) s
  | none =>
    let r := performRequest q s
    let record := dataRecord q.req ((q.op + 0x80) % 256) q.n q.offset r.1 r.2.1
    onDev (fun d => respondIn s.now i record (bump Page.mgt Reg.MGT_CNT 4
      (if (d.session i).established then storeResponse i q.req record d else d))) r.2.2

/-- The DATA cell: one that fails its tag or SEQ is dropped; without room for its response it waits (R172). -/
def dataTake (b : Box) (s : State) : State :=
  match openCell s.dev b.cell with
  | none => onDev (discardMgmt b) s
  | some plain =>
    let i := sessionOf b.cell
    let x := s.dev.session i
    if (roomIn s.dev (svcMgt (dieOf x.port)) 7).isNone then s
    else
      serveRequest i (parseRequest plain) (onDev (fun d =>
        setSession i { x with seqIn := seqOf b.cell, tick := s.now.toNat } (consume b d)) s)

/-- DATA (R425). -/
def execData (s : State) :=
  effect .data (takeMgmt (fun c => !toHost c && decide (kindOf c = kDATA)) dataTake) s

end Sys2Proof.Machine
end

