-- ==== Sys2Proof/Machine/Boot.lean ====
section
/-! DEFINITION. Cold and warm reset (R441 to R443, R491), the boot (R427, R429, R489), PERST_N, and the end of a
port's departure (R448), on which a warm reset waits. -/

namespace Sys2Proof.Machine

/-! ### What every reset of the whole device does -/

/-- A laser module as a cold reset leaves it: dark, and a present one is verified again (R443). -/
def coldLaser (l : Laser) : Laser := { Laser.reset with present := l.present }

def coldModule (m : Nat) (d : Dev) : Dev := if (d.laserRec m).present then setLsrState m lmVerifying d else d

/-- The fuses, the flash and what the journal restores (R435, R443). -/
def restoreStores (old : Dev) (d : Dev) : Dev :=
  let d1 := { d with mgt := { d.mgt with
    ownerKeys := old.mgt.ownerKeys, minSvn := old.mgt.minSvn, vendorDebugOff := old.mgt.vendorDebugOff,
    coldResets := old.mgt.coldResets, flash := old.mgt.flash, half0 := old.mgt.half0, half1 := old.mgt.half1,
    nextSeq := old.mgt.nextSeq } }
  restoreTrims (replayJournal (syncFuses d1))

/-- TIM_STAT shows a reference that is still lost (R31). -/
def showReference (d : Dev) : Dev := if d.lnk.refLost then wr Page.tim Reg.TIM_TIM_STAT_REF_LOST 1 d else d

/-- What no reset changes: the model's own fields and the pins. -/
def bareDev (old : Dev) : Dev :=
  let d := Dev.reset
  { d with
    ctl := { d.ctl with draws := old.ctl.draws, out := old.ctl.out },
    lnk := { d.lnk with refLost := old.lnk.refLost },
    rst := { d.rst with perst := old.rst.perst } }

/-! ### Cold reset (R14, R441, R443) -/

def coldDev (old : Dev) : Dev :=
  let b := bareDev old
  let d := { b with lnk := { b.lnk with laser := old.lnk.laser.map (fun e => (e.1, coldLaser e.2)) } }
  let d1 := restoreStores old (showReference (forEach (List.range 16) coldModule d))
  { d1 with mgt := { d1.mgt with coldResets := d1.mgt.coldResets + 1 } }

/-- COLD_RESET: the counter counts from 0 and Stockpot is lost. A PERST_N held asserted stays a pin: no warm
reset follows (R491). -/
def coldReset (s : State) : State := { s with now := 0, mem := [], dev := coldDev s.dev }

def execColdReset (s : State) := effect .coldReset coldReset s

/-! ### Warm reset (R441 to R443) -/

/-- Registers a warm reset keeps: RATE and JUMP_LIMIT, the swaps since cold reset, what the laser pages show. -/
def warmKeeps (addr : Nat) : Bool :=
  match pageOf addr with
  | none => false
  | some (p, off) =>
    match p.blk with
    | .tim => decide (off = 0x104 ∨ off = 0x108)
    | .fwd => decide (off = 0x10C)
    | .opt => decide (8 ≤ p.inst ∧ 0x104 ≤ off)
    | _ => false

/-- Wear of a module, as the journal has it. -/
def restoreWear (m : Nat) (d : Dev) : Dev :=
  if wearKnown d m then
    let hours := journalWear d (rd64 d (Page.laser m) Reg.LSR_SERIAL)
    updLaser m (fun l => { l with wear := 1000 * hours }) (wr (Page.laser m) Reg.LSR_WEAR_HOURS hours d)
  else d

/-- TILE_STAT as the modules stand; no interrupt of the time before the reset remains. -/
def showTile (t : Nat) (d : Dev) : Dev := wrWord (Page.tile t) 0x010 0 (syncTile t d)

/-- The device after a warm reset; its function counts it and RESET_STAT names it (R463). -/
def warmDev (old : Dev) : Dev :=
  let b := bareDev old
  let d := { b with
    ctl := { b.ctl with regs := old.ctl.regs.filter (fun e => warmKeeps e.1) },
    lnk := { b.lnk with laser := old.lnk.laser },
    stk := { b.stk with poisoned := old.stk.poisoned },
    tim := { b.tim with offset := old.tim.offset, anchor := old.tim.anchor },
    pmc := { b.pmc with thermTrip := old.pmc.thermTrip },
    rst := { b.rst with
      perstTick := old.rst.perstTick, warmHeld := old.rst.perst, pwrGood := old.rst.pwrGood, faultSeq := old.rst.faultSeq } }
  let d1 := restoreStores old (showReference (forEach (List.range 8) showTile d))
  let p := Page.pkg
  bump p Reg.PKG_CNT 0 (wr p Reg.PKG_RESET_STAT_LAST 1 (forEach (List.range 16) restoreWear d1))

/-- Accumulates accepted before the reset are written first (R443). -/
def writeAccs (s : State) : State :=
  s.dev.stk.accs.foldl (fun s v => runAcc (verbCore s.dev v) v s) s

/-- The warm reset itself, once no port is lit in departure. -/
def warmApply (s : State) : State := onDev (fun d => restartClocks s.now (warmDev d)) (writeAccs s)

def anyDeparting (d : Dev) : Bool := d.lnk.ports.any (fun e => decide (e.2.departing ≠ .no))

/-- A warm reset that waits proceeds when the last port is dark. -/
def warmProceed (s : State) : State :=
  if s.dev.rst.warmDue && !anyDeparting s.dev then warmApply s else s

/-- PERST_N asserts: wear is journalled, a drain or hot reset ends, every UP port departs (R442, R443, R461). -/
def warmStart (now : W64) (d : Dev) : Dev :=
  let d1 := forEach ((List.range 16).filter (wearKnown d)) writeWear d
  let d2 := if resetting d1 then setPhase 0 d1 else d1
  let d3 := forEach (allPorts d2) (leaveService now) d2
  { d3 with rst := { d3.rst with perst := true, perstTick := now.toNat, warmDue := true } }

/-- WARM_RESET. Without power the pin alone changes; a PERST_N that is asserted already starts nothing. -/
def warmReset (s : State) : State :=
  let d := s.dev
  if d.rst.perst then s
  else if !d.rst.pwrGood then onDev (fun d => { d with rst := { d.rst with perst := true } }) s
  else warmProceed (onDev (warmStart s.now) s)

def execWarmReset (s : State) := effect .warmReset warmReset s

/-- DEPART_DARK; with the last port dark a warm reset that waits proceeds. -/
def execDepartDark (lane : Nat) (s : State) :=
  effect (.departDark lane) (fun s => warmProceed (onDev (departDark s.now lane) s)) s

/-- PERST_N_DEASSERTED: the function leaves reset and a held boot may go on. Stockpot is kept only if the pin stood
asserted for 100 µs (R443); a reset that still waits for its ports proceeds now. -/
def perstReleased (s : State) : State :=
  let s1 := if s.dev.rst.warmDue then warmApply s else s
  let short := s1.dev.rst.warmHeld && !elapsed s1.now s1.dev.rst.perstTick 100000
  let s2 := onDev (fun d => { d with rst := { d.rst with perst := false, warmHeld := false } }) s1
  if short then { s2 with mem := [], dev := { s2.dev with stk := { s2.dev.stk with poisoned := [] } } } else s2

def execPerstNDeasserted (s : State) :=
  effect .perstNDeasserted (fun s => if s.dev.rst.perst then perstReleased s else s) s

/-! ### The boot (R427, R429) -/

/-- The slot the boot ROM tries first: the higher SVN, slot A when they are equal (log 23). -/
def firstSlot (d : Dev) : Nat := if (slotImage d 0).svn < (slotImage d 1).svn then 1 else 0

/-- The four owner entries, an entry not burnt as zeros, and MIN_SVN (log 23). -/
def ownerBytes (d : Dev) : List Byte :=
  (List.range 4).flatMap (fun i => (d.mgt.ownerKeys.getD i [] ++ List.replicate 32 0).take 32) ++ bytesLE 2 d.mgt.minSvn

/-- The image runs: the boot ROM's measurements, then BOOT_STAT. -/
def runImage (slot : Nat) (i : Image) (d : Dev) : Dev :=
  let p := Page.mgt
  let d1 := extendM 2 (ownerBytes d) (extendM 1 (i.get 0 12 ++ [BitVec.ofNat 8 slot]) (extendM 0 i.digest d))
  wr p Reg.MGT_BOOT_STAT_STAGE 2 (wr p Reg.MGT_BOOT_STAT_SLOT slot (wr p Reg.MGT_BOOT_STAT_SVN i.svn d1))

/-- A slot is refused: after the first the boot ROM goes on to the other, after the second it halts. -/
def refuseImage (reason : Nat) (d : Dev) : Dev :=
  let p := Page.mgt
  let d1 := wr p Reg.MGT_BOOT_STAT_FAIL reason { d with mgt := { d.mgt with bootTried := d.mgt.bootTried + 1 } }
  if d.mgt.bootTried = 0 then raiseIrq p 21 d1 else wr p Reg.MGT_BOOT_STAT_STAGE 3 d1

/-- BOOT_VERIFY of the slot whose turn it is, while the boot is verifying and no PERST_N holds it. -/
def bootVerify (slot : Nat) (d : Dev) : Dev :=
  let due := if d.mgt.bootTried = 0 then firstSlot d else 1 - firstSlot d
  if rd d Page.mgt Reg.MGT_BOOT_STAT_STAGE ≠ 1 ∨ d.rst.warmHeld = true ∨ d.rst.pwrGood = false ∨ slot ≠ due then d
  else
    let i := slotImage d slot
    match imageFails d i with
    | none => runImage slot i d
    | some reason => refuseImage reason d

def execBootVerify (slot : Nat) (s : State) := effect (.bootVerify slot) (onDev (bootVerify slot)) s

end Sys2Proof.Machine
end

