-- ==== Sys2Proof/Machine/Dispatch.lean ====
section
/-! DEFINITION. One arm per command: each a direct call of its meaning. -/

namespace Sys2Proof.Machine

def exec (i : Instr) (s : State) : Host.Outcome State Fault Refusal :=
  match i with
  | .registerWrite src bar addr bytes value => Sys2Proof.Machine.execRegisterWrite src bar addr bytes value s
  | .lowWordRead src bar addr bytes => Sys2Proof.Machine.execLowWordRead src bar addr bytes s
  | .enable src page v => Sys2Proof.Machine.execEnable src page v s
  | .quiesceReq src page v => Sys2Proof.Machine.execQuiesceReq src page v s
  | .quiesced page => Sys2Proof.Machine.execQuiesced page s
  | .goIdle page => Sys2Proof.Machine.execGoIdle page s
  | .abort src page => Sys2Proof.Machine.execAbort src page s
  | .abortComplete page => Sys2Proof.Machine.execAbortComplete page s
  | .abortDeadline page => Sys2Proof.Machine.execAbortDeadline page s
  | .blockReset src page => Sys2Proof.Machine.execBlockReset src page s
  | .blockResetComplete page checksPass => Sys2Proof.Machine.execBlockResetComplete page checksPass s
  | .blockFail page unit detail => Sys2Proof.Machine.execBlockFail page unit detail s
  | .commit src page tag => Sys2Proof.Machine.execCommit src page tag s
  | .commitApply page => Sys2Proof.Machine.execCommitApply page s
  | .pageOwnerWrite src page owner lock => Sys2Proof.Machine.execPageOwnerWrite src page owner lock s
  | .abortAll src => Sys2Proof.Machine.execAbortAll src s
  | .abortAllWave => Sys2Proof.Machine.execAbortAllWave s
  | .ownerAll src mask lock owner => Sys2Proof.Machine.execOwnerAll src mask lock owner s
  | .ownerAllDone => Sys2Proof.Machine.execOwnerAllDone s
  | .tblRead src page table => Sys2Proof.Machine.execTblRead src page table s
  | .tblWrite src page table => Sys2Proof.Machine.execTblWrite src page table s
  | .tblInsert src page table => Sys2Proof.Machine.execTblInsert src page table s
  | .tblDelete src page table => Sys2Proof.Machine.execTblDelete src page table s
  | .cmpwr src page table => Sys2Proof.Machine.execCmpwr src page table s
  | .tblCmdComplete page => Sys2Proof.Machine.execTblCmdComplete page s
  | .cellReceive lane => Sys2Proof.Machine.execCellReceive lane s
  | .colanderIngress lane => Sys2Proof.Machine.execColanderIngress lane s
  | .escapeMove source egress tc ineligible => Sys2Proof.Machine.execEscapeMove source egress tc ineligible s
  | .landingPromote source tc => Sys2Proof.Machine.execLandingPromote source tc s
  | .thresholdRecompute => Sys2Proof.Machine.execThresholdRecompute s
  | .crossbarMatch => Sys2Proof.Machine.execCrossbarMatch s
  | .a2aPhaseOpen group member => Sys2Proof.Machine.execA2aPhaseOpen group member s
  | .multicastReplicate source tc => Sys2Proof.Machine.execMulticastReplicate source tc s
  | .egressReplicaWrite region egress => Sys2Proof.Machine.execEgressReplicaWrite region egress s
  | .txCellSlot lane => Sys2Proof.Machine.execTxCellSlot lane s
  | .wheelSlot die => Sys2Proof.Machine.execWheelSlot die s
  | .gateStart src lane => Sys2Proof.Machine.execGateStart src lane s
  | .gateEntry lane => Sys2Proof.Machine.execGateEntry lane s
  | .holdWrite src lane mask => Sys2Proof.Machine.execHoldWrite src lane mask s
  | .flushDone die => Sys2Proof.Machine.execFlushDone die s
  | .unitEccError unit bankGroup => Sys2Proof.Machine.execUnitEccError unit bankGroup s
  | .loadWindow ladle => Sys2Proof.Machine.execLoadWindow ladle s
  | .adminUp src lane v => Sys2Proof.Machine.execAdminUp src lane v s
  | .retrain src lane => Sys2Proof.Machine.execRetrain src lane s
  | .lockAcquired lane => Sys2Proof.Machine.execLockAcquired lane s
  | .deskewDone lane => Sys2Proof.Machine.execDeskewDone lane s
  | .linkTrainingTimeout lane => Sys2Proof.Machine.execLinkTrainingTimeout lane s
  | .trainingFrame lane frame laneBytes => Sys2Proof.Machine.execTrainingFrame lane frame laneBytes s
  | .landingReservationRetry lane => Sys2Proof.Machine.execLandingReservationRetry lane s
  | .autoRetrain lane => Sys2Proof.Machine.execAutoRetrain lane s
  | .codewordSend lane => Sys2Proof.Machine.execCodewordSend lane s
  | .dataCodewordReceive lane cw seq corrected => Sys2Proof.Machine.execDataCodewordReceive lane cw seq corrected s
  | .uncorrectableCodeword lane => Sys2Proof.Machine.execUncorrectableCodeword lane s
  | .credit lane value => Sys2Proof.Machine.execCredit lane value s
  | .ack lane value => Sys2Proof.Machine.execAck lane value s
  | .nak lane value => Sys2Proof.Machine.execNak lane value s
  | .ackTimeout lane => Sys2Proof.Machine.execAckTimeout lane s
  | .repairRequest portBlock laneIdx => Sys2Proof.Machine.execRepairRequest portBlock laneIdx s
  | .repairAccept portBlock laneIdx => Sys2Proof.Machine.execRepairAccept portBlock laneIdx s
  | .repairRefuse portBlock laneIdx reason => Sys2Proof.Machine.execRepairRefuse portBlock laneIdx reason s
  | .repairAnswerTimeout portBlock => Sys2Proof.Machine.execRepairAnswerTimeout portBlock s
  | .laneSwitch portBlock => Sys2Proof.Machine.execLaneSwitch portBlock s
  | .spareDeskewDone portBlock => Sys2Proof.Machine.execSpareDeskewDone portBlock s
  | .noLight lane => Sys2Proof.Machine.execNoLight lane s
  | .lockLost lane => Sys2Proof.Machine.execLockLost lane s
  | .spareThreshExceeded lane => Sys2Proof.Machine.execSpareThreshExceeded lane s
  | .depart lane => Sys2Proof.Machine.execDepart lane s
  | .departedClose lane lightAbsent => Sys2Proof.Machine.execDepartedClose lane lightAbsent s
  | .flitCrcError group => Sys2Proof.Machine.execFlitCrcError group s
  | .d2dWireRepair group wire => Sys2Proof.Machine.execD2dWireRepair group wire s
  | .d2dRepairDone group => Sys2Proof.Machine.execD2dRepairDone group s
  | .referenceLoss => Sys2Proof.Machine.execReferenceLoss s
  | .laserInsert m => Sys2Proof.Machine.execLaserInsert m s
  | .laserVerify m info => Sys2Proof.Machine.execLaserVerify m info s
  | .laserRampDone m => Sys2Proof.Machine.execLaserRampDone m s
  | .laserPoll m status temp => Sys2Proof.Machine.execLaserPoll m status temp s
  | .laserEvent m => Sys2Proof.Machine.execLaserEvent m s
  | .laserChangeoverDone tile => Sys2Proof.Machine.execLaserChangeoverDone tile s
  | .laserHoldoffEnd tile => Sys2Proof.Machine.execLaserHoldoffEnd tile s
  | .laserRemove m => Sys2Proof.Machine.execLaserRemove m s
  | .wearHour m => Sys2Proof.Machine.execWearHour m s
  | .release src m force => Sys2Proof.Machine.execRelease src m force s
  | .releaseDone m => Sys2Proof.Machine.execReleaseDone m s
  | .resume src m => Sys2Proof.Machine.execResume src m s
  | .swap src => Sys2Proof.Machine.execSwap src s
  | .arm src => Sys2Proof.Machine.execArm src s
  | .disarm src => Sys2Proof.Machine.execDisarm src s
  | .bankDrained e => Sys2Proof.Machine.execBankDrained e s
  | .drainWarning => Sys2Proof.Machine.execDrainWarning s
  | .flowAgeSweep => Sys2Proof.Machine.execFlowAgeSweep s
  | .parityRepair table die index otherBad => Sys2Proof.Machine.execParityRepair table die index otherBad s
  | .digestWrite src g high => Sys2Proof.Machine.execDigestWrite src g high s
  | .scrubPass g die parityBad => Sys2Proof.Machine.execScrubPass g die parityBad s
  | .circSetup src index timed => Sys2Proof.Machine.execCircSetup src index timed s
  | .circTeardown src index timed => Sys2Proof.Machine.execCircTeardown src index timed s
  | .confirm src index => Sys2Proof.Machine.execConfirm src index s
  | .circDrainStart index => Sys2Proof.Machine.execCircDrainStart index s
  | .circuitFence index => Sys2Proof.Machine.execCircuitFence index s
  | .circFlush index => Sys2Proof.Machine.execCircFlush index s
  | .circReplayCut index => Sys2Proof.Machine.execCircReplayCut index s
  | .circSwitch index => Sys2Proof.Machine.execCircSwitch index s
  | .circuitUp index => Sys2Proof.Machine.execCircuitUp index s
  | .circTriggerLate index => Sys2Proof.Machine.execCircTriggerLate index s
  | .circLightReturn index => Sys2Proof.Machine.execCircLightReturn index s
  | .confirmTimeout index => Sys2Proof.Machine.execConfirmTimeout index s
  | .pathPowerLoss index => Sys2Proof.Machine.execPathPowerLoss index s
  | .matrixFault => Sys2Proof.Machine.execMatrixFault s
  | .candWindow => Sys2Proof.Machine.execCandWindow s
  | .planPhaseBoundary group phase => Sys2Proof.Machine.execPlanPhaseBoundary group phase s
  | .cup => Sys2Proof.Machine.execCup s
  | .ctailUp => Sys2Proof.Machine.execCtailUp s
  | .missingCellsTimeout group phase member => Sys2Proof.Machine.execMissingCellsTimeout group phase member s
  | .chunkTimeout group phase => Sys2Proof.Machine.execChunkTimeout group phase s
  | .resultsReady group phase => Sys2Proof.Machine.execResultsReady group phase s
  | .resultStream group phase => Sys2Proof.Machine.execResultStream group phase s
  | .pageOutDone group phase => Sys2Proof.Machine.execPageOutDone group phase s
  | .pageInDone group phase => Sys2Proof.Machine.execPageInDone group phase s
  | .resize src abort group => Sys2Proof.Machine.execResize src abort group s
  | .resizeDone group => Sys2Proof.Machine.execResizeDone group s
  | .genDrainDone group => Sys2Proof.Machine.execGenDrainDone group s
  | .stragClear src group => Sys2Proof.Machine.execStragClear src group s
  | .accumulateRun core => Sys2Proof.Machine.execAccumulateRun core s
  | .finishRun core => Sys2Proof.Machine.execFinishRun core s
  | .rebuildRun core => Sys2Proof.Machine.execRebuildRun core s
  | .load src slot => Sys2Proof.Machine.execLoad src slot s
  | .copy src slot => Sys2Proof.Machine.execCopy src slot s
  | .recipeCmdDone => Sys2Proof.Machine.execRecipeCmdDone s
  | .retiringFreed slot => Sys2Proof.Machine.execRetiringFreed slot s
  | .coreFail core => Sys2Proof.Machine.execCoreFail core s
  | .scratchCorrected core => Sys2Proof.Machine.execScratchCorrected core s
  | .spareTakeover coreBlock => Sys2Proof.Machine.execSpareTakeover coreBlock s
  | .rebuildDone coreBlock => Sys2Proof.Machine.execRebuildDone coreBlock s
  | .spareSelftest coreBlock pass => Sys2Proof.Machine.execSpareSelftest coreBlock pass s
  | .memPut => Sys2Proof.Machine.execMemPut s
  | .memGet => Sys2Proof.Machine.execMemGet s
  | .memAcc => Sys2Proof.Machine.execMemAcc s
  | .memFence => Sys2Proof.Machine.execMemFence s
  | .verbAccept mid => Sys2Proof.Machine.execVerbAccept mid s
  | .accRun core => Sys2Proof.Machine.execAccRun core s
  | .fenceComplete source msgid => Sys2Proof.Machine.execFenceComplete source msgid s
  | .fenceTimeout source msgid => Sys2Proof.Machine.execFenceTimeout source msgid s
  | .linePoison addr => Sys2Proof.Machine.execLinePoison addr s
  | .patrolScrub corrected => Sys2Proof.Machine.execPatrolScrub corrected s
  | .hostWindowAccess write offset bytes data => Sys2Proof.Machine.execHostWindowAccess write offset bytes data s
  | .snap src => Sys2Proof.Machine.execSnap src s
  | .stepRequest src force frac => Sys2Proof.Machine.execStepRequest src force frac s
  | .set src frac => Sys2Proof.Machine.execSet src frac s
  | .servoRateChange rate => Sys2Proof.Machine.execServoRateChange rate s
  | .servoStep step => Sys2Proof.Machine.execServoStep step s
  | .timeCellSend lane => Sys2Proof.Machine.execTimeCellSend lane s
  | .timeCellReceive lane => Sys2Proof.Machine.execTimeCellReceive lane s
  | .locked => Sys2Proof.Machine.execLocked s
  | .holdoverEnter => Sys2Proof.Machine.execHoldoverEnter s
  | .triggerHandoff slot => Sys2Proof.Machine.execTriggerHandoff slot s
  | .triggerFire slot => Sys2Proof.Machine.execTriggerFire slot s
  | .ppsInEdge => Sys2Proof.Machine.execPpsInEdge s
  | .ppsOutPulse => Sys2Proof.Machine.execPpsOutPulse s
  | .powerInterval sample => Sys2Proof.Machine.execPowerInterval sample s
  | .allocationWatchdog => Sys2Proof.Machine.execAllocationWatchdog s
  | .pointChangeDone region => Sys2Proof.Machine.execPointChangeDone region s
  | .droopStart region => Sys2Proof.Machine.execDroopStart region s
  | .droopEnd region => Sys2Proof.Machine.execDroopEnd region s
  | .heldChangeResume region => Sys2Proof.Machine.execHeldChangeResume region s
  | .thermalStep die readings => Sys2Proof.Machine.execThermalStep die readings s
  | .tempWarn die reading => Sys2Proof.Machine.execTempWarn die reading s
  | .thermTrip die reading => Sys2Proof.Machine.execThermTrip die reading s
  | .ageingCheck domain slowed => Sys2Proof.Machine.execAgeingCheck domain slowed s
  | .mbxTxHeadWrite src ptr => Sys2Proof.Machine.execMbxTxHeadWrite src ptr s
  | .relaySlotSend => Sys2Proof.Machine.execRelaySlotSend s
  | .relayRx => Sys2Proof.Machine.execRelayRx s
  | .hello => Sys2Proof.Machine.execHello s
  | .auth => Sys2Proof.Machine.execAuth s
  | .authTimeout session => Sys2Proof.Machine.execAuthTimeout session s
  | .data => Sys2Proof.Machine.execData s
  | .close => Sys2Proof.Machine.execClose s
  | .sessionIdleTimeout session => Sys2Proof.Machine.execSessionIdleTimeout session s
  | .event page => Sys2Proof.Machine.execEvent page s
  | .eventSessionWrite src valid session => Sys2Proof.Machine.execEventSessionWrite src valid session s
  | .enroll src => Sys2Proof.Machine.execEnroll src s
  | .svnCommit src => Sys2Proof.Machine.execSvnCommit src s
  | .attest src => Sys2Proof.Machine.execAttest src s
  | .unlock src => Sys2Proof.Machine.execUnlock src s
  | .relock src => Sys2Proof.Machine.execRelock src s
  | .extend src => Sys2Proof.Machine.execExtend src s
  | .challenge src => Sys2Proof.Machine.execChallenge src s
  | .update src => Sys2Proof.Machine.execUpdate src s
  | .secCmdDone => Sys2Proof.Machine.execSecCmdDone s
  | .dbgRead src => Sys2Proof.Machine.execDbgRead src s
  | .dbgWrite src => Sys2Proof.Machine.execDbgWrite src s
  | .dbgCmdDone => Sys2Proof.Machine.execDbgCmdDone s
  | .halt src mask => Sys2Proof.Machine.execHalt src mask s
  | .bootVerify slot => Sys2Proof.Machine.execBootVerify slot s
  | .journalAppend type key value delete readBackOk => Sys2Proof.Machine.execJournalAppend type key value delete readBackOk s
  | .compaction => Sys2Proof.Machine.execCompaction s
  | .coldReset => Sys2Proof.Machine.execColdReset s
  | .warmReset => Sys2Proof.Machine.execWarmReset s
  | .hot src => Sys2Proof.Machine.execHot src s
  | .drain src => Sys2Proof.Machine.execDrain src s
  | .inbandResetDelay => Sys2Proof.Machine.execInbandResetDelay s
  | .departDark lane => Sys2Proof.Machine.execDepartDark lane s
  | .drainDiscardPoint => Sys2Proof.Machine.execDrainDiscardPoint s
  | .hotResetDone failed => Sys2Proof.Machine.execHotResetDone failed s
  | .pcieHotReset => Sys2Proof.Machine.execPcieHotReset s
  | .powerStateChange d3hot => Sys2Proof.Machine.execPowerStateChange d3hot s
  | .regionFence region => Sys2Proof.Machine.execRegionFence region s
  | .midFail mid => Sys2Proof.Machine.execMidFail mid s
  | .lockstepMismatch pair => Sys2Proof.Machine.execLockstepMismatch pair s
  | .failStop detail => Sys2Proof.Machine.execFailStop detail s
  | .railUndervoltage rail => Sys2Proof.Machine.execRailUndervoltage rail s
  | .powerDown => Sys2Proof.Machine.execPowerDown s
  | .capture src => Sys2Proof.Machine.execCapture src s
  | .captureDone => Sys2Proof.Machine.execCaptureDone s
  | .recordWrite die => Sys2Proof.Machine.execRecordWrite die s
  | .ringCfgWrite src value => Sys2Proof.Machine.execRingCfgWrite src value s
  | .referenceRestored => Sys2Proof.Machine.execReferenceRestored s
  | .perstNDeasserted => Sys2Proof.Machine.execPerstNDeasserted s
  | .getReadDone mid => Sys2Proof.Machine.execGetReadDone mid s
  | .bankGroupControllerFail bankGroup => Sys2Proof.Machine.execBankGroupControllerFail bankGroup s
  | .circuitTeardownDone index => Sys2Proof.Machine.execCircuitTeardownDone index s

end Sys2Proof.Machine
end

