-- ==== Sys2Proof/Machine/Step.lean ====
section
/-! DEFINITION. One step of the block: the command at the front of the queue, or, with nothing waiting, one
tick of the local counter (R364, log 1). -/

namespace Sys2Proof.Machine

/-- One tick of the local counter (R364); the PPS output falls when its pulse is over (R376, log 1). -/
def tick (s : State) : State :=
  let now := s.now + 1
  { s with now := now, dev := ppsFall now s.dev }

/-- Take the command at the front and run it with the queue's rest; with an empty queue time
passes by one tick. -/
def step (s : State) : Host.Outcome State Fault Refusal :=
  match s.pending with
  | c :: rest => exec c { s with pending := rest }
  | [] => .next (tick s)

/-- The state with the command that a word spells put at the front of the queue; no word spells one. -/
def State.withFetchWord (s : State) (nbits w : Nat) : State :=
  match decodeTableWord nbits w with
  | some c => { s with pending := c :: s.pending }
  | none => s

end Sys2Proof.Machine
end

