-- ==== Sys2Proof/Safety.lean ====
section
/-! DEFINITION. The terms the statements use: the invariant of Stockpot's bytes, what a command leaves alone, and when a
source's write of a register takes effect. -/

namespace Sys2Proof.Machine

/-- Stockpot's bytes are in canonical form (R342, log 3). -/
def State.memOk (s : State) : Prop := Memory.wf s.mem = true

/-! ### Frames -/

/-- The records of a chapter: everything of the device but the register words and tables. -/
inductive Part where
  | lnk | sw | fwd | byp | col | ldl | stk | tim | pmc | mgt | tel | rst
  deriving DecidableEq, Repr

/-- The part is the same in both. -/
def Part.same : Part → Dev → Dev → Prop
  | .lnk, d, e => e.lnk = d.lnk
  | .sw, d, e => e.sw = d.sw
  | .fwd, d, e => e.fwd = d.fwd
  | .byp, d, e => e.byp = d.byp
  | .col, d, e => e.col = d.col
  | .ldl, d, e => e.ldl = d.ldl
  | .stk, d, e => e.stk = d.stk
  | .tim, d, e => e.tim = d.tim
  | .pmc, d, e => e.pmc = d.pmc
  | .mgt, d, e => e.mgt = d.mgt
  | .tel, d, e => e.tel = d.tel
  | .rst, d, e => e.rst = d.rst

/-- Every part but those named is unchanged. -/
def PartsKept (but : List Part) (s t : State) : Prop := ∀ x : Part, x ∉ but → x.same s.dev t.dev

/-- Every register word of every page but those named is unchanged. -/
def PagesKept (but : List Page) (s t : State) : Prop :=
  ∀ (q : Page) (off : Nat), q.inst < 4096 → off < 4096 → q ∉ but → rdWord t.dev q off = rdWord s.dev q off

/-- Every word of one page but those at the offsets named is unchanged. -/
def WordsKept (p : Page) (but : List Nat) (s t : State) : Prop :=
  ∀ off, off < 4096 → off ∉ but → rdWord t.dev p off = rdWord s.dev p off

/-- Every table entry of the device is unchanged. -/
def TablesKept (s t : State) : Prop := ∀ (p : Page) (k i : Nat), tget t.dev p k i = tget s.dev p k i

/-- Every table entry but those of the tables named, each by its page and number, is unchanged. -/
def EntriesKept (but : List (Page × Nat)) (s t : State) : Prop :=
  ∀ (p : Page) (k i : Nat), p.inst < 4096 → k < 16 → i < 2 ^ 32 → (p, k) ∉ but → tget t.dev p k i = tget s.dev p k i

/-- The queue, the local counter and Stockpot are unchanged. -/
def CoreKept (s t : State) : Prop := t.pending = s.pending ∧ t.now = s.now ∧ t.mem = s.mem

/-- The software's own state is unchanged: the staged values and pending commits (R54 to R56), the read latches (R8), the
table commands (R71), what the pages are doing (R50, R63) and the chip-wide actions (R65, R67). -/
def SoftKept (s t : State) : Prop :=
  t.dev.ctl.staged = s.dev.ctl.staged ∧ t.dev.ctl.commits = s.dev.ctl.commits ∧ t.dev.ctl.latchHost = s.dev.ctl.latchHost ∧
    t.dev.ctl.latchInband = s.dev.ctl.latchInband ∧ t.dev.ctl.tblPend = s.dev.ctl.tblPend ∧
    t.dev.ctl.acts = s.dev.ctl.acts ∧ t.dev.ctl.abortWave = s.dev.ctl.abortWave ∧ t.dev.ctl.ownerAll = s.dev.ctl.ownerAll

/-- What a command leaves alone that changes the given parts, tables and pages: everything else. TEL's watches follow
whatever is counted (R467), so TEL's page and its table 0 are named wherever a counter is. -/
def Kept (parts : List Part) (tables : List (Page × Nat)) (pages : List Page) (s t : State) : Prop :=
  CoreKept s t ∧ SoftKept s t ∧ PartsKept parts s t ∧ EntriesKept tables s t ∧ PagesKept pages s t

/-- A 64-bit counter has gone up by `n` (R465). -/
def Counted (p : Page) (base : Fd) (k n : Nat) (s t : State) : Prop :=
  rd64 t.dev p ⟨base.off + 8 * k, 31, 0⟩ = (rd64 s.dev p ⟨base.off + 8 * k, 31, 0⟩ + n) % 2 ^ 64

/-! ### Register writes -/

/-- A write of the source to a register of the page takes effect there (R7, R39, R59): the page exists and answers, the
source reaches it and owns it. -/
def Owns (src : Src) (p : Page) (s : State) : Prop :=
  p.exists = true ∧ pagePresent s.dev p = true ∧ pageAnswers s.dev p = true ∧ unreachable' s.dev src = false ∧
    pageOwner s.dev p = src

end Sys2Proof.Machine
end

