-- ==== Sys2Proof/Certificates/Slice0/Obligations.lean ====
section
/-! DEFINITION. The statements for the provers: what the machine and its commands do, as the rules of spec/ say. Each
says under what conditions on the state and the operands its commands answer a next state, and what that state holds. -/

open Sys2Proof Sys2Proof.Machine

/-! ### The block as a machine -/

/-- One step of a state whose queue is not empty is the command at the front, run on the state with the queue's rest. -/
def Obligations.StepRunsFrontCommand : Prop :=
  ∀ (c : Instr) (rest : List Instr) (s : State),
    step { s with pending := c :: rest } = exec c { s with pending := rest }

/-- With nothing waiting, one step is one tick of the local counter (R364; that a step with an empty queue is a tick is
the model's choice, log 1): the counter rises by one modulo 2^64, and nothing changes but the PPS output, which falls when
its pulse is over. -/
def Obligations.IdleStepTicks : Prop :=
  ∀ s : State, s.pending = [] →
    ∃ t, step s = .next t ∧ t.now = s.now + 1 ∧ t.pending = [] ∧ t.mem = s.mem ∧ t.dev.ctl = s.dev.ctl ∧
      PartsKept [.tim] s t ∧ (s.dev.tim.ppsPin = false → t = { s with now := s.now + 1 })

/-- A command runs exactly when every unit it names exists; a command that names one that does not exist stops with the
fault of that name, and no command is refused. The case split covers all 219 commands of the table. -/
def Obligations.ExistingUnitsNeverStop : Prop :=
  ∀ (c : Instr) (s : State),
    (c.wf = true → ∃ t, exec c s = .next t) ∧ (c.wf = false → exec c s = .fault .noSuchUnit)

/-- No command touches the queue: a step takes the front command and adds none. -/
def Claims.QueueOnlyLosesItsFront : Prop :=
  ∀ (c : Instr) (rest : List Instr) (s t : State), step { s with pending := c :: rest } = .next t → t.pending = rest

/-- Only a tick and a cold reset write the local time counter (R364): no other command changes it. -/
def Claims.CounterRunsFreely : Prop :=
  ∀ (c : Instr) (s t : State), c ≠ .coldReset → exec c s = .next t → t.now = s.now

/-- Every step keeps Stockpot's bytes in canonical form, addresses strictly rising and no listed byte equal to what an
unlisted one reads as. -/
def Obligations.StockpotStaysCanonical : Prop :=
  ∀ s t : State, s.memOk → step s = .next t → t.memOk

/-- The state after reset has that form, with nothing listed. -/
def Claims.ResetStockpotCanonical : Prop := State.reset.memOk ∧ ∀ a, memByte State.reset.mem a = 0

/-- What reset leaves (R14, R45, R59, R364): the four pages of PKG, MGT, PMC and TIM run with ENABLE 1, every other page is
idle with ENABLE 0; every page is owned by the PCI Express host without LOCK, with no error and no interrupt; the counter
reads 0, no command waits and no output has left. -/
def Claims.ResetState : Prop :=
  (∀ p : Page, p.exists = true →
    pageState Dev.reset p = (if p.bootEnabled then stRunning else stIdle) ∧
    rdBit Dev.reset p Reg.PAGE_CTL_ENABLE = p.bootEnabled ∧
    pageOwner Dev.reset p = .pcie ∧ rdBit Dev.reset p Reg.PAGE_OWNER_LOCK = false ∧
    rdWord Dev.reset p 0x010 = 0 ∧ rdWord Dev.reset p 0x018 = 0) ∧
  State.reset.now = 0 ∧ State.reset.pending = [] ∧ State.reset.dev.ctl.out = [] ∧
  State.reset.dev.lnk.ports = [] ∧ State.reset.dev.sw.voqs = [] ∧ State.reset.dev.col.contexts = []

/-- `Claims.QueueOnlyLosesItsFront`, `Claims.CounterRunsFreely` together: each part is stated above with its rules. -/
def Obligations.QueueAndCounterKept : Prop := Claims.QueueOnlyLosesItsFront ∧ Claims.CounterRunsFreely

/-- `Claims.ResetStockpotCanonical`, `Claims.ResetState` together: each part is stated above with its rules. -/
def Obligations.ResetLeaves : Prop := Claims.ResetStockpotCanonical ∧ Claims.ResetState

/-! ### Pages (ch. 2) -/

/-- QUIESCE_REQ written 1, or ENABLE written 0, by the owner of a page that is running stops it from accepting work (R50,
R51): the bit holds what was written, the page is then not accepting, and outside the collective engine and the page's own
words nothing changes unless the page is a core-block or region page, whose contexts leave (R339); ENABLE 0 also stops an
ETM page's gate list (R208). -/
def Claims.PageStopsAccepting : Prop :=
  ∀ (src : Src) (p : Page) (s : State), Owns src p s → dbgLocked s.dev p 0x008 = false →
    pageState s.dev p = stRunning →
    (∃ t, exec (.quiesceReq src p true) s = .next t ∧ accepting t.dev p = false ∧
      rdBit t.dev p Reg.PAGE_CTL_QUIESCE_REQ = true ∧ CoreKept s t ∧ TablesKept s t ∧ PartsKept [.col, .sw] s t ∧
      (p.blk ≠ .etm ∨ rdBit s.dev p Reg.PAGE_CTL_ENABLE = true → t.dev.sw = s.dev.sw) ∧
      (p.blk ≠ .ldl → PagesKept [p] s t ∧ t.dev.col = s.dev.col)) ∧
    (∃ t, exec (.enable src p false) s = .next t ∧ accepting t.dev p = false ∧
      rdBit t.dev p Reg.PAGE_CTL_ENABLE = false ∧ CoreKept s t ∧ TablesKept s t ∧ PartsKept [.col, .sw] s t ∧
      (p.blk = .etm → gateOf t.dev p.inst = none) ∧ (p.blk ≠ .etm → t.dev.sw = s.dev.sw) ∧
      (p.blk ≠ .ldl → PagesKept [p] s t ∧ t.dev.col = s.dev.col))

/-- ENABLE written 1 by the owner of an idle page without QUIESCE_REQ starts it (R50): it is running and accepts work. The
page of a link whose ADMIN_UP is 0, of the bypass, and of the collective engine with no cell parked are among the pages
meant; a link page with ADMIN_UP 1 also starts its search. No gate list
runs on an ETM page just started (R208). -/
def Claims.EnableStartsIdlePage : Prop :=
  ∀ (src : Src) (p : Page) (s : State), Owns src p s → dbgLocked s.dev p 0x008 = false →
    pageState s.dev p = stIdle → (s.dev.act p).finishing = false → rdBit s.dev p Reg.PAGE_CTL_QUIESCE_REQ = false →
    (p.blk = .lnk → rdBit s.dev p Reg.LNK_LNK_CTL_ADMIN_UP = false) →
    (p.blk = .col → s.dev.sw.parkA = [] ∧ s.dev.sw.parkB = []) →
    ∃ t, exec (.enable src p true) s = .next t ∧ pageState t.dev p = stRunning ∧ accepting t.dev p = true ∧
      rdBit t.dev p Reg.PAGE_CTL_ENABLE = true ∧ CoreKept s t ∧ TablesKept s t ∧
      PartsKept [.col, .sw] s t ∧ (p.blk = .etm → gateOf t.dev p.inst = none) ∧ (p.blk ≠ .etm → t.dev.sw = s.dev.sw)

/-- A page with no work left in flight settles (R50, R51): a quiescing page becomes quiesced, QUIESCING clears and
PAGE_IRQ.QUIESCED is set; a page whose ENABLE was written 0 becomes idle. No other page's words change, no table and no
part of the device. -/
def Claims.PageSettles : Prop :=
  ∀ (p : Page) (s : State), p.exists = true → inFlight s.dev p = false → pageState s.dev p = stRunning →
    ((s.dev.act p).finishing = false → rdBit s.dev p Reg.PAGE_STAT_QUIESCING = true →
      ∃ t, exec (.quiesced p) s = .next t ∧ pageState t.dev p = stQuiesced ∧
        rdBit t.dev p Reg.PAGE_STAT_QUIESCING = false ∧ (rdWord t.dev p 0x010).getLsbD irqQuiesced = true ∧
        CoreKept s t ∧ TablesKept s t ∧ PartsKept [] s t ∧ PagesKept [p] s t) ∧
    ((s.dev.act p).finishing = true →
      ∃ t, exec (.goIdle p) s = .next t ∧ pageState t.dev p = stIdle ∧
        rdBit t.dev p Reg.PAGE_STAT_QUIESCING = false ∧ (t.dev.act p).finishing = false ∧
        CoreKept s t ∧ TablesKept s t ∧ PartsKept [] s t ∧ PagesKept [p] s t)

/-- An abort written to a page that has nothing to discard beyond its staged values and its pending commit (R63): the page
is aborting, ABORT_STAT.RESULT is 1, ENABLE and QUIESCE_REQ read 0. A block reset (R445), shown for MGT, whose sessions it
closes and whose relay rings it empties (R446), does the same and marks the reset as running. An abort not over 100 µs
after its write is forced, which makes it a reset; shown where the reset does nothing more than the abort did. -/
def Claims.AbortStarts : Prop :=
  (∀ (src : Src) (p : Page) (s : State), Owns src p s → (p.blk = .pkg ∨ p.blk = .mgt ∨ p.blk = .opt) →
    (pageState s.dev p = stRunning ∨ pageState s.dev p = stIdle ∨ pageState s.dev p = stQuiesced) →
    (s.dev.act p).forced = false →
    ∃ t, exec (.abort src p) s = .next t ∧ pageState t.dev p = stAborting ∧ rd t.dev p Reg.PAGE_ABORT_STAT_RESULT = 1 ∧
      rdBit t.dev p Reg.PAGE_CTL_ENABLE = false ∧ rdBit t.dev p Reg.PAGE_CTL_QUIESCE_REQ = false ∧
      (t.dev.act p).abortAt = s.now.toNat ∧ (t.dev.act p).resetting = false ∧
      CoreKept s t ∧ TablesKept s t ∧ PartsKept [] s t ∧ PagesKept [p] s t) ∧
  (∀ (src : Src) (s : State), Owns src Page.mgt s →
    (pageState s.dev Page.mgt = stRunning ∨ pageState s.dev Page.mgt = stIdle ∨ pageState s.dev Page.mgt = stQuiesced) →
    ∃ t, exec (.blockReset src Page.mgt) s = .next t ∧ pageState t.dev Page.mgt = stAborting ∧
      rd t.dev Page.mgt Reg.PAGE_ABORT_STAT_RESULT = 1 ∧ rdBit t.dev Page.mgt Reg.PAGE_CTL_ENABLE = false ∧
      (t.dev.act Page.mgt).resetting = true ∧ (t.dev.act Page.mgt).abortAt = s.now.toNat ∧
      (∀ i, i < 8 → sget (konst Session.closed) t.dev.mgt.sessions i = Session.closed) ∧ t.dev.mgt.inbox = [] ∧
      rd t.dev Page.mgt Reg.MGT_MBX_TX_TAIL_PTR = rd s.dev Page.mgt Reg.MGT_MBX_TX_HEAD_PTR ∧
      CoreKept s t ∧ TablesKept s t ∧ PartsKept [.mgt] s t ∧ PagesKept [Page.mgt] s t) ∧
  (∀ (p : Page) (s : State), p.exists = true → [.stk, .col, .etm, .tim, .pmc, .tel, .dbg, .pkg].contains p.blk = true →
    pageState s.dev p = stAborting → (s.dev.act p).resetting = false → elapsed s.now (s.dev.act p).abortAt 100000 = true →
    frozen s.dev p = false →
    ∃ t, exec (.abortDeadline p) s = .next t ∧ t.dev.act p = { s.dev.act p with forced := true, resetting := true } ∧
      CoreKept s t ∧ TablesKept s t ∧ PartsKept [] s t ∧ PagesKept [] s t)

/-- ABORT_COMPLETE on a page that is aborting and not being reset (R63): the page is idle, RESULT is 2, ABORT_DONE is set
and only the page's own words change. BLOCK_RESET_COMPLETE on a page being reset that controls no port and passes its checks
(R445): the page is idle, RESULT is 3, ABORT_DONE is set and PKG has counted the block reset. -/
def Claims.AbortCompletes : Prop :=
  (∀ (p : Page) (s : State), p.exists = true → pageState s.dev p = stAborting → (s.dev.act p).resetting = false →
    (s.dev.act p).forced = false → tblRunning s.dev p = false → frozen s.dev p = false → pagesUnder p = [] →
    s.dev.ctl.abortWave = none →
    ∃ t, exec (.abortComplete p) s = .next t ∧ pageState t.dev p = stIdle ∧ rd t.dev p Reg.PAGE_ABORT_STAT_RESULT = 2 ∧
      (rdWord t.dev p 0x010).getLsbD irqAbortDone = true ∧ t.dev.act p = PageAct.idle ∧
      CoreKept s t ∧ TablesKept s t ∧ PartsKept [] s t ∧ PagesKept [p] s t) ∧
  (∀ (p : Page) (s : State), p.exists = true →
    [.fwd, .voq, .xbs, .etm, .byp, .col, .tim, .pmc, .mgt, .dbg].contains p.blk = true →
    pageState s.dev p = stAborting → (s.dev.act p).resetting = true → (s.dev.act p).forced = false →
    frozen s.dev p = false → s.dev.ctl.abortWave = none →
    ∃ t, exec (.blockResetComplete p true) s = .next t ∧ pageState t.dev p = stIdle ∧
      rd t.dev p Reg.PAGE_ABORT_STAT_RESULT = 3 ∧ (rdWord t.dev p 0x010).getLsbD irqAbortDone = true ∧
      t.dev.act p = PageAct.idle ∧ Counted Page.pkg Reg.PKG_CNT 3 1 s t ∧ CoreKept s t ∧ PartsKept [] s t ∧
      EntriesKept [(Page.tel, 0)] s t ∧ PagesKept [p, Page.pkg, Page.tel] s t)

/-- A page that fails (R50, R453): it is failed, UNCORRECTABLE is set, its staged values go, and the event is logged: with no
entry of that unit in the last 10 ms, the next entry of the fault log holds it and PKG's interrupt 17 is set. -/
def Obligations.PageFails : Prop :=
  ∀ (p : Page) (unit detail : Nat) (s : State), p.exists = true → p.blk ≠ .pkg → p.blk ≠ .mgt → p.blk ≠ .tel →
    pageState s.dev p ≠ stAborting → sget (konst (0, 256)) s.dev.rst.faultLast (p.num * 65536 + unit) = (0, 256) →
    ∃ t, exec (.blockFail p unit detail) s = .next t ∧ pageState t.dev p = stFailed ∧
      (rdWord t.dev p 0x018).getLsbD errUncorrectable = true ∧ stagedOf t.dev p = [] ∧ commitPending t.dev p = false ∧
      (rdWord t.dev Page.pkg 0x010).getLsbD 17 = true ∧
      tget t.dev Page.pkg 0 (rd s.dev Page.pkg Reg.PKG_FAULT_HEAD_NEXT) =
        faultWords { level := lvBlock, action := acPageFailed, page := p, unit := unit, cls := errUncorrectable,
                     detail := detail, recover := 0 } (fabricNs s.dev s.now) s.dev.rst.faultSeq ∧
      rd t.dev Page.pkg Reg.PKG_FAULT_HEAD_NEXT = (rd s.dev Page.pkg Reg.PKG_FAULT_HEAD_NEXT + 1) % 256 ∧
      t.dev.rst.faultSeq = s.dev.rst.faultSeq + 1 ∧ CoreKept s t ∧ PartsKept [.mgt, .rst] s t ∧
      EntriesKept [(Page.pkg, 0), (Page.tel, 0)] s t ∧ PagesKept [p, Page.pkg, Page.mgt, Page.tel] s t

/-- `Claims.PageStopsAccepting`, `Claims.EnableStartsIdlePage`, `Claims.PageSettles` together: each part is stated above with its rules. -/
def Obligations.PagesStartAndStop : Prop := Claims.PageStopsAccepting ∧ Claims.EnableStartsIdlePage ∧ Claims.PageSettles

/-- COMMIT with GO 1 by the owner of a page that is neither aborting nor failed and has no commit pending (R55, R56): the
staged words become the pending commit's, the page's staging is empty, RESULT is 1 and TAG is the value written. -/
def Claims.CommitTakesStaged : Prop :=
  ∀ (src : Src) (p : Page) (tag : Nat) (s : State), Owns src p s → dbgLocked s.dev p 0x024 = false → tag < 256 →
    commitPending s.dev p = false → pageState s.dev p ≠ stAborting → pageState s.dev p ≠ stFailed →
    ∃ t, exec (.commit src p tag) s = .next t ∧ commitSet t.dev p = stagedOf s.dev p ∧ stagedOf t.dev p = [] ∧
      rd t.dev p Reg.PAGE_COMMIT_STAT_RESULT = 1 ∧ rd t.dev p Reg.PAGE_COMMIT_STAT_TAG = tag ∧
      rdBit t.dev p Reg.PAGE_STAT_BUSY = true ∧ CoreKept s t ∧ TablesKept s t ∧ PartsKept [] s t ∧ PagesKept [p] s t

/-- COMMIT_APPLY of a pending commit whose encodings are listed and whose fields agree (R56): RESULT is 2, COMMIT_DONE is
set and nothing is pending. On a page whose fields have no effect beyond their values, the S fields of a taken word read the
value taken and its other bits are unchanged. -/
def Claims.CommitApplies : Prop :=
  ∀ (p : Page) (s : State), p.exists = true → commitPending s.dev p = true → unlisted p (commitSet s.dev p) = none →
    disagrees p s.dev (activate (commitSet s.dev p) s.dev) = none →
    ∃ t, exec (.commitApply p) s = .next t ∧ rd t.dev p Reg.PAGE_COMMIT_STAT_RESULT = 2 ∧ commitSet t.dev p = [] ∧
      (rdWord t.dev p 0x010).getLsbD irqCommitDone = true ∧
      ∀ (off : Nat) (w : W32), commitSet s.dev p = [(p.base + off, w)] → 0x100 ≤ off → off < 4096 →
        ([.pkg, .mgt, .fwd, .xbs, .byp, .pmc, .col, .ldl, .stk, .tel, .dbg] : List Block).contains p.blk = true →
        rdWord t.dev p off = merge (rdWord s.dev p off) (maskAt .S (p.base + off)) w ∧
          CoreKept s t ∧ TablesKept s t ∧ PartsKept [] s t ∧ PagesKept [p] s t

/-- COMMIT with GO 1 while one is pending is refused: the pending commit, the staged values, RESULT and TAG are as before and
COMMIT_REJECT is set. On a page aborting or failed it ends with RESULT 5 and the page's staged values are discarded (R57). -/
def Obligations.CommitRefused : Prop :=
  ∀ (src : Src) (p : Page) (tag : Nat) (s : State), Owns src p s → dbgLocked s.dev p 0x024 = false → tag < 256 →
    (commitPending s.dev p = true →
      ∃ t, exec (.commit src p tag) s = .next t ∧ (rdWord t.dev p 0x018).getLsbD errCommitReject = true ∧
        WordsKept p [0x010, 0x018, 0x01C] s t ∧ Kept [] [] [p] s t) ∧
    (commitPending s.dev p = false → pageState s.dev p = stAborting ∨ pageState s.dev p = stFailed →
      ∃ t, exec (.commit src p tag) s = .next t ∧ rd t.dev p Reg.PAGE_COMMIT_STAT_RESULT = 5 ∧
        rd t.dev p Reg.PAGE_COMMIT_STAT_TAG = tag ∧ stagedOf t.dev p = [] ∧
        (∀ q, q.inst < 4096 → q ≠ p → stagedOf t.dev q = stagedOf s.dev q) ∧ CoreKept s t ∧ TablesKept s t ∧
        PartsKept [] s t ∧ PagesKept [p] s t)

/-- A write of PAGE_OWNER that is a claim or a hand-over (R59) writes OWNER and LOCK. A change of owner sets OWNER_CHANGED
and returns every S field of the page to its active value (R61). A write that is neither is discarded and sets NON_OWNER. -/
def Claims.OwnerWrite : Prop :=
  ∀ (src owner : Src) (p : Page) (lock : Bool) (s : State), p.exists = true → pagePresent s.dev p = true →
    pageAnswers s.dev p = true → unreachable' s.dev src = false →
    ∃ t, exec (.pageOwnerWrite src p owner lock) s = .next t ∧ CoreKept s t ∧ TablesKept s t ∧ PartsKept [] s t ∧
      PagesKept [p] s t ∧
      (ownerAllowed s.dev src p owner = true →
        pageOwner t.dev p = owner ∧ rdBit t.dev p Reg.PAGE_OWNER_LOCK = lock ∧
        (pageOwner s.dev p ≠ owner → (rdWord t.dev p 0x010).getLsbD irqOwnerChanged = true ∧ stagedOf t.dev p = [])) ∧
      (ownerAllowed s.dev src p owner = false →
        rdWord t.dev p 0x020 = rdWord s.dev p 0x020 ∧ (rdWord t.dev p 0x018).getLsbD errNonOwner = true)

/-- OWNER_ALL is a PAGE_OWNER write on every page of each selected block code (R67), shown here for the host's claim of any
page present: the page is the host's, and PKG shows BUSY until OWNER_ALL_DONE, which clears it when PKG has no other work. -/
def Claims.OwnerAll : Prop :=
  (∀ (mask : Nat) (lock : Bool) (q : Page) (s : State), Owns .pcie Page.pkg s → mask < 65536 →
    q.exists = true → pagePresent s.dev q = true → mask / 2 ^ q.blk.code % 2 = 1 →
    ∃ t, exec (.ownerAll .pcie mask lock .pcie) s = .next t ∧ pageOwner t.dev q = .pcie ∧
      rdBit t.dev q Reg.PAGE_OWNER_LOCK = lock ∧ t.dev.ctl.ownerAll = true ∧
      rdBit t.dev Page.pkg Reg.PAGE_STAT_BUSY = true ∧ CoreKept s t ∧ TablesKept s t ∧ PartsKept [] s t) ∧
  (∀ s : State, tblRunning s.dev Page.pkg = false → commitPending s.dev Page.pkg = false →
    pageState s.dev Page.pkg ≠ stAborting → (s.dev.act Page.pkg).resetting = false →
    ∃ t, exec .ownerAllDone s = .next t ∧ t.dev.ctl.ownerAll = false ∧
      rdBit t.dev Page.pkg Reg.PAGE_STAT_BUSY = false ∧ CoreKept s t ∧ TablesKept s t ∧ PartsKept [] s t ∧
      PagesKept [Page.pkg] s t)

/-- A chip abort (R65, R66). ABORT_ALL.GO by PKG's owner starts the first wave and notes the time; with the last wave's
pages no longer aborting, ABORT_ALL_WAVE ends it: RESULT is 3 if a page was forced, else 2, and ELAPSED the microseconds
since the write. -/
def Claims.ChipAbort : Prop :=
  (∀ (src : Src) (s : State), Owns src Page.pkg s → rd s.dev Page.pkg Reg.PKG_ABORT_ALL_STAT_RESULT ≠ 1 →
    ∃ t, exec (.abortAll src) s = .next t ∧ t.dev.ctl.abortWave = some 0 ∧ t.dev.ctl.abortAllAt = s.now.toNat ∧
      CoreKept s t) ∧
  (∀ s : State, s.dev.ctl.abortWave = some 2 → waveDone s.dev 2 = true →
    ∃ t, exec .abortAllWave s = .next t ∧ t.dev.ctl.abortWave = none ∧
      rd t.dev Page.pkg Reg.PKG_ABORT_ALL_STAT_RESULT =
        (if ((List.range 3).flatMap (wavePages s.dev)).any (fun q => rd s.dev q Reg.PAGE_ABORT_STAT_RESULT == 3)
          then 3 else 2) ∧
      rd t.dev Page.pkg Reg.PKG_ABORT_ALL_STAT_ELAPSED = min 0xFFFF (ticksSince s.now s.dev.ctl.abortAllAt / 1600) ∧
      CoreKept s t ∧ TablesKept s t ∧ PartsKept [] s t ∧ PagesKept [Page.pkg] s t)

/-! ### The table port (R68 to R72) -/

/-- A table command is written by the owner while none runs on the page. -/
def TableReady (src : Src) (p : Page) (table op : Nat) (s : State) : Prop :=
  Owns src p s ∧ p ≠ Page.dbg ∧ p.hasTables = true ∧ table < 256 ∧ tblRunning s.dev p = false ∧
    (tblOps p table).contains op = true

/-- A READ of an entry stored well (R69, R70) takes its words for TBL_CMD_COMPLETE to show; it changes no entry. -/
def Claims.TableRead : Prop :=
  ∀ (src : Src) (p : Page) (table : Nat) (s : State), TableReady src p table toREAD s →
    let i := (rdWord s.dev p 0x044).toNat
    tblIndexOk s.dev p table i = true → entryBad s.dev p table i = false →
    ∃ t, exec (.tblRead src p table) s = .next t ∧ rdBit t.dev p Reg.TBL_CMD_BUSY = true ∧
      sget (konst none) t.dev.ctl.tblPend p.num =
        some { src := src, result := 0, index := i, data := some (entryWords s p table i) } ∧
      CoreKept s t ∧ TablesKept s t ∧ PartsKept [] s t ∧ PagesKept [p] s t

/-- WRITE, CMPWR whose comparison holds, and DELETE of an entry of the descriptor table of STK and the watch table of TEL
(R70, R347, R466): a command not refused stores the words of TBL_DATA, or the empty entry, at INDEX alone and ends with
RESULT 0; a CMPWR whose comparison fails stores nothing and ends with RESULT 4. -/
def Claims.TableWrite : Prop :=
  ∀ (src : Src) (p : Page) (s : State), (p = Page.stk ∨ p = Page.tel) →
    let i := (rdWord s.dev p 0x044).toNat
    let new := newWords p 0 (tblData s.dev p)
    tblIndexOk s.dev p 0 i = true →
    (TableReady src p 0 toWRITE s → tblRefuse s p 0 toWRITE i new = .no →
      ∃ t, exec (.tblWrite src p 0) s = .next t ∧ tget t.dev p 0 i = new ∧ (∀ j, j ≠ i → tget t.dev p 0 j = tget s.dev p 0 j) ∧
        sget (konst none) t.dev.ctl.tblPend p.num = some { src := src, result := 0, index := i, data := none } ∧
        CoreKept s t ∧ PartsKept [] s t ∧ PagesKept [p] s t) ∧
    (TableReady src p 0 toCMPWR s → tblRefuse s p 0 toCMPWR i new = .no →
      ∃ t, exec (.cmpwr src p 0) s = .next t ∧ CoreKept s t ∧ PartsKept [] s t ∧ PagesKept [p] s t ∧
        (word (entryWords s p 0 i) 0 = rdWord s.dev p 0x04C → tget t.dev p 0 i = new ∧
          sget (konst none) t.dev.ctl.tblPend p.num = some { src := src, result := 0, index := i, data := none }) ∧
        (word (entryWords s p 0 i) 0 ≠ rdWord s.dev p 0x04C → TablesKept s t ∧
          sget (konst none) t.dev.ctl.tblPend p.num =
            some { src := src, result := 4, index := i, data := some (entryWords s p 0 i) })) ∧
    (TableReady src p 0 toDELETE s → tblRefuse s p 0 toDELETE i new = .no →
      ∃ t, exec (.tblDelete src p 0) s = .next t ∧ tget t.dev p 0 i = List.replicate 6 0 ∧
        (∀ j, j ≠ i → tget t.dev p 0 j = tget s.dev p 0 j) ∧ CoreKept s t ∧ PartsKept [] s t ∧ PagesKept [p] s t)

/-- A WRITE or CMPWR of a watch with VALID 1 whose COUNTER is not 8-byte aligned inside the counter range of a page that is
present is refused with RESULT 6: nothing is stored, BLOCK_ERR bit 16 is set, and DETAIL carries the watch index (R466), where
this is the error that PAGE_ERR_INFO captures (R49). -/
def Claims.WatchRefused : Prop :=
  ∀ (src : Src) (c : Bool) (s : State), TableReady src Page.tel 0 (if c then toCMPWR else toWRITE) s →
    let i := (rdWord s.dev Page.tel 0x044).toNat
    let new := newWords Page.tel 0 (tblData s.dev Page.tel)
    i < 256 → wbit new 0 31 = true →
    (∀ (p : Page) (off : Nat), wbits new 0 27 0 = p.base + off → p.inst < 4096 → off < 4096 → pagePresent s.dev p = true →
      ¬ (off % 8 = 0 ∧ (counterRange p).1 ≤ off ∧ off < (counterRange p).1 + 8 * (counterRange p).2)) →
    ∃ t, exec (if c then .cmpwr src Page.tel 0 else .tblWrite src Page.tel 0) s = .next t ∧
      sget (konst none) t.dev.ctl.tblPend Page.tel.num = some { src := src, result := 6, index := i, data := none } ∧
      (rdWord t.dev Page.tel 0x018).getLsbD 16 = true ∧
      (rdWord s.dev Page.tel 0x018 = 0 → rd t.dev Page.tel Reg.PAGE_ERR_INFO_DETAIL = i) ∧
      CoreKept s t ∧ TablesKept s t ∧ PartsKept [] s t ∧ PagesKept [Page.tel] s t

/-- INSERT of a valid flow entry whose key has no entry (R151): it goes to the empty way of its set, which RESULT_INDEX will
show; with no empty way RESULT is 3 and nothing is stored. -/
def Claims.FlowInsert : Prop :=
  ∀ (src : Src) (s : State), TableReady src Page.fwd 2 toINSERT s →
    let new := newWords Page.fwd 2 (tblData s.dev Page.fwd)
    wbit new 0 31 = true → flowFind s.dev new = none →
    ∃ t, exec (.tblInsert src Page.fwd 2) s = .next t ∧ CoreKept s t ∧ PartsKept [] s t ∧ PagesKept [Page.fwd] s t ∧
      (∀ i, flowEmpty s.dev new = some i → tget t.dev Page.fwd 2 i = new ∧
        sget (konst none) t.dev.ctl.tblPend Page.fwd.num = some { src := src, result := 0, index := i, data := none }) ∧
      (flowEmpty s.dev new = none → TablesKept s t ∧
        sget (konst none) t.dev.ctl.tblPend Page.fwd.num = some { src := src, result := 3, index := 0, data := none })

/-- TBL_CMD_COMPLETE (R71): BUSY clears, TBL_STAT shows RESULT and RESULT_INDEX, and TBL_DATA the entry of a command that
gives one; a failure is recorded as the command's source's. -/
def Claims.TableCommandCompletes : Prop :=
  ∀ (p : Page) (x : TblPend) (s : State), p.exists = true → p.hasTables = true →
    sget (konst none) s.dev.ctl.tblPend p.num = some x → x.result < 16 → x.index < 2 ^ 24 →
    ∃ t, exec (.tblCmdComplete p) s = .next t ∧ tblRunning t.dev p = false ∧ rdBit t.dev p Reg.TBL_CMD_BUSY = false ∧
      rd t.dev p Reg.TBL_STAT_RESULT = x.result ∧ rd t.dev p Reg.TBL_STAT_RESULT_INDEX = x.index ∧
      (∀ ws k, x.data = some ws → k < 16 → rdWord t.dev p (0x050 + 4 * k) = ws.getD k 0) ∧
      (x.result ≠ 0 → (rdWord t.dev p 0x018).getLsbD errTblErr = true) ∧
      CoreKept s t ∧ TablesKept s t ∧ PartsKept [] s t ∧ PagesKept [p] s t

/-- `Claims.CommitTakesStaged`, `Claims.CommitApplies` together: each part is stated above with its rules. -/
def Obligations.CommitsRun : Prop := Claims.CommitTakesStaged ∧ Claims.CommitApplies

/-- `Claims.OwnerWrite`, `Claims.OwnerAll` together: each part is stated above with its rules. -/
def Obligations.PagesOwned : Prop := Claims.OwnerWrite ∧ Claims.OwnerAll

/-- `Claims.AbortStarts`, `Claims.AbortCompletes`, `Claims.ChipAbort` together: each part is stated above with its rules. -/
def Obligations.AbortsRun : Prop := Claims.AbortStarts ∧ Claims.AbortCompletes ∧ Claims.ChipAbort

/-- `Claims.TableRead`, `Claims.TableWrite`, `Claims.WatchRefused`, `Claims.FlowInsert`, `Claims.TableCommandCompletes` together: each part is stated above with its rules. -/
def Obligations.TablePort : Prop := Claims.TableRead ∧ Claims.TableWrite ∧ Claims.WatchRefused ∧ Claims.FlowInsert ∧ Claims.TableCommandCompletes

/-! ### Register accesses (ch. 1) -/

/-- A 32-bit write by the owner of a register of XBS, STK or PMC without W1C fields, of listed encodings, on a page idle or
quiesced (R10, R12, R15, R54): L and Q fields take the value written, S fields are staged, the other bits and every other
word are unchanged. A write by the other source is refused (R59): nothing changes but NON_OWNER and what follows from it. -/
def Claims.RegisterWriteByClass : Prop :=
  (∀ (src : Src) (p : Page) (off : Nat) (r : RegDef) (v : W64) (s : State), Owns src p s →
    (p.blk = .xbs ∨ p.blk = .stk ∨ p.blk = .pmc) → 0x100 ≤ off → off < 4096 → off % 4 = 0 → p.regAt off = some r →
    (∀ f ∈ r.flds, f.acc ≠ .w1c ∧ f.ok (lo32 v.toNat) = true) → quiescedOrIdle s.dev p = true →
    let x := lo32 v.toNat
    let set := fldMask (fun f => decide (f.acc = .rw) && (decide (f.cls = .L) || decide (f.cls = .Q))) r.flds
    let stage := fldMask (fun f => decide (f.cls = .S)) r.flds
    ∃ t, exec (.registerWrite src .bar0 (p.base + off) 4 v) s = .next t ∧
      rdWord t.dev p off = merge (rdWord s.dev p off) set x ∧
      (stage ≠ 0 → stagedAt t.dev (p.base + off) = some (x &&& stage)) ∧
      CoreKept s t ∧ TablesKept s t ∧ PartsKept [] s t ∧ WordsKept p [off] s t ∧ PagesKept [p] s t) ∧
  (∀ (src : Src) (p : Page) (off : Nat) (r : RegDef) (v : W64) (s : State), p.exists = true → pagePresent s.dev p = true →
    pageAnswers s.dev p = true → unreachable' s.dev src = false → pageOwner s.dev p ≠ src → off < 4096 → off % 4 = 0 →
    off ≠ 0x020 → p.regAt off = some r →
    ∃ t, exec (.registerWrite src .bar0 (p.base + off) 4 v) s = .next t ∧
      (rdWord t.dev p 0x018).getLsbD errNonOwner = true ∧ t.dev.ctl.staged = s.dev.ctl.staged ∧
      CoreKept s t ∧ TablesKept s t ∧ PartsKept [] s t ∧ WordsKept p [0x010, 0x018, 0x01C] s t ∧ PagesKept [p] s t)

/-- A 32-bit read of the low word of a 64-bit register (R8) returns what the register shows and latches its high word for
the reading source; a read of the high word then returns the latched value. A read changes no register. -/
def Claims.LowWordReadLatches : Prop :=
  (∀ (src : Src) (p : Page) (off : Nat) (s : State), p.exists = true → pagePresent s.dev p = true →
    pageAnswers s.dev p = true → unreachable' s.dev src = false → off < 4096 → off % 4 = 0 → off ≠ 0x00C →
    (p.regAt off).isSome = true → halfOf p off = 1 → latched s.dev src (p.base + off) = none →
    ∃ t, exec (.lowWordRead src .bar0 (p.base + off) 4) s = .next t ∧
      t.dev.ctl.out = s.dev.ctl.out ++ [.readData src (p.base + off) (join (pageWord s p off) 0)] ∧
      latched t.dev src (p.base + off + 4) = some (pageWord s p (off + 4)) ∧
      CoreKept s t ∧ TablesKept s t ∧ PartsKept [] s t ∧ PagesKept [] s t) ∧
  (∀ (src : Src) (p : Page) (off : Nat) (h : W32) (s : State), p.exists = true → pagePresent s.dev p = true →
    pageAnswers s.dev p = true → unreachable' s.dev src = false → off < 4096 → off % 4 = 0 → off ≠ 0x00C →
    (p.regAt off).isSome = true → halfOf p off = 2 → latched s.dev src (p.base + off) = some h →
    ∃ t, exec (.lowWordRead src .bar0 (p.base + off) 4) s = .next t ∧
      t.dev.ctl.out = s.dev.ctl.out ++ [.readData src (p.base + off) (join h 0)] ∧
      latchOf t.dev src = latchOf s.dev src ∧ CoreKept s t ∧ TablesKept s t ∧ PartsKept [] s t ∧ PagesKept [] s t)

/-- `Claims.RegisterWriteByClass`, `Claims.LowWordReadLatches` together: each part is stated above with its rules. -/
def Obligations.RegisterAccesses : Prop := Claims.RegisterWriteByClass ∧ Claims.LowWordReadLatches

/-! ### Cells into the switch (ch. 3, 5, 6) -/

/-- The watch table of TEL, which follows every counter (R467). -/
def watchTable : Page × Nat := (Page.tel, 0)

/-- The next cell of a port's link receive buffers, of a port whose page and the Colander accept work. -/
def NextFramed (lane : Nat) (f : Framed) (s : State) : Prop :=
  lane < 1024 ∧ accepting s.dev Page.fwd = true ∧ accepting s.dev (Page.lnk lane) = true ∧
    (s.dev.port lane).framed.find? (fun f => !isTime f.cell) = some f

/-- CELL_RECEIVE (R76, R168). A cell that fails one of the first four checks is dropped, counted under its reason, its credit
returned. A cell that passes them all, neither red, nor policed, nor sampled, enters the Colander's pipeline charged to its
landing account. Nothing else changes. -/
def Claims.CellReceived : Prop :=
  (∀ (lane k : Nat) (f : Framed) (s : State), NextFramed lane f s → cellCheck s.dev f.cell = some k → k < 5 →
    ∃ t, exec (.cellReceive lane) s = .next t ∧
      (t.dev.port lane).framed = (s.dev.port lane).framed.erase f ∧
      sget (konst 0) t.dev.lnk.drops (lane * 16 + k) = sget (konst 0) s.dev.lnk.drops (lane * 16 + k) + 1 ∧
      (∀ vc, vc = vcOf (cTc f.cell) (cEsc f.cell) → vc < (s.dev.port lane).returned.length →
        (t.dev.port lane).returned.getD vc 0 = ((s.dev.port lane).returned.getD vc 0 + 1) % 2048) ∧
      Kept [.lnk] [] [] s t) ∧
  (∀ (lane : Nat) (f : Framed) (s : State), NextFramed lane f s → cellCheck s.dev f.cell = none → cColour f.cell < 2 →
    policerOf s.dev lane (cTc f.cell) = none → rdBit s.dev Page.tel Reg.TEL_SAMPLE_CFG_EN = false →
    ∃ t b, exec (.cellReceive lane) s = .next t ∧
      (t.dev.port lane).framed = (s.dev.port lane).framed.erase f ∧
      (t.dev.port lane).pipe = (s.dev.port lane).pipe ++ [b] ∧ b.cell = f.cell ∧ b.source = lane ∧ b.acct = .landing ∧
      b.num = s.dev.sw.numNext ∧
      (t.dev.units lane (cTc f.cell)).landing = (s.dev.units lane (cTc f.cell)).landing + 1 ∧
      Kept [.lnk, .sw] [] [] s t)

/-- The head of a port's pipeline, which the Colander takes now. -/
def NextLooked (lane : Nat) (b : Box) (rest : List Box) (s : State) : Prop :=
  lane < 1024 ∧ accepting s.dev Page.fwd = true ∧ (s.dev.port lane).pipe = b :: rest ∧
    (forSelf s.dev (cDst b.cell) = false → accepting s.dev Page.voq = true)

/-- The cell as the Colander stamps it with the active bank (R132). -/
def stamped (d : Dev) (c : Cell) : Cell := setHb c 89 89 (rd d Page.fwd Reg.FWD_EPOCH_STAT_ACTIVE)

/-- COLANDER_INGRESS (R132). Every form takes the head from the pipeline. A contribution for this device goes to the
collective engine, a memory verb to the memory service and a MGMT cell to management, unless a reset runs. A cell whose
entry of the active bank is not valid, and about which no notification is sent, is dropped and counted under DETAIL 1. An
escape cell of an untracked class whose entry has an escape member joins that member's escape list (R95, R149). -/
def Claims.ColanderPlacesCell : Prop :=
  (∀ (lane : Nat) (b : Box) (rest : List Box) (s : State), NextLooked lane b rest s →
    ∃ t, exec (.colanderIngress lane) s = .next t ∧ (t.dev.port lane).pipe = rest ∧ CoreKept s t) ∧
  (∀ (lane : Nat) (b : Box) (rest : List Box) (s : State), NextLooked lane b rest s →
    forSelf s.dev (cDst b.cell) = true → resetting s.dev = false →
    ∃ t, exec (.colanderIngress lane) s = .next t ∧
      (cOp b.cell = ocCUP ∨ cOp b.cell = ocCTAIL_UP →
        t.dev.col.inbox.map Box.cell = s.dev.col.inbox.map Box.cell ++ [stamped s.dev b.cell] ∧
        Kept [.lnk, .sw, .col] [] [] s t) ∧
      (cOp b.cell = ocMEM_PUT ∨ cOp b.cell = ocMEM_GET ∨ cOp b.cell = ocMEM_ACC ∨ cOp b.cell = ocMEM_FENCE →
        t.dev.stk.inbox.map Box.cell = s.dev.stk.inbox.map Box.cell ++ [stamped s.dev b.cell] ∧
        Kept [.lnk, .sw, .stk] [] [] s t) ∧
      (cOp b.cell = ocMGMT →
        t.dev.mgt.inbox.map Box.cell = s.dev.mgt.inbox.map Box.cell ++ [stamped s.dev b.cell] ∧
        Kept [.lnk, .sw, .mgt] [] [] s t)) ∧
  (∀ (lane : Nat) (b : Box) (rest : List Box) (s : State), NextLooked lane b rest s →
    forSelf s.dev (cDst b.cell) = false → cOp b.cell ≠ ocMROW → cOp b.cell ≠ ocMCOL → notifiable b.cell = false →
    b.multi = false → b.counted = false → b.flow = none → b.tag = none →
    deValid (destEntry s.dev (rd s.dev Page.fwd Reg.FWD_EPOCH_STAT_ACTIVE) (coEntry (cDst b.cell))) = false →
    ∃ t, exec (.colanderIngress lane) s = .next t ∧ (t.dev.port lane).pipe = rest ∧ Counted Page.fwd Reg.FWD_CNT 0 1 s t ∧
      Kept [.lnk, .sw, .col] [watchTable] [Page.fwd, Page.tel] s t) ∧
  (∀ (lane k : Nat) (b : Box) (rest : List Box) (s : State), NextLooked lane b rest s →
    forSelf s.dev (cDst b.cell) = false → cOp b.cell ≠ ocMROW → cOp b.cell ≠ ocMCOL → cEsc b.cell = 1 →
    rd s.dev Page.fwd Reg.FWD_FLOW_CFG_TRACK_TC / 2 ^ cTc b.cell % 2 = 0 →
    let e := rd s.dev Page.fwd Reg.FWD_EPOCH_STAT_ACTIVE
    let i := coEntry (cDst b.cell)
    let ws := destEntry s.dev e i
    missOf s.dev (dieOf lane) e i true = none → escMember s.dev ws i = some k →
    ∃ t, exec (.colanderIngress lane) s = .next t ∧ (t.dev.port lane).pipe = rest ∧
      (t.dev.voq (voqKey lane (deMember ws k) (cTc b.cell))).esc.map Box.cell =
        (s.dev.voq (voqKey lane (deMember ws k) (cTc b.cell))).esc.map Box.cell ++ [stamped s.dev b.cell] ∧
      Kept [.lnk, .sw, .col] [watchTable] [Page.fwd, Page.voq, Page.tel] s t)

/-- ESCAPE_MOVE of a class that is not pinned (R95, R150): the head of a normal list that has waited longer than the timeout
goes to the end of the escape list of its escape member's VOQ with ESC 1, and FWD counts it. LANDING_PROMOTE (R168): when
minimum or shared has room, the oldest unit in landing moves its charge there and its credit is returned.
THRESHOLD_RECOMPUTE (R171): both free counts show what is free. -/
def Obligations.QueuedCellsMove : Prop :=
  (∀ (source egress tc ineligible k : Nat) (b : Box) (bs : List Box) (s : State), source < 1032 → egress < 1024 → tc < 8 →
    pinnedTc tc = false → (s.dev.voq (voqKey source egress tc)).norm = b :: bs → b.source = source → cTc b.cell = tc →
    (rd s.dev Page.fwd Reg.FWD_ESC_TIMEOUT_T * 10 + ineligible) * 8 < ticksSince s.now b.headTick * 5 →
    inCircuit s.dev egress = false →
    let ws := destEntry s.dev (cEpoch b.cell) (coEntry (cDst b.cell))
    missOf s.dev (dieOfSource source) (cEpoch b.cell) (coEntry (cDst b.cell)) true = none →
    escMember s.dev ws (coEntry (cDst b.cell)) = some k →
    ∃ t, exec (.escapeMove source egress tc ineligible) s = .next t ∧
      (t.dev.voq (voqKey source egress tc)).norm.map Box.cell = bs.map Box.cell ∧
      (t.dev.voq (voqKey source (deMember ws k) tc)).esc.map Box.cell =
        (s.dev.voq (voqKey source (deMember ws k) tc)).esc.map Box.cell ++ [setHb b.cell 92 92 1] ∧
      Counted Page.fwd Reg.FWD_CNT 5 1 s t ∧ Kept [.sw] [watchTable] [Page.fwd, Page.tel] s t) ∧
  (∀ (source tc : Nat) (a : Acct) (b : Box) (s : State), source < 1032 → tc < 8 → roomIn s.dev source tc = some a →
    oldestLanding s.dev source tc = some b → b.source = source → cTc b.cell = tc →
    ∃ t, exec (.landingPromote source tc) s = .next t ∧
      t.dev.units source tc = ((s.dev.units source tc).take .landing).add a ∧
      (b.vcIn < (s.dev.port source).returned.length →
        (t.dev.port source).returned.getD b.vcIn 0 = ((s.dev.port source).returned.getD b.vcIn 0 + 1) % 2048) ∧
      Kept [.lnk, .sw] [] [] s t) ∧
  (∀ s : State, ∃ t, exec .thresholdRecompute s = .next t ∧
    rd t.dev Page.voq Reg.VOQ_FREE_A_UNITS = freeUnits s.dev 0 ∧ rd t.dev Page.voq Reg.VOQ_FREE_B_UNITS = freeUnits s.dev 1 ∧
    Kept [] [] [Page.voq] s t)

/-- `Claims.CellReceived`, `Claims.ColanderPlacesCell` together: each part is stated above with its rules. -/
def Obligations.CellsEnter : Prop := Claims.CellReceived ∧ Claims.ColanderPlacesCell

/-! ### The crossbar and the egress side (ch. 6, 7) -/

/-- The one cell queued in the device, at the head of the list the request names. -/
def OnlyCell (r : Req) (b : Box) (s : State) : Prop :=
  s.dev.sw.voqs = [(r.key, if r.esc then { norm := [], esc := [b] } else { norm := [b], esc := [] })] ∧
    r.key < 1032 * 8192 ∧ b.source = voqSource r.key ∧ cTc b.cell = voqTc r.key

/-- CROSSBAR_MATCH (R176, R177): with one cell queued whose port and class may take it now, that is no cell of an all-to-all,
the match moves it to the egress port's staging buffer; no queue is left and XBS has counted the cell. While XBS takes no
work nothing is matched (R191). -/
def Obligations.CrossbarMovesCell : Prop :=
  (∀ (r : Req) (b : Box) (s : State), OnlyCell r b s → accepting s.dev Page.xbs = true → exchangeGroup s.dev b.cell = none →
    classEligible s.now s.dev (voqEgress r.key) (voqTc r.key) = true →
    ∃ t, exec .crossbarMatch s = .next t ∧ t.dev.sw.voqs = [] ∧
      (t.dev.staged (voqEgress r.key) (voqTc r.key)).map Box.cell =
        (s.dev.staged (voqEgress r.key) (voqTc r.key)).map Box.cell ++ [b.cell] ∧
      Counted Page.xbs Reg.XBS_CNT 0 1 s t ∧ Kept [.sw, .lnk] [watchTable] [Page.xbs, Page.tel] s t) ∧
  (∀ s : State, accepting s.dev Page.xbs = false → exec .crossbarMatch s = .next s)

/-- MULTICAST_REPLICATE and EGRESS_REPLICA_WRITE (R179, R180). A stored cell whose copies all lie in one region with room in
its replication buffer is sent there once: the list loses it and the buffer gains its copies. A copy for a port that is UP
then goes from the buffer into that port's staging buffer. -/
def Claims.MulticastCopies : Prop :=
  (∀ (source tc region : Nat) (m : Mcast) (ms : List Mcast) (l : List Copy) (s : State), source < 1032 → tc < 8 →
    accepting s.dev Page.xbs = true → s.dev.mcasts (mcastKey source tc) = m :: ms → m.copies = some l → l ≠ [] →
    (∀ c ∈ l, regionOf c.egress = region) → region < 8 → (s.dev.repls region).length < 4096 →
    ∃ t, exec (.multicastReplicate source tc) s = .next t ∧ t.dev.mcasts (mcastKey source tc) = ms ∧
      t.dev.repls region = s.dev.repls region ++ [{ box := { m.box with acct := .none }, copies := l }] ∧
      Counted Page.xbs Reg.XBS_CNT 2 1 s t ∧
      Kept [.sw, .lnk, .fwd, .tel] [watchTable, (Page.fwd, 2)] [Page.xbs, Page.fwd, Page.tel] s t) ∧
  (∀ (region egress : Nat) (x : Repl) (c : Copy) (s : State), region < 8 → egress < 1024 →
    pageState s.dev Page.xbs = stRunning → replFor s.dev egress (s.dev.repls region) = some x →
    x.copies.find? (fun c => c.egress == egress) = some c → portUp s.dev egress = true →
    ∃ t, exec (.egressReplicaWrite region egress) s = .next t ∧
      t.dev.staged egress (cTc x.box.cell) =
        s.dev.staged egress (cTc x.box.cell) ++ [{ x.box with cell := c.cell, multi := true }] ∧
      (x.copies = [c] → t.dev.repls region = (s.dev.repls region).erase x) ∧ Kept [.sw] [] [] s t)

/-- A2A_PHASE_OPEN (R267): the next phase of a member whose phase has ended opens once its time has come. -/
def Claims.PhaseOpens : Prop :=
  ∀ (group member : Nat) (r : Round) (s : State), group < 65536 → member < r.phases.length → r.phases.length ≤ 1048576 →
    r.ended.length = r.phases.length → roundOf s.dev group = some r → r.ended.getD member false = true →
    r.phases.getD member 1 + 1 < r.phases.length →
    r.t0 + r.phases.getD member 1 * gPhaseT (grp s.dev group) * 10 ≤ fabricNs s.dev s.now →
    ∃ t r', exec (.a2aPhaseOpen group member) s = .next t ∧ roundOf t.dev group = some r' ∧
      r'.phases.getD member 1 = r.phases.getD member 1 + 1 ∧ r'.ended.getD member true = false ∧ r'.t0 = r.t0 ∧
      (∀ m, m ≠ member → r'.phases.getD m 1 = r.phases.getD m 1 ∧ r'.ended.getD m false = r.ended.getD m false) ∧
      Kept [.col] [] [] s t

/-- TX_CELL_SLOT (R202): of a port that may start a cell, a TIME cell that is due goes first, taking no credit (R372); else
TC 7, with credit for its cell, goes strictly before every other class. The staged cell goes into link framing with its HCRC
recomputed, and one credit of its virtual channel is spent (R113). -/
def Obligations.TransmitSlot : Prop :=
  (∀ (lane : Nat) (s : State), lane < 1024 → maySend s.dev lane = true → (s.dev.port lane).timeDue = true →
    ∃ t, exec (.txCellSlot lane) s = .next t ∧ (t.dev.port lane).timeDue = false ∧
      (t.dev.port lane).txStream = (s.dev.port lane).txStream ++ txBytes (timeCell s.now lane s.dev) true ∧
      (t.dev.port lane).allow = (s.dev.port lane).allow ∧
      (t.dev.port lane).tseq = ((s.dev.port lane).tseq + 1) % 65536 ∧ Counted Page.tim Reg.TIM_CNT 0 1 s t ∧
      Kept [.lnk, .pmc] [watchTable] [Page.tim, Page.tel] s t) ∧
  (∀ (lane : Nat) (b : Box) (bs : List Box) (s : State), lane < 1024 → maySend s.dev lane = true →
    (s.dev.port lane).timeDue = false → s.dev.staged lane 7 = b :: bs → hasCredit s.dev lane b.cell = true →
    ∃ t, exec (.txCellSlot lane) s = .next t ∧ t.dev.staged lane 7 = bs ∧
      (∀ tc, tc < 7 → t.dev.staged lane tc = s.dev.staged lane tc) ∧
      (t.dev.port lane).txStream = (s.dev.port lane).txStream ++ txBytes (reseal b.cell) false ∧
      (t.dev.port lane).allow.getD (vcOf (cTc b.cell) (cEsc b.cell)) 0 + 1 =
        (s.dev.port lane).allow.getD (vcOf (cTc b.cell) (cEsc b.cell)) 0 ∧
      Kept [.lnk, .sw, .fwd, .pmc, .tel] [watchTable, (Page.fwd, 2)] [Page.lnk lane, Page.etm lane, Page.fwd, Page.tel] s t)

/-- Gates and launches (R204, R205, R209). GATE_START of a list that passes its checks puts its entry 0 into effect from now;
a list that fails a check starts nothing and sets error class 16. GATE_ENTRY puts the next entry into effect once the one in
effect has run for its INTERVAL. HOLD_WRITE writes HOLD; each bit that falls counts one launch. -/
def Obligations.GatesAndHolds : Prop :=
  (∀ (src : Src) (lane : Nat) (s : State), Owns src (Page.etm lane) s → lane < 1024 →
    let p := Page.etm lane
    let list := rd s.dev p Reg.ETM_GATE_CTL_NEXT_LIST
    (gateCheck s.dev lane list = none →
      ∃ t, exec (.gateStart src lane) s = .next t ∧ rdBit t.dev p Reg.ETM_GATE_STAT_RUNNING = true ∧
        rd t.dev p Reg.ETM_GATE_STAT_ACTIVE_LIST = list ∧ rd t.dev p Reg.ETM_GATE_STAT_ENTRY = 0 ∧
        rd64 t.dev p Reg.ETM_GATE_BASE = fabricNs s.dev s.now ∧
        gateOf t.dev lane = some { start := fabricNs s.dev s.now, entryStart := fabricNs s.dev s.now, entry := 0 } ∧
        CoreKept s t ∧ PartsKept [.sw] s t ∧ EntriesKept [watchTable] s t ∧ PagesKept [p, Page.tel] s t) ∧
    (∀ c, gateCheck s.dev lane list = some c →
      ∃ t, exec (.gateStart src lane) s = .next t ∧ (rdWord t.dev p 0x018).getLsbD 16 = true ∧
        gateOf t.dev lane = gateOf s.dev lane ∧ CoreKept s t ∧ TablesKept s t ∧ PartsKept [] s t ∧ PagesKept [p] s t)) ∧
  (∀ (lane : Nat) (g : Gate) (s : State), lane < 1024 → gateOf s.dev lane = some g →
    let list := activeList s.dev lane
    let due := g.entryStart + (gateEntry s.dev lane list g.entry).2
    due ≤ fabricNs s.dev s.now → gateLen s.dev lane list ≤ 256 →
    ∃ t k, exec (.gateEntry lane) s = .next t ∧ k = (if g.entry + 1 < gateLen s.dev lane list then g.entry + 1 else 0) ∧
      gateOf t.dev lane = some { g with entryStart := due, entry := k } ∧
      rd t.dev (Page.etm lane) Reg.ETM_GATE_STAT_ENTRY = k ∧
      rd t.dev (Page.etm lane) Reg.ETM_GATE_OPEN_OPEN = ((gateEntry s.dev lane list k).1 ||| 128) ∧
      Kept [.sw] [] [Page.etm lane] s t) ∧
  (∀ (src : Src) (lane mask : Nat) (s : State), Owns src (Page.etm lane) s → lane < 1024 → mask < 128 →
    let p := Page.etm lane
    let old := rd s.dev p Reg.ETM_HOLD_HOLD
    let fell := ((List.range 7).filter (fun c => decide (old / 2 ^ c % 2 = 1 ∧ mask / 2 ^ c % 2 = 0))).length
    ∃ t, exec (.holdWrite src lane mask) s = .next t ∧ rd t.dev p Reg.ETM_HOLD_HOLD = mask ∧
      Counted p Reg.ETM_CNT 12 fell s t ∧ (fell ≠ 0 → (rdWord t.dev p 0x010).getLsbD 17 = true) ∧
      Kept [] [watchTable] [p, Page.tel] s t)

/-- WHEEL_SLOT (R200, R201): a shaper due in this slot that holds its cell length again leaves the wheel; one that does not
is entered again. FLUSH_DONE (R183): the die's flush list is empty, its engine is no longer active, and VOQ's interrupt 17
is set. -/
def Claims.WheelAndFlush : Prop :=
  (∀ (die k : Nat) (s : State), die < 2 → s.dev.sw.wheel = [(k, s.now.toNat / 8 + 1)] → wheelDie k = die →
    let w := wheelState s.now s.dev k
    ∃ t, exec (.wheelSlot die) s = .next t ∧
      (w.2.2 = 0 ∨ w.2.1 ≤ w.1 → onWheel t.dev k = false) ∧ (w.2.2 ≠ 0 → w.1 < w.2.1 → onWheel t.dev k = true) ∧
      Kept [.sw] [] [] s t) ∧
  (∀ (die : Nat) (s : State), die < 2 →
    let active := if die = 0 then Reg.VOQ_FLUSH_STAT_ACTIVE_A else Reg.VOQ_FLUSH_STAT_ACTIVE_B
    rdBit s.dev Page.voq active = true →
    ∃ t, exec (.flushDone die) s = .next t ∧ t.dev.flushList die = [] ∧ rdBit t.dev Page.voq active = false ∧
      t.dev.flushList (1 - die) = s.dev.flushList (1 - die) ∧
      (rdWord t.dev Page.voq 0x010).getLsbD 17 = true ∧ CoreKept s t ∧ SoftKept s t ∧
      PartsKept [.lnk, .sw, .fwd, .tel] s t ∧ PagesKept [Page.voq, Page.fwd, Page.tel] s t)

/-- Lost units and loads. UNIT_ECC_ERROR (R173): the cell at the head of the list is gone, VOQ has counted it and error class
18 is set; one error within 1 s fences nothing. BANK_GROUP_CONTROLLER_FAIL (R454): the group is fenced, here
with no cell queued or parked. LOAD_WINDOW (R185, R455): each region's loads are shown, 255 for a fenced one, and its cells
moved start from 0. -/
def Claims.BankGroupsAndLoads : Prop :=
  (∀ (source egress tc bg : Nat) (b : Box) (bs : List Box) (s : State), source < 1032 → egress < 1024 → tc < 8 → bg < 128 →
    (s.dev.voq (voqKey source egress tc)).norm = b :: bs →
    sget (konst []) s.dev.sw.eccTimes bg = [] →
    ∃ t, exec (.unitEccError (.voq source egress tc false) bg) s = .next t ∧
      (t.dev.voq (voqKey source egress tc)).norm.map Box.cell = bs.map Box.cell ∧
      (rdWord t.dev Page.voq 0x018).getLsbD 18 = true ∧ sget (konst []) t.dev.sw.eccTimes bg = [s.now.toNat] ∧
      t.dev.sw.fencedGroups = s.dev.sw.fencedGroups ∧ CoreKept s t ∧ SoftKept s t ∧
      PartsKept [.lnk, .sw, .fwd, .tel] s t ∧ PagesKept [Page.voq, Page.fwd, Page.tel] s t) ∧
  (∀ (bg : Nat) (s : State), bg < 128 → s.dev.sw.fencedGroups.contains bg = false → s.dev.sw.voqs = [] →
    s.dev.sw.mcast = [] → s.dev.sw.parkA = [] → s.dev.sw.parkB = [] → s.dev.col.contexts = [] →
    ∃ t, exec (.bankGroupControllerFail bg) s = .next t ∧ t.dev.sw.fencedGroups = s.dev.sw.fencedGroups ++ [bg] ∧
      (rdWord t.dev Page.voq 0x018).getLsbD 18 = true ∧ CoreKept s t ∧ SoftKept s t ∧ PartsKept [.sw, .mgt, .rst] s t ∧
      PagesKept [Page.voq, Page.pkg, Page.mgt, Page.tel] s t) ∧
  (∀ (ladle : List Nat) (s : State),
    ∃ t, exec (.loadWindow ladle) s = .next t ∧
      (∀ r, r < 8 →
        rd t.dev Page.xbs (Reg.XBS_LOAD_LADLE.idx r) = (if regionFenced s.dev r then 255 else min 255 (ladle.getD r 0)) ∧
        rd t.dev Page.xbs (Reg.XBS_LOAD_PORT.idx r) = (if regionFenced s.dev r then 255 else portLoad s.dev r) ∧
        rd t.dev Page.xbs (Reg.XBS_LOAD_CTX.idx r) = (if regionFenced s.dev r then 255 else ctxLoad s.dev r) ∧
        sget (konst 0) t.dev.sw.moved r = 0) ∧
      Kept [.sw] [] [Page.xbs] s t)

/-- `Claims.MulticastCopies`, `Claims.PhaseOpens` together: each part is stated above with its rules. -/
def Obligations.CopiesAndPhases : Prop := Claims.MulticastCopies ∧ Claims.PhaseOpens

/-- `Claims.WheelAndFlush`, `Claims.BankGroupsAndLoads` together: each part is stated above with its rules. -/
def Obligations.WheelsFlushesAndLoads : Prop := Claims.WheelAndFlush ∧ Claims.BankGroupsAndLoads

/-! ### Links (ch. 4) -/

/-- The pages that show the state of a training unit: the lanes of a port, or a spare lane's own. -/
def unitPages (lane : Nat) (s : State) : List Page := Page.lnk lane :: (lanesOfPort s.dev lane).map Page.lnk

/-- Training moves on (R108, R497): lock takes a training unit from SEARCH to TRAIN, deskew from TRAIN to IDENTIFY; the
timeout of the state a port is in takes it back to SEARCH with reason 0x04. Each sets the state-change interrupt and starts
the new state's time. -/
def Claims.TrainingMovesOn : Prop :=
  ∀ (lane : Nat) (s : State), lane < 1088 → trainUnit s.dev lane = true →
    (linkState s.dev lane = lsSearch →
      ∃ t, exec (.lockAcquired lane) s = .next t ∧ linkState t.dev lane = lsTrain ∧
        (t.dev.port lane).sinceTick = s.now.toNat ∧ (rdWord t.dev (Page.lnk lane) 0x010).getLsbD 16 = true ∧
        Kept [.lnk] [] (unitPages lane s) s t) ∧
    (linkState s.dev lane = lsTrain →
      ∃ t, exec (.deskewDone lane) s = .next t ∧ linkState t.dev lane = lsIdentify ∧
        (t.dev.port lane).sinceTick = s.now.toNat ∧ (rdWord t.dev (Page.lnk lane) 0x010).getLsbD 16 = true ∧
        Kept [.lnk] [] (unitPages lane s) s t) ∧
    (∀ ns, trainTimeout (linkState s.dev lane) = some ns → elapsed s.now (s.dev.port lane).sinceTick ns = true →
      ∃ t, exec (.linkTrainingTimeout lane) s = .next t ∧ linkState t.dev lane = lsSearch ∧ downReason t.dev lane = 4 ∧
        (t.dev.port lane).sinceTick = s.now.toNat ∧ (rdWord t.dev (Page.lnk lane) 0x010).getLsbD 16 = true ∧
        Kept [.lnk] [] (unitPages lane s) s t)

/-- The device with a port's match and its neighbour's credits noted. -/
def matchNoted (lane : Nat) (f : List Byte) (d : Dev) : Dev :=
  updPort lane (fun p => { p with matched := true, allow := (List.range 16).map (fun vc => frBytes f (16 + 2 * vc) 2) }) d

/-- A port in IDENTIFY receives a good training frame (R109, R110, R170). One that matches, with the landing reservation
covered, brings the port UP with the credits the frame advertises and its reservation held; the first mismatch holds the
port with that reason and sets interrupt 17. A port whose frames matched and whose reservation was not covered comes UP at a
retry once it is. -/
def Claims.PortComesUp : Prop :=
  (∀ (lane : Nat) (f : List Byte) (laneBytes : List Nat) (s : State), lane < 1024 → trainUnit s.dev lane = true →
    linkState s.dev lane = lsIdentify → frGood f = true → (s.dev.port lane).matched = false →
    (∀ r, frameMismatch s.dev lane f laneBytes = some r →
      ∃ t, exec (.trainingFrame lane f laneBytes) s = .next t ∧ linkState t.dev lane = lsHeld ∧ downReason t.dev lane = r ∧
        (rdWord t.dev (Page.lnk lane) 0x010).getLsbD 17 = true ∧
        rd t.dev (Page.lnk lane) Reg.LNK_PEER_COORD_COORD = frCoord f ∧ Kept [.lnk] [] (unitPages lane s) s t) ∧
    (frameMismatch s.dev lane f laneBytes = none → (s.dev.port lane).flushing = false →
      landingUnits s.dev lane ≤ freeUnits (matchNoted lane f s.dev) (dieOf lane) →
      ∃ t, exec (.trainingFrame lane f laneBytes) s = .next t ∧ linkState t.dev lane = lsUp ∧ downReason t.dev lane = 0 ∧
        (t.dev.port lane).landing = landingUnits s.dev lane ∧
        (t.dev.port lane).allow = (List.range 16).map (fun vc => frBytes f (16 + 2 * vc) 2) ∧
        (t.dev.port lane).txSeq = 0 ∧ (t.dev.port lane).rxSeq = 0 ∧
        Kept [.lnk] [] (Page.voq :: unitPages lane s) s t)) ∧
  (∀ (lane : Nat) (s : State), lane < 1024 → (s.dev.port lane).matched = true → linkState s.dev lane = lsIdentify →
    (s.dev.port lane).flushing = false → landingUnits s.dev lane ≤ freeUnits s.dev (dieOf lane) →
    ∃ t, exec (.landingReservationRetry lane) s = .next t ∧ linkState t.dev lane = lsUp ∧
      (t.dev.port lane).landing = landingUnits s.dev lane ∧ (t.dev.port lane).allow = (s.dev.port lane).allow ∧
      Kept [.lnk] [] (Page.voq :: unitPages lane s) s t)

/-- ADMIN_UP and RETRAIN (R112, R497), and the retraining of a FAILED port every 100 ms (R108). ADMIN_UP 1 takes a disabled
port whose page runs to SEARCH and lights it; ADMIN_UP 0 takes a port to DISABLED with reason 0x01. RETRAIN takes a port that
is not disabled to SEARCH with reason 0x09. A FAILED port goes to SEARCH with its reason kept. -/
def Claims.PortsSearch : Prop :=
  (∀ (src : Src) (lane : Nat) (s : State), Owns src (Page.lnk lane) s → isPort s.dev lane = true →
    (linkState s.dev lane = lsDisabled → lnkRunning s.dev lane = true → (s.dev.port lane).dark = false →
      rdBit s.dev (Page.lnk lane) Reg.LNK_LNK_CTL_ADMIN_UP = false →
      ∃ t, exec (.adminUp src lane true) s = .next t ∧ linkState t.dev lane = lsSearch ∧
        rdBit t.dev (Page.lnk lane) Reg.LNK_LNK_CTL_ADMIN_UP = true ∧ downReason t.dev lane = downReason s.dev lane ∧
        Kept [.lnk] [] (Page.lnk (spareOf lane) :: unitPages lane s) s t) ∧
    (linkState s.dev lane ≠ lsDisabled → rdBit s.dev (Page.lnk lane) Reg.LNK_LNK_CTL_ADMIN_UP = true →
      ∃ t, exec (.adminUp src lane false) s = .next t ∧ linkState t.dev lane = lsDisabled ∧ downReason t.dev lane = 1 ∧
        rdBit t.dev (Page.lnk lane) Reg.LNK_LNK_CTL_ADMIN_UP = false ∧ CoreKept s t) ∧
    (linkState s.dev lane ≠ lsDisabled →
      ∃ t, exec (.retrain src lane) s = .next t ∧ linkState t.dev lane = lsSearch ∧ downReason t.dev lane = 9 ∧
        CoreKept s t)) ∧
  (∀ (lane : Nat) (s : State), lane < 1024 → trainUnit s.dev lane = true → linkState s.dev lane = lsFailed →
    elapsed s.now (s.dev.port lane).sinceTick 100000000 = true →
    ∃ t, exec (.autoRetrain lane) s = .next t ∧ linkState t.dev lane = lsSearch ∧
      downReason t.dev lane = downReason s.dev lane ∧
      Kept [.lnk] [] (Page.lnk (spareOf lane) :: unitPages lane s) s t)

/-- CODEWORD_SEND (R103, R104, R109, R116). A port in IDENTIFY sends its training frame in a null codeword and nothing else
changes. An UP port on its first lane, with no replay and no NAK to send, that has cells to send and room in its replay
buffer, sends the next 640 bytes of its stream, padded with idle slots, and keeps them under the next sequence number. -/
def Claims.CodewordsSent : Prop :=
  (∀ (lane : Nat) (s : State), lane < 1024 → trainUnit s.dev lane = true → linkState s.dev lane = lsIdentify →
    exec (.codewordSend lane) s = .next { s with dev := { s.dev with ctl := { s.dev.ctl with
      out := s.dev.ctl.out ++ [.codeword lane { null := true, kind := 6, value := 0, body := ownFrame s.dev lane }] } } }) ∧
  (∀ (lane : Nat) (s : State), lane < 1024 → trainUnit s.dev lane = true → linkState s.dev lane = lsUp →
    circQuiet s.dev lane = false → (s.dev.port lane).suspended = false → (s.dev.port lane).departing = .no →
    (s.dev.port lane).replayAt = none → (s.dev.port lane).nakOwed = false → (s.dev.port lane).txLane = 0 →
    (s.dev.port lane).replay.length + portWidth s.dev lane ≤ replayRoom s.dev lane → (s.dev.port lane).txStream ≠ [] →
    let body := (padStream (s.dev.port lane).txStream).take 640
    ∃ t kind value, exec (.codewordSend lane) s = .next t ∧
      t.dev.ctl.out = s.dev.ctl.out ++
        [.codeword (carrier s.dev lane) { null := false, kind := kind, value := value, body := body.map TxByte.b }] ∧
      (t.dev.port lane).replay = (s.dev.port lane).replay ++ [{ seq := (s.dev.port lane).txSeq, body := body }] ∧
      (t.dev.port lane).txStream = (padStream (s.dev.port lane).txStream).drop 640 ∧
      (t.dev.port lane).txSeq = ((s.dev.port lane).txSeq + 1) % 32768 ∧ Kept [.lnk] [] [] s t)

/-- Codewords received (R104, R116, R117). A data codeword in sequence, with nothing corrected and no reserved item, extends
the port's stream; the whole slots it completes that are not idle become cells, and the expected number goes up by one. One
out of sequence changes nothing. An uncorrectable codeword, below the retry limit, owes a NAK and is counted on its lane. -/
def Claims.CodewordsReceived : Prop :=
  ∀ (lane low : Nat) (s : State), lane < 1088 → portOfLane s.dev lane = low → low < 1024 → carries s.dev lane = true →
    receiving s.dev low = true →
    (∀ (cw : Codeword) (seq : Nat), cw.null = false → cw.kind < 7 →
      let cut := cutSlots 12 ((s.dev.port low).rxStream ++ (cw.body ++ List.replicate 640 0).take 640)
      (seq = (s.dev.port low).rxSeq →
        ∃ t, exec (.dataCodewordReceive lane cw seq 0) s = .next t ∧
          (t.dev.port low).framed.map Framed.cell = (s.dev.port low).framed.map Framed.cell ++ cut.1.map cellOfBytes ∧
          (t.dev.port low).rxStream = cut.2 ∧ (t.dev.port low).rxSeq = (seq + 1) % 32768 ∧
          (t.dev.port low).nakOwed = false ∧ Kept [.lnk, .pmc] [watchTable] [Page.lnk low, Page.tel] s t) ∧
      (seq ≠ (s.dev.port low).rxSeq → exec (.dataCodewordReceive lane cw seq 0) s = .next s)) ∧
    ((s.dev.port low).rxNaks < 7 → inCircuit s.dev low = false →
      ∃ t, exec (.uncorrectableCodeword lane) s = .next t ∧ (t.dev.port low).nakOwed = true ∧
        (t.dev.port low).rxNaks = (s.dev.port low).rxNaks + 1 ∧ (t.dev.port low).rxSeq = (s.dev.port low).rxSeq ∧
        Counted (Page.lnk lane) Reg.LNK_CNT 2 1 s t ∧ Kept [.lnk] [watchTable] [Page.lnk lane, Page.tel] s t)

/-- Control items received (R106, R114, R116, R117). A CREDIT whose count has advanced by 1 to 1,023 adds the advance to the
channel's allowance. An ACK frees the codewords up to its number. A NAK starts the replay from the data period that holds its
number, below the retry limit. With codewords outstanding and no ACK for 16 µs the port goes to SEARCH with reason 0x0C and
error class 16. -/
def Claims.ControlItems : Prop :=
  ∀ (lane low : Nat) (s : State), lane < 1088 → portOfLane s.dev lane = low → low < 1024 → carries s.dev lane = true →
    linkActive s.dev low = true →
    (∀ (value vc diff : Nat), vc = value / 2048 % 16 → vc < (s.dev.port low).allow.length →
      vc < (s.dev.port low).lastCredit.length →
      diff = (value % 2048 + 2048 - (s.dev.port low).lastCredit.getD vc 0) % 2048 → 1 ≤ diff → diff ≤ 1023 →
      ∃ t, exec (.credit lane value) s = .next t ∧
        (t.dev.port low).allow.getD vc 0 = (s.dev.port low).allow.getD vc 0 + diff ∧
        (∀ v, v ≠ vc → (t.dev.port low).allow.getD v 0 = (s.dev.port low).allow.getD v 0) ∧
        (t.dev.port low).lastCredit.getD vc 0 = value % 2048 ∧ Kept [.lnk] [] [] s t) ∧
    (∀ (value n : Nat), n = (value + 1 + 32768 - (s.dev.port low).ackNext) % 32768 → 1 ≤ n →
      n ≤ (s.dev.port low).replay.length →
      ∃ t, exec (.ack lane value) s = .next t ∧ (t.dev.port low).replay = (s.dev.port low).replay.drop n ∧
        (t.dev.port low).ackNext = (value + 1) % 32768 ∧ (t.dev.port low).ackTick = s.now.toNat ∧ Kept [.lnk] [] [] s t) ∧
    (∀ (value k : Nat), (s.dev.port low).replay.findIdx? (fun cw => cw.seq == value) = some k →
      (s.dev.port low).replayAt = none → ((s.dev.port low).nakSeq = value → (s.dev.port low).nakCount < 7) →
      ∃ t, exec (.nak lane value) s = .next t ∧ (t.dev.port low).replayAt = some ((s.dev.port low).ackHeld.length + k - value % portWidth s.dev low) ∧
        (t.dev.port low).nakSeq = value ∧ (t.dev.port low).replay = (s.dev.port low).replay ∧ Kept [.lnk] [] [] s t) ∧
    (portUp s.dev low = true → inCircuit s.dev low = false → (s.dev.port low).replay ≠ [] →
      elapsed s.now (s.dev.port low).ackTick 16000 = true →
      ∃ t, exec (.ackTimeout low) s = .next t ∧ linkState t.dev low = lsSearch ∧ downReason t.dev low = 0x0C ∧
        (rdWord t.dev (Page.lnk low) 0x018).getLsbD 16 = true ∧ CoreKept s t)

/-- A failed lane (R118, R119). On each of the three triggers, for a lane of an UP port with SPARE_AUTO 1 whose block has an
idle spare and no repair, a REPAIR request is owed and the repair has begun; the neighbour's request for such a lane is
accepted. With SPARE_AUTO 0 the port goes to FAILED with the trigger's reason. -/
def Claims.LaneRepairBegins : Prop :=
  ∀ (c : Instr) (lane reason : Nat) (s : State), lane < 1024 →
    ((c = .noLight lane ∧ reason = 2) ∨ (c = .lockLost lane ∧ reason = 3) ∨
      (c = .spareThreshExceeded lane ∧ reason = 0x11 ∧ rd s.dev (Page.lnk lane) Reg.LNK_SPARE_THRESH_UCW ≠ 0)) →
    portUp s.dev (lowestLane s.dev lane) = true →
    (rdBit s.dev (Page.lnk lane) Reg.LNK_LNK_CTL_SPARE_AUTO = true → repairOf s.dev (lane / 16) = none →
      linkState s.dev (spareOf lane) = lsSpareIdle →
      (heldOff s.dev (lane / 128) = false → inCircuit s.dev (lowestLane s.dev lane) = false →
        sget (konst false) s.dev.lnk.ownFailed lane = false →
        ∃ t, exec c s = .next t ∧
          repairOf t.dev (lane / 16) = some { laneIdx := lane % 16, attempt := 1, accepted := false,
                                              switched := false, startTick := s.now.toNat } ∧
          sget (konst 0) t.dev.lnk.repairItem (lane / 16) = repairValue 0 0 (lane % 16) + 1 ∧ Kept [.lnk] [] [] s t) ∧
      (∃ t, exec (.repairRequest (lane / 16) (lane % 16)) s = .next t ∧
          repairOf t.dev (lane / 16) = some { laneIdx := lane % 16, attempt := 1, accepted := true,
                                              switched := false, startTick := s.now.toNat } ∧
          sget (konst 0) t.dev.lnk.repairItem (lane / 16) = repairValue 1 0 (lane % 16) + 1 ∧ Kept [.lnk] [] [] s t)) ∧
    (rdBit s.dev (Page.lnk lane) Reg.LNK_LNK_CTL_SPARE_AUTO = false → heldOff s.dev (lane / 128) = false →
      inCircuit s.dev (lowestLane s.dev lane) = false → sget (konst false) s.dev.lnk.ownFailed lane = false →
      ∃ t, exec c s = .next t ∧ linkState t.dev (lowestLane s.dev lane) = lsFailed ∧
        downReason t.dev (lowestLane s.dev lane) = reason ∧ CoreKept s t)

/-- A repair goes on (R118 to R120). The accept for the lane requested is noted; a BUSY on the first request leaves the repair
waiting and sets error class 18; no answer to it sends the second request. After the accept the lane's position moves to the
spare, which is UP and names the lane; once its deskew is done a NAK is owed and the spare's page sets interrupt 18. -/
def Claims.LaneRepairEnds : Prop :=
  ∀ (b : Nat) (r : Repair) (s : State), b < 64 → r.laneIdx < 16 → repairOf s.dev b = some r →
    (∃ t, exec (.repairAccept b r.laneIdx) s = .next t ∧ repairOf t.dev b = some { r with accepted := true } ∧
      Kept [.lnk] [] [] s t) ∧
    (r.accepted = false → r.attempt = 1 →
      (∃ t, exec (.repairRefuse b r.laneIdx 1) s = .next t ∧ repairOf t.dev b = some r ∧
        (rdWord t.dev (Page.lnk (lowestLane s.dev (16 * b + r.laneIdx))) 0x018).getLsbD 18 = true ∧
        Kept [] [] [Page.lnk (lowestLane s.dev (16 * b + r.laneIdx))] s t) ∧
      (∃ t, exec (.repairAnswerTimeout b) s = .next t ∧
        repairOf t.dev b = some { r with attempt := 2 } ∧
        sget (konst 0) t.dev.lnk.repairItem b = repairValue 0 0 r.laneIdx + 1 ∧ Kept [.lnk] [] [] s t)) ∧
    (r.accepted = true → r.switched = false →
      ∃ t, exec (.laneSwitch b) s = .next t ∧ linkState t.dev (1024 + b) = lsUp ∧
        rd t.dev (Page.lnk (1024 + b)) Reg.LNK_LINK_STAT_SPARE_FOR = r.laneIdx ∧
        repairOf t.dev b = some { r with switched := true } ∧
        Kept [.lnk] [] [Page.lnk (1024 + b), Page.lnk (16 * b + r.laneIdx)] s t) ∧
    (r.switched = true →
      ∃ t, exec (.spareDeskewDone b) s = .next t ∧ repairOf t.dev b = none ∧
        (t.dev.port (lowestLane s.dev (16 * b + r.laneIdx))).nakOwed = true ∧
        (rdWord t.dev (Page.lnk (1024 + b)) 0x010).getLsbD 18 = true ∧ CoreKept s t ∧ PartsKept [.lnk, .mgt, .rst] s t ∧
        PagesKept [Page.lnk (1024 + b), Page.pkg, Page.mgt, Page.tel] s t)

/-- Departure (R449): a DEPART item on an UP port makes it DEPARTED with reason 0x0E, its receive side open, and sets
interrupt 19; with the light absent the receive side closes. -/
def Claims.NeighbourDeparts : Prop :=
  ∀ (lane : Nat) (s : State), lane < 1024 →
    (isPort s.dev lane = true → portUp s.dev lane = true →
      ∃ t, exec (.depart lane) s = .next t ∧ linkState t.dev lane = lsDeparted ∧ downReason t.dev lane = 0x0E ∧
        (t.dev.port lane).rxOpen = true ∧ (rdWord t.dev (Page.lnk lane) 0x010).getLsbD 19 = true ∧ CoreKept s t) ∧
    (departedOpen s.dev lane = true →
      ∃ t, exec (.departedClose lane true) s = .next t ∧ linkState t.dev lane = lsDeparted ∧
        (t.dev.port lane).rxOpen = false ∧ departedOpen t.dev lane = false ∧ CoreKept s t)

/-- Die-to-die groups and the board reference (R19, R21, R31, R124). A flit error is counted in its group's entry and the flit
replayed. A wire past its threshold of a group whose spare is free takes the spare and pauses the group until the repair is
done. The loss of the reference is shown in TIM and reported by PKG; its return clears what TIM shows. -/
def Obligations.DieLinksAndReference : Prop :=
  (∀ (g : Nat) (s : State), g < 3232 →
    let ws := tget s.dev (Page.lnk 0) 1 g
    (2 ≤ ws.length →
      ∃ t, exec (.flitCrcError g) s = .next t ∧ t.dev.ctl.out = s.dev.ctl.out ++ [.flitReplay g] ∧
        wbits (tget t.dev (Page.lnk 0) 1 g) 0 23 0 = (wbits ws 0 23 0 + 1) % 2 ^ 24 ∧
        (∀ j, j ≠ g → tget t.dev (Page.lnk 0) 1 j = tget s.dev (Page.lnk 0) 1 j) ∧
        Kept [] [(Page.lnk 0, 1)] [] s t) ∧
    (∀ wire, wire < 40 → 1 ≤ ws.length → wbit ws 0 31 = false → wbit ws 0 30 = false →
      ∃ t, exec (.d2dWireRepair g wire) s = .next t ∧ sget (konst false) t.dev.lnk.d2dPaused g = true ∧
        wbit (tget t.dev (Page.lnk 0) 1 g) 0 30 = true ∧ wbits (tget t.dev (Page.lnk 0) 1 g) 0 29 24 = wire ∧
        CoreKept s t ∧ PartsKept [.lnk, .mgt, .rst] s t ∧ PagesKept [Page.pkg, Page.mgt, Page.tel] s t) ∧
    (∃ t, exec (.d2dRepairDone g) s = .next t ∧ sget (konst false) t.dev.lnk.d2dPaused g = false ∧ Kept [.lnk] [] [] s t)) ∧
  (∀ s : State,
    (∃ t, exec .referenceLoss s = .next t ∧ t.dev.lnk.refLost = true ∧ rdBit t.dev Page.tim Reg.TIM_TIM_STAT_REF_LOST = true ∧
      (rdWord t.dev Page.pkg 0x018).getLsbD 16 = true ∧ Kept [.lnk] [] [Page.tim, Page.pkg] s t) ∧
    (∃ t, exec .referenceRestored s = .next t ∧ t.dev.lnk.refLost = false ∧
      rdBit t.dev Page.tim Reg.TIM_TIM_STAT_REF_LOST = false ∧ Kept [.lnk] [] [Page.tim] s t))

/-- `Claims.TrainingMovesOn`, `Claims.PortComesUp` together: each part is stated above with its rules. -/
def Obligations.PortsTrain : Prop := Claims.TrainingMovesOn ∧ Claims.PortComesUp

/-- `Claims.CodewordsSent`, `Claims.CodewordsReceived`, `Claims.ControlItems` together: each part is stated above with its rules. -/
def Obligations.CodewordsCross : Prop := Claims.CodewordsSent ∧ Claims.CodewordsReceived ∧ Claims.ControlItems

/-- `Claims.LaneRepairBegins`, `Claims.LaneRepairEnds` together: each part is stated above with its rules. -/
def Obligations.LanesRepaired : Prop := Claims.LaneRepairBegins ∧ Claims.LaneRepairEnds

/-- `Claims.PortsSearch`, `Claims.NeighbourDeparts` together: each part is stated above with its rules. -/
def Obligations.PortsLeave : Prop := Claims.PortsSearch ∧ Claims.NeighbourDeparts

/-! ### Laser modules (R125 to R131) -/

/-- A laser module comes into use (R127, R130). Insertion starts its verification and sets interrupt 16; 500 ms later, with the
image running, a module that fails a check is rejected with the reason and interrupt 18, and one that passes ramps to 50 %; the
ramp over, it runs beside a running partner. A poll takes status and temperature. RELEASE is accepted while the partner gives
light, which it then boosts, and is refused with error class 16 where it does not; RESUME verifies a released module again. -/
def Claims.LaserComesIn : Prop :=
  ∀ (m : Nat) (s : State), m < 16 →
    ((s.dev.laserRec m).present = false →
      ∃ t, exec (.laserInsert m) s = .next t ∧ lsrState t.dev m = lmVerifying ∧ (t.dev.laserRec m).present = true ∧
        (t.dev.laserRec m).insertTick = s.now.toNat ∧ (rdWord t.dev (Page.laser m) 0x010).getLsbD 16 = true ∧
        Kept [.lnk] [] [Page.laser m] s t) ∧
    (∀ info : ModuleInfo, (s.dev.laserRec m).present = true → lsrState s.dev m = lmVerifying →
      elapsed s.now (s.dev.laserRec m).insertTick 500000000 = true → rd s.dev Page.mgt Reg.MGT_BOOT_STAT_STAGE = 2 →
      ∃ t, exec (.laserVerify m info) s = .next t ∧ Kept [.lnk] [] [Page.laser m] s t ∧
        (∀ r, laserReject s.dev info = some r →
          lsrState t.dev m = lmRejected ∧ rd t.dev (Page.laser m) Reg.LSR_STAT_REJECT = r ∧
          (rdWord t.dev (Page.laser m) 0x010).getLsbD 18 = true) ∧
        (laserReject s.dev info = none →
          lsrState t.dev m = lmRamping ∧ (t.dev.laserRec m).en = true ∧ (t.dev.laserRec m).setpoint = 50 ∧
          rd t.dev (Page.laser m) Reg.LSR_STAT_REJECT = 0 ∧
          rd64 t.dev (Page.laser m) Reg.LSR_SERIAL = info.serial % 2 ^ 64)) ∧
    (lsrState s.dev m = lmRamping → lsrState s.dev (partner m) = lmRunning →
      ∃ t, exec (.laserRampDone m) s = .next t ∧ lsrState t.dev m = lmRunning ∧
        rd t.dev (Page.laser m) Reg.LSR_STAT_OUTPUT = 50 ∧ lsrState t.dev (partner m) = lmRunning ∧
        rd t.dev (Page.tile (tileOfModule m)) Reg.OPT_TILE_STAT_LIT = 3 ∧
        Kept [.lnk] [] [Page.laser m, Page.tile (tileOfModule m)] s t) ∧
    (∀ status temp, status < 256 → temp < 256 → (s.dev.laserRec m).present = true →
      ∃ t, exec (.laserPoll m status temp) s = .next t ∧
        t.dev.laserRec m = { s.dev.laserRec m with status := status, temp := temp } ∧ Kept [.lnk] [] [] s t) ∧
    (∀ (src : Src) (force : Bool), Owns src (Page.laser m) s → wearKnown s.dev m = true → lsrState s.dev m ≠ lmReleased →
      (lsrLit s.dev (partner m) = true →
        ∃ t, exec (.release src m force) s = .next t ∧ (t.dev.laserRec m).releasing = true ∧
          (t.dev.laserRec (partner m)).boost = true ∧ Kept [.lnk] [] [] s t) ∧
      (lsrLit s.dev (partner m) = false → force = false →
        ∃ t, exec (.release src m force) s = .next t ∧ (rdWord t.dev (Page.laser m) 0x018).getLsbD 16 = true ∧
          Kept [] [] [Page.laser m] s t)) ∧
    (∀ src : Src, Owns src (Page.laser m) s → (s.dev.laserRec m).present = true → lsrState s.dev m = lmReleased →
      ∃ t, exec (.resume src m) s = .next t ∧ lsrState t.dev m = lmVerifying ∧
        (t.dev.laserRec m).insertTick = s.now.toNat ∧ Kept [.lnk] [] [Page.laser m] s t)

/-- A laser module leaves its tile to its partner (R122, R128 to R130). A laser event darkens it, boosts the lit partner,
starts the hold-off and sets interrupt 19; the partner at 100 % carries the tile; the hold-off ends. A module removed is
absent, with interrupt 17. One powered hour adds its wear, the greater of a tenth of an hour and the mean output over the
rated output, and records it in the journal. The
end of a release leaves it released and dark, its partner carrying. -/
def Claims.LaserGoesOut : Prop :=
  ∀ (m : Nat) (s : State), m < 16 →
    (lsrLit s.dev m = true → lsrLit s.dev (partner m) = true →
      ∃ t, exec (.laserEvent m) s = .next t ∧ lsrState t.dev m = lmFailed ∧ (t.dev.laserRec m).en = false ∧
        rd t.dev (Page.laser m) Reg.LSR_STAT_OUTPUT = 0 ∧ (t.dev.laserRec (partner m)).boost = true ∧
        heldOff t.dev (tileOfModule m) = true ∧ (rdWord t.dev (Page.laser m) 0x010).getLsbD 19 = true ∧
        Kept [.lnk] [] [Page.laser m, Page.tile (tileOfModule m)] s t) ∧
    ((s.dev.laserRec m).boost = true → lsrState s.dev m = lmRunning →
      ∃ t, exec (.laserChangeoverDone (tileOfModule m)) s = .next t ∧ lsrState t.dev m = lmCarrying ∧
        rd t.dev (Page.laser m) Reg.LSR_STAT_OUTPUT = 100 ∧
        Kept [.lnk] [] [Page.laser m, Page.laser (partner m), Page.tile (tileOfModule m)] s t) ∧
    (∃ t, exec (.laserHoldoffEnd (tileOfModule m)) s = .next t ∧ heldOff t.dev (tileOfModule m) = false ∧
      Kept [.lnk] [] [] s t) ∧
    ((s.dev.laserRec m).present = true → lsrLit s.dev m = false → lsrState s.dev m ≠ lmRamping →
      ∃ t, exec (.laserRemove m) s = .next t ∧ lsrState t.dev m = lmAbsent ∧ (t.dev.laserRec m).present = false ∧
        rd64 t.dev (Page.laser m) Reg.LSR_SERIAL = 0 ∧ (rdWord t.dev (Page.laser m) 0x010).getLsbD 17 = true ∧
        Kept [.lnk] [] [Page.laser m, Page.tile (tileOfModule m)] s t) ∧
    (wearKnown s.dev m = true →
      ∃ t w, exec (.wearHour m) s = .next t ∧ w = (s.dev.laserRec m).wear + hourWear s.now s.dev m ∧
        (t.dev.laserRec m).wear = w ∧ rd t.dev (Page.laser m) Reg.LSR_WEAR_HOURS = w / 1000 % 2 ^ 32 ∧
        (activeHalf t.dev).recs.length = (activeHalf s.dev).recs.length + 1 ∧
        Kept [.lnk, .mgt] [watchTable] [Page.laser m, Page.mgt, Page.tel] s t) ∧
    ((s.dev.laserRec m).releasing = true → lsrLit s.dev (partner m) = true →
      ∃ t, exec (.releaseDone m) s = .next t ∧ lsrState t.dev m = lmReleased ∧ (t.dev.laserRec m).en = false ∧
        rd t.dev (Page.laser m) Reg.LSR_STAT_OUTPUT = 0 ∧ lsrState t.dev (partner m) = lmCarrying ∧
        rd t.dev (Page.laser (partner m)) Reg.LSR_STAT_OUTPUT = 100 ∧
        Kept [.lnk, .mgt] [watchTable]
          [Page.laser m, Page.laser (partner m), Page.tile (tileOfModule m), Page.mgt, Page.tel] s t)

/-! ### Forwarding (ch. 5) -/

/-- The two banks (R139, R141, R142). SWAP makes the other bank active, counts the swap, disarms and sets interrupt 20; it is
refused with error class 16 while a swap is armed. ARM and DISARM write ARMED alone. A bank that has drained is reported once
by interrupt 16, and one that has not drained DRAIN_WARN µs after the swap by interrupt 17. -/
def Obligations.BankSwaps : Prop :=
  (∀ (src : Src) (s : State), Owns src Page.fwd s →
    (rdBit s.dev Page.fwd Reg.FWD_EPOCH_STAT_ARMED = false →
      ∃ t, exec (.swap src) s = .next t ∧
        rd t.dev Page.fwd Reg.FWD_EPOCH_STAT_ACTIVE = 1 - rd s.dev Page.fwd Reg.FWD_EPOCH_STAT_ACTIVE ∧
        rd t.dev Page.fwd Reg.FWD_SWAP_COUNT_COUNT = (rd s.dev Page.fwd Reg.FWD_SWAP_COUNT_COUNT + 1) % 2 ^ 32 ∧
        t.dev.fwd.swapTick = some s.now.toNat ∧ (rdWord t.dev Page.fwd 0x010).getLsbD 20 = true ∧
        Kept [.fwd] [] [Page.fwd] s t) ∧
    (rdBit s.dev Page.fwd Reg.FWD_EPOCH_STAT_ARMED = true →
      ∃ t, exec (.swap src) s = .next t ∧ (rdWord t.dev Page.fwd 0x018).getLsbD 16 = true ∧
        rd t.dev Page.fwd Reg.FWD_EPOCH_STAT_ACTIVE = rd s.dev Page.fwd Reg.FWD_EPOCH_STAT_ACTIVE ∧
        Kept [] [] [Page.fwd] s t) ∧
    (∃ t, exec (.arm src) s = .next t ∧ rdBit t.dev Page.fwd Reg.FWD_EPOCH_STAT_ARMED = true ∧
      WordsKept Page.fwd [0x108] s t ∧ Kept [] [] [Page.fwd] s t) ∧
    (∃ t, exec (.disarm src) s = .next t ∧ rdBit t.dev Page.fwd Reg.FWD_EPOCH_STAT_ARMED = false ∧
      WordsKept Page.fwd [0x108] s t ∧ Kept [] [] [Page.fwd] s t)) ∧
  (∀ (e : Nat) (s : State), e < 2 → sget (konst false) s.dev.fwd.drained e = true →
    ∃ t, exec (.bankDrained e) s = .next t ∧ (rdWord t.dev Page.fwd 0x010).getLsbD 16 = true ∧
      sget (konst false) t.dev.fwd.drained e = false ∧ Kept [.fwd] [] [Page.fwd] s t) ∧
  (∀ (tick : Nat) (s : State), s.dev.fwd.swapTick = some tick → s.dev.fwd.warned = false →
    rd s.dev Page.fwd Reg.FWD_DRAIN_WARN_US ≠ 0 →
    elapsed s.now tick (rd s.dev Page.fwd Reg.FWD_DRAIN_WARN_US * 1000) = true →
    rd s.dev Page.fwd (Reg.FWD_DRAIN_CELLS.idx (1 - rd s.dev Page.fwd Reg.FWD_EPOCH_STAT_ACTIVE)) ≠ 0 →
    ∃ t, exec .drainWarning s = .next t ∧ (rdWord t.dev Page.fwd 0x010).getLsbD 17 = true ∧ t.dev.fwd.warned = true ∧
      Kept [.fwd] [] [Page.fwd] s t)

/-- Upkeep of the tables (R153, R157 to R160). The sweep deletes the listed flow entries that are stale and no other. A bad
destination entry is copied from the other die; bad on both it stays bad and is uncorrectable; a bad flow entry is cleared. A
write of a digest's high word arms its segment. A pass of an armed segment that finds no parity error makes it verified when
both dies match the digest, and suspect on the die that does not. -/
def Obligations.TablesUpkept : Prop :=
  (∀ s : State, ∃ t, exec .flowAgeSweep s = .next t ∧
    (∀ i ws, (i, ws) ∈ tblListed s.dev Page.fwd 2 → flowStale s.now s.dev ws = true →
      tget t.dev Page.fwd 2 i = List.replicate 7 0) ∧
    (∀ i, (∀ ws, (i, ws) ∈ tblListed s.dev Page.fwd 2 → flowStale s.now s.dev ws = false) →
      tget t.dev Page.fwd 2 i = tget s.dev Page.fwd 2 i) ∧
    Kept [] [(Page.fwd, 2)] [] s t) ∧
  (∀ (table die i : Nat) (s : State), table < 2 → die < 2 → i < 4096 →
    (∃ t, exec (.parityRepair table die i false) s = .next t ∧ parityBad t.dev table die i = false ∧
      (rdWord t.dev Page.fwd 0x018).getLsbD errCorrected = true ∧ Kept [] [] [Page.fwd] s t) ∧
    (∃ t, exec (.parityRepair table die i true) s = .next t ∧ parityBad t.dev table 0 i = true ∧
      parityBad t.dev table 1 i = true ∧ (rdWord t.dev Page.fwd 0x018).getLsbD errUncorrectable = true ∧
      (rdWord t.dev Page.fwd 0x018).getLsbD 17 = true ∧ Kept [] [] [Page.fwd] s t)) ∧
  (∀ (die i : Nat) (b : Bool) (s : State), die < 2 → i < 1048576 →
    ∃ t, exec (.parityRepair 2 die i b) s = .next t ∧ tget t.dev Page.fwd 2 i = List.replicate 7 0 ∧
      (∀ j, j ≠ i → tget t.dev Page.fwd 2 j = tget s.dev Page.fwd 2 j) ∧
      Kept [] [(Page.fwd, 2)] [Page.fwd] s t) ∧
  (∀ (src : Src) (g : Nat) (high : W32) (s : State), Owns src Page.fwd s → g < 8 →
    ∃ t, exec (.digestWrite src g high) s = .next t ∧ rdWord t.dev Page.fwd (0x144 + 8 * g) = high ∧ segState t.dev g = 1 ∧
      rdBit t.dev Page.fwd (suspectFd g 0) = false ∧ rdBit t.dev Page.fwd (suspectFd g 1) = false ∧
      Kept [.fwd] [] [Page.fwd] s t) ∧
  (∀ (g die : Nat) (s : State), g < 8 → die < 2 → rdBit s.dev Page.fwd Reg.FWD_SCRUB_CTL_ENABLE = true →
    segState s.dev g = 1 → rdBit s.dev Page.fwd (suspectFd g die) = false →
    (segDigest s.dev g = rd64 s.dev Page.fwd (Reg.FWD_DIGEST.idx g 8) →
      (sget (konst (false, false)) s.dev.fwd.passed g = (if die = 0 then (false, true) else (true, false))) →
      ∃ t, exec (.scrubPass g die []) s = .next t ∧ segState t.dev g = 2 ∧ Kept [.fwd] [] [Page.fwd] s t) ∧
    (segDigest s.dev g ≠ rd64 s.dev Page.fwd (Reg.FWD_DIGEST.idx g 8) →
      ∃ t, exec (.scrubPass g die []) s = .next t ∧ rdBit t.dev Page.fwd (suspectFd g die) = true ∧
        (rdWord t.dev Page.fwd 0x010).getLsbD 18 = true ∧ Kept [.fwd] [] [Page.fwd] s t))

/-- `Claims.LaserComesIn`, `Claims.LaserGoesOut` together: each part is stated above with its rules. -/
def Obligations.LasersComeAndGo : Prop := Claims.LaserComesIn ∧ Claims.LaserGoesOut

/-! ### Optical bypass (ch. 8) -/

/-- Hundredths of a ns before its switch time at which the ports of a circuit are fenced (R222). -/
def fenceLead (i : Nat) (d : Dev) : Nat := 100 * lastLead d + ((circLanes d i).map (guardTime d)).foldl max 0

/-- A circuit is handed over (R219 to R222, R225). SETUP of a valid entry, accepted, with a pair that qualifies, starts its
drain DRAIN_LEAD before its switch time; TIMED arms it for its trigger. An armed entry drains when its trigger is DRAIN_LEAD
away. Its ports are fenced, then flushed, then give up the codewords not acknowledged, each at its lead; at the switch time
the entry is switching and its links carry no cells; with light on its paths it is up. -/
def Claims.CircuitHandedOver : Prop :=
  ∀ (i : Nat) (s : State), i < 128 → (circWords s.dev i).length = 8 →
    (∀ src : Src, Owns src Page.byp s → setupRefusal s.dev false i = none → (choosePair i s.dev).1 = none →
      (∃ t, exec (.circSetup src i false) s = .next t ∧ circState t.dev i = csDraining ∧
        (t.dev.circ i).ts = some (fabricNs s.dev s.now + drainLead s.dev) ∧
        rd t.dev Page.byp Reg.BYP_CIRC_CMD_STAT_RESULT = 1 ∧ rd t.dev Page.byp Reg.BYP_CIRC_CMD_STAT_INDEX = i ∧
        CoreKept s t ∧ PartsKept [.byp] s t ∧ EntriesKept [(Page.byp, 0), watchTable] s t ∧
        PagesKept [Page.byp, Page.xbs, Page.tel] s t) ∧
      (circTrigger s.dev i = none →
        ∃ t, exec (.circSetup src i true) s = .next t ∧ circState t.dev i = csArmed ∧
          rd t.dev Page.byp Reg.BYP_CIRC_CMD_STAT_RESULT = 1 ∧ CoreKept s t ∧ PartsKept [.byp] s t ∧
          EntriesKept [(Page.byp, 0), watchTable] s t ∧ PagesKept [Page.byp, Page.xbs, Page.tel] s t)) ∧
    (∀ ts : Nat, circState s.dev i = csArmed → (s.dev.circ i).late = none → circTrigger s.dev i = some ts →
      ts ≤ fabricNs s.dev s.now + drainLead s.dev → matrixFaulted s.dev = false → (choosePair i s.dev).1 = none →
      ∃ t, exec (.circDrainStart i) s = .next t ∧ circState t.dev i = csDraining ∧ (t.dev.circ i).ts = some ts ∧
        Kept [.byp] [(Page.byp, 0), watchTable] [Page.xbs, Page.tel] s t) ∧
    (circNear s.now s.dev i (fenceLead i s.dev) = true → (s.dev.circ i).fenced = false →
      ∃ t, exec (.circuitFence i) s = .next t ∧ (t.dev.circ i).fenced = true ∧
        (∀ l ∈ circLanes s.dev i, (t.dev.port l).fence = true) ∧ Kept [.lnk, .byp] [] [] s t) ∧
    (circNear s.now s.dev i (100 * lastLead s.dev) = true → (s.dev.circ i).fenced = true → (s.dev.circ i).flushed = false →
      ∃ t, exec (.circFlush i) s = .next t ∧ (t.dev.circ i).flushed = true ∧
        (∀ l ∈ circLanes s.dev i, (t.dev.port l).txStream = [] ∧ (t.dev.port l).flushing = true) ∧
        rdBit t.dev Page.voq Reg.VOQ_FLUSH_STAT_ACTIVE_A = true ∧ rdBit t.dev Page.voq Reg.VOQ_FLUSH_STAT_ACTIVE_B = true ∧
        CoreKept s t ∧ SoftKept s t) ∧
    (circNear s.now s.dev i 10000 = true → (s.dev.circ i).flushed = true → (s.dev.circ i).cut = false →
      ∃ t, exec (.circReplayCut i) s = .next t ∧ (t.dev.circ i).cut = true ∧
        (∀ l ∈ circLanes s.dev i, (t.dev.port l).replay = [] ∧ (t.dev.port l).ackNext = (s.dev.port l).txSeq) ∧
        Kept [.lnk, .byp] [watchTable] [Page.byp, Page.tel] s t) ∧
    (circNear s.now s.dev i 0 = true → (s.dev.circ i).cut = true →
      ∃ t, exec (.circSwitch i) s = .next t ∧ circState t.dev i = csSwitching ∧
        (∀ l ∈ circLanes s.dev i, (t.dev.port l).suspended = true) ∧
        Kept [.lnk] [(Page.byp, 0)] [Page.byp] s t) ∧
    (∀ ts : Nat, circState s.dev i = csSwitching → (s.dev.circ i).tearAfterUp = false → (s.dev.circ i).ts = some ts →
      ∃ t, exec (.circuitUp i) s = .next t ∧ circState t.dev i = csUp ∧ word64 (circWords t.dev i) 6 = ts % 2 ^ 64 ∧
        (rdWord t.dev Page.byp 0x010).getLsbD 16 = true ∧ Counted Page.byp Reg.BYP_CNT 0 1 s t ∧
        Kept [.byp] [(Page.byp, 0), watchTable] [Page.byp, Page.tel] s t)

/-- A circuit ends (R225 to R228). CONFIRM makes an up circuit confirmed, and is refused with
REASON 0xB in any other state. TEARDOWN, the confirm timeout and a loss of power on
a driven path start its teardown, each with its own reason and counter; with light back no port of it is up, and at the end
the entry is idle with interrupt 17. A late trigger fails an armed entry. A fault of the matrix is shown and reported. -/
def Claims.CircuitEnds : Prop :=
  ∀ (i : Nat) (s : State), i < 128 →
    (∀ src : Src, Owns src Page.byp s → cValid (circWords s.dev i) = true → cPlan (circWords s.dev i) = false →
      (circState s.dev i = csUp →
        ∃ t, exec (.confirm src i) s = .next t ∧ circState t.dev i = csConfirmed ∧
          rd t.dev Page.byp Reg.BYP_CIRC_CMD_STAT_RESULT = 1 ∧ CoreKept s t ∧ PartsKept [] s t ∧
          EntriesKept [(Page.byp, 0)] s t ∧ PagesKept [Page.byp] s t) ∧
      (circState s.dev i ≠ csUp →
        ∃ t, exec (.confirm src i) s = .next t ∧ circState t.dev i = circState s.dev i ∧
          rd t.dev Page.byp Reg.BYP_CIRC_CMD_STAT_REASON = 0xB ∧ CoreKept s t ∧ PartsKept [] s t) ∧
      (circState s.dev i = csUp ∨ circState s.dev i = csConfirmed →
        ∃ t, exec (.circTeardown src i false) s = .next t ∧ circState t.dev i = csTearing ∧
          cArmedDown (circWords t.dev i) = false ∧ Counted Page.byp Reg.BYP_CNT 1 1 s t ∧ CoreKept s t ∧
          PartsKept [.byp] s t ∧ EntriesKept [(Page.byp, 0), watchTable] s t ∧ PagesKept [Page.byp, Page.tel] s t)) ∧
    (circState s.dev i = csUp → cConfirm (circWords s.dev i) ≠ 0 →
      elapsed s.now (s.dev.circ i).upTick (cConfirm (circWords s.dev i) * 1000) = true →
      ∃ t, exec (.confirmTimeout i) s = .next t ∧ circState t.dev i = csTearing ∧ wbits (circWords t.dev i) 5 27 24 = 9 ∧
        (rdWord t.dev Page.byp 0x010).getLsbD 18 = true ∧ Counted Page.byp Reg.BYP_CNT 4 1 s t ∧
        Kept [.byp] [(Page.byp, 0), watchTable] [Page.byp, Page.tel] s t) ∧
    (circDriven s.dev i = true →
      ∃ t, exec (.pathPowerLoss i) s = .next t ∧ circState t.dev i = csTearing ∧ wbits (circWords t.dev i) 5 27 24 = 8 ∧
        (rdWord t.dev Page.byp 0x010).getLsbD 18 = true ∧ Counted Page.byp Reg.BYP_CNT 7 1 s t ∧
        Kept [.byp] [(Page.byp, 0), watchTable] [Page.byp, Page.tel] s t) ∧
    (circState s.dev i = csTearing → (s.dev.circ i).lightBack = false →
      ∃ t, exec (.circLightReturn i) s = .next t ∧ (t.dev.circ i).lightBack = true ∧
        (∀ l ∈ circLanes s.dev i, portUp t.dev l = false) ∧ CoreKept s t ∧ SoftKept s t) ∧
    (circState s.dev i = csTearing → (s.dev.circ i).lightBack = true →
      ∃ t, exec (.circuitTeardownDone i) s = .next t ∧ circState t.dev i = csIdle ∧ t.dev.circ i = Circ.idle ∧
        (rdWord t.dev Page.byp 0x010).getLsbD 17 = true ∧ Kept [.byp] [(Page.byp, 0)] [Page.byp] s t) ∧
    (circState s.dev i = csArmed → (s.dev.circ i).late.isSome = true →
      ∃ t, exec (.circTriggerLate i) s = .next t ∧ circState t.dev i = csFailed ∧ wbits (circWords t.dev i) 5 27 24 = 6 ∧
        (rdWord t.dev Page.byp 0x010).getLsbD 18 = true ∧ Counted Page.byp Reg.BYP_CNT 3 1 s t ∧
        Kept [.byp] [(Page.byp, 0), watchTable] [Page.byp, Page.tel] s t) ∧
    (∃ t, exec .matrixFault s = .next t ∧ matrixFaulted t.dev = true ∧
      rdBit t.dev Page.byp Reg.BYP_MATRIX_HEALTH_READY = false ∧ (rdWord t.dev Page.byp 0x010).getLsbD 20 = true ∧
      (rdWord t.dev Page.byp 0x018).getLsbD errUncorrectable = true ∧ CoreKept s t ∧ SoftKept s t)

/-- Candidates and plans (R229 to R231, R269). A window with one listed flow, which counts and has grown by at least the
minimum, leaves that pair as the one candidate, with its growth and one flow; the window is counted and interrupt 19 set. At
the boundary that is the UP_PHASE of the group's one plan entry, with a pair that qualifies, the entry starts to drain for a
switch DRAIN_LEAD after the boundary, once in the round. -/
def Obligations.CandidatesAndPlans : Prop :=
  (∀ (i : Nat) (ws : List W32) (s : State), tblListed s.dev Page.fwd 2 = [(i, ws)] → pageState s.dev Page.byp = stRunning →
    countedFlow s.dev ws = true → flowGrowth s.dev i ws ≠ 0 →
    rd s.dev Page.byp Reg.BYP_CAND_CFG_MIN * 2 ^ 20 ≤ flowGrowth s.dev i ws →
    ∃ t, exec .candWindow s = .next t ∧
      tget t.dev Page.byp 1 0 = candWords { pair := wbits ws 2 29 18 * 4096 + wbits ws 1 29 18,
                                            sum := flowGrowth s.dev i ws, flows := 1 } ∧
      (∀ k, 0 < k → k < 64 → tget t.dev Page.byp 1 k = List.replicate 4 0) ∧
      rd t.dev Page.byp Reg.BYP_CAND_STAT_ENTRIES = 1 ∧ (rdWord t.dev Page.byp 0x010).getLsbD 19 = true ∧
      t.dev.byp.snapshots = [(i, snapOf ws)] ∧ Kept [.byp] [(Page.byp, 1)] [Page.byp] s t) ∧
  (∀ (g k i down : Nat) (ws : List W32) (r : Round) (s : State), g < 65536 → k < 4096 → i < 128 →
    tblListed s.dev Page.col 3 = [(i, ws)] → pageState s.dev Page.col = stRunning → roundOf s.dev g = some r → k ≠ 0 →
    r.planDone.contains k = false → phaseDue s.now s.dev g k r = true → planOf s.dev g i = some (k, down) → down ≠ k →
    (circWords s.dev i).length = 8 → setupRefusal s.dev true i = none → (choosePair i s.dev).1 = none →
    ∃ t, exec (.planPhaseBoundary g k) s = .next t ∧ circState t.dev i = csDraining ∧
      (t.dev.circ i).ts = some (r.t0 + (k - 1) * gPhaseT (grp s.dev g) * 10 + drainLead s.dev) ∧
      roundOf t.dev g = some { r with planDone := r.planDone ++ [k] } ∧
      Kept [.byp, .col] [(Page.byp, 0), watchTable] [Page.byp, Page.xbs, Page.tel] s t)

/-- `Claims.CircuitHandedOver`, `Claims.CircuitEnds` together: each part is stated above with its rules. -/
def Obligations.CircuitsRun : Prop := Claims.CircuitHandedOver ∧ Claims.CircuitEnds

/-! ### The collective engine (ch. 9) -/

/-- The pages that show a core block's contexts. -/
def coreBlockPages : List Page := (List.range 32).map Page.coreBlock

/-- The head of the engine's inbox is a contribution cell or tail with the opcode, of a member of a group in service, with
nothing parked. -/
def Arrival (op : Nat) (b : Box) (bs : List Box) (s : State) : Prop :=
  s.dev.col.inbox = b :: bs ∧ colWorks s.dev = true ∧ cOp b.cell = op ∧ s.dev.sw.parkA = [] ∧ s.dev.sw.parkB = [] ∧
    linePoisoned s.dev (64 * upSlot b.cell) = false ∧ upStale s.dev (memberGet s (upSlot b.cell)) b.cell = false

/-- Its phase slot and its member in the group's range. -/
def arrivalKey (b : Box) (s : State) : Nat :=
  ctxKey (upGroup (memberGet s (upSlot b.cell)) b.cell) (upPhase b.cell)
def arrivalMember (b : Box) (s : State) : Nat :=
  upSlot b.cell - gBase (grp s.dev (upGroup (memberGet s (upSlot b.cell)) b.cell))

/-- It falls in the open window of a resident context (R245). -/
def InWindow (b : Box) (c : Context) (s : State) : Prop :=
  s.dev.ctx (arrivalKey b s) = some c ∧ c.isResident = true ∧
    violates c (memberGet s (upSlot b.cell)) (keyPhase (arrivalKey b s)) (arrivalMember b s) b.cell = false

/-- CUP and CTAIL_UP (R244, R246). A contribution cell that falls in its member's window is retained, in arrival order, and
waits for its accumulate run where the operation accumulates the member. A tail that agrees with the shape is retained while
cells of its contribution are missing. Once all its cells are held and their CRC agrees, the contribution closes: the
member's stamp of the phase becomes the context's use number, its CLOSED goes up by one, and the last closing makes the
context COMPLETE with a finish run for every position. Other contexts keep their contributions. -/
def Obligations.CollectiveArrivals : Prop :=
  (∀ (b : Box) (bs : List Box) (c : Context) (s : State), Arrival ocCUP b bs s → InWindow b c s →
    (c.contrib (arrivalMember b s)).tail = none →
    ∃ t c', exec .cup s = .next t ∧ t.dev.col.inbox = bs ∧ t.dev.ctx (arrivalKey b s) = some c' ∧
      (c'.contrib (arrivalMember b s)).cells = (c.contrib (arrivalMember b s)).cells ++ [b.cell] ∧
      (∀ m, m ≠ arrivalMember b s → c'.contrib m = c.contrib m) ∧
      c'.runs.map Run.cell = c.runs.map Run.cell ++ (if accumulates c.entry (arrivalMember b s) then [b.cell] else []) ∧
      (∀ k, k ≠ arrivalKey b s → (t.dev.ctx k).map Context.contribs = (s.dev.ctx k).map Context.contribs) ∧
      Kept [.sw, .lnk, .col, .pmc, .tel] [watchTable] [Page.tel] s t) ∧
  (∀ (b : Box) (bs : List Box) (c : Context) (s : State), Arrival ocCTAIL_UP b bs s → InWindow b c s →
    tailAgrees c b.cell = true → (c.contrib (arrivalMember b s)).cells.length < tCells b.cell →
    ∃ t c', exec .ctailUp s = .next t ∧ t.dev.col.inbox = bs ∧ t.dev.ctx (arrivalKey b s) = some c' ∧
      (c'.contrib (arrivalMember b s)).tail = some b.cell ∧
      (c'.contrib (arrivalMember b s)).cells = (c.contrib (arrivalMember b s)).cells ∧
      c'.chunk = some (tChunk b.cell) ∧ c'.last = tLast b.cell ∧ c'.closed = c.closed ∧ c'.state = .openS ∧
      (∀ k, k ≠ arrivalKey b s → (t.dev.ctx k).map Context.contribs = (s.dev.ctx k).map Context.contribs) ∧
      Kept [.sw, .lnk, .col, .pmc, .tel] [watchTable] [Page.tel] s t) ∧
  (∀ (b : Box) (bs : List Box) (c : Context) (s : State), Arrival ocCTAIL_UP b bs s → InWindow b c s →
    tailAgrees c b.cell = true → tCells b.cell ≤ (c.contrib (arrivalMember b s)).cells.length →
    contribCrc (c.contrib (arrivalMember b s)).cells = tCrc b.cell → c.useNo < 256 →
    upSlot b.cell = gBase c.entry + arrivalMember b s →
    let ent := memberGet s (upSlot b.cell)
    ∃ t c', exec .ctailUp s = .next t ∧ t.dev.col.inbox = bs ∧ t.dev.ctx (arrivalKey b s) = some c' ∧
      (c'.contrib (arrivalMember b s)).closed = true ∧ c'.closed = c.closed + 1 ∧
      (c.closed + 1 = c.expected → c'.state = .complete ∧ c'.finishing = List.range c'.cells) ∧
      (c.closed + 1 ≠ c.expected → c'.state = .openS) ∧
      stampOf (memberGet t (upSlot b.cell)) (keyPhase (arrivalKey b s)) = c.useNo ∧
      wbits (memberGet t (upSlot b.cell)) 10 31 0 = (wbits ent 10 31 0 + 1) % 2 ^ 32 ∧
      (∀ a, a < 64 * upSlot b.cell ∨ 64 * upSlot b.cell + 64 ≤ a → memByte t.mem a = memByte s.mem a) ∧
      t.pending = s.pending ∧ t.now = s.now ∧ SoftKept s t ∧ PartsKept [.sw, .lnk, .col, .pmc, .tel] s t ∧
      EntriesKept [watchTable, (Page.col, 2)] s t ∧ PagesKept [Page.tel] s t)

/-- MISSING_CELLS_TIMEOUT and CHUNK_TIMEOUT (R258, R259). A contribution whose tail is held with cells missing, all others
having closed, fails a quarter of CHUNK_TIMEOUT later: what is retained of it goes and so does the accumulator, its failures
and the member's CRC_FAILS go up by one. A context open for CHUNK_TIMEOUT fails: it is gone, COL has counted the failed
chunk and its interrupt 19 is set. -/
def Claims.ContributionsTimeOut : Prop :=
  (∀ (g p m : Nat) (c : Context) (x : Cell) (s : State), g < 65536 → p < 16 → m < 1048576 →
    let k := ctxKey g p
    s.dev.ctx k = some c → c.isResident = true → (c.contrib m).tail = some x → c.state = .openS →
    (c.contrib m).closed = false → (c.contrib m).cells.length < tCells x → c.expected ≤ c.closed + 1 →
    chunkTimeoutNs s.dev ≠ 0 → elapsed s.now c.closeTick (chunkTimeoutNs s.dev / 4) = true →
    (c.contrib m).fails + 1 ≤ rd s.dev Page.col Reg.COL_COL_CFG_RESEND_MAX →
    let slot := gBase c.entry + m
    ∃ t c', exec (.missingCellsTimeout g p m) s = .next t ∧ t.dev.ctx k = some c' ∧
      c'.contrib m = { c.contrib m with cells := [], tail := none, fails := (c.contrib m).fails + 1 } ∧ c'.frames = [] ∧
      (∀ m', m' ≠ m → c'.contrib m' = c.contrib m') ∧
      wbits (memberGet t slot) 11 31 16 = min (wbits (memberGet s slot) 11 31 16 + 1) 0xFFFF ∧
      (∀ a, a < 64 * slot ∨ 64 * slot + 64 ≤ a → memByte t.mem a = memByte s.mem a) ∧
      Counted Page.col Reg.COL_CNT 5 1 s t ∧ Counted Page.col Reg.COL_CNT 6 1 s t ∧
      t.pending = s.pending ∧ t.now = s.now ∧ SoftKept s t ∧ PartsKept [.lnk, .sw, .fwd, .col, .tel] s t ∧
      EntriesKept [watchTable, (Page.fwd, 2)] s t ∧ PagesKept [Page.col, Page.fwd, Page.voq, Page.tel] s t) ∧
  (∀ (g p : Nat) (c : Context) (s : State), g < 65536 → p < 16 → s.dev.ctx (ctxKey g p) = some c → c.state = .openS →
    chunkTimeoutNs s.dev ≠ 0 → elapsed s.now c.openTick (chunkTimeoutNs s.dev) = true →
    ∃ t, exec (.chunkTimeout g p) s = .next t ∧ t.dev.ctx (ctxKey g p) = none ∧ Counted Page.col Reg.COL_CNT 7 1 s t ∧
      (rdWord t.dev Page.col 0x010).getLsbD 19 = true ∧
      Kept [.lnk, .sw, .fwd, .col, .tel] [watchTable, (Page.fwd, 2)]
        ([Page.col, Page.fwd, Page.voq, Page.tel] ++ coreBlockPages) s t)

/-- RESULTS_READY and RESULT_STREAM (R246, R249, R251). With every finish run done the context streams. Each stream event
queues the next result cell once on its die's multicast list, for the members that receive it; with the results sent and no
member left over, the tail follows and the context is freed and counted. A tail owed outside a stream goes first. -/
def Obligations.ResultsStream : Prop :=
  (∀ (g p : Nat) (c : Context) (s : State), g < 65536 → p < 16 → s.dev.ctx (ctxKey g p) = some c →
    c.state = .complete → c.finishing = [] → c.inRebuild = false →
    ∃ t, exec (.resultsReady g p) s = .next t ∧ t.dev.ctx (ctxKey g p) = some { c with state := .streaming } ∧
      (∀ k, k ≠ ctxKey g p → t.dev.ctx k = s.dev.ctx k) ∧ Kept [.col] [] [] s t) ∧
  (∀ (g p k : Nat) (c : Context) (a : Acct) (s : State), g < 65536 → p < 16 → s.dev.col.owed = [] →
    streamingOf s.dev g p = some (k, c) → c.isResident = true → roomIn s.dev (svcCol c.die) 6 = some a →
    let to' := copiesFor s (keyGroup k) c (receives c.entry c)
    to' ≠ [] →
    (∀ x, c.streamPos < c.cells → sget (konst none) c.results c.streamPos = some x →
      ∃ t, exec (.resultStream g p) s = .next t ∧
        t.dev.ctx k = some { c with streamPos := c.streamPos + 1, touchTick := s.now.toNat, crc := crcMore c.crc (crcBytes x) } ∧
        (t.dev.mcasts (mcastKey (svcCol c.die) 6)).map (fun m => m.box.cell) =
          (s.dev.mcasts (mcastKey (svcCol c.die) 6)).map (fun m => m.box.cell) ++ [stamp s.dev x] ∧
        sget (konst []) t.dev.col.replicas s.dev.sw.numNext = to' ∧
        Kept [.sw, .col] [watchTable] [Page.fwd, Page.voq, Page.tel] s t) ∧
    (c.cells ≤ c.streamPos → c.tailPos = 0 → copiesFor s (keyGroup k) c (fun m => !receives c.entry c m) = [] →
      s.dev.ctx k = some c →
      ∃ t, exec (.resultStream g p) s = .next t ∧ t.dev.ctx k = none ∧ Counted Page.col Reg.COL_CNT 1 1 s t ∧
        Kept [.lnk, .sw, .fwd, .col, .tel] [watchTable, (Page.fwd, 2)]
          ([Page.col, Page.fwd, Page.tel] ++ coreBlockPages) s t)) ∧
  (∀ (g p die : Nat) (x : Cell) (copies : List (Nat × Nat)) (rest : List (Nat × Nat × Cell × List (Nat × Nat))) (a : Acct)
      (s : State), g < 65536 → p < 16 → s.dev.col.owed = (ctxKey g p, die, x, copies) :: rest → copies ≠ [] →
    roomIn s.dev (svcCol die) 6 = some a →
    ∃ t, exec (.resultStream g p) s = .next t ∧ t.dev.col.owed = rest ∧
      (t.dev.mcasts (mcastKey (svcCol die) 6)).map (fun m => m.box.cell) =
        (s.dev.mcasts (mcastKey (svcCol die) 6)).map (fun m => m.box.cell) ++ [stamp s.dev x] ∧
      Kept [.sw, .col] [watchTable] [Page.fwd, Page.voq, Page.tel] s t)

/-- PAGE_OUT_DONE and PAGE_IN_DONE (R256): the one context of the phase slot that is leaving is out, and COL has counted it;
the one that is coming in is resident, and COL has counted it. -/
def Claims.ContextsPage : Prop :=
  ∀ (g p k : Nat) (c : Context) (s : State), g < 65536 → p < 16 → slotKeys s.dev g p = [k] → s.dev.ctx k = some c →
    (c.paging = .goingOut → c.pageIn = false → needsIn s.dev k c = false →
      ∃ t, exec (.pageOutDone g p) s = .next t ∧ t.dev.ctx k = some { c with paging := .out } ∧
        Counted Page.col Reg.COL_CNT 2 1 s t ∧
        Kept [.col] [watchTable] ([Page.col, Page.tel] ++ coreBlockPages) s t) ∧
    (c.paging = .goingIn → s.dev.sw.parkA = [] → s.dev.sw.parkB = [] →
      ∃ t, exec (.pageInDone g p) s = .next t ∧ t.dev.ctx k = some { c with paging := .resident, pageIn := false } ∧
        (∀ k', k' ≠ k → t.dev.ctx k' = s.dev.ctx k') ∧ Counted Page.col Reg.COL_CNT 3 1 s t ∧
        Kept [.col] [watchTable] [Page.col, Page.tel] s t)

/-- The group has taken a new range and generation, reported done (R262). -/
def Resized (g base count : Nat) (s t : State) : Prop :=
  gBase (grp t.dev g) = base ∧ gCount (grp t.dev g) = count ∧ gGen (grp t.dev g) = (gGen (grp s.dev g) + 1) % 256 ∧
    gDraining (grp t.dev g) = true ∧ gResizing (grp t.dev g) = false ∧ rd t.dev Page.col Reg.COL_RESIZE_STAT_RESULT = 2 ∧
    rd t.dev Page.col Reg.COL_RESIZE_STAT_GROUP = g ∧ (rdWord t.dev Page.col 0x010).getLsbD 17 = true

/-- Groups change (R260 to R263). A RESIZE that fails a check sets RESULT 3, its reason and error class 17, and changes no
group. An accepted one with ABORT 0 marks the group RESIZING; with ABORT 1 every context of it that is not streaming goes and
the group takes its range at once. RESIZE_DONE gives a resizing group with no context left its range, generation + 1 and
DRAINING. GEN_DRAIN_DONE ends the drain once nothing old is left and GEN_QUIET has passed. STRAG_CLEAR zeroes the group's
straggler entry. -/
def Obligations.GroupsChange : Prop :=
  (∀ (src : Src) (abort : Bool) (g : Nat) (s : State), Owns src Page.col s → g < 65536 →
    let base := rd s.dev Page.col Reg.COL_RESIZE_BASE_BASE
    let count := rd s.dev Page.col Reg.COL_RESIZE_COUNT_COUNT
    (∀ reason, resizeRefusal s g base count = some reason →
      ∃ t, exec (.resize src abort g) s = .next t ∧ rd t.dev Page.col Reg.COL_RESIZE_STAT_RESULT = 3 ∧
        rd t.dev Page.col Reg.COL_RESIZE_STAT_REASON = reason ∧ (rdWord t.dev Page.col 0x018).getLsbD 17 = true ∧
        Kept [] [] [Page.col] s t) ∧
    (resizeRefusal s g base count = none → abort = false →
      ∃ t, exec (.resize src abort g) s = .next t ∧ gResizing (grp t.dev g) = true ∧
        (t.dev.groupRec g).resize = some (base, count) ∧ rd t.dev Page.col Reg.COL_RESIZE_STAT_RESULT = 1 ∧
        (∀ g', g' < 65536 → g' ≠ g → grp t.dev g' = grp s.dev g') ∧ Kept [.col] [(Page.col, 0)] [Page.col] s t) ∧
    (resizeRefusal s g base count = none → abort = true → (grp s.dev g).length = 8 →
      ∃ t, exec (.resize src abort g) s = .next t ∧ Resized g base count s t ∧
        (∀ p, p < 16 → t.dev.ctx (ctxKey g p) = none) ∧ (∀ g', g' < 65536 → g' ≠ g → grp t.dev g' = grp s.dev g') ∧
        Kept [.lnk, .sw, .fwd, .col, .tel] [watchTable, (Page.fwd, 2), (Page.col, 0)]
          ([Page.col, Page.fwd, Page.tel] ++ coreBlockPages) s t)) ∧
  (∀ (g base count : Nat) (s : State), g < 65536 → (s.dev.groupRec g).resize = some (base, count) →
    gResizing (grp s.dev g) = true → groupBusy s.dev g = false → (grp s.dev g).length = 8 → base < 2 ^ 22 → count < 2 ^ 21 →
    ∃ t, exec (.resizeDone g) s = .next t ∧ Resized g base count s t ∧
      (∀ g', g' < 65536 → g' ≠ g → grp t.dev g' = grp s.dev g') ∧ Kept [.col] [(Page.col, 0)] [Page.col] s t) ∧
  (∀ (g : Nat) (s : State), g < 65536 → gDraining (grp s.dev g) = true →
    (ctxList s.dev).any (fun e => keyGroup e.1 == g && decide (2 ^ 20 ≤ e.1)) = false →
    elapsed s.now (s.dev.groupRec g).staleTick (rd s.dev Page.col Reg.COL_COL_CFG_GEN_QUIET * 10000) = true →
    ∃ t, exec (.genDrainDone g) s = .next t ∧ gDraining (grp t.dev g) = false ∧
      gGen (grp t.dev g) = gGen (grp s.dev g) ∧ (rdWord t.dev Page.col 0x010).getLsbD 18 = true ∧
      (∀ g', g' < 65536 → g' ≠ g → grp t.dev g' = grp s.dev g') ∧ Kept [] [(Page.col, 0)] [Page.col] s t) ∧
  (∀ (src : Src) (g : Nat) (s : State), Owns src Page.col s → g < 65536 →
    ∃ t, exec (.stragClear src g) s = .next t ∧ tget t.dev Page.col 2 g = [0, 0, 0, 0] ∧
      (∀ g', g' < 65536 → g' ≠ g → tget t.dev Page.col 2 g' = tget s.dev Page.col 2 g') ∧
      Kept [] [(Page.col, 2)] [] s t)

/-- `Claims.ContributionsTimeOut`, `Claims.ContextsPage` together: each part is stated above with its rules. -/
def Obligations.ContextsWait : Prop := Claims.ContributionsTimeOut ∧ Claims.ContextsPage

/-! ### The Ladle array (ch. 11) -/

/-- What a run on a core leaves alone. -/
def RunKept (core : Nat) (c : Context) (s t : State) : Prop :=
  Kept [.col, .pmc, .tel] [watchTable, (Page.coreBlock (core / 25), 0)]
    [Page.region c.region, Page.coreBlock (core / 25), Page.tel] s t

/-- The run's flags are set in the region's ARITH_STAT (R299). -/
def FlagsShown (c : Context) (st : RunSt) (t : State) : Prop :=
  ∀ ev ∈ st.events, ∀ e ∈ ev, e < 32 → (rdWord t.dev (Page.region c.region) 0x300).getLsbD e = true

/-- ACCUMULATE_RUN, FINISH_RUN and REBUILD_RUN (R312, R326, R327, R330). A working core takes its oldest finish run before a
rebuild run, and a rebuild run before its oldest accumulate run. An accumulate or rebuild run applies the recipe's accumulate
section to its cell and the position's frame, which it replaces, and is no longer waiting; a finish run applies the finish
section and gives the position its result cell. The arithmetic flags it raises are set. -/
def Obligations.LadleRuns : Prop :=
  (∀ (core k : Nat) (r : Run) (c : Context) (s : State), core < 800 → coreWorks s.dev core = true →
    finishReady s.dev core = [] → rebuildReady s.dev core = [] → oldestRun (accReady s.dev core) = some (k, r) →
    s.dev.ctx k = some c → c.region < 8 →
    let st := runAccumulate s.dev (runEnv c r.member r.cell) (frameOf c r.pos)
    ∃ t c', exec (.accumulateRun core) s = .next t ∧ t.dev.ctx k = some c' ∧ frameOf c' r.pos = st.frame ∧
      (∀ pos, pos ≠ r.pos → frameOf c' pos = frameOf c pos) ∧ c'.runs = c.runs.erase r ∧ c'.contribs = c.contribs ∧
      (∀ k', k' ≠ k → t.dev.ctx k' = s.dev.ctx k') ∧ FlagsShown c st t ∧ RunKept core c s t) ∧
  (∀ (core tick k pos : Nat) (c : Context) (s : State), core < 800 → coreWorks s.dev core = true →
    oldestFinish (finishReady s.dev core) = some (tick, k, pos) → s.dev.ctx k = some c → c.region < 8 →
    let env := runEnv c 0 { hdr := 0, payload := 0 }
    let st := runFinish s.dev env (frameOf c pos)
    let out := outCell env (st.out.getD [])
    ∃ t c', exec (.finishRun core) s = .next t ∧ t.dev.ctx k = some c' ∧
      sget (konst none) c'.results pos = some (cdnCell pos out.1 out.2) ∧
      (∀ x, x ≠ pos → sget (konst none) c'.results x = sget (konst none) c.results x) ∧
      c'.finishing = c.finishing.filter (fun x => x != pos) ∧ c'.frames = c.frames ∧ c'.runs = c.runs ∧
      (∀ k', k' ≠ k → t.dev.ctx k' = s.dev.ctx k') ∧ FlagsShown c st t ∧ RunKept core c s t) ∧
  (∀ (core k : Nat) (r : Run) (rest : List (Nat × Run)) (c : Context) (s : State), core < 800 →
    coreWorks s.dev core = true → finishReady s.dev core = [] → rebuildReady s.dev core = (k, r) :: rest →
    s.dev.ctx k = some c → c.region < 8 →
    let st := runAccumulate s.dev (runEnv c r.member r.cell) (frameOf c r.pos)
    ∃ t c', exec (.rebuildRun core) s = .next t ∧ t.dev.ctx k = some c' ∧ frameOf c' r.pos = st.frame ∧
      (∀ pos, pos ≠ r.pos → frameOf c' pos = frameOf c pos) ∧ c'.runs = c.runs.erase r ∧ c'.contribs = c.contribs ∧
      (∀ k', k' ≠ k → t.dev.ctx k' = s.dev.ctx k') ∧ FlagsShown c st t ∧ RunKept core c s t)

/-- A LOAD or COPY of the slot, as the operand says. -/
def recipeInstr (load : Bool) (src : Src) (slot : Nat) : Instr := if load then .load src slot else .copy src slot

/-- LOAD and COPY (R317, R323, R337). With no command pending, one that fails a check is refused with RESULT 3, the check,
error class 16 and interrupt 17; one that passes is pending with RESULT 1. RECIPE_CMD_DONE ends it with RESULT 2 and interrupt
16: a LOAD exchanges the slot's two versions and the former active one retires while anything uses it; a COPY makes the 80
entries of the staging version those of the active one. RETIRING_FREED makes a version nothing uses writable again. -/
def Obligations.RecipesLoad : Prop :=
  (∀ (load : Bool) (src : Src) (slot : Nat) (s : State), Owns src (Page.region 0) s → slot < 256 → s.dev.ldl.cmd = none →
    let failing := if slot < 32 then some 0xE else if isRetiring s.dev slot then some 0xF
      else if load then (checkRecipe (recipeOf s.dev (storeOf s.dev slot 0) slot)).map Prod.fst else none
    (∀ check, failing = some check →
      ∃ t, exec (recipeInstr load src slot) s = .next t ∧ rd t.dev (Page.region 0) Reg.LDL_RECIPE_STAT_RESULT = 3 ∧
        rd t.dev (Page.region 0) Reg.LDL_RECIPE_STAT_CHECK = check % 16 ∧
        rd t.dev (Page.region 0) Reg.LDL_RECIPE_STAT_SLOT = slot ∧
        (rdWord t.dev (Page.region 0) 0x018).getLsbD 16 = true ∧ (rdWord t.dev (Page.region 0) 0x010).getLsbD 17 = true ∧
        Kept [] [] [Page.region 0] s t) ∧
    (failing = none →
      ∃ t, exec (recipeInstr load src slot) s = .next t ∧ rd t.dev (Page.region 0) Reg.LDL_RECIPE_STAT_RESULT = 1 ∧
        rd t.dev (Page.region 0) Reg.LDL_RECIPE_STAT_SLOT = slot ∧ t.dev.ldl = { s.dev.ldl with cmd := some (load, slot) } ∧
        Kept [.ldl] [] [Page.region 0] s t)) ∧
  (∀ (slot : Nat) (s : State), slot < 256 → s.dev.ldl.cmd = some (true, slot) →
    ∃ t, exec .recipeCmdDone s = .next t ∧ activeStore t.dev slot = 1 - activeStore s.dev slot ∧
      (∀ x, x ≠ slot → activeStore t.dev x = activeStore s.dev x) ∧
      isRetiring t.dev slot = decide (0 < versionUse s.dev (activeStore s.dev slot) slot) ∧ t.dev.ldl.cmd = none ∧
      rd t.dev (Page.region 0) Reg.LDL_RECIPE_STAT_RESULT = 2 ∧ (rdWord t.dev (Page.region 0) 0x010).getLsbD 16 = true ∧
      Kept [.ldl, .mgt] [] [Page.region 0] s t) ∧
  (∀ (slot : Nat) (s : State), slot < 256 → s.dev.ldl.cmd = some (false, slot) → activeStore s.dev slot < 2 →
    ∃ t, exec .recipeCmdDone s = .next t ∧
      (∀ k, k < 80 → recipeWords t.dev (1 - activeStore s.dev slot) slot k = recipeWords s.dev (activeStore s.dev slot) slot k) ∧
      (∀ x, x ≠ slot → x < 256 → ∀ v k, v < 2 → k < 128 → recipeWords t.dev v x k = recipeWords s.dev v x k) ∧
      t.dev.ldl = { s.dev.ldl with cmd := none } ∧ rd t.dev (Page.region 0) Reg.LDL_RECIPE_STAT_RESULT = 2 ∧
      (rdWord t.dev (Page.region 0) 0x010).getLsbD 16 = true ∧
      Kept [.ldl] [(Page.region 0, 0)] [Page.region 0] s t) ∧
  (∀ (slot : Nat) (s : State), slot < 256 → versionUse s.dev (storeOf s.dev slot 0) slot = 0 →
    ∃ t, exec (.retiringFreed slot) s = .next t ∧ isRetiring t.dev slot = false ∧
      (∀ x, x ≠ slot → isRetiring t.dev x = isRetiring s.dev x) ∧ Kept [.ldl] [] [] s t)

/-- Cores fail and spares take over (R329 to R333). The first failure of a core of a block with a usable spare is counted, sets
the block's error class 16 and waits for the spare; a second one, or one with no spare, fences the block, here with no
context in the device. A corrected scratch error is counted. SPARE_TAKEOVER maps the failed core to the spare and no context
of the block waits for it any longer. REBUILD_DONE ends the recovery with interrupt 16. SPARE_SELFTEST shows whether the
unused spare passed, with interrupt 18 when it did not. -/
def Obligations.CoresFail : Prop :=
  (∀ (core : Nat) (s : State), core < 800 →
    let b := core / 25
    let p := Page.coreBlock b
    (blockFenced s.dev b = false → (s.dev.blk b).failed = none → rdBit s.dev p Reg.CB_STAT_SPARE_OK = true →
      ∃ t, exec (.coreFail core) s = .next t ∧ (t.dev.blk b).failed = some (core % 25) ∧
        (t.dev.blk b).failTick = s.now.toNat + 1 ∧ (t.dev.blk b).taken = (s.dev.blk b).taken ∧
        (t.dev.blk b).map = (s.dev.blk b).map ∧ (∀ x, x ≠ b → t.dev.blk x = s.dev.blk x) ∧
        (rdWord t.dev p 0x018).getLsbD 16 = true ∧ Counted p Reg.CB_CNT 17 1 s t ∧
        Counted Page.col Reg.COL_CNT 10 1 s t ∧ Kept [.ldl, .col] [watchTable] [p, Page.col, Page.tel] s t) ∧
    (blockFenced s.dev b = false → (s.dev.blk b).failed ≠ none ∨ rdBit s.dev p Reg.CB_STAT_SPARE_OK = false →
      s.dev.col.contexts = [] →
      ∃ t, exec (.coreFail core) s = .next t ∧ blockFenced t.dev b = true ∧ (rdWord t.dev p 0x018).getLsbD 17 = true ∧
        (rdWord t.dev p 0x018).getLsbD errUncorrectable = true ∧ (rdWord t.dev p 0x010).getLsbD 17 = true ∧
        Counted p Reg.CB_CNT 17 1 s t ∧
        Kept [.ldl, .mgt, .rst] [watchTable, (Page.pkg, 0)] [p, Page.region (b / 4), Page.pkg, Page.mgt, Page.tel] s t) ∧
    (∃ t, exec (.scratchCorrected core) s = .next t ∧ Counted p Reg.CB_CNT 16 1 s t ∧
      (rdWord t.dev p 0x018).getLsbD errCorrected = true ∧ Kept [] [watchTable] [p, Page.tel] s t)) ∧
  (∀ (b j : Nat) (s : State), b < 32 → (s.dev.blk b).failed = some j → j < 25 → (s.dev.blk b).failTick ≠ 0 →
    let p := Page.coreBlock b
    ((s.dev.blk b).taken = false → blockFenced s.dev b = false →
      ∃ t, exec (.spareTakeover b) s = .next t ∧ (t.dev.blk b).taken = true ∧
        (t.dev.blk b).map = (s.dev.blk b).map.set j (rd s.dev p Reg.CB_STAT_SPARE_PHYS) ∧
        rdBit t.dev p Reg.CB_STAT_SPARE_USED = true ∧ rdBit t.dev p Reg.CB_STAT_SPARE_OK = false ∧
        rd t.dev p Reg.CB_STAT_SPARE_FOR = j ∧
        (∀ k c, s.dev.ctx k = some c → c.block = b → c.bound = true → ∃ c', t.dev.ctx k = some c' ∧ c'.rebuilding = false) ∧
        Kept [.ldl, .col, .mgt, .rst] [watchTable, (Page.pkg, 0)]
          [p, Page.region (b / 4), Page.pkg, Page.mgt, Page.tel] s t) ∧
    ((s.dev.blk b).taken = true →
      (ctxList s.dev).any (fun e => e.2.block == b && e.2.bound && e.2.inRebuild) = false →
      ∃ t, exec (.rebuildDone b) s = .next t ∧ (t.dev.blk b).failTick = 0 ∧ (t.dev.blk b).taken = true ∧
        rdBit t.dev p Reg.CB_SPARE_EVENT_VALID = true ∧ rd t.dev p Reg.CB_SPARE_EVENT_CORE = coreNum b j ∧
        rd t.dev p Reg.CB_SPARE_REPLAYS_COUNT = (s.dev.blk b).rebuilt % 2 ^ 32 ∧
        (rdWord t.dev p 0x010).getLsbD 16 = true ∧ Kept [.ldl] [watchTable] [p, Page.tel] s t)) ∧
  (∀ (b : Nat) (pass : Bool) (s : State), b < 32 →
    let p := Page.coreBlock b
    rd s.dev p Reg.CB_SELFTEST_PERIOD ≠ 0 → rdBit s.dev p Reg.CB_STAT_SPARE_USED = false → blockFenced s.dev b = false →
    ∃ t, exec (.spareSelftest b pass) s = .next t ∧ rdBit t.dev p Reg.CB_STAT_SPARE_OK = pass ∧
      (pass = false → (rdWord t.dev p 0x010).getLsbD 18 = true) ∧ Kept [] [] [p] s t)

/-! ### Stockpot and the memory service (ch. 12) -/

/-- The head of the service's inbox is a verb cell that the service takes. -/
def VerbHead (op : Nat) (b : Box) (bs : List Box) (s : State) : Prop :=
  s.dev.stk.inbox = b :: bs ∧ stkTakes s.dev = true ∧ cOp b.cell = op

/-- The arrival of a MEM_PUT, MEM_GET or MEM_ACC. -/
def verbInstr (op : Nat) : Instr := if op = ocMEM_PUT then .memPut else if op = ocMEM_GET then .memGet else .memAcc

/-- Verbs arrive (R349, R352, R356, R358). A verb that passes every check joins the queue of the MID of its address, when that
MID holds fewer than 4,096; one that fails a check is dropped and counted as denied. A FENCE that finds a tracker waits for
its count. -/
def Claims.VerbsArrive : Prop :=
  (∀ (op : Nat) (b : Box) (bs : List Box) (s : State), op = ocMEM_PUT ∨ op = ocMEM_GET ∨ op = ocMEM_ACC →
    VerbHead op b bs s →
    let base := verbBase s.dev b.cell
    (verbDenied s.dev b.cell = none → midLoad s.dev (midOf base) < 4096 →
      ∃ t v, exec (verbInstr op) s = .next t ∧ t.dev.stk.inbox = bs ∧
        midQueue t.dev (midOf base) = midQueue s.dev (midOf base) ++ [v] ∧ v.cell = b.cell ∧ v.base = base ∧
        midQueue t.dev (1 - midOf base) = midQueue s.dev (1 - midOf base) ∧
        Kept [.lnk, .sw, .stk, .tel] [watchTable] [Page.tel] s t) ∧
    (∀ detail, verbDenied s.dev b.cell = some detail →
      ∃ t, exec (verbInstr op) s = .next t ∧ t.dev.stk.inbox = bs ∧ (∀ mid, midQueue t.dev mid = midQueue s.dev mid) ∧
        Counted Page.stk Reg.STK_CNT 4 1 s t ∧
        Kept [.lnk, .sw, .fwd, .stk, .tel] [watchTable, (Page.fwd, 2)] [Page.stk, Page.fwd, Page.voq, Page.tel] s t)) ∧
  (∀ (b : Box) (bs : List Box) (s : State), VerbHead ocMEM_FENCE b bs s → trackable s.dev (verbKey b.cell) = true →
    ∃ t f, exec .memFence s = .next t ∧ t.dev.stk.inbox = bs ∧ t.dev.stk.fences = s.dev.stk.fences ++ [f] ∧
      f.source.toNat = cSrc b.cell % 2 ^ 32 ∧ f.msgid = cMsgid b.cell ∧ f.count = vArg b.cell ∧ f.cell = b.cell ∧
      t.dev.stk.trackers = s.dev.stk.trackers ∧ Kept [.lnk, .sw, .stk, .tel] [watchTable] [Page.tel] s t)

/-- The service may answer the verb now: it answers nothing, or its source has room (R172, R353). -/
def MayAnswer (mid : Nat) (c : Cell) (s : State) : Prop :=
  (vSilent c = true ∧ untracked s.dev c = false) ∨ (roomIn s.dev (svcMem mid) 3).isSome = true

/-- What a verb's response and its counts leave alone. -/
def VerbKept (s t : State) : Prop :=
  t.pending = s.pending ∧ t.now = s.now ∧ SoftKept s t ∧ PartsKept [.lnk, .sw, .fwd, .stk, .tel] s t ∧
    EntriesKept [watchTable, (Page.fwd, 2)] s t ∧ PagesKept [Page.stk, Page.fwd, Page.voq, Page.tel] s t

/-- VERB_ACCEPT, GET_READ_DONE (R352, R353, R356, R357). While no accumulate holds a line of it, the head of the MID's queue
is accepted: a PUT's LEN bytes of DATA are then in Stockpot from its address up, no other byte has changed, and a whole
line's poison is cleared; a GET takes the bytes it will return; an accumulate waits for its core. The response cells of
the oldest GET are queued in order as room allows, and the GET is counted with the last. -/
def Claims.VerbsAccepted : Prop :=
  (∀ (mid : Nat) (v : Verb) (rest : List Verb) (s : State), mid < 2 → midQueue s.dev mid = v :: rest →
    accepting s.dev Page.stk = true → heldByAcc s.dev v.base (verbExtent v.cell) = false →
    (cOp v.cell = ocMEM_PUT → vLen v.cell ≤ 64 → linePoisoned s.dev v.base = false ∨ vLen v.cell = 64 →
      MayAnswer mid v.cell s →
      ∃ t, exec (.verbAccept mid) s = .next t ∧ midQueue t.dev mid = rest ∧
        (∀ a, memByte t.mem a = if v.base ≤ a ∧ a < v.base + vLen v.cell then (vData v.cell).getD (a - v.base) 0
          else memByte s.mem a) ∧
        linePoisoned t.dev v.base = false ∧ Counted Page.stk Reg.STK_CNT 0 1 s t ∧ VerbKept s t) ∧
    (cOp v.cell = ocMEM_GET →
      ∃ t, exec (.verbAccept mid) s = .next t ∧ midQueue t.dev mid = rest ∧
        getQueue t.dev mid = getQueue s.dev mid ++ [{ v with data := getCells s v }] ∧ Kept [.stk] [] [] s t) ∧
    (cOp v.cell = ocMEM_ACC →
      ∃ t, exec (.verbAccept mid) s = .next t ∧ midQueue t.dev mid = rest ∧
        t.dev.stk.accs = s.dev.stk.accs ++ [{ v with core := accCore s.dev v.base }] ∧ Kept [.stk] [] [] s t)) ∧
  (∀ (mid : Nat) (v : Verb) (rest : List Verb) (s : State), mid < 2 → getQueue s.dev mid = v :: rest →
    ∃ t k, exec (.getReadDone mid) s = .next t ∧ k ≤ v.data.length ∧
      ((roomIn s.dev (svcMem mid) 3).isSome = true → v.data ≠ [] → 1 ≤ k) ∧
      (k < v.data.length → getQueue t.dev mid = { v with data := v.data.drop k } :: rest) ∧
      (k = v.data.length → getQueue t.dev mid = rest ∧ Counted Page.stk Reg.STK_CNT 1 1 s t) ∧
      t.mem = s.mem ∧ VerbKept s t)

/-- ACC_RUN (R354, R355). The core runs the slot's accumulate section on the verb's DATA and the values of its span; where the
recipe stores, the span takes the values converted back and no other byte changes. The verb is done and counted. -/
def Claims.AccumulatesRun : Prop :=
  ∀ (core : Nat) (v : Verb) (s : State), core < 800 → s.dev.stk.accs.find? (fun v => verbCore s.dev v == core) = some v →
    coreWorks s.dev core = true → MayAnswer (midOf v.base) v.cell s →
    anyPoisoned s.dev v.base (accSpan (vFmt v.cell)) = false →
    let c := v.cell
    let env : RunEnv := { inFmt := vFmt c, outFmt := 0, sfmt := vSfmt c, highPrec := false, payload := accPayload c,
                          scales := accScales c, weight := vArg c, count := 1, store := v.version, slot := v.recipe }
    let st := runAccumulate s.dev env (spanFrame s.mem v.base (vFmt c))
    let codes := (st.frame.take (accElems (vFmt c))).map (spanCode (vFmt c))
    let stores := (accSteps (recipeOf s.dev v.version v.recipe)).any (fun x => isStAcc x.2)
    ∃ t, exec (.accRun core) s = .next t ∧ t.dev.stk.accs = s.dev.stk.accs.erase v ∧
      t.mem = (if stores then memWrite s.mem v.base (codes.flatMap (fun x => bytesLE 4 x.1)) else s.mem) ∧
      Counted Page.stk Reg.STK_CNT 2 1 s t ∧
      t.pending = s.pending ∧ t.now = s.now ∧ SoftKept s t ∧ PartsKept [.lnk, .sw, .fwd, .stk, .pmc, .tel] s t ∧
      EntriesKept [watchTable, (Page.fwd, 2), (Page.coreBlock (core / 25), 0)] s t ∧
      PagesKept [Page.stk, Page.fwd, Page.voq, Page.tel, Page.region (core / 100), Page.coreBlock (core / 25)] s t

/-- FENCE_COMPLETE and FENCE_TIMEOUT (R358, R363). The oldest waiting FENCE of a source and MSGID ends with its response once
its tracker holds COUNT, which is taken from the tracker; one still waiting at FENCE_TIMEOUT ends with STATUS 0x02, its tracker
cleared. -/
def Claims.FencesEnd : Prop :=
  ∀ (source : W32) (msgid : Nat) (f : Fence) (s : State), oldestFence s.dev source msgid = some f →
    (roomIn s.dev (svcMem 0) 3).isSome = true →
    let n := trackCount s.dev (fenceKey f)
    let us := rd s.dev Page.stk Reg.STK_STK_CFG_FENCE_TIMEOUT
    (f.count ≤ n →
      ∃ t, exec (.fenceComplete source msgid) s = .next t ∧ t.dev.stk.fences = s.dev.stk.fences.erase f ∧
        trackCount t.dev (fenceKey f) = n - f.count ∧ (∀ k, k ≠ fenceKey f → trackCount t.dev k = trackCount s.dev k) ∧
        Counted Page.stk Reg.STK_CNT 3 1 s t ∧ t.mem = s.mem ∧ VerbKept s t) ∧
    (n < f.count → us ≠ 0 → elapsed s.now f.tick (us * 1000) = true →
      ∃ t, exec (.fenceTimeout source msgid) s = .next t ∧ t.dev.stk.fences = s.dev.stk.fences.erase f ∧
        trackCount t.dev (fenceKey f) = 0 ∧ (∀ k, k ≠ fenceKey f → trackCount t.dev k = trackCount s.dev k) ∧
        Counted Page.stk Reg.STK_CNT 5 1 s t ∧ t.mem = s.mem ∧ VerbKept s t)

/-- LINE_POISON and PATROL_SCRUB (R344, R345). A line outside the context area that fails its code is poisoned: STK counts it,
sets error class 16 and interrupt 16, and POISON_ADDR shows it if no error was held; a line of the member table also sets
COL's error class 18. A patrol pass adds its corrections and sets interrupt 18. No byte of Stockpot changes. -/
def Claims.LinesPoisonedAndScrubbed : Prop :=
  (∀ (addr : Nat) (s : State), addr < 480 * 2 ^ 30 → addr < 2 ^ 31 ∨ serviceStart s.dev ≤ addr →
    ∃ t, exec (.linePoison addr) s = .next t ∧ linePoisoned t.dev addr = true ∧
      (∀ a, a / 64 ≠ addr / 64 → linePoisoned t.dev a = linePoisoned s.dev a) ∧
      (rdWord s.dev Page.stk 0x018 = 0 → rd64 t.dev Page.stk Reg.STK_POISON_ADDR = 64 * (addr / 64)) ∧
      (rdWord t.dev Page.stk 0x018).getLsbD 16 = true ∧ (rdWord t.dev Page.stk 0x010).getLsbD 16 = true ∧
      (addr < 0x10000000 → (rdWord t.dev Page.col 0x018).getLsbD 18 = true) ∧ Counted Page.stk Reg.STK_CNT 10 1 s t ∧
      Kept [.stk] [watchTable] [Page.stk, Page.col, Page.tel] s t) ∧
  (∀ (corrected : Nat) (s : State), rd s.dev Page.stk Reg.STK_SCRUB_HOURS ≠ 0 →
    ∃ t, exec (.patrolScrub corrected) s = .next t ∧ Counted Page.stk Reg.STK_CNT 9 corrected s t ∧
      (rdWord t.dev Page.stk 0x010).getLsbD 18 = true ∧
      (corrected ≠ 0 → (rdWord t.dev Page.stk 0x018).getLsbD errCorrected = true) ∧
      Kept [] [watchTable] [Page.stk, Page.tel] s t)

/-- HOST_WINDOW_ACCESS (R360). Inside Stockpot, and with SVC_ONLY inside the service area, with no accumulate accepted and no
line of it poisoned, a write stores exactly its bytes and a read returns them, while STK has not failed. Elsewhere it changes
no byte and sets error BAD_ACCESS. -/
def Claims.HostWindowReachesStockpot : Prop :=
  ∀ (offset n : Nat) (data : List Byte) (s : State), 0 < n → offset + n ≤ 2 ^ 36 → data.length = n →
    pageState s.dev Page.stk ≠ stFailed →
    let addr := rd s.dev Page.stk Reg.STK_WIN_BASE_GIB * 2 ^ 30 + offset
    let refused := stockpotSize < addr + n ∨ rdBit s.dev Page.stk Reg.STK_WIN_CTL_SVC_ONLY = true ∧ addr < serviceStart s.dev
    (¬ refused → s.dev.stk.accs = [] → (∀ i, i < n → linePoisoned s.dev (addr + i) = false) →
      (∃ t, exec (.hostWindowAccess true offset n data) s = .next t ∧
        (∀ a, memByte t.mem a = if addr ≤ a ∧ a < addr + n then data.getD (a - addr) 0 else memByte s.mem a) ∧
        t.pending = s.pending ∧ t.now = s.now ∧ SoftKept s t ∧ PartsKept [.stk] s t ∧ TablesKept s t ∧ PagesKept [] s t) ∧
      (∀ x, ∃ t, exec (.hostWindowAccess false offset n x) s = .next t ∧
        t.dev.ctl.out = s.dev.ctl.out ++ [.windowData offset (memRead s.mem addr n)] ∧ Kept [] [] [] s t)) ∧
    (refused → ∀ (w : Bool) (x : List Byte), (w = true → x = data) →
      ∃ t, exec (.hostWindowAccess w offset n x) s = .next t ∧ Counted Page.stk Reg.STK_CNT 11 1 s t ∧
        (rdWord t.dev Page.stk 0x018).getLsbD errBadAccess = true ∧
        (w = false → t.dev.ctl.out.getLast? = some (.windowData offset (List.replicate n 0xFF))) ∧
        Kept [] [watchTable] [Page.stk, Page.tel] s t)

/-- `Claims.VerbsArrive`, `Claims.VerbsAccepted` together: each part is stated above with its rules. -/
def Obligations.VerbsServed : Prop := Claims.VerbsArrive ∧ Claims.VerbsAccepted

/-- `Claims.AccumulatesRun`, `Claims.FencesEnd` together: each part is stated above with its rules. -/
def Obligations.AccumulatesAndFences : Prop := Claims.AccumulatesRun ∧ Claims.FencesEnd

/-- `Claims.LinesPoisonedAndScrubbed`, `Claims.HostWindowReachesStockpot` together: each part is stated above with its rules. -/
def Obligations.StockpotReached : Prop := Claims.LinesPoisonedAndScrubbed ∧ Claims.HostWindowReachesStockpot

/-! ### Fabric time (ch. 13) -/

/-- No slot is handed to its block. -/
def NoneHanded (s : State) : Prop := ∀ i, i < 64 → fireTime s.dev i = none

/-- Steps, SET, SNAP and the rate (R365 to R370). SNAP shows fabric time and the counter of one tick. A step within JUMP_LIMIT,
or forced by the host, is added to the offset; any other is refused with error class 16 and interrupt 16. SET by the host
gives fabric time its value at the next tick; in band it is refused with error class 17. A rate change of the servo keeps
fabric time continuous at its tick and is in force from then. No slot stands handed to its block where a step is made. -/
def Obligations.TimeStepsAndRates : Prop :=
  (∀ (src : Src) (s : State), Owns src Page.tim s →
    ∃ t, exec (.snap src) s = .next t ∧ rd64 t.dev Page.tim Reg.TIM_SNAP_NS = fabricNs s.dev s.now ∧
      rd t.dev Page.tim Reg.TIM_SNAP_FRAC_FRAC = fabricAt s.dev s.now % 65536 ∧
      rd64 t.dev Page.tim Reg.TIM_SNAP_COUNTER = s.now.toNat ∧ Kept [] [] [Page.tim] s t) ∧
  (∀ (src : Src) (force : Bool) (frac : Nat) (s : State), Owns src Page.tim s → NoneHanded s →
    let step := stepValue s.dev.tim.adjNs frac
    (force = true ∧ src = .pcie ∨ withinLimit s.dev step = true →
      ∃ t, exec (.stepRequest src force frac) s = .next t ∧
        t.dev.tim = { s.dev.tim with offset := s.dev.tim.offset + BitVec.ofInt 80 step } ∧
        Counted Page.tim Reg.TIM_CNT 3 1 s t ∧ Kept [.tim] [watchTable] [Page.tim, Page.tel] s t) ∧
    (¬ (force = true ∧ src = .pcie) → withinLimit s.dev step = false →
      ∃ t, exec (.stepRequest src force frac) s = .next t ∧ t.dev.tim = s.dev.tim ∧
        rd t.dev Page.tim Reg.TIM_LAST_REFUSED_NS = unsignedOf 32 (step / 65536) ∧
        (rdWord t.dev Page.tim 0x018).getLsbD 16 = true ∧ (rdWord t.dev Page.tim 0x010).getLsbD 16 = true ∧
        Counted Page.tim Reg.TIM_CNT 4 1 s t ∧ Kept [] [watchTable] [Page.tim, Page.tel] s t)) ∧
  (∀ (frac : Nat) (s : State), Owns .pcie Page.tim s → NoneHanded s →
    ∃ t, exec (.set .pcie frac) s = .next t ∧
      fabricAt t.dev (s.now + 1) = s.dev.tim.setNs.toNat * 65536 + frac % 65536 ∧
      t.dev.tim.anchor = s.dev.tim.anchor ∧ Counted Page.tim Reg.TIM_CNT 5 1 s t ∧
      Kept [.tim] [watchTable] [Page.tim, Page.tel] s t) ∧
  (∀ (frac : Nat) (s : State), Owns .inband Page.tim s →
    ∃ t, exec (.set .inband frac) s = .next t ∧ (rdWord t.dev Page.tim 0x018).getLsbD 17 = true ∧
      Kept [] [] [Page.tim] s t) ∧
  (∀ (rate : W32) (s : State), servoOn s.dev = true → isRoot s.dev = false →
    rdBit s.dev Page.tim Reg.TIM_TIM_STAT_HOLDOVER = false →
    ∃ t, exec (.servoRateChange rate) s = .next t ∧ rdWord t.dev Page.tim Reg.TIM_RATE_RATE.off = rate ∧
      t.dev.tim.anchor = s.now + 1 ∧ fabricAt t.dev (s.now + 1) = fabricAt s.dev (s.now + 1) ∧
      WordsKept Page.tim [Reg.TIM_RATE_RATE.off] s t ∧ Kept [.tim] [] [Page.tim] s t) ∧
  (∀ (step : BitVec 48) (s : State), servoOn s.dev = true → isRoot s.dev = false → NoneHanded s →
    (withinLimit s.dev step.toInt = true →
      ∃ t, exec (.servoStep step) s = .next t ∧
        t.dev.tim.offset = s.dev.tim.offset + BitVec.ofInt 80 step.toInt ∧ t.dev.tim.anchor = s.dev.tim.anchor ∧
        Counted Page.tim Reg.TIM_CNT 3 1 s t ∧ Kept [.tim] [watchTable] [Page.tim, Page.tel] s t) ∧
    (withinLimit s.dev step.toInt = false →
      ∃ t, exec (.servoStep step) s = .next t ∧ t.dev.tim = s.dev.tim ∧
        (rdWord t.dev Page.tim 0x018).getLsbD 16 = true ∧ (rdWord t.dev Page.tim 0x010).getLsbD 16 = true ∧
        Counted Page.tim Reg.TIM_CNT 4 1 s t ∧ Kept [] [watchTable] [Page.tim, Page.tel] s t))

/-- TIME cells, the lock and the PPS pins (R372 to R376, R381). A TIME cell is due on an UP port with TX_EN. The oldest TIME
cell framed on a port is consumed: one of another version is counted; a good one is counted, remembered for its echo,
and, where it names an exchange, recorded in the port's entry. LOCKED is set once the condition has held 1 ms; HOLDOVER
when HOLD_TIME passes without a SYNC cell. A PPS_IN edge captures fabric time and the counter; PPS_OUT rises at a second. -/
def Claims.TimeIsExchanged : Prop :=
  (∀ (lane : Nat) (s : State), lane < 1024 → isPort s.dev lane = true → portUp s.dev lane = true →
    (s.dev.port lane).suspended = false → rdBit s.dev Page.tim Reg.TIM_TIM_CFG_TX_EN = true →
    ∃ t, exec (.timeCellSend lane) s = .next t ∧ t.dev.port lane = { s.dev.port lane with timeDue := true } ∧
      (∀ l, l ≠ lane → t.dev.port l = s.dev.port l) ∧ Kept [.lnk] [] [] s t) ∧
  (∀ (lane : Nat) (f : Framed) (s : State), lane < 1024 →
    (s.dev.port lane).framed.find? (fun f => isTime f.cell) = some f →
    (pb f.cell 0 0 ≠ 1 →
      ∃ t, exec (.timeCellReceive lane) s = .next t ∧ (t.dev.port lane).framed = (s.dev.port lane).framed.erase f ∧
        Counted Page.tim Reg.TIM_CNT 2 1 s t ∧ Kept [.lnk] [watchTable] [Page.tim, Page.tel] s t) ∧
    (pb f.cell 0 0 = 1 →
      let t4 := fabricAt s.dev (BitVec.ofNat 64 f.rxTick) - rxDelay s.dev lane
      ∃ t, exec (.timeCellReceive lane) s = .next t ∧ (t.dev.port lane).framed = (s.dev.port lane).framed.erase f ∧
        (t.dev.port lane).peerTime = some (tcSeq f.cell, tcTx f.cell, t4) ∧
        (tcFlag f.cell 7 = true → rdBit t.dev Page.tim Reg.TIM_TIM_STAT_HOLDOVER = false ∧ t.dev.tim.syncTick = some s.now.toNat) ∧
        (let age := ((s.dev.port lane).tseq + 65536 - pb f.cell 14 15) % 65536
         tcFlag f.cell 5 = true → 1 ≤ age → age ≤ (s.dev.port lane).timeSent →
           tget t.dev Page.tim 1 lane = exchangeWords f.cell t4) ∧
        Counted Page.tim Reg.TIM_CNT 1 1 s t ∧
        Kept [.lnk, .tim] [watchTable, (Page.tim, 1)] [Page.tim, Page.tel] s t)) ∧
  (∀ (k : Nat) (s : State), s.dev.tim.okTick = some k → servoOn s.dev = true → elapsed s.now k 1000000 = true →
    ∃ t, exec .locked s = .next t ∧ rdBit t.dev Page.tim Reg.TIM_TIM_STAT_LOCKED = true ∧ Kept [] [] [Page.tim] s t) ∧
  (∀ s : State, isRoot s.dev = false → rdBit s.dev Page.tim Reg.TIM_TIM_STAT_HOLDOVER = false →
    elapsed s.now (s.dev.tim.syncTick.getD 0) (holdTime s.dev) = true →
    ∃ t, exec .holdoverEnter s = .next t ∧ rdBit t.dev Page.tim Reg.TIM_TIM_STAT_HOLDOVER = true ∧
      (rdWord t.dev Page.tim 0x010).getLsbD 19 = true ∧ Kept [] [] [Page.tim] s t) ∧
  (∀ s : State, ∃ t, exec .ppsInEdge s = .next t ∧ rd64 t.dev Page.tim Reg.TIM_PPS_IN_NS = fabricNs s.dev s.now ∧
    rd64 t.dev Page.tim Reg.TIM_PPS_IN_COUNTER = s.now.toNat ∧ (rdWord t.dev Page.tim 0x010).getLsbD 20 = true ∧
    Counted Page.tim Reg.TIM_CNT 9 1 s t ∧ Kept [] [watchTable] [Page.tim, Page.tel] s t) ∧
  (∀ s : State, rdBit s.dev Page.tim Reg.TIM_TIM_CFG_PPS_OUT_EN = true → (fabricNs s.dev s.now + 2) % 1000000000 ≤ 4 →
    ∃ t, exec .ppsOutPulse s = .next t ∧ t.dev.tim.ppsPin = true ∧
      s.now.toNat + ticksOfNs (rd s.dev Page.tim Reg.TIM_PPS_OUT_CFG_WIDTH * 1000) ≤ t.dev.tim.pulseEnd ∧
      Kept [.tim] [] [] s t)

/-- TRIGGER_HANDOFF and TRIGGER_FIRE (R377 to R380). An armed slot whose time is 10 µs away or less is handed to its block: it
fires at its time, or with less than its notice left at the handoff plus the notice, late. A handed slot whose time
has come fires: TIM counts it, its entry records the firing and is done, or armed again one PERIOD later; a PPS_OUT slot drives
the pin. -/
def Claims.TriggersFire : Prop :=
  (∀ (slot : Nat) (s : State), slot < 64 → trigState (trigWords s.dev slot) = 1 →
    let ws := trigWords s.dev slot
    let f := fabricNs s.dev s.now
    word64 ws 1 ≤ f + 10000 →
    ∃ t, exec (.triggerHandoff slot) s = .next t ∧ trigState (trigWords t.dev slot) = 2 ∧
      (f + trigNotice s.dev ws ≤ word64 ws 1 → fireTime t.dev slot = some (word64 ws 1, false)) ∧
      (word64 ws 1 < f + trigNotice s.dev ws → fireTime t.dev slot = some (f + trigNotice s.dev ws, true)) ∧
      (∀ i, i < 64 → i ≠ slot → trigWords t.dev i = trigWords s.dev i ∧ fireTime t.dev i = fireTime s.dev i) ∧
      Kept [.tim] [(Page.tim, 0)] [] s t) ∧
  (∀ (slot ns : Nat) (late : Bool) (s : State), slot < 64 → fireTime s.dev slot = some (ns, late) →
    trigState (trigWords s.dev slot) = 2 → ns ≤ fabricNs s.dev s.now → (trigWords s.dev slot).length = 7 →
    let ws := trigWords s.dev slot
    ∃ t, exec (.triggerFire slot) s = .next t ∧
      trigState (trigWords t.dev slot) = (if wbits ws 3 31 0 = 0 then 3 else 1) ∧
      (wbits ws 3 31 0 ≠ 0 → word64 (trigWords t.dev slot) 1 = (word64 ws 1 + wbits ws 3 31 0) % 2 ^ 64) ∧
      wbit (trigWords t.dev slot) 4 27 = late ∧
      wbits (trigWords t.dev slot) 4 15 0 = (wbits ws 4 15 0 + 1) % 65536 ∧
      word64 (trigWords t.dev slot) 5 = fabricNs s.dev s.now % 2 ^ 64 ∧ fireTime t.dev slot = none ∧
      (∀ i, i < 64 → i ≠ slot → trigWords t.dev i = trigWords s.dev i ∧ fireTime t.dev i = fireTime s.dev i) ∧
      (wbit ws 0 30 = true → (rdWord t.dev Page.tim 0x010).getLsbD 17 = true) ∧
      (late = true → (rdWord t.dev Page.tim 0x010).getLsbD 18 = true) ∧
      Counted Page.tim Reg.TIM_CNT 6 1 s t ∧ CoreKept s t ∧
      (trigAction ws = 6 → pageState s.dev Page.tim ≠ stAborting →
        t.dev.tim.ppsPin = true ∧ Kept [.tim] [watchTable, (Page.tim, 0)] [Page.tim, Page.tel] s t))

/-- `Claims.TimeIsExchanged`, `Claims.TriggersFire` together: each part is stated above with its rules. -/
def Obligations.TimeSharedAndTriggered : Prop := Claims.TimeIsExchanged ∧ Claims.TriggersFire

/-! ### Power, droop, ageing and temperature (ch. 14) -/

/-- What PMC's commands may change beyond their own part. -/
def regionPages : List Page := (List.range 8).map Page.region

/-- POWER_INTERVAL, ALLOCATION_WATCHDOG, POINT_CHANGE_DONE (R387, R391, R393, R398). Every interval shows the power measured and
starts its counts again. With a controller pair running and PMC at work the interval is allocated, CAP_UNREACHABLE
standing for stage 5 and ADMIT_STOP for stages 4 and 5; otherwise it is missed. Five missed in a row give stage 2, error class
17 and, to every region with no change in progress, the slowest point. A change that no droop holds ends with the
region at its point. The cycles counted so far stand in each case. -/
def Obligations.PowerIsBudgeted : Prop :=
  (∀ (m : PowerSample) (s : State),
    ∃ t, exec (.powerInterval m) s = .next t ∧ rd t.dev Page.pmc Reg.PMC_PWR_NOW_W = min 4095 (totalMw m / 1000) ∧
      t.dev.pmc.history = (totalMw m :: s.dev.pmc.history).take historyMax ∧ t.dev.pmc.beats = [] ∧
      t.dev.pmc.arrivals = [] ∧ t.dev.pmc.cellsMoved = 0 ∧ t.dev.pmc.jobCells = [] ∧
      (voruirRuns s.dev = true → pmcWorks s.dev = true → t.dev.pmc.missed = 0 ∧
        rdBit t.dev Page.pmc Reg.PMC_PWR_STAT_CAP_UNREACHABLE = decide (rd t.dev Page.pmc Reg.PMC_PWR_STAT_STAGE = 5) ∧
        rdBit t.dev Page.pmc Reg.PMC_PWR_STAT_ADMIT_STOP = decide (4 ≤ rd t.dev Page.pmc Reg.PMC_PWR_STAT_STAGE)) ∧
      (voruirRuns s.dev = false ∨ pmcWorks s.dev = false → t.dev.pmc.missed = s.dev.pmc.missed + 1 ∧
        rd t.dev Page.pmc Reg.PMC_PWR_STAT_STAGE = rd s.dev Page.pmc Reg.PMC_PWR_STAT_STAGE) ∧
      (∀ r, r < 8 → lpOf t.dev r = lpOf s.dev r ∧ clockAt s.now t.dev r = clockAt s.now s.dev r) ∧
      t.dev.ldl = { s.dev.ldl with clocks := t.dev.ldl.clocks } ∧
      Kept [.pmc, .tel, .ldl] [watchTable, (Page.pmc, 0)] ([Page.pmc, Page.tel] ++ regionPages) s t) ∧
  (∀ s : State, 5 ≤ s.dev.pmc.missed →
    ∃ t, exec .allocationWatchdog s = .next t ∧ rd t.dev Page.pmc Reg.PMC_PWR_STAT_STAGE = 2 ∧
      (rdWord t.dev Page.pmc 0x018).getLsbD 17 = true ∧
      (∀ r, r < 8 → (s.dev.rpwr r).target = none → lpOf s.dev r ≠ 7 → (t.dev.rpwr r).target = some 7) ∧
      Kept [.pmc] [] [Page.pmc] s t) ∧
  (∀ (r p : Nat) (s : State), r < 8 → p < 8 → changeFree s.dev r = true → (s.dev.rpwr r).target = some p →
    ∃ t, exec (.pointChangeDone r) s = .next t ∧ lpOf t.dev r = p ∧ (t.dev.rpwr r).target = (s.dev.rpwr r).next ∧
      (t.dev.rpwr r).next = none ∧ (t.dev.rpwr r).trimDue = false ∧
      (∀ x, x ≠ r → t.dev.rpwr x = s.dev.rpwr x) ∧ Counted Page.pmc Reg.PMC_CNT 2 1 s t ∧
      clockAt s.now t.dev r = clockAt s.now s.dev r ∧ t.dev.ldl = { s.dev.ldl with clocks := t.dev.ldl.clocks } ∧
      Kept [.pmc, .ldl] [watchTable] [Page.pmc, Page.tel, Page.region r] s t)

/-- Droops and trims (R402 to R405). A droop starts: the region is active in DROOP_STAT, counted, and a change or trim that is
due is held; no cycle of its stretched clock is counted. It ends: the region is not active. A held change goes on 2 µs later and is counted. An ageing check
that finds a domain slow raises its trim by one step below the eighth; at the eighth a region's LIMIT is set and a switch core
sets an uncorrectable error, both with interrupt 19. -/
def Claims.DroopsAndTrims : Prop :=
  (∀ (r : Nat) (s : State), r < 8 →
    (droopActive s.dev r = false →
      ∃ t, exec (.droopStart r) s = .next t ∧ droopActive t.dev r = true ∧ (t.dev.rpwr r).droopStart = s.now.toNat ∧
        ((t.dev.rpwr r).held = true ↔
          ((s.dev.rpwr r).held = true ∨ (s.dev.rpwr r).target ≠ none ∨ (s.dev.rpwr r).trimDue = true)) ∧
        (∀ x, x < 8 → x ≠ r → droopActive t.dev x = droopActive s.dev x ∧ t.dev.rpwr x = s.dev.rpwr x) ∧
        Counted Page.pmc Reg.PMC_CNT 0 1 s t ∧ clockAt s.now t.dev r = clockAt s.now s.dev r ∧ clockRate t.dev r = 0 ∧
        t.dev.ldl = { s.dev.ldl with clocks := t.dev.ldl.clocks } ∧
        Kept [.pmc, .ldl] [watchTable] [Page.pmc, Page.tel] s t) ∧
    (droopActive s.dev r = true →
      ∃ t, exec (.droopEnd r) s = .next t ∧ droopActive t.dev r = false ∧ (t.dev.rpwr r).droopEnd = some s.now.toNat ∧
        (t.dev.rpwr r).held = (s.dev.rpwr r).held ∧
        (∀ x, x < 8 → x ≠ r → droopActive t.dev x = droopActive s.dev x ∧ t.dev.rpwr x = s.dev.rpwr x) ∧
        clockAt s.now t.dev r = clockAt s.now s.dev r ∧ t.dev.ldl = { s.dev.ldl with clocks := t.dev.ldl.clocks } ∧
        Kept [.pmc, .ldl] [watchTable] [Page.pmc, Page.tel] s t) ∧
    (∀ k, (s.dev.rpwr r).droopEnd = some k → (s.dev.rpwr r).held = true → droopActive s.dev r = false →
      elapsed s.now k 2000 = true →
      ∃ t, exec (.heldChangeResume r) s = .next t ∧ (t.dev.rpwr r).held = false ∧
        (t.dev.rpwr r).target = (s.dev.rpwr r).target ∧ Counted Page.pmc Reg.PMC_CNT 3 1 s t ∧
        Kept [.pmc] [watchTable] [Page.pmc, Page.tel] s t)) ∧
  (∀ (x : Nat) (s : State), x < 10 →
    (rd s.dev Page.pmc (trimFd x) < 8 →
      ∃ t, exec (.ageingCheck x true) s = .next t ∧ rd t.dev Page.pmc (trimFd x) = rd s.dev Page.pmc (trimFd x) + 1 ∧
        rd t.dev Page.pmc (trimLimitFd x) = rd s.dev Page.pmc (trimLimitFd x) ∧
        (x < 8 → (t.dev.rpwr x).trimDue = true) ∧ Counted Page.mgt Reg.MGT_CNT 10 1 s t ∧
        Kept [.pmc, .mgt] [watchTable] [Page.pmc, Page.mgt, Page.tel] s t) ∧
    (8 ≤ rd s.dev Page.pmc (trimFd x) → x < 8 →
      ∃ t, exec (.ageingCheck x true) s = .next t ∧ rd t.dev Page.pmc (trimLimitFd x) = 1 ∧
        rd t.dev Page.pmc (trimFd x) = rd s.dev Page.pmc (trimFd x) ∧ (rdWord t.dev Page.pmc 0x010).getLsbD 19 = true ∧
        Kept [.mgt] [watchTable] [Page.pmc, Page.mgt, Page.tel] s t) ∧
    (8 ≤ rd s.dev Page.pmc (trimFd x) → 8 ≤ x →
      ∃ t, exec (.ageingCheck x true) s = .next t ∧ (rdWord t.dev Page.pmc 0x018).getLsbD errUncorrectable = true ∧
        (rdWord t.dev Page.pmc 0x010).getLsbD 19 = true ∧ Kept [] [] [Page.pmc] s t))

/-- Temperatures (R406). The hottest of a die's readings is kept. At or above THROTTLE it sets interrupt 18, and on a logic die
every region of the die steps slower; more than 3 degrees below, no region of the die is held slower any longer. A reading at or
above WARN sets interrupt 17; one of 120 or more asserts THERM_TRIP_N. -/
def Claims.TemperaturesActedOn : Prop :=
  (∀ (die : Nat) (x : Int) (xs : List Int) (s : State), die < 24 →
    let top := xs.foldl max x
    ∃ t, exec (.thermalStep die (x :: xs)) s = .next t ∧ sget (konst none) t.dev.pmc.temps die = some top ∧
      (throttleC s.dev ≤ top → (rdWord t.dev Page.pmc 0x010).getLsbD 18 = true) ∧
      (throttleC s.dev ≤ top → die < 2 → ∀ i, i < 4 → (t.dev.rpwr (4 * die + i)).hot = true ∧
        (t.dev.rpwr (4 * die + i)).floor = min (slowOf s.dev (4 * die + i)) (max (s.dev.rpwr (4 * die + i)).floor
          ((s.dev.rpwr (4 * die + i)).next.getD ((s.dev.rpwr (4 * die + i)).target.getD (lpOf s.dev (4 * die + i)))) + 1)) ∧
      (top < throttleC s.dev - 3 → die < 2 → ∀ i, i < 4 →
        t.dev.rpwr (4 * die + i) = { s.dev.rpwr (4 * die + i) with hot := false, floor := 0 }) ∧
      (∀ r, r / 4 ≠ die → t.dev.rpwr r = s.dev.rpwr r) ∧ Kept [.pmc] [] [Page.pmc] s t) ∧
  (∀ (die : Nat) (c : Int) (s : State), die < 24 →
    (((rd s.dev Page.pmc Reg.PMC_TEMP_CFG_WARN : Nat) : Int) ≤ c →
      ∃ t, exec (.tempWarn die c) s = .next t ∧ sget (konst none) t.dev.pmc.temps die = some c ∧
        (rdWord t.dev Page.pmc 0x010).getLsbD 17 = true ∧ Kept [.pmc] [] [Page.pmc] s t) ∧
    (120 ≤ c →
      ∃ t, exec (.thermTrip die c) s = .next t ∧ t.dev.pmc.thermTrip = true ∧
        sget (konst none) t.dev.pmc.temps die = some c ∧ Kept [.pmc] [] [Page.pmc] s t))

/-- `Claims.DroopsAndTrims`, `Claims.TemperaturesActedOn` together: each part is stated above with its rules. -/
def Obligations.DroopsAndHeat : Prop := Claims.DroopsAndTrims ∧ Claims.TemperaturesActedOn

/-! ### The management channel (ch. 15) -/

/-- A port that is not UP, or one the management channel's source has room for. -/
def ReplyFree (lane : Nat) (s : State) : Prop :=
  (isPort s.dev lane && portUp s.dev lane) = false ∨ (roomIn s.dev (svcMgt (dieOf lane)) 7).isSome = true

/-- MBX_TX_HEAD_WRITE, RELAY_SLOT_SEND, RELAY_RX (R420, R421). The head takes the value written. The slot at the tail is sent
from its port, if that is UP and its source has room, as an MGMT cell to the slot's DST with its payload, and counted; a
slot whose port is not UP is counted as not sent, with interrupt 17. A cell received for the host goes to the slot at the RX
head, with interrupt 16 where the ring was empty, or with the ring full or relaying off is dropped, counted, with error class 16. -/
def Obligations.RelayRings : Prop :=
  (∀ (src : Src) (ptr : Nat) (s : State), Owns src Page.mgt s → ptr < 2048 →
    ∃ t, exec (.mbxTxHeadWrite src ptr) s = .next t ∧ rd t.dev Page.mgt Reg.MGT_MBX_TX_HEAD_PTR = ptr ∧
      WordsKept Page.mgt [0x124] s t ∧ Kept [] [] [Page.mgt] s t) ∧
  (∀ s : State, relayOn s.dev = true → accepting s.dev Page.mgt = true →
    let tail := rd s.dev Page.mgt Reg.MGT_MBX_TX_TAIL_PTR
    let slot := bar4Bytes s.dev (128 * tail) 104
    let via := natOfBE ((slot.drop 4).take 2)
    let k := voqKey (svcMgt (dieOf via)) via 7
    rd s.dev Page.mgt Reg.MGT_MBX_TX_HEAD_PTR ≠ tail →
    (isPort s.dev via = true → portUp s.dev via = true → (roomIn s.dev (svcMgt (dieOf via)) 7).isSome = true →
      ∃ t b, exec .relaySlotSend s = .next t ∧ (t.dev.voq k).norm = (s.dev.voq k).norm ++ [b] ∧
        cDst b.cell = natOfBE (slot.take 4) ∧ b.cell.payload = payloadOf (slot.drop 8) ∧
        rd t.dev Page.mgt Reg.MGT_MBX_TX_TAIL_PTR = (tail + 1) % 2048 ∧ Counted Page.mgt Reg.MGT_CNT 7 1 s t ∧
        Kept [.sw] [watchTable] [Page.mgt, Page.voq, Page.tel] s t) ∧
    ((isPort s.dev via && portUp s.dev via) = false →
      ∃ t, exec .relaySlotSend s = .next t ∧ rd t.dev Page.mgt Reg.MGT_MBX_TX_TAIL_PTR = (tail + 1) % 2048 ∧
        Counted Page.mgt Reg.MGT_CNT 8 1 s t ∧ (rdWord t.dev Page.mgt 0x010).getLsbD 17 = true ∧
        Kept [] [watchTable] [Page.mgt, Page.tel] s t)) ∧
  (∀ (b : Box) (bs : List Box) (s : State), accepting s.dev Page.mgt = true → s.dev.mgt.inbox = b :: bs →
    toHost b.cell = true →
    let head := rd s.dev Page.mgt Reg.MGT_MBX_RX_HEAD_PTR
    let full := (head + 1) % 2048 = rd s.dev Page.mgt Reg.MGT_MBX_RX_TAIL_PTR
    ∃ t, exec .relayRx s = .next t ∧ t.dev.mgt.inbox = bs ∧
      (relayOn s.dev = false ∨ full → rd t.dev Page.mgt Reg.MGT_MBX_RX_HEAD_PTR = head ∧
        Counted Page.mgt Reg.MGT_CNT 9 1 s t ∧ (rdWord t.dev Page.mgt 0x018).getLsbD 16 = true) ∧
      (relayOn s.dev = true → ¬ full → rd t.dev Page.mgt Reg.MGT_MBX_RX_HEAD_PTR = (head + 1) % 2048 ∧
        bar4Bytes t.dev (0x40000 + 128 * head) 128 =
          bytesBE 4 (cSrc b.cell) ++ bytesBE 2 b.source ++ [0, 0] ++ payBytes b.cell ++ List.replicate 24 0 ∧
        (head = rd s.dev Page.mgt Reg.MGT_MBX_RX_TAIL_PTR → (rdWord t.dev Page.mgt 0x010).getLsbD 16 = true)) ∧
      Kept [.lnk, .sw, .mgt, .tel] [watchTable] [Page.mgt, Page.voq, Page.tel] s t)

/-- The management channel works and the oldest cell that waits for it is of the kind. -/
def MgmtHead (kind : Nat) (b : Box) (bs : List Box) (s : State) : Prop :=
  accepting s.dev Page.mgt = true ∧ s.dev.mgt.inbox = b :: bs ∧ toHost b.cell = false ∧ kindOf b.cell = kind

/-- What a session's cells may change. -/
def SessionKept (s t : State) : Prop := Kept [.lnk, .sw, .mgt, .tel] [watchTable] [Page.mgt, Page.voq, Page.tel] s t

/-- HELLO (R423). With in-band sessions enabled and one of them free, the free session of some number is opened for the
cell's port; with them disabled or none free the refusal is counted and no session opens. AUTH: a signature of the current owner over the
session's transcript establishes it, counted, with interrupt 18; any other closes it, counted, with error class 17. -/
def Claims.SessionsOpen : Prop :=
  (∀ (b : Box) (bs : List Box) (s : State), MgmtHead kHELLO b bs s → commitPending s.dev Page.mgt = false →
    (rdBit s.dev Page.mgt Reg.MGT_SESSION_CFG_INBAND_EN = false ∨ freeSessions s.dev = [] → ReplyFree b.source s →
      ∃ t, exec .hello s = .next t ∧ t.dev.mgt.inbox = bs ∧ Counted Page.mgt Reg.MGT_CNT 1 1 s t ∧
        t.dev.mgt.sessions = s.dev.mgt.sessions ∧ SessionKept s t) ∧
    (rdBit s.dev Page.mgt Reg.MGT_SESSION_CFG_INBAND_EN = true → freeSessions s.dev ≠ [] →
      ((isPort s.dev b.source && portUp s.dev b.source) = false ∨
        (s.dev.units (svcMgt (dieOf b.source)) 7).minimum + 2 ≤ rmin s.dev 7) →
      ∃ t i, exec .hello s = .next t ∧ t.dev.mgt.inbox = bs ∧ i < 8 ∧ (s.dev.session i).opened = false ∧
        (t.dev.session i).opened = true ∧ (t.dev.session i).established = false ∧ (t.dev.session i).port = b.source ∧
        (∀ j, j ≠ i → t.dev.session j = s.dev.session j) ∧ SessionKept s t)) ∧
  (∀ (b : Box) (bs : List Box) (s : State), MgmtHead kAUTH b bs s →
    let i := sessionOf b.cell
    let x := s.dev.session i
    let good := match currentOwner s.dev with
      | some key => Config.edVerify key (x.transcript ++ [2]) (payPart b.cell 12 75)
      | none => false
    i < 8 → x.opened = true → x.established = false →
    ∃ t, exec .auth s = .next t ∧ t.dev.mgt.inbox = bs ∧
      (good = true → (t.dev.session i).established = true ∧ (t.dev.session i).port = x.port ∧
        (rdWord t.dev Page.mgt 0x118).getLsbD i = true ∧ (rdWord t.dev Page.mgt 0x010).getLsbD 18 = true ∧
        Counted Page.mgt Reg.MGT_CNT 0 1 s t) ∧
      (good = false → t.dev.session i = Session.closed ∧ (rdWord t.dev Page.mgt 0x018).getLsbD 17 = true ∧
        (rdWord t.dev Page.mgt 0x010).getLsbD 19 = true ∧ Counted Page.mgt Reg.MGT_CNT 2 1 s t) ∧
      (∀ j, j ≠ i → t.dev.session j = s.dev.session j) ∧ SessionKept s t)

/-- AUTH_TIMEOUT, CLOSE, SESSION_IDLE_TIMEOUT (R423, R424). A session without a valid AUTH for 100 ms, one whose CLOSE cell
passes its tag and SEQ, and one with no valid cell for IDLE_S seconds close, with interrupt 19; a CLOSE cell that fails is
dropped and counted. -/
def Claims.SessionsClose : Prop :=
  (∀ (i : Nat) (s : State), i < 8 → (s.dev.session i).opened = true →
    ((s.dev.session i).established = false → elapsed s.now (s.dev.session i).tick 100000000 = true →
      ∃ t, exec (.authTimeout i) s = .next t ∧ t.dev.session i = Session.closed ∧
        (rdWord t.dev Page.mgt 0x010).getLsbD 19 = true ∧ (rdWord t.dev Page.mgt 0x118).getLsbD i = false ∧
        (∀ j, j ≠ i → t.dev.session j = s.dev.session j) ∧ Kept [.mgt] [] [Page.mgt] s t) ∧
    ((s.dev.session i).established = true → rd s.dev Page.mgt Reg.MGT_SESSION_CFG_IDLE_S ≠ 0 →
      elapsed s.now (s.dev.session i).tick (rd s.dev Page.mgt Reg.MGT_SESSION_CFG_IDLE_S * 1000000000) = true →
      ∃ t, exec (.sessionIdleTimeout i) s = .next t ∧ t.dev.session i = Session.closed ∧
        (rdWord t.dev Page.mgt 0x010).getLsbD 19 = true ∧ (rdWord t.dev Page.mgt 0x118).getLsbD i = false ∧
        (∀ j, j ≠ i → t.dev.session j = s.dev.session j) ∧ Kept [.sw, .mgt] [watchTable] [Page.mgt, Page.voq, Page.tel] s t)) ∧
  (∀ (b : Box) (bs : List Box) (s : State), MgmtHead kCLOSE b bs s →
    let i := sessionOf b.cell
    ∃ t, exec .close s = .next t ∧ t.dev.mgt.inbox = bs ∧ (∀ j, j ≠ i → t.dev.session j = s.dev.session j) ∧
      (openCell s.dev b.cell ≠ none → t.dev.session i = Session.closed ∧ (rdWord t.dev Page.mgt 0x010).getLsbD 19 = true) ∧
      (openCell s.dev b.cell = none → t.dev.session i = s.dev.session i ∧ Counted Page.mgt Reg.MGT_CNT 3 1 s t) ∧
      SessionKept s t)

/-- DATA (R425). A cell that fails its tag or SEQ is dropped and counted. A valid one is taken, its SEQ kept: a request
whose REQ has a stored response is not performed again and is counted so; one of an unlisted OP performs nothing. A
one-word WRITE is the in-band channel's write of that word: memory and every page but MGT and TEL are as that write leaves
them. -/
def Claims.RequestsPerformed : Prop :=
  ∀ (b : Box) (bs : List Box) (s : State), MgmtHead kDATA b bs s →
    let i := sessionOf b.cell
    let x := s.dev.session i
    openCell s.dev b.cell = none ∨ (roomIn s.dev (svcMgt (dieOf x.port)) 7).isSome = true →
    ∃ t, exec .data s = .next t ∧
      (openCell s.dev b.cell = none → t.dev.mgt.inbox = bs ∧ (∀ j, t.dev.session j = s.dev.session j) ∧
        Counted Page.mgt Reg.MGT_CNT 3 1 s t ∧ SessionKept s t) ∧
      (∀ plain, openCell s.dev b.cell = some plain →
        let q := parseRequest plain
        let r := x.responses.find? (fun r => decide (r.1 = q.req))
        let s1 := onDev (fun d => setSession i { x with seqIn := seqOf b.cell, tick := s.now.toNat } (consume b d)) s
        (r ≠ none → t.dev.mgt.inbox = bs ∧ Counted Page.mgt Reg.MGT_CNT 5 1 s t ∧ SessionKept s t) ∧
        (r = none → q.op < opREAD ∨ opSWRITE < q.op →
          t.dev.mgt.inbox = bs ∧ Counted Page.mgt Reg.MGT_CNT 4 1 s t ∧ SessionKept s t) ∧
        (r = none → q.op = opWRITE → q.n = 1 →
          let u := access .inband .bar0 q.offset 4 (join (q.words.getD 0 0) 0) s1
          t.mem = u.mem ∧ PartsKept [.sw, .mgt] u t ∧ PagesKept [Page.mgt, Page.voq, Page.tel] u t))

/-- EVENT and EVENT_SESSION_WRITE (R419). A page that requests an interrupt in band and has sent no event since it rose sends
one in the event session, counted, and sends no other. A write of EVENT_SESSION shows VALID and SESSION and, when it is not
valid or no page requests, sends nothing. -/
def Claims.EventsSent : Prop :=
  (∀ (p : Page) (i : Nat) (s : State), p.exists = true → inbandRequests s.dev p = true →
    sget (konst false) s.dev.ctl.eventSent p.num = false → eventSession s.dev = some i →
    ReplyFree (s.dev.session i).port s →
    ∃ t, exec (.event p) s = .next t ∧ sget (konst false) t.dev.ctl.eventSent p.num = true ∧
      Counted Page.mgt Reg.MGT_CNT 6 1 s t ∧ Kept [.sw, .mgt] [watchTable] [Page.mgt, Page.voq, Page.tel] s t) ∧
  (∀ (src : Src) (valid : Bool) (session : Nat) (s : State), Owns src Page.mgt s → session < 8 →
    valid = false ∨ inbandPages s.dev = [] →
    ∃ t, exec (.eventSessionWrite src valid session) s = .next t ∧
      rdBit t.dev Page.mgt Reg.MGT_EVENT_SESSION_VALID = valid ∧
      rd t.dev Page.mgt Reg.MGT_EVENT_SESSION_SESSION = session ∧ WordsKept Page.mgt [0x11C] s t ∧
      Kept [] [] [Page.mgt] s t)

/-- `Claims.SessionsOpen`, `Claims.SessionsClose` together: each part is stated above with its rules. -/
def Obligations.SessionsOpenAndClose : Prop := Claims.SessionsOpen ∧ Claims.SessionsClose

/-- `Claims.RequestsPerformed`, `Claims.EventsSent` together: each part is stated above with its rules. -/
def Obligations.InbandRequestsAndEvents : Prop := Claims.RequestsPerformed ∧ Claims.EventsSent

/-! ### The security processor, debug, the boot and the journal (ch. 15) -/

/-- MGT's owner writes SEC_CMD while no security command is pending. -/
def SecReady (src : Src) (s : State) : Prop := Owns src Page.mgt s ∧ s.dev.mgt.secPend = none

/-- SEC_STAT shows the command pending, and SEC_CMD_DONE will report `result` and `reason`. -/
def SecShown (op result reason : Nat) (t : State) : Prop :=
  rd t.dev Page.mgt Reg.MGT_SEC_STAT_RESULT = 1 ∧ rd t.dev Page.mgt Reg.MGT_SEC_STAT_OP = op ∧
    t.dev.mgt.secPend = some (result, reason)

/-- The image that UPDATE takes from Stockpot. -/
def stagedImage (s : State) : Image :=
  let src := rd s.dev Page.mgt Reg.MGT_UPDATE_SRC_ADDR * 4096
  let len := rd s.dev Page.mgt Reg.MGT_UPDATE_LEN_BYTES
  { get := fun a n => (List.range n).map (fun k => if a + k < len then memByte s.mem (src + a + k) else 0) }

/-- The security commands of R428 but UNLOCK and RELOCK. ENROLL burns the key while fewer than four are burnt, the first
freely and a further one with the current owner's signature; SVN_COMMIT raises MIN_SVN to the running image's SVN; both are
refused in band with reason 2. ATTEST leaves its report in the output buffer, EXTEND extends M7, CHALLENGE leaves 32 bytes
that the next UNLOCK must carry, and UPDATE writes a staged image that passes its checks to the slot that is not
running. SEC_CMD_DONE reports RESULT and REASON with interrupt 20. -/
def Obligations.SecurityCommands : Prop :=
  (∀ (src : Src) (s : State), SecReady src s →
    let key := secIn s.dev 0 32
    let keys := s.dev.mgt.ownerKeys
    (∃ t, exec (.enroll src) s = .next t ∧ Kept [.mgt] [] [Page.mgt] s t ∧
      (src = .inband → SecShown scENROLL 3 2 t ∧ t.dev.mgt.ownerKeys = keys) ∧
      (src = .pcie → 4 ≤ keys.length → SecShown scENROLL 3 4 t ∧ t.dev.mgt.ownerKeys = keys) ∧
      (src = .pcie → keys = [] → SecShown scENROLL 2 0 t ∧ t.dev.mgt.ownerKeys = [key]) ∧
      (∀ owner, src = .pcie → keys.length < 4 → keys.getLast? = some owner →
        if Config.edVerify owner (digestBytes (Config.sha512 (key ++ bytesLE 8 Config.serial.toNat))) (secIn s.dev 32 64) then
          SecShown scENROLL 2 0 t ∧ t.dev.mgt.ownerKeys = keys ++ [key]
        else SecShown scENROLL 3 1 t ∧ t.dev.mgt.ownerKeys = keys)) ∧
    (∃ t, exec (.svnCommit src) s = .next t ∧ Kept [.mgt] [] [Page.mgt] s t ∧
      (src = .inband → SecShown scSVN_COMMIT 3 2 t ∧ t.dev.mgt.minSvn = s.dev.mgt.minSvn) ∧
      (src = .pcie → SecShown scSVN_COMMIT 2 0 t ∧
        t.dev.mgt.minSvn = max s.dev.mgt.minSvn (rd s.dev Page.mgt Reg.MGT_BOOT_STAT_SVN))) ∧
    (let body := attestBody s.now (secIn s.dev 0 32) s.dev
     ∃ t, exec (.attest src) s = .next t ∧ SecShown scATTEST 2 0 t ∧
      (∀ k, k < 604 → k < body.length → bar4Byte t.dev (0x91000 + k) = body.getD k 0) ∧ Kept [.mgt] [] [Page.mgt] s t) ∧
    (∃ t, exec (.extend src) s = .next t ∧ SecShown scEXTEND 2 0 t ∧
      t.dev.mgt.measure = s.dev.mgt.measure.set 7
        (Config.sha512 (digestBytes (s.dev.mgt.measure.getD 7 0) ++ secIn s.dev 0 64)) ∧ Kept [.mgt] [] [Page.mgt] s t) ∧
    (∃ t, exec (.challenge src) s = .next t ∧ SecShown scCHALLENGE 2 0 t ∧
      t.dev.mgt.challenge = some (bar4Bytes t.dev 0x91000 32) ∧ Kept [.mgt] [] [Page.mgt] s t) ∧
    (let len := rd s.dev Page.mgt Reg.MGT_UPDATE_LEN_BYTES
     let from' := rd s.dev Page.mgt Reg.MGT_UPDATE_SRC_ADDR * 4096
     ∃ t, exec (.update src) s = .next t ∧ Kept [.mgt] [] [Page.mgt] s t ∧
      (if len < 4096 + (stagedImage s).len ∨ slotSize < len ∨ stockpotSize < from' + len ∨
          (imageFails s.dev (stagedImage s)).isSome = true then
        SecShown scUPDATE 3 7 t ∧ t.dev.mgt.flash = s.dev.mgt.flash
      else SecShown scUPDATE 2 0 t ∧
        flashBytes t.dev (slotBase (1 - runningSlot s.dev)) len = memRead s.mem from' len ∧
        flashBytes t.dev (slotBase (runningSlot s.dev)) slotSize = flashBytes s.dev (slotBase (runningSlot s.dev)) slotSize))) ∧
  (∀ (result reason : Nat) (s : State), s.dev.mgt.secPend = some (result, reason) → result < 16 → reason < 16 →
    ∃ t, exec .secCmdDone s = .next t ∧ t.dev.mgt.secPend = none ∧ rd t.dev Page.mgt Reg.MGT_SEC_STAT_RESULT = result ∧
      rd t.dev Page.mgt Reg.MGT_SEC_STAT_REASON = reason ∧ (rdWord t.dev Page.mgt 0x010).getLsbD 20 = true ∧
      Kept [.mgt] [] [Page.mgt] s t)

/-- UNLOCK and RELOCK (R430, R433). A token that passes every check puts its SCOPE in force and extends M5, and every UNLOCK
spends the challenge. RELOCK ends the unlock and releases both controller pairs. -/
def Claims.DebugUnlocks : Prop :=
  ∀ (src : Src) (s : State), SecReady src s →
    (let token := secIn s.dev 0 108
     ∃ t, exec (.unlock src) s = .next t ∧ t.dev.mgt.challenge = none ∧ Kept [.mgt] [] [Page.mgt] s t ∧
      match tokenFails s.dev token with
      | some r => SecShown scUNLOCK 3 r t ∧ rdWord t.dev Page.mgt 0x110 = rdWord s.dev Page.mgt 0x110 ∧
          t.dev.mgt.measure = s.dev.mgt.measure
      | none => SecShown scUNLOCK 2 0 t ∧ dbgUnlocked t.dev = true ∧
          rd t.dev Page.mgt Reg.MGT_DBG_STAT_SCOPE = natOfLE (token.drop 40 |>.take 1) % 8 ∧
          t.dev.mgt.measure = s.dev.mgt.measure.set 5
            (Config.sha512 (digestBytes (s.dev.mgt.measure.getD 5 0) ++ digestBytes (Config.sha512 token)))) ∧
    (∃ t, exec (.relock src) s = .next t ∧ SecShown scRELOCK 2 0 t ∧ dbgUnlocked t.dev = false ∧
      rd t.dev Page.mgt Reg.MGT_DBG_STAT_SCOPE = 0 ∧ haltedMask t.dev = 0 ∧ Kept [.mgt] [] [Page.mgt, Page.dbg] s t)

/-- The DBG page (R431 to R433). With debug unlocked and SCOPE bit 0, DBG_CMD takes the die, space and word of DBG_ADDR and
shows RESULT 1; DBG_CMD_DONE reads or writes the word with RESULT 2, or shows why it may not, with error class 17; both
are counted, with interrupt 16. HALT_CTL halts the pairs of its mask under SCOPE bit 2. A write without its SCOPE bit changes
nothing but the error it sets, class 16. -/
def Claims.DebugPage : Prop :=
  (∀ (src : Src) (w : Bool) (s : State), Owns src Page.dbg s →
    let c : Instr := if w then .dbgWrite src else .dbgRead src
    let die := rd s.dev Page.dbg Reg.DBG_DBG_ADDR_DIE
    let space := rd s.dev Page.dbg Reg.DBG_DBG_ADDR_SPACE
    let at' := rd s.dev Page.dbg Reg.DBG_DBG_ADDR_WORD
    (dbgOpen s.dev = true → s.dev.mgt.dbgCmd = none →
      ∃ t, exec c s = .next t ∧
        t.dev.mgt.dbgCmd = some { write := w, key := dbgKey die space at', data := rdWord s.dev Page.dbg 0x104,
                                  reason := dbgReason s.dev die space at', src := src } ∧
        rd t.dev Page.dbg Reg.DBG_DBG_RESULT_RESULT = 1 ∧ WordsKept Page.dbg [0x10C] s t ∧ Kept [.mgt] [] [Page.dbg] s t) ∧
    (dbgOpen s.dev = false →
      ∃ t, exec c s = .next t ∧ (rdWord t.dev Page.dbg 0x018).getLsbD 16 = true ∧
        WordsKept Page.dbg [0x010, 0x018, 0x01C] s t ∧ Kept [] [] [Page.dbg] s t)) ∧
  (∀ (c : DbgCmd) (s : State), s.dev.mgt.dbgCmd = some c → c.reason < 16 →
    ∃ t, exec .dbgCmdDone s = .next t ∧ t.dev.mgt.dbgCmd = none ∧ (rdWord t.dev Page.dbg 0x010).getLsbD 16 = true ∧
      Kept [.mgt] [watchTable] [Page.dbg, Page.tel] s t ∧
      (c.reason ≠ 0 → rd t.dev Page.dbg Reg.DBG_DBG_RESULT_RESULT = 3 ∧
        rd t.dev Page.dbg Reg.DBG_DBG_RESULT_REASON = c.reason ∧ (rdWord t.dev Page.dbg 0x018).getLsbD 17 = true ∧
        Counted Page.dbg Reg.DBG_CNT 1 1 s t ∧ (∀ k, dbgWordAt t.dev k = dbgWordAt s.dev k)) ∧
      (c.reason = 0 → rd t.dev Page.dbg Reg.DBG_DBG_RESULT_RESULT = 2 ∧ Counted Page.dbg Reg.DBG_CNT 0 1 s t ∧
        (c.write = true → ∀ k, dbgWordAt t.dev k = if k = c.key then c.data else dbgWordAt s.dev k) ∧
        (c.write = false → rdWord t.dev Page.dbg 0x104 = dbgWordAt s.dev c.key ∧
          ∀ k, dbgWordAt t.dev k = dbgWordAt s.dev k))) ∧
  (∀ (src : Src) (mask : Nat) (s : State), Owns src Page.dbg s → mask < 4 →
    (dbgOpen s.dev = true → dbgScope s.dev 2 = true →
      ∃ t, exec (.halt src mask) s = .next t ∧ haltedMask t.dev = mask ∧
        (pairRuns t.dev s.dev.mgt.activePair = false → pairRuns t.dev (1 - s.dev.mgt.activePair) = true →
          t.dev.mgt.activePair = 1 - s.dev.mgt.activePair) ∧
        WordsKept Page.dbg [0x110, 0x114] s t ∧ Kept [.mgt] [] [Page.dbg] s t) ∧
    (dbgOpen s.dev = false ∨ dbgScope s.dev 2 = false →
      ∃ t, exec (.halt src mask) s = .next t ∧ (rdWord t.dev Page.dbg 0x018).getLsbD 16 = true ∧
        WordsKept Page.dbg [0x010, 0x018, 0x01C] s t ∧ Kept [] [] [Page.dbg] s t))

/-- BOOT_VERIFY (R427, R429). While the boot is verifying, the slot whose turn it is runs if it passes every check, its digest
extending M0; otherwise FAIL shows the first check it failed, with interrupt 21 and the other slot's turn, and after the
second slot the boot halts. -/
def Obligations.BootVerifiesImages : Prop :=
  ∀ (slot : Nat) (s : State), slot < 2 → rd s.dev Page.mgt Reg.MGT_BOOT_STAT_STAGE = 1 → s.dev.rst.warmHeld = false →
    s.dev.rst.pwrGood = true → slot = (if s.dev.mgt.bootTried = 0 then firstSlot s.dev else 1 - firstSlot s.dev) →
    let image := slotImage s.dev slot
    ∃ t, exec (.bootVerify slot) s = .next t ∧ Kept [.mgt] [] [Page.mgt] s t ∧
      match imageFails s.dev image with
      | none => rd t.dev Page.mgt Reg.MGT_BOOT_STAT_STAGE = 2 ∧ rd t.dev Page.mgt Reg.MGT_BOOT_STAT_SLOT = slot ∧
          rd t.dev Page.mgt Reg.MGT_BOOT_STAT_SVN = image.svn ∧
          (∀ m ms, s.dev.mgt.measure = m :: ms →
            t.dev.mgt.measure.head? = some (Config.sha512 (digestBytes m ++ image.digest)))
      | some reason => rd t.dev Page.mgt Reg.MGT_BOOT_STAT_FAIL = reason ∧ t.dev.mgt.measure = s.dev.mgt.measure ∧
          t.dev.mgt.bootTried = s.dev.mgt.bootTried + 1 ∧
          (s.dev.mgt.bootTried = 0 → rd t.dev Page.mgt Reg.MGT_BOOT_STAT_STAGE = 1 ∧
            (rdWord t.dev Page.mgt 0x010).getLsbD 21 = true) ∧
          (s.dev.mgt.bootTried ≠ 0 → rd t.dev Page.mgt Reg.MGT_BOOT_STAT_STAGE = 3)

/-- JOURNAL_APPEND and COMPACTION (R434 to R436). An append leaves the record standing for its TYPE and KEY, or with DELETE
none; a program that failed its read-back is written a second time, with error class 18. A compaction of a half 75 %
full makes the other half active with the next generation, every record but commit records standing as before, with
interrupt 22. -/
def Obligations.JournalKeepsRecords : Prop :=
  (∀ (type key : Nat) (value : List Byte) (delete ok : Bool) (s : State),
    let n := if ok then 1 else 2
    ∃ t r, exec (.journalAppend type key value delete ok) s = .next t ∧
      (activeHalf t.dev).recs.getLast? = some r ∧ r.type = type ∧ r.key = key ∧ r.delete = delete ∧
      r.value = value.take 4064 ∧ r.seq + 1 = t.dev.mgt.nextSeq ∧ t.dev.mgt.nextSeq = s.dev.mgt.nextSeq + n ∧
      standing (activeHalf t.dev) type key = (if delete then none else some r) ∧
      (∀ type' key', (type', key') ≠ (type, key) →
        standing (activeHalf t.dev) type' key' = standing (activeHalf s.dev) type' key') ∧
      (ok = false → (rdWord t.dev Page.mgt 0x018).getLsbD 18 = true) ∧ Counted Page.mgt Reg.MGT_CNT 10 n s t ∧
      Kept [.mgt] [watchTable] [Page.mgt, Page.tel] s t) ∧
  (∀ s : State, 3 * halfSize ≤ 4 * (activeHalf s.dev).fill →
    ∃ t, exec .compaction s = .next t ∧ t.dev.mgt.activeHalf = 1 - s.dev.mgt.activeHalf ∧
      (activeHalf t.dev).gen = (activeHalf s.dev).gen + 1 ∧
      (∀ type key, type ≠ 8 → (standing (activeHalf t.dev) type key).map JRec.value =
        (standing (activeHalf s.dev) type key).map JRec.value) ∧
      (rdWord t.dev Page.mgt 0x010).getLsbD 22 = true ∧
      Counted Page.mgt Reg.MGT_CNT 10 (activeHalf t.dev).recs.length s t ∧
      Kept [.mgt] [watchTable] [Page.mgt, Page.tel] s t)

/-- `Claims.DebugUnlocks`, `Claims.DebugPage` together: each part is stated above with its rules. -/
def Obligations.DebugAccess : Prop := Claims.DebugUnlocks ∧ Claims.DebugPage

/-! ### Resets and faults (ch. 16, 18) -/

/-- COLD_RESET (R14, R441, R443). The counter counts from 0, Stockpot is lost, and every register of a page other than MGT, TIM,
PMC and the lasers reads its cold value; no table entry, cell, context or circuit remains. The fuses and the flash are
kept, and the resets are counted. -/
def Claims.ColdResetClears : Prop :=
  ∀ s : State, ∃ t, exec .coldReset s = .next t ∧ t.pending = s.pending ∧ t.now = 0 ∧ t.mem = [] ∧
    t.dev.ctl.tables = [] ∧ t.dev.ctl.staged = [] ∧ t.dev.sw = Sw.reset ∧ t.dev.col = Col.reset ∧
    t.dev.byp = Byp.reset ∧ t.dev.stk = Stk.reset ∧ t.dev.tim = Tim.reset ∧ t.dev.lnk.ports = [] ∧
    t.dev.mgt.ownerKeys = s.dev.mgt.ownerKeys ∧ t.dev.mgt.minSvn = s.dev.mgt.minSvn ∧
    t.dev.mgt.vendorDebugOff = s.dev.mgt.vendorDebugOff ∧ t.dev.mgt.flash = s.dev.mgt.flash ∧
    t.dev.mgt.coldResets = s.dev.mgt.coldResets + 1 ∧ t.dev.mgt.sessions = [] ∧
    (∀ (p : Page) (off : Nat), p.inst < 4096 → off < 4096 → p.blk ≠ .mgt → p.blk ≠ .tim → p.blk ≠ .pmc →
      ¬ (p.blk = .opt ∧ 8 ≤ p.inst) → rdWord t.dev p off = p.resetWord off)

/-- WARM_RESET and PERST_N_DEASSERTED (R442, R443, R491). With no port UP or in departure a warm reset takes effect at once: LAST
is 1 and PKG counts it, tables and cells are gone, while the counter, Stockpot with its poison, the offset and RATE of fabric
time, the fuses and the flash are kept. Without power the pin alone changes. The pin's release ends the hold; a pin asserted
for less than 100 µs loses Stockpot. -/
def Claims.WarmResetKeeps : Prop :=
  (∀ s : State, s.dev.rst.perst = false →
    (s.dev.rst.pwrGood = true → (∀ l, l < 1024 → portUp s.dev l = false) → anyDeparting s.dev = false → s.dev.stk.accs = [] →
      ∃ t, exec .warmReset s = .next t ∧ CoreKept s t ∧ t.dev.rst.perst = true ∧ t.dev.rst.warmDue = false ∧
        t.dev.rst.warmHeld = true ∧ t.dev.rst.perstTick = s.now.toNat ∧
        rd t.dev Page.pkg Reg.PKG_RESET_STAT_LAST = 1 ∧ rd64 t.dev Page.pkg Reg.PKG_CNT = 1 ∧
        t.dev.ctl.tables = [] ∧ t.dev.sw = Sw.reset ∧ t.dev.col = Col.reset ∧ t.dev.byp = Byp.reset ∧
        t.dev.stk.poisoned = s.dev.stk.poisoned ∧ t.dev.tim.offset = s.dev.tim.offset ∧
        t.dev.tim.anchor = s.dev.tim.anchor ∧ rdWord t.dev Page.tim 0x108 = rdWord s.dev Page.tim 0x108 ∧
        rdWord t.dev Page.tim 0x104 = rdWord s.dev Page.tim 0x104 ∧ t.dev.mgt.ownerKeys = s.dev.mgt.ownerKeys ∧
        t.dev.mgt.minSvn = s.dev.mgt.minSvn ∧ t.dev.mgt.flash = s.dev.mgt.flash ∧
        t.dev.mgt.coldResets = s.dev.mgt.coldResets) ∧
    (s.dev.rst.pwrGood = false →
      exec .warmReset s = .next (onDev (fun d => { d with rst := { d.rst with perst := true } }) s))) ∧
  (∀ s : State, s.dev.rst.perst = true → s.dev.rst.warmDue = false →
    ∃ t, exec .perstNDeasserted s = .next t ∧ t.pending = s.pending ∧ t.now = s.now ∧ t.dev.rst.perst = false ∧
      t.dev.rst.warmHeld = false ∧ TablesKept s t ∧ PartsKept [.rst, .stk] s t ∧ PagesKept [] s t ∧
      (s.dev.rst.warmHeld = false ∨ elapsed s.now s.dev.rst.perstTick 100000 = true →
        t.mem = s.mem ∧ t.dev.stk = s.dev.stk) ∧
      (s.dev.rst.warmHeld = true → elapsed s.now s.dev.rst.perstTick 100000 = false →
        t.mem = [] ∧ t.dev.stk.poisoned = []))

/-- HOT and DRAIN (R450, R451, R461). The host's write starts the reset: PHASE is 1, LAST 2 for a hot reset and 3 for a drain,
PKG counts it, and every port UP departs. While a reset runs a write sets error class 19 and nothing else; a write of the
in-band channel waits, and takes effect as INBAND_RESET_DELAY 10 µs later. -/
def Obligations.ResetsStart : Prop :=
  (∀ (drain : Bool) (s : State), commitPending s.dev Page.pkg = false →
    let c : Src → Instr := fun src => if drain then .drain src else .hot src
    let type := if drain then 2 else 1
    (Owns .pcie Page.pkg s → resetting s.dev = false →
      ∃ t, exec (c .pcie) s = .next t ∧ t.pending = s.pending ∧ t.now = s.now ∧ resetPhase t.dev = 1 ∧
        rd t.dev Page.pkg Reg.PKG_RESET_STAT_LAST = type + 1 ∧ t.dev.rst.tick = s.now.toNat ∧
        Counted Page.pkg Reg.PKG_CNT type 1 s t ∧
        (∀ l, isPort s.dev l = true → portUp s.dev l = true → (t.dev.port l).departing ≠ .no)) ∧
    (Owns .pcie Page.pkg s → resetting s.dev = true →
      ∃ t, exec (c .pcie) s = .next t ∧ (rdWord t.dev Page.pkg 0x018).getLsbD 19 = true ∧
        WordsKept Page.pkg [0x010, 0x018, 0x01C] s t ∧ Kept [] [] [Page.pkg] s t) ∧
    (Owns .inband Page.pkg s →
      ∃ t, exec (c .inband) s = .next t ∧ t.dev.rst.delayed = s.dev.rst.delayed ++ [(type, s.now.toNat)] ∧
        PagesKept [] s t ∧ Kept [.rst] [] [] s t)) ∧
  (∀ (type t0 : Nat) (rest : List (Nat × Nat)) (s : State), s.dev.rst.delayed = (type, t0) :: rest → type = 1 ∨ type = 2 →
    elapsed s.now t0 10000 = true → resetting s.dev = false →
    ∃ t, exec .inbandResetDelay s = .next t ∧ t.pending = s.pending ∧ t.now = s.now ∧ resetPhase t.dev = 1 ∧
      rd t.dev Page.pkg Reg.PKG_RESET_STAT_LAST = type + 1 ∧ t.dev.rst.delayed = rest)

/-- DEPART_DARK, DRAIN_DISCARD_POINT, HOT_RESET_DONE (R444, R448, R450). A departing port whose codewords are covered goes dark.
A hot reset reaches its discard point at 5 µs, a drain at DRAIN_US at the latest: PHASE is 3, the time is shown, and every
page in scope is being reset with ENABLE 0. When it is done PHASE is 4 with interrupt 16, and each page in scope has failed
or, unless it was enabled before, is idle. -/
def Obligations.ResetsRunAndEnd : Prop :=
  (∀ (lane : Nat) (s : State), lane < 1024 → isPort s.dev lane = true → linkState s.dev lane ≠ lsDisabled →
    (s.dev.port lane).dark = false → ackWaitOver s.now (s.dev.port lane) = true → drainHolds s.dev lane = false →
    onlyTileResets s.dev lane = false → s.dev.rst.warmDue = false →
    ∃ t, exec (.departDark lane) s = .next t ∧ CoreKept s t ∧ (t.dev.port lane).dark = true ∧
      (t.dev.port lane).departing = .no ∧ linkState t.dev lane = lsSearch) ∧
  (∀ s : State, resetting s.dev = true → resetPhase s.dev ≠ 3 →
    (rd s.dev Page.pkg Reg.PKG_RESET_STAT_LAST = 2 ∧ resetElapsed s 5000 = true) ∨
      (rd s.dev Page.pkg Reg.PKG_RESET_STAT_LAST ≠ 2 ∧
        resetElapsed s (rd s.dev Page.pkg Reg.PKG_RESET_CFG_DRAIN_US * 1000) = true) →
    ∃ t, exec .drainDiscardPoint s = .next t ∧ t.pending = s.pending ∧ t.now = s.now ∧ resetPhase t.dev = 3 ∧
      rd t.dev Page.pkg Reg.PKG_RESET_STAT_DRAIN_TIME = min 0xFFFF (ticksSince s.now s.dev.rst.tick / 1600) ∧
      (∀ q ∈ scopePages s.dev, pageState t.dev q = stAborting ∧ rdBit t.dev q Reg.PAGE_CTL_ENABLE = false)) ∧
  (∀ (failed : List Page) (s : State), resetPhase s.dev = 3 →
    failStopped s.dev = false ∨ Page.pkg ∉ failed →
    ∃ t, exec (.hotResetDone failed) s = .next t ∧ t.pending = s.pending ∧ t.now = s.now ∧ resetPhase t.dev = 4 ∧
      failStopped t.dev = false ∧ (rdWord t.dev Page.pkg 0x010).getLsbD 16 = true ∧ t.dev.rst.enables = [] ∧
      (∀ q ∈ scopePages s.dev, (q ∈ failed → pageState t.dev q = stFailed) ∧
        (q ∉ failed → q ∉ s.dev.rst.enables → pageState t.dev q = stIdle)))

/-- A hot reset records which pages in its scope had ENABLE 1 at the write, and at its end writes ENABLE 1 back to every one of
them but those that fail their checks, which stay failed (R444). -/
def Obligations.EnablesWrittenBack : Prop :=
  (∀ s : State, Owns .pcie Page.pkg s → commitPending s.dev Page.pkg = false → resetting s.dev = false →
    ∃ t, exec (.hot .pcie) s = .next t ∧
      ∀ q, q ∈ t.dev.rst.enables ↔ q ∈ scopePages s.dev ∧ rdBit s.dev q Reg.PAGE_CTL_ENABLE = true) ∧
  (∀ (failed : List Page) (s : State), resetPhase s.dev = 3 → failStopped s.dev = false ∨ Page.pkg ∉ failed →
    ∃ t, exec (.hotResetDone failed) s = .next t ∧
      ∀ q ∈ scopePages s.dev, q ∈ s.dev.rst.enables →
        (q ∉ failed → rdBit t.dev q Reg.PAGE_CTL_ENABLE = true) ∧ (q ∈ failed → pageState t.dev q = stFailed))

/-- PCIE_HOT_RESET, POWER_STATE_CHANGE, POWER_DOWN (R414, R416, R447, R490). The function's own reset clears Bus Master Enable,
MSI-X Enable and the MSI-X table, and holds pending every vector whose condition is true. A change of power state changes
the state alone; a return to D0 sends the vectors held. The fall of PWR_GOOD drives every LSR_EN low. -/
def Obligations.FunctionAndPower : Prop :=
  ∀ s : State,
    (∃ t, exec .pcieHotReset s = .next t ∧ t.dev.ctl.busMaster = false ∧ t.dev.ctl.msixEnable = false ∧
      t.dev.ctl.d3hot = false ∧ (∀ v, v < 256 → sget (konst false) t.dev.ctl.pba v = vectorTrue s.dev v) ∧
      (∀ a, bar4Byte t.dev a = if 0x80000 ≤ a ∧ a < 0x81000 then bar4Default a else bar4Byte s.dev a) ∧
      Kept [.mgt] [] [] s t) ∧
    (∀ v : Bool, ∃ t, exec (.powerStateChange v) s = .next t ∧ t.dev.ctl.d3hot = v ∧ Kept [] [] [] s t ∧
      (v = false → ∀ k, k < 256 → vectorOpen t.dev k = true → sget (konst false) t.dev.ctl.pba k = false)) ∧
    (∃ t, exec .powerDown s = .next t ∧ t.dev.rst.pwrGood = false ∧
      (∀ m, m < 16 → (t.dev.laserRec m).en = false ∧ rd t.dev (Page.laser m) Reg.LSR_STAT_OUTPUT = 0) ∧
      Kept [.lnk, .rst] [] ((List.range 16).map Page.laser) s t)

/-- REGION_FENCE, MID_FAIL, LOCKSTEP_MISMATCH (R455, R456). A fenced region is shown in CHIP_STAT, its core blocks are fenced, its
LOAD reads full, and PKG reports class 17 with interrupt 18. The failure of a MID fails STK and COL, and PKG reports class
18. A mismatch fails its controller pair: Voruir passes from it to the other pair, or with both failed MGT has failed. -/
def Claims.UnitsFenced : Prop :=
  (∀ (r : Nat) (s : State), r < 8 → regionFenced s.dev r = false →
    ∃ t, exec (.regionFence r) s = .next t ∧ t.pending = s.pending ∧ t.now = s.now ∧ regionFenced t.dev r = true ∧
      (∀ b, b / 4 = r → blockFenced t.dev b = true) ∧ rd t.dev Page.xbs (Reg.XBS_LOAD_PORT.idx r) = 255 ∧
      (rdWord t.dev Page.pkg 0x018).getLsbD 17 = true ∧ (rdWord t.dev Page.pkg 0x010).getLsbD 18 = true) ∧
  (∀ (mid : Nat) (s : State), mid < 2 → s.dev.rst.midFailed.contains mid = false →
    ∃ t, exec (.midFail mid) s = .next t ∧ t.pending = s.pending ∧ t.now = s.now ∧ t.dev.rst.midFailed.contains mid = true ∧
      (rdWord t.dev Page.pkg 0x018).getLsbD 18 = true ∧
      (∀ q, q = Page.stk ∨ q = Page.col → pageState s.dev q ≠ stAborting → pageState t.dev q = stFailed)) ∧
  (∀ (pair : Nat) (s : State), pair < 2 → s.dev.mgt.failedPairs.contains pair = false →
    ∃ t, exec (.lockstepMismatch pair) s = .next t ∧ CoreKept s t ∧
      t.dev.mgt.failedPairs = s.dev.mgt.failedPairs ++ [pair] ∧ (rdWord t.dev Page.pkg 0x018).getLsbD 18 = true ∧
      PartsKept [.mgt, .rst] s t ∧ EntriesKept [watchTable, (Page.pkg, 0)] s t ∧
      PagesKept [Page.pkg, Page.mgt, Page.tel] s t ∧
      (s.dev.mgt.activePair = pair → pairRuns s.dev (1 - pair) = true → t.dev.mgt.activePair = 1 - pair) ∧
      (s.dev.mgt.failedPairs.contains (1 - pair) = true → pageState s.dev Page.mgt ≠ stAborting →
        pageState t.dev Page.mgt = stFailed))

/-- FAIL_STOP and RAIL_UNDERVOLTAGE (R457, R491). A chip that has not stopped, with no reset running, stops: CHIP_STAT shows it,
PKG reports class 18 with interrupt 19 and shows failed, and every queued, staged and waiting cell is gone. A chip already
stopped, or a rail without power-good, changes nothing. -/
def Claims.ChipFailsStop : Prop :=
  ∀ (c : Instr) (s : State), (∃ detail, c = .failStop detail) ∨ (∃ rail, rail < 34 ∧ c = .railUndervoltage rail) →
    (failStopped s.dev = false → resetting s.dev = false → s.dev.rst.pwrGood = true →
      ∃ t, exec c s = .next t ∧ t.pending = s.pending ∧ t.now = s.now ∧ failStopped t.dev = true ∧
        (rdWord t.dev Page.pkg 0x018).getLsbD 18 = true ∧ (rdWord t.dev Page.pkg 0x010).getLsbD 19 = true ∧
        (pageState s.dev Page.pkg ≠ stAborting → pageState t.dev Page.pkg = stFailed) ∧
        t.dev.sw.voqs = [] ∧ t.dev.sw.staging = [] ∧ t.dev.col.inbox = [] ∧ t.dev.stk.inbox = []) ∧
    (failStopped s.dev = true ∨ (s.dev.rst.pwrGood = false ∧ ∃ rail, c = .railUndervoltage rail) → exec c s = .next s)

/-- `Claims.ColdResetClears`, `Claims.WarmResetKeeps` together: each part is stated above with its rules. -/
def Obligations.ColdAndWarm : Prop := Claims.ColdResetClears ∧ Claims.WarmResetKeeps

/-- `Claims.UnitsFenced`, `Claims.ChipFailsStop` together: each part is stated above with its rules. -/
def Obligations.DeviceFaults : Prop := Claims.UnitsFenced ∧ Claims.ChipFailsStop

/-! ### Telemetry (ch. 17) -/

/-- CAPTURE and CAPTURE_DONE (R467, R468). A capture notes the fabric time and, of a watch in the capture set, its counter and
COUNT; one asked for while BUSY is counted, and a watch that names that counter counts it too. CAPTURE_DONE shows each
watch's values in its 16 bytes of the capture window, CAPTURE_NS and one capture more, with interrupt 18. -/
def Obligations.CapturesShown : Prop :=
  (∀ (src : Src) (w : Nat) (ws : List W32) (s : State), Owns src Page.tel s → w < 256 → 3 ≤ ws.length →
    s.dev.ctl.tables = [(tblKey Page.tel 0 w, ws)] → wbit ws 0 31 = true →
    (rdBit s.dev Page.tel Reg.TEL_CAPTURE_STAT_BUSY = false →
      ∃ t, exec (.capture src) s = .next t ∧ rdBit t.dev Page.tel Reg.TEL_CAPTURE_STAT_BUSY = true ∧
        t.dev.tel.captureNs = fabricNs s.dev s.now ∧
        (wbit ws 0 30 = true → sget (konst (0, 0)) t.dev.tel.samples w =
          ((s.dev.ctl.word (wbits ws 0 27 0)).toNat + 2 ^ 32 * (s.dev.ctl.word (wbits ws 0 27 0 + 4)).toNat, word64 ws 1)) ∧
        Kept [.tel] [] [Page.tel] s t) ∧
    (rdBit s.dev Page.tel Reg.TEL_CAPTURE_STAT_BUSY = true →
      ∃ t, exec (.capture src) s = .next t ∧ t.dev.tel = s.dev.tel ∧
        (wbits ws 0 27 0 = Page.tel.base + Reg.TEL_CNT.off + 48 → word64 ws 1 + 1 < 2 ^ 64 →
          word64 (tget t.dev Page.tel 0 w) 1 = word64 ws 1 + 1 ∧ Counted Page.tel Reg.TEL_CNT 6 1 s t) ∧
        Kept [] [watchTable] [Page.tel] s t)) ∧
  (∀ s : State, rdBit s.dev Page.tel Reg.TEL_CAPTURE_STAT_BUSY = true →
    ∃ t, exec .captureDone s = .next t ∧ rdBit t.dev Page.tel Reg.TEL_CAPTURE_STAT_BUSY = false ∧
      rd64 t.dev Page.tel Reg.TEL_CAPTURE_NS = s.dev.tel.captureNs % 2 ^ 64 ∧
      rd t.dev Page.tel Reg.TEL_CAPTURE_STAT_COUNT = (rd s.dev Page.tel Reg.TEL_CAPTURE_STAT_COUNT + 1) % 2 ^ 16 ∧
      (∀ w, w < 256 → bar4Bytes t.dev (0x800000 + 16 * w) 16 =
        bytesLE 8 (sget (konst (0, 0)) s.dev.tel.samples w).1 ++ bytesLE 8 (sget (konst (0, 0)) s.dev.tel.samples w).2) ∧
      (rdWord t.dev Page.tel 0x010).getLsbD 18 = true ∧ Kept [.mgt, .tel] [] [Page.tel] s t)

/-- RECORD_WRITE and RING_CFG_WRITE (R471, R472). The oldest record of a die's buffer takes the ring's next 64 bytes, its number
and CRC added, and RING_WR goes up; no other byte changes. A full ring drops the record, counted, or in MODE 1 gives up its
oldest; interrupt 16 is set where the fill reaches RING_THRESH. A RING_CFG within the sampling area, on a page idle or quiesced, takes effect and empties the ring; one beyond it sets
BAD_ENCODING, and one on a page that runs Q_REJECT. -/
def Obligations.RecordsRinged : Prop :=
  (∀ (die : Nat) (body : List Byte) (rest : List (List Byte)) (s : State), die < 2 → dieBuffer s.dev die = body :: rest →
    let n := ringWr s.dev
    let full := ringSize s.dev ≤ ringFill s.dev
    let mode := rdBit s.dev Page.tel Reg.TEL_RING_CFG_MODE
    let a := ringBase s.dev + 64 * (n % ringSize s.dev)
    let rec' := sealRecord n body
    ∃ t, exec (.recordWrite die) s = .next t ∧ dieBuffer t.dev die = rest ∧
      dieBuffer t.dev (1 - die) = dieBuffer s.dev (1 - die) ∧ t.pending = s.pending ∧ t.now = s.now ∧ SoftKept s t ∧
      PartsKept [.stk, .tel] s t ∧ EntriesKept [watchTable] s t ∧ PagesKept [Page.tel] s t ∧
      (full → mode = false → t.mem = s.mem ∧ ringWr t.dev = n ∧ Counted Page.tel Reg.TEL_CNT 3 1 s t) ∧
      (¬ full ∨ mode = true → ringWr t.dev = (n + 1) % 2 ^ 32 ∧ Counted Page.tel Reg.TEL_CNT 1 1 s t ∧
        (∀ x, memByte t.mem x = if a ≤ x ∧ x < a + rec'.length then rec'.getD (x - a) 0 else memByte s.mem x)) ∧
      (full → mode = true → ringRd t.dev = (ringRd s.dev + 1) % 2 ^ 32 ∧ Counted Page.tel Reg.TEL_CNT 4 1 s t) ∧
      (¬ full → ringRd t.dev = ringRd s.dev) ∧
      (ringFill s.dev < rd s.dev Page.tel Reg.TEL_RING_THRESH_RECORDS →
        rd s.dev Page.tel Reg.TEL_RING_THRESH_RECORDS ≤ ringFill t.dev →
        (rdWord t.dev Page.tel 0x010).getLsbD 16 = true)) ∧
  (∀ (src : Src) (value : W32) (s : State), Owns src Page.tel s →
    let size := bitsOf value 26 16
    let offset := bitsOf value 9 0
    (quiescedOrIdle s.dev Page.tel = true → 1 ≤ size → offset + size ≤ 1024 →
      ∃ t, exec (.ringCfgWrite src value) s = .next t ∧ rd t.dev Page.tel Reg.TEL_RING_CFG_SIZE_MIB = size ∧
        rd t.dev Page.tel Reg.TEL_RING_CFG_OFFSET_MIB = offset ∧
        rdBit t.dev Page.tel Reg.TEL_RING_CFG_MODE = value.getLsbD 31 ∧ ringWr t.dev = 0 ∧ ringRd t.dev = 0 ∧
        WordsKept Page.tel [0x104, 0x108, 0x10C] s t ∧ Kept [] [] [Page.tel] s t) ∧
    (quiescedOrIdle s.dev Page.tel = true → 1 ≤ size → size ≤ 1024 → 1024 < offset + size →
      ∃ t, exec (.ringCfgWrite src value) s = .next t ∧ (rdWord t.dev Page.tel 0x018).getLsbD errBadEncoding = true ∧
        WordsKept Page.tel [0x010, 0x018, 0x01C] s t ∧ Kept [] [] [Page.tel] s t) ∧
    (quiescedOrIdle s.dev Page.tel = false →
      ∃ t, exec (.ringCfgWrite src value) s = .next t ∧ (rdWord t.dev Page.tel 0x018).getLsbD errQReject = true ∧
        WordsKept Page.tel [0x010, 0x018, 0x01C] s t ∧ Kept [] [] [Page.tel] s t))
end

