-- ==== Sys2Proof/Laws/Maps.lean ====
section
/-! SUPPORT. Sparse maps: a read after a write, the canonical form and that every write keeps it. -/

namespace Sys2Proof.Machine

@[simp] theorem konst_apply {α : Type} (v : α) (k : Nat) : konst v k = v := rfl

@[simp] theorem sget_nil {α : Type} (d : Nat → α) (k : Nat) : sget d [] k = d k := rfl

variable {α : Type} [DecidableEq α]

/-- A read of the key just written. -/
@[simp] theorem sget_sset_same (d : Nat → α) (m : SMap α) (k : Nat) (v : α) : sget d (sset d m k v) k = v := by
  induction m with
  | nil => by_cases h : v = d k <;> simp [sset, sget, h]
  | cons e m ih =>
    obtain ⟨a, w⟩ := e
    simp only [sset]
    split_ifs with h1 h2 h3 h4
    · simp only [sget, if_neg (Nat.ne_of_gt h1)]; exact ih
    · simp [sget]
    · exact ih
    · simp [sget]
    · simp only [sget, if_neg h3]; exact ih

/-- A read of another key. -/
theorem sget_sset_ne (d : Nat → α) (m : SMap α) {k j : Nat} (v : α) (h : k ≠ j) :
    sget d (sset d m k v) j = sget d m j := by
  induction m with
  | nil => by_cases h1 : v = d k <;> simp [sset, sget, h1, h]
  | cons e m ih =>
    obtain ⟨a, w⟩ := e
    simp only [sset]
    split_ifs with h1 h2 h3 h4
    · simp only [sget, ih]
    · simp only [sget, if_neg h]
    · subst h3; simp only [sget, if_neg h, ih]
    · subst h3; simp only [sget, if_neg h]
    · simp only [sget, ih]

theorem sget_sset (d : Nat → α) (m : SMap α) (k j : Nat) (v : α) :
    sget d (sset d m k v) j = if k = j then v else sget d m j := by
  split_ifs with h
  · subst h; exact sget_sset_same d m k v
  · exact sget_sset_ne d m v h

@[simp] theorem sget_supd_same (d : Nat → α) (m : SMap α) (k : Nat) (f : α → α) :
    sget d (supd d m k f) k = f (sget d m k) := by simp [supd]

theorem sget_supd_ne (d : Nat → α) (m : SMap α) {k j : Nat} (f : α → α) (h : k ≠ j) :
    sget d (supd d m k f) j = sget d m j := sget_sset_ne d m _ h

theorem swfFrom_mono (d : Nat → α) (m : SMap α) {lo lo' : Nat} (h : lo' ≤ lo) (hw : swfFrom d lo m = true) :
    swfFrom d lo' m = true := by
  cases m with
  | nil => rfl
  | cons e m =>
    obtain ⟨a, w⟩ := e
    simp only [swfFrom, Bool.and_eq_true, decide_eq_true_eq] at hw ⊢
    exact ⟨⟨le_trans h hw.1.1, hw.1.2⟩, hw.2⟩

/-- A write above the bound keeps the canonical form. -/
theorem swfFrom_sset (d : Nat → α) (m : SMap α) (lo k : Nat) (v : α) (hk : lo ≤ k)
    (hw : swfFrom d lo m = true) : swfFrom d lo (sset d m k v) = true := by
  induction m generalizing lo with
  | nil => by_cases h : v = d k <;> simp [sset, swfFrom, h, hk]
  | cons e m ih =>
    obtain ⟨a, w⟩ := e
    have hw' := hw
    simp only [swfFrom, Bool.and_eq_true, decide_eq_true_eq] at hw
    obtain ⟨⟨h1, h2⟩, h3⟩ := hw
    have below : ∀ (m : SMap α) (b k : Nat), k < b → v = d k → swfFrom d b m = true → sset d m k v = m := by
      intro m b k hkb hv hm
      induction m generalizing b with
      | nil => simp [sset, hv]
      | cons e m ihm =>
        obtain ⟨a, w⟩ := e
        simp only [swfFrom, Bool.and_eq_true, decide_eq_true_eq] at hm
        have hlt : k < a := lt_of_lt_of_le hkb hm.1.1
        simp only [sset, if_pos hlt, if_pos hv]
        rw [ihm (a + 1) (by omega) hm.2]
    simp only [sset]
    split_ifs with c1 c2 c3 c4
    · rw [below m (a + 1) k (by omega) c2 h3]; exact hw'
    · simp only [swfFrom, Bool.and_eq_true, decide_eq_true_eq]
      exact ⟨⟨hk, c2⟩, ⟨⟨by omega, h2⟩, h3⟩⟩
    · subst c3
      rw [below m (a + 1) a (by omega) c4 h3]
      exact swfFrom_mono d m (by omega) h3
    · subst c3
      simp only [swfFrom, Bool.and_eq_true, decide_eq_true_eq]
      exact ⟨⟨h1, c4⟩, h3⟩
    · simp only [swfFrom, Bool.and_eq_true, decide_eq_true_eq]
      exact ⟨⟨h1, h2⟩, ih (a + 1) (by omega) h3⟩

/-- Every write keeps the canonical form. -/
theorem swf_sset (d : Nat → α) (m : SMap α) (k : Nat) (v : α) (hw : swf d m = true) : swf d (sset d m k v) = true :=
  swfFrom_sset d m 0 k v (Nat.zero_le k) hw

theorem swf_supd (d : Nat → α) (m : SMap α) (k : Nat) (f : α → α) (hw : swf d m = true) : swf d (supd d m k f) = true :=
  swf_sset d m k _ hw

@[simp] theorem swf_nil (d : Nat → α) : swf d [] = true := rfl

theorem sget_below (d : Nat → α) (m : SMap α) (lo k : Nat) (h : k < lo) (hw : swfFrom d lo m = true) : sget d m k = d k := by
  induction m generalizing lo with
  | nil => rfl
  | cons e m ih =>
    obtain ⟨a, w⟩ := e
    simp only [swfFrom, Bool.and_eq_true, decide_eq_true_eq] at hw
    simp only [sget, if_neg (by omega : ¬a = k)]
    exact ih (a + 1) (by omega) hw.2

/-- Equal reads at every key make equal canonical maps. -/
theorem swfFrom_ext (d : Nat → α) (m n : SMap α) (lo : Nat) (hm : swfFrom d lo m = true) (hn : swfFrom d lo n = true)
    (h : ∀ k, sget d m k = sget d n k) : m = n := by
  induction m generalizing n lo with
  | nil =>
    cases n with
    | nil => rfl
    | cons e n =>
      obtain ⟨b, v⟩ := e
      simp only [swfFrom, Bool.and_eq_true, decide_eq_true_eq] at hn
      have := h b
      simp only [sget, if_true] at this
      exact absurd this.symm hn.1.2
  | cons e m ih =>
    obtain ⟨a, w⟩ := e
    simp only [swfFrom, Bool.and_eq_true, decide_eq_true_eq] at hm
    cases n with
    | nil =>
      have := h a
      simp only [sget, if_true] at this
      exact absurd this hm.1.2
    | cons e n =>
      obtain ⟨b, v⟩ := e
      simp only [swfFrom, Bool.and_eq_true, decide_eq_true_eq] at hn
      have hab : a = b := by
        rcases lt_trichotomy a b with c | c | c
        · have := h a
          simp only [sget, if_true, if_neg (by omega : ¬b = a)] at this
          rw [sget_below d n (b + 1) a (by omega) hn.2] at this
          exact absurd this hm.1.2
        · exact c
        · have := h b
          simp only [sget, if_true, if_neg (by omega : ¬a = b)] at this
          rw [sget_below d m (a + 1) b (by omega) hm.2] at this
          exact absurd this.symm hn.1.2
      subst hab
      have hwv : w = v := by have := h a; simpa [sget] using this
      subst hwv
      rw [ih n (a + 1) hm.2 hn.2 (fun k => ?_)]
      by_cases hk : a = k
      · subst hk
        rw [sget_below d m (a + 1) a (by omega) hm.2, sget_below d n (a + 1) a (by omega) hn.2]
      · have := h k; simpa [sget, hk] using this

end Sys2Proof.Machine
end

