-- ==== Sys2Proof/Laws/State.lean ====
section
/-! SUPPORT. The state's records under the named updates: each part of the state that an update leaves alone, one lemma
per part and update. -/

namespace Sys2Proof.Machine

/-! ### The machine -/

@[simp] theorem onDev_pending (f : Dev → Dev) (s : State) : (onDev f s).pending = s.pending := rfl
@[simp] theorem onDev_now (f : Dev → Dev) (s : State) : (onDev f s).now = s.now := rfl
@[simp] theorem onDev_mem (f : Dev → Dev) (s : State) : (onDev f s).mem = s.mem := rfl
@[simp] theorem onDev_dev (f : Dev → Dev) (s : State) : (onDev f s).dev = f s.dev := rfl
@[simp] theorem memberSet_pending (i : Nat) (ws : List W32) (s : State) : (memberSet i ws s).pending = s.pending := rfl
@[simp] theorem memberSet_now (i : Nat) (ws : List W32) (s : State) : (memberSet i ws s).now = s.now := rfl
@[simp] theorem memberSet_dev (i : Nat) (ws : List W32) (s : State) : (memberSet i ws s).dev = s.dev := rfl

/-- An effect on existing units answers its next state. -/
theorem effect_next (c : Instr) (f : State → State) (s : State) (h : c.wf = true) : effect c f s = .next (f s) := by
  simp [effect, h]

theorem effect_fault (c : Instr) (f : State → State) (s : State) (h : c.wf = false) :
    effect c f s = .fault .noSuchUnit := by simp [effect, h]

/-- What an effect answers. -/
theorem effect_cases (c : Instr) (f : State → State) (s : State) :
    (c.wf = true ∧ effect c f s = .next (f s)) ∨ (c.wf = false ∧ effect c f s = .fault .noSuchUnit) := by
  cases h : c.wf <;> simp [effect, h]

theorem effect_eq_next {c : Instr} {f : State → State} {s t : State} (h : effect c f s = .next t) : t = f s := by
  rcases effect_cases c f s with ⟨_, e⟩ | ⟨_, e⟩ <;> rw [e] at h
  · exact (Host.Outcome.next.inj h).symm
  · cases h

@[simp] theorem doIf_true (f : Dev → Dev) (d : Dev) : doIf true f d = f d := rfl
@[simp] theorem doIf_false (f : Dev → Dev) (d : Dev) : doIf false f d = d := rfl
@[simp] theorem forEach_nil {α : Type} (f : α → Dev → Dev) (d : Dev) : forEach [] f d = d := rfl
@[simp] theorem forEach_cons {α : Type} (a : α) (l : List α) (f : α → Dev → Dev) (d : Dev) :
    forEach (a :: l) f d = forEach l f (f a d) := rfl

/-- What every pass of a fold keeps, the fold keeps. -/
theorem forEach_keeps {α β : Type} (g : Dev → β) (l : List α) (f : α → Dev → Dev) (h : ∀ a d, g (f a d) = g d) (d : Dev) :
    g (forEach l f d) = g d := by
  induction l generalizing d with
  | nil => rfl
  | cons a l ih => rw [forEach_cons, ih, h]

theorem doIf_keeps {β : Type} (g : Dev → β) (b : Bool) (f : Dev → Dev) (h : ∀ d, g (f d) = g d) (d : Dev) :
    g (doIf b f d) = g d := by cases b <;> simp [h]

/-! ### wrWord -/

@[simp] theorem wrWord_lnk (p : Page) (off : Nat) (v : W32) (d : Dev) : (wrWord p off v d).lnk = d.lnk := rfl
@[simp] theorem wrWord_sw (p : Page) (off : Nat) (v : W32) (d : Dev) : (wrWord p off v d).sw = d.sw := rfl
@[simp] theorem wrWord_fwd (p : Page) (off : Nat) (v : W32) (d : Dev) : (wrWord p off v d).fwd = d.fwd := rfl
@[simp] theorem wrWord_byp (p : Page) (off : Nat) (v : W32) (d : Dev) : (wrWord p off v d).byp = d.byp := rfl
@[simp] theorem wrWord_col (p : Page) (off : Nat) (v : W32) (d : Dev) : (wrWord p off v d).col = d.col := rfl
@[simp] theorem wrWord_ldl (p : Page) (off : Nat) (v : W32) (d : Dev) : (wrWord p off v d).ldl = d.ldl := rfl
@[simp] theorem wrWord_stk (p : Page) (off : Nat) (v : W32) (d : Dev) : (wrWord p off v d).stk = d.stk := rfl
@[simp] theorem wrWord_tim (p : Page) (off : Nat) (v : W32) (d : Dev) : (wrWord p off v d).tim = d.tim := rfl
@[simp] theorem wrWord_pmc (p : Page) (off : Nat) (v : W32) (d : Dev) : (wrWord p off v d).pmc = d.pmc := rfl
@[simp] theorem wrWord_mgt (p : Page) (off : Nat) (v : W32) (d : Dev) : (wrWord p off v d).mgt = d.mgt := rfl
@[simp] theorem wrWord_tel (p : Page) (off : Nat) (v : W32) (d : Dev) : (wrWord p off v d).tel = d.tel := rfl
@[simp] theorem wrWord_rst (p : Page) (off : Nat) (v : W32) (d : Dev) : (wrWord p off v d).rst = d.rst := rfl
@[simp] theorem wrWord_ctl_staged (p : Page) (off : Nat) (v : W32) (d : Dev) : (wrWord p off v d).ctl.staged = d.ctl.staged := rfl
@[simp] theorem wrWord_ctl_commits (p : Page) (off : Nat) (v : W32) (d : Dev) : (wrWord p off v d).ctl.commits = d.ctl.commits := rfl
@[simp] theorem wrWord_ctl_latchHost (p : Page) (off : Nat) (v : W32) (d : Dev) : (wrWord p off v d).ctl.latchHost = d.ctl.latchHost := rfl
@[simp] theorem wrWord_ctl_latchInband (p : Page) (off : Nat) (v : W32) (d : Dev) : (wrWord p off v d).ctl.latchInband = d.ctl.latchInband := rfl
@[simp] theorem wrWord_ctl_tables (p : Page) (off : Nat) (v : W32) (d : Dev) : (wrWord p off v d).ctl.tables = d.ctl.tables := rfl
@[simp] theorem wrWord_ctl_tblPend (p : Page) (off : Nat) (v : W32) (d : Dev) : (wrWord p off v d).ctl.tblPend = d.ctl.tblPend := rfl
@[simp] theorem wrWord_ctl_acts (p : Page) (off : Nat) (v : W32) (d : Dev) : (wrWord p off v d).ctl.acts = d.ctl.acts := rfl
@[simp] theorem wrWord_ctl_abortWave (p : Page) (off : Nat) (v : W32) (d : Dev) : (wrWord p off v d).ctl.abortWave = d.ctl.abortWave := rfl
@[simp] theorem wrWord_ctl_abortAllAt (p : Page) (off : Nat) (v : W32) (d : Dev) : (wrWord p off v d).ctl.abortAllAt = d.ctl.abortAllAt := rfl
@[simp] theorem wrWord_ctl_ownerAll (p : Page) (off : Nat) (v : W32) (d : Dev) : (wrWord p off v d).ctl.ownerAll = d.ctl.ownerAll := rfl
@[simp] theorem wrWord_ctl_parityBad (p : Page) (off : Nat) (v : W32) (d : Dev) : (wrWord p off v d).ctl.parityBad = d.ctl.parityBad := rfl
@[simp] theorem wrWord_ctl_busMaster (p : Page) (off : Nat) (v : W32) (d : Dev) : (wrWord p off v d).ctl.busMaster = d.ctl.busMaster := rfl
@[simp] theorem wrWord_ctl_msixEnable (p : Page) (off : Nat) (v : W32) (d : Dev) : (wrWord p off v d).ctl.msixEnable = d.ctl.msixEnable := rfl
@[simp] theorem wrWord_ctl_d3hot (p : Page) (off : Nat) (v : W32) (d : Dev) : (wrWord p off v d).ctl.d3hot = d.ctl.d3hot := rfl
@[simp] theorem wrWord_ctl_pba (p : Page) (off : Nat) (v : W32) (d : Dev) : (wrWord p off v d).ctl.pba = d.ctl.pba := rfl
@[simp] theorem wrWord_ctl_eventSent (p : Page) (off : Nat) (v : W32) (d : Dev) : (wrWord p off v d).ctl.eventSent = d.ctl.eventSent := rfl
@[simp] theorem wrWord_ctl_draws (p : Page) (off : Nat) (v : W32) (d : Dev) : (wrWord p off v d).ctl.draws = d.ctl.draws := rfl
@[simp] theorem wrWord_ctl_out (p : Page) (off : Nat) (v : W32) (d : Dev) : (wrWord p off v d).ctl.out = d.ctl.out := rfl

/-! ### wr -/

@[simp] theorem wr_lnk (p : Page) (f : Fd) (v : Nat) (d : Dev) : (wr p f v d).lnk = d.lnk := rfl
@[simp] theorem wr_sw (p : Page) (f : Fd) (v : Nat) (d : Dev) : (wr p f v d).sw = d.sw := rfl
@[simp] theorem wr_fwd (p : Page) (f : Fd) (v : Nat) (d : Dev) : (wr p f v d).fwd = d.fwd := rfl
@[simp] theorem wr_byp (p : Page) (f : Fd) (v : Nat) (d : Dev) : (wr p f v d).byp = d.byp := rfl
@[simp] theorem wr_col (p : Page) (f : Fd) (v : Nat) (d : Dev) : (wr p f v d).col = d.col := rfl
@[simp] theorem wr_ldl (p : Page) (f : Fd) (v : Nat) (d : Dev) : (wr p f v d).ldl = d.ldl := rfl
@[simp] theorem wr_stk (p : Page) (f : Fd) (v : Nat) (d : Dev) : (wr p f v d).stk = d.stk := rfl
@[simp] theorem wr_tim (p : Page) (f : Fd) (v : Nat) (d : Dev) : (wr p f v d).tim = d.tim := rfl
@[simp] theorem wr_pmc (p : Page) (f : Fd) (v : Nat) (d : Dev) : (wr p f v d).pmc = d.pmc := rfl
@[simp] theorem wr_mgt (p : Page) (f : Fd) (v : Nat) (d : Dev) : (wr p f v d).mgt = d.mgt := rfl
@[simp] theorem wr_tel (p : Page) (f : Fd) (v : Nat) (d : Dev) : (wr p f v d).tel = d.tel := rfl
@[simp] theorem wr_rst (p : Page) (f : Fd) (v : Nat) (d : Dev) : (wr p f v d).rst = d.rst := rfl
@[simp] theorem wr_ctl_staged (p : Page) (f : Fd) (v : Nat) (d : Dev) : (wr p f v d).ctl.staged = d.ctl.staged := rfl
@[simp] theorem wr_ctl_commits (p : Page) (f : Fd) (v : Nat) (d : Dev) : (wr p f v d).ctl.commits = d.ctl.commits := rfl
@[simp] theorem wr_ctl_latchHost (p : Page) (f : Fd) (v : Nat) (d : Dev) : (wr p f v d).ctl.latchHost = d.ctl.latchHost := rfl
@[simp] theorem wr_ctl_latchInband (p : Page) (f : Fd) (v : Nat) (d : Dev) : (wr p f v d).ctl.latchInband = d.ctl.latchInband := rfl
@[simp] theorem wr_ctl_tables (p : Page) (f : Fd) (v : Nat) (d : Dev) : (wr p f v d).ctl.tables = d.ctl.tables := rfl
@[simp] theorem wr_ctl_tblPend (p : Page) (f : Fd) (v : Nat) (d : Dev) : (wr p f v d).ctl.tblPend = d.ctl.tblPend := rfl
@[simp] theorem wr_ctl_acts (p : Page) (f : Fd) (v : Nat) (d : Dev) : (wr p f v d).ctl.acts = d.ctl.acts := rfl
@[simp] theorem wr_ctl_abortWave (p : Page) (f : Fd) (v : Nat) (d : Dev) : (wr p f v d).ctl.abortWave = d.ctl.abortWave := rfl
@[simp] theorem wr_ctl_abortAllAt (p : Page) (f : Fd) (v : Nat) (d : Dev) : (wr p f v d).ctl.abortAllAt = d.ctl.abortAllAt := rfl
@[simp] theorem wr_ctl_ownerAll (p : Page) (f : Fd) (v : Nat) (d : Dev) : (wr p f v d).ctl.ownerAll = d.ctl.ownerAll := rfl
@[simp] theorem wr_ctl_parityBad (p : Page) (f : Fd) (v : Nat) (d : Dev) : (wr p f v d).ctl.parityBad = d.ctl.parityBad := rfl
@[simp] theorem wr_ctl_busMaster (p : Page) (f : Fd) (v : Nat) (d : Dev) : (wr p f v d).ctl.busMaster = d.ctl.busMaster := rfl
@[simp] theorem wr_ctl_msixEnable (p : Page) (f : Fd) (v : Nat) (d : Dev) : (wr p f v d).ctl.msixEnable = d.ctl.msixEnable := rfl
@[simp] theorem wr_ctl_d3hot (p : Page) (f : Fd) (v : Nat) (d : Dev) : (wr p f v d).ctl.d3hot = d.ctl.d3hot := rfl
@[simp] theorem wr_ctl_pba (p : Page) (f : Fd) (v : Nat) (d : Dev) : (wr p f v d).ctl.pba = d.ctl.pba := rfl
@[simp] theorem wr_ctl_eventSent (p : Page) (f : Fd) (v : Nat) (d : Dev) : (wr p f v d).ctl.eventSent = d.ctl.eventSent := rfl
@[simp] theorem wr_ctl_draws (p : Page) (f : Fd) (v : Nat) (d : Dev) : (wr p f v d).ctl.draws = d.ctl.draws := rfl
@[simp] theorem wr_ctl_out (p : Page) (f : Fd) (v : Nat) (d : Dev) : (wr p f v d).ctl.out = d.ctl.out := rfl

/-! ### wrBit -/

@[simp] theorem wrBit_lnk (p : Page) (f : Fd) (v : Bool) (d : Dev) : (wrBit p f v d).lnk = d.lnk := rfl
@[simp] theorem wrBit_sw (p : Page) (f : Fd) (v : Bool) (d : Dev) : (wrBit p f v d).sw = d.sw := rfl
@[simp] theorem wrBit_fwd (p : Page) (f : Fd) (v : Bool) (d : Dev) : (wrBit p f v d).fwd = d.fwd := rfl
@[simp] theorem wrBit_byp (p : Page) (f : Fd) (v : Bool) (d : Dev) : (wrBit p f v d).byp = d.byp := rfl
@[simp] theorem wrBit_col (p : Page) (f : Fd) (v : Bool) (d : Dev) : (wrBit p f v d).col = d.col := rfl
@[simp] theorem wrBit_ldl (p : Page) (f : Fd) (v : Bool) (d : Dev) : (wrBit p f v d).ldl = d.ldl := rfl
@[simp] theorem wrBit_stk (p : Page) (f : Fd) (v : Bool) (d : Dev) : (wrBit p f v d).stk = d.stk := rfl
@[simp] theorem wrBit_tim (p : Page) (f : Fd) (v : Bool) (d : Dev) : (wrBit p f v d).tim = d.tim := rfl
@[simp] theorem wrBit_pmc (p : Page) (f : Fd) (v : Bool) (d : Dev) : (wrBit p f v d).pmc = d.pmc := rfl
@[simp] theorem wrBit_mgt (p : Page) (f : Fd) (v : Bool) (d : Dev) : (wrBit p f v d).mgt = d.mgt := rfl
@[simp] theorem wrBit_tel (p : Page) (f : Fd) (v : Bool) (d : Dev) : (wrBit p f v d).tel = d.tel := rfl
@[simp] theorem wrBit_rst (p : Page) (f : Fd) (v : Bool) (d : Dev) : (wrBit p f v d).rst = d.rst := rfl
@[simp] theorem wrBit_ctl_staged (p : Page) (f : Fd) (v : Bool) (d : Dev) : (wrBit p f v d).ctl.staged = d.ctl.staged := rfl
@[simp] theorem wrBit_ctl_commits (p : Page) (f : Fd) (v : Bool) (d : Dev) : (wrBit p f v d).ctl.commits = d.ctl.commits := rfl
@[simp] theorem wrBit_ctl_latchHost (p : Page) (f : Fd) (v : Bool) (d : Dev) : (wrBit p f v d).ctl.latchHost = d.ctl.latchHost := rfl
@[simp] theorem wrBit_ctl_latchInband (p : Page) (f : Fd) (v : Bool) (d : Dev) : (wrBit p f v d).ctl.latchInband = d.ctl.latchInband := rfl
@[simp] theorem wrBit_ctl_tables (p : Page) (f : Fd) (v : Bool) (d : Dev) : (wrBit p f v d).ctl.tables = d.ctl.tables := rfl
@[simp] theorem wrBit_ctl_tblPend (p : Page) (f : Fd) (v : Bool) (d : Dev) : (wrBit p f v d).ctl.tblPend = d.ctl.tblPend := rfl
@[simp] theorem wrBit_ctl_acts (p : Page) (f : Fd) (v : Bool) (d : Dev) : (wrBit p f v d).ctl.acts = d.ctl.acts := rfl
@[simp] theorem wrBit_ctl_abortWave (p : Page) (f : Fd) (v : Bool) (d : Dev) : (wrBit p f v d).ctl.abortWave = d.ctl.abortWave := rfl
@[simp] theorem wrBit_ctl_abortAllAt (p : Page) (f : Fd) (v : Bool) (d : Dev) : (wrBit p f v d).ctl.abortAllAt = d.ctl.abortAllAt := rfl
@[simp] theorem wrBit_ctl_ownerAll (p : Page) (f : Fd) (v : Bool) (d : Dev) : (wrBit p f v d).ctl.ownerAll = d.ctl.ownerAll := rfl
@[simp] theorem wrBit_ctl_parityBad (p : Page) (f : Fd) (v : Bool) (d : Dev) : (wrBit p f v d).ctl.parityBad = d.ctl.parityBad := rfl
@[simp] theorem wrBit_ctl_busMaster (p : Page) (f : Fd) (v : Bool) (d : Dev) : (wrBit p f v d).ctl.busMaster = d.ctl.busMaster := rfl
@[simp] theorem wrBit_ctl_msixEnable (p : Page) (f : Fd) (v : Bool) (d : Dev) : (wrBit p f v d).ctl.msixEnable = d.ctl.msixEnable := rfl
@[simp] theorem wrBit_ctl_d3hot (p : Page) (f : Fd) (v : Bool) (d : Dev) : (wrBit p f v d).ctl.d3hot = d.ctl.d3hot := rfl
@[simp] theorem wrBit_ctl_pba (p : Page) (f : Fd) (v : Bool) (d : Dev) : (wrBit p f v d).ctl.pba = d.ctl.pba := rfl
@[simp] theorem wrBit_ctl_eventSent (p : Page) (f : Fd) (v : Bool) (d : Dev) : (wrBit p f v d).ctl.eventSent = d.ctl.eventSent := rfl
@[simp] theorem wrBit_ctl_draws (p : Page) (f : Fd) (v : Bool) (d : Dev) : (wrBit p f v d).ctl.draws = d.ctl.draws := rfl
@[simp] theorem wrBit_ctl_out (p : Page) (f : Fd) (v : Bool) (d : Dev) : (wrBit p f v d).ctl.out = d.ctl.out := rfl

/-! ### wr64 -/

@[simp] theorem wr64_lnk (p : Page) (f : Fd) (v : Nat) (d : Dev) : (wr64 p f v d).lnk = d.lnk := rfl
@[simp] theorem wr64_sw (p : Page) (f : Fd) (v : Nat) (d : Dev) : (wr64 p f v d).sw = d.sw := rfl
@[simp] theorem wr64_fwd (p : Page) (f : Fd) (v : Nat) (d : Dev) : (wr64 p f v d).fwd = d.fwd := rfl
@[simp] theorem wr64_byp (p : Page) (f : Fd) (v : Nat) (d : Dev) : (wr64 p f v d).byp = d.byp := rfl
@[simp] theorem wr64_col (p : Page) (f : Fd) (v : Nat) (d : Dev) : (wr64 p f v d).col = d.col := rfl
@[simp] theorem wr64_ldl (p : Page) (f : Fd) (v : Nat) (d : Dev) : (wr64 p f v d).ldl = d.ldl := rfl
@[simp] theorem wr64_stk (p : Page) (f : Fd) (v : Nat) (d : Dev) : (wr64 p f v d).stk = d.stk := rfl
@[simp] theorem wr64_tim (p : Page) (f : Fd) (v : Nat) (d : Dev) : (wr64 p f v d).tim = d.tim := rfl
@[simp] theorem wr64_pmc (p : Page) (f : Fd) (v : Nat) (d : Dev) : (wr64 p f v d).pmc = d.pmc := rfl
@[simp] theorem wr64_mgt (p : Page) (f : Fd) (v : Nat) (d : Dev) : (wr64 p f v d).mgt = d.mgt := rfl
@[simp] theorem wr64_tel (p : Page) (f : Fd) (v : Nat) (d : Dev) : (wr64 p f v d).tel = d.tel := rfl
@[simp] theorem wr64_rst (p : Page) (f : Fd) (v : Nat) (d : Dev) : (wr64 p f v d).rst = d.rst := rfl
@[simp] theorem wr64_ctl_staged (p : Page) (f : Fd) (v : Nat) (d : Dev) : (wr64 p f v d).ctl.staged = d.ctl.staged := rfl
@[simp] theorem wr64_ctl_commits (p : Page) (f : Fd) (v : Nat) (d : Dev) : (wr64 p f v d).ctl.commits = d.ctl.commits := rfl
@[simp] theorem wr64_ctl_latchHost (p : Page) (f : Fd) (v : Nat) (d : Dev) : (wr64 p f v d).ctl.latchHost = d.ctl.latchHost := rfl
@[simp] theorem wr64_ctl_latchInband (p : Page) (f : Fd) (v : Nat) (d : Dev) : (wr64 p f v d).ctl.latchInband = d.ctl.latchInband := rfl
@[simp] theorem wr64_ctl_tables (p : Page) (f : Fd) (v : Nat) (d : Dev) : (wr64 p f v d).ctl.tables = d.ctl.tables := rfl
@[simp] theorem wr64_ctl_tblPend (p : Page) (f : Fd) (v : Nat) (d : Dev) : (wr64 p f v d).ctl.tblPend = d.ctl.tblPend := rfl
@[simp] theorem wr64_ctl_acts (p : Page) (f : Fd) (v : Nat) (d : Dev) : (wr64 p f v d).ctl.acts = d.ctl.acts := rfl
@[simp] theorem wr64_ctl_abortWave (p : Page) (f : Fd) (v : Nat) (d : Dev) : (wr64 p f v d).ctl.abortWave = d.ctl.abortWave := rfl
@[simp] theorem wr64_ctl_abortAllAt (p : Page) (f : Fd) (v : Nat) (d : Dev) : (wr64 p f v d).ctl.abortAllAt = d.ctl.abortAllAt := rfl
@[simp] theorem wr64_ctl_ownerAll (p : Page) (f : Fd) (v : Nat) (d : Dev) : (wr64 p f v d).ctl.ownerAll = d.ctl.ownerAll := rfl
@[simp] theorem wr64_ctl_parityBad (p : Page) (f : Fd) (v : Nat) (d : Dev) : (wr64 p f v d).ctl.parityBad = d.ctl.parityBad := rfl
@[simp] theorem wr64_ctl_busMaster (p : Page) (f : Fd) (v : Nat) (d : Dev) : (wr64 p f v d).ctl.busMaster = d.ctl.busMaster := rfl
@[simp] theorem wr64_ctl_msixEnable (p : Page) (f : Fd) (v : Nat) (d : Dev) : (wr64 p f v d).ctl.msixEnable = d.ctl.msixEnable := rfl
@[simp] theorem wr64_ctl_d3hot (p : Page) (f : Fd) (v : Nat) (d : Dev) : (wr64 p f v d).ctl.d3hot = d.ctl.d3hot := rfl
@[simp] theorem wr64_ctl_pba (p : Page) (f : Fd) (v : Nat) (d : Dev) : (wr64 p f v d).ctl.pba = d.ctl.pba := rfl
@[simp] theorem wr64_ctl_eventSent (p : Page) (f : Fd) (v : Nat) (d : Dev) : (wr64 p f v d).ctl.eventSent = d.ctl.eventSent := rfl
@[simp] theorem wr64_ctl_draws (p : Page) (f : Fd) (v : Nat) (d : Dev) : (wr64 p f v d).ctl.draws = d.ctl.draws := rfl
@[simp] theorem wr64_ctl_out (p : Page) (f : Fd) (v : Nat) (d : Dev) : (wr64 p f v d).ctl.out = d.ctl.out := rfl

/-! ### setPageState -/

@[simp] theorem setPageState_lnk (p : Page) (v : Nat) (d : Dev) : (setPageState p v d).lnk = d.lnk := rfl
@[simp] theorem setPageState_sw (p : Page) (v : Nat) (d : Dev) : (setPageState p v d).sw = d.sw := rfl
@[simp] theorem setPageState_fwd (p : Page) (v : Nat) (d : Dev) : (setPageState p v d).fwd = d.fwd := rfl
@[simp] theorem setPageState_byp (p : Page) (v : Nat) (d : Dev) : (setPageState p v d).byp = d.byp := rfl
@[simp] theorem setPageState_col (p : Page) (v : Nat) (d : Dev) : (setPageState p v d).col = d.col := rfl
@[simp] theorem setPageState_ldl (p : Page) (v : Nat) (d : Dev) : (setPageState p v d).ldl = d.ldl := rfl
@[simp] theorem setPageState_stk (p : Page) (v : Nat) (d : Dev) : (setPageState p v d).stk = d.stk := rfl
@[simp] theorem setPageState_tim (p : Page) (v : Nat) (d : Dev) : (setPageState p v d).tim = d.tim := rfl
@[simp] theorem setPageState_pmc (p : Page) (v : Nat) (d : Dev) : (setPageState p v d).pmc = d.pmc := rfl
@[simp] theorem setPageState_mgt (p : Page) (v : Nat) (d : Dev) : (setPageState p v d).mgt = d.mgt := rfl
@[simp] theorem setPageState_tel (p : Page) (v : Nat) (d : Dev) : (setPageState p v d).tel = d.tel := rfl
@[simp] theorem setPageState_rst (p : Page) (v : Nat) (d : Dev) : (setPageState p v d).rst = d.rst := rfl
@[simp] theorem setPageState_ctl_staged (p : Page) (v : Nat) (d : Dev) : (setPageState p v d).ctl.staged = d.ctl.staged := rfl
@[simp] theorem setPageState_ctl_commits (p : Page) (v : Nat) (d : Dev) : (setPageState p v d).ctl.commits = d.ctl.commits := rfl
@[simp] theorem setPageState_ctl_latchHost (p : Page) (v : Nat) (d : Dev) : (setPageState p v d).ctl.latchHost = d.ctl.latchHost := rfl
@[simp] theorem setPageState_ctl_latchInband (p : Page) (v : Nat) (d : Dev) : (setPageState p v d).ctl.latchInband = d.ctl.latchInband := rfl
@[simp] theorem setPageState_ctl_tables (p : Page) (v : Nat) (d : Dev) : (setPageState p v d).ctl.tables = d.ctl.tables := rfl
@[simp] theorem setPageState_ctl_tblPend (p : Page) (v : Nat) (d : Dev) : (setPageState p v d).ctl.tblPend = d.ctl.tblPend := rfl
@[simp] theorem setPageState_ctl_acts (p : Page) (v : Nat) (d : Dev) : (setPageState p v d).ctl.acts = d.ctl.acts := rfl
@[simp] theorem setPageState_ctl_abortWave (p : Page) (v : Nat) (d : Dev) : (setPageState p v d).ctl.abortWave = d.ctl.abortWave := rfl
@[simp] theorem setPageState_ctl_abortAllAt (p : Page) (v : Nat) (d : Dev) : (setPageState p v d).ctl.abortAllAt = d.ctl.abortAllAt := rfl
@[simp] theorem setPageState_ctl_ownerAll (p : Page) (v : Nat) (d : Dev) : (setPageState p v d).ctl.ownerAll = d.ctl.ownerAll := rfl
@[simp] theorem setPageState_ctl_parityBad (p : Page) (v : Nat) (d : Dev) : (setPageState p v d).ctl.parityBad = d.ctl.parityBad := rfl
@[simp] theorem setPageState_ctl_busMaster (p : Page) (v : Nat) (d : Dev) : (setPageState p v d).ctl.busMaster = d.ctl.busMaster := rfl
@[simp] theorem setPageState_ctl_msixEnable (p : Page) (v : Nat) (d : Dev) : (setPageState p v d).ctl.msixEnable = d.ctl.msixEnable := rfl
@[simp] theorem setPageState_ctl_d3hot (p : Page) (v : Nat) (d : Dev) : (setPageState p v d).ctl.d3hot = d.ctl.d3hot := rfl
@[simp] theorem setPageState_ctl_pba (p : Page) (v : Nat) (d : Dev) : (setPageState p v d).ctl.pba = d.ctl.pba := rfl
@[simp] theorem setPageState_ctl_eventSent (p : Page) (v : Nat) (d : Dev) : (setPageState p v d).ctl.eventSent = d.ctl.eventSent := rfl
@[simp] theorem setPageState_ctl_draws (p : Page) (v : Nat) (d : Dev) : (setPageState p v d).ctl.draws = d.ctl.draws := rfl
@[simp] theorem setPageState_ctl_out (p : Page) (v : Nat) (d : Dev) : (setPageState p v d).ctl.out = d.ctl.out := rfl

/-! ### setLinkState -/

@[simp] theorem setLinkState_lnk (lane v : Nat) (d : Dev) : (setLinkState lane v d).lnk = d.lnk := rfl
@[simp] theorem setLinkState_sw (lane v : Nat) (d : Dev) : (setLinkState lane v d).sw = d.sw := rfl
@[simp] theorem setLinkState_fwd (lane v : Nat) (d : Dev) : (setLinkState lane v d).fwd = d.fwd := rfl
@[simp] theorem setLinkState_byp (lane v : Nat) (d : Dev) : (setLinkState lane v d).byp = d.byp := rfl
@[simp] theorem setLinkState_col (lane v : Nat) (d : Dev) : (setLinkState lane v d).col = d.col := rfl
@[simp] theorem setLinkState_ldl (lane v : Nat) (d : Dev) : (setLinkState lane v d).ldl = d.ldl := rfl
@[simp] theorem setLinkState_stk (lane v : Nat) (d : Dev) : (setLinkState lane v d).stk = d.stk := rfl
@[simp] theorem setLinkState_tim (lane v : Nat) (d : Dev) : (setLinkState lane v d).tim = d.tim := rfl
@[simp] theorem setLinkState_pmc (lane v : Nat) (d : Dev) : (setLinkState lane v d).pmc = d.pmc := rfl
@[simp] theorem setLinkState_mgt (lane v : Nat) (d : Dev) : (setLinkState lane v d).mgt = d.mgt := rfl
@[simp] theorem setLinkState_tel (lane v : Nat) (d : Dev) : (setLinkState lane v d).tel = d.tel := rfl
@[simp] theorem setLinkState_rst (lane v : Nat) (d : Dev) : (setLinkState lane v d).rst = d.rst := rfl
@[simp] theorem setLinkState_ctl_staged (lane v : Nat) (d : Dev) : (setLinkState lane v d).ctl.staged = d.ctl.staged := rfl
@[simp] theorem setLinkState_ctl_commits (lane v : Nat) (d : Dev) : (setLinkState lane v d).ctl.commits = d.ctl.commits := rfl
@[simp] theorem setLinkState_ctl_latchHost (lane v : Nat) (d : Dev) : (setLinkState lane v d).ctl.latchHost = d.ctl.latchHost := rfl
@[simp] theorem setLinkState_ctl_latchInband (lane v : Nat) (d : Dev) : (setLinkState lane v d).ctl.latchInband = d.ctl.latchInband := rfl
@[simp] theorem setLinkState_ctl_tables (lane v : Nat) (d : Dev) : (setLinkState lane v d).ctl.tables = d.ctl.tables := rfl
@[simp] theorem setLinkState_ctl_tblPend (lane v : Nat) (d : Dev) : (setLinkState lane v d).ctl.tblPend = d.ctl.tblPend := rfl
@[simp] theorem setLinkState_ctl_acts (lane v : Nat) (d : Dev) : (setLinkState lane v d).ctl.acts = d.ctl.acts := rfl
@[simp] theorem setLinkState_ctl_abortWave (lane v : Nat) (d : Dev) : (setLinkState lane v d).ctl.abortWave = d.ctl.abortWave := rfl
@[simp] theorem setLinkState_ctl_abortAllAt (lane v : Nat) (d : Dev) : (setLinkState lane v d).ctl.abortAllAt = d.ctl.abortAllAt := rfl
@[simp] theorem setLinkState_ctl_ownerAll (lane v : Nat) (d : Dev) : (setLinkState lane v d).ctl.ownerAll = d.ctl.ownerAll := rfl
@[simp] theorem setLinkState_ctl_parityBad (lane v : Nat) (d : Dev) : (setLinkState lane v d).ctl.parityBad = d.ctl.parityBad := rfl
@[simp] theorem setLinkState_ctl_busMaster (lane v : Nat) (d : Dev) : (setLinkState lane v d).ctl.busMaster = d.ctl.busMaster := rfl
@[simp] theorem setLinkState_ctl_msixEnable (lane v : Nat) (d : Dev) : (setLinkState lane v d).ctl.msixEnable = d.ctl.msixEnable := rfl
@[simp] theorem setLinkState_ctl_d3hot (lane v : Nat) (d : Dev) : (setLinkState lane v d).ctl.d3hot = d.ctl.d3hot := rfl
@[simp] theorem setLinkState_ctl_pba (lane v : Nat) (d : Dev) : (setLinkState lane v d).ctl.pba = d.ctl.pba := rfl
@[simp] theorem setLinkState_ctl_eventSent (lane v : Nat) (d : Dev) : (setLinkState lane v d).ctl.eventSent = d.ctl.eventSent := rfl
@[simp] theorem setLinkState_ctl_draws (lane v : Nat) (d : Dev) : (setLinkState lane v d).ctl.draws = d.ctl.draws := rfl
@[simp] theorem setLinkState_ctl_out (lane v : Nat) (d : Dev) : (setLinkState lane v d).ctl.out = d.ctl.out := rfl

/-! ### setAct -/

@[simp] theorem setAct_lnk (p : Page) (a : PageAct) (d : Dev) : (setAct p a d).lnk = d.lnk := rfl
@[simp] theorem setAct_sw (p : Page) (a : PageAct) (d : Dev) : (setAct p a d).sw = d.sw := rfl
@[simp] theorem setAct_fwd (p : Page) (a : PageAct) (d : Dev) : (setAct p a d).fwd = d.fwd := rfl
@[simp] theorem setAct_byp (p : Page) (a : PageAct) (d : Dev) : (setAct p a d).byp = d.byp := rfl
@[simp] theorem setAct_col (p : Page) (a : PageAct) (d : Dev) : (setAct p a d).col = d.col := rfl
@[simp] theorem setAct_ldl (p : Page) (a : PageAct) (d : Dev) : (setAct p a d).ldl = d.ldl := rfl
@[simp] theorem setAct_stk (p : Page) (a : PageAct) (d : Dev) : (setAct p a d).stk = d.stk := rfl
@[simp] theorem setAct_tim (p : Page) (a : PageAct) (d : Dev) : (setAct p a d).tim = d.tim := rfl
@[simp] theorem setAct_pmc (p : Page) (a : PageAct) (d : Dev) : (setAct p a d).pmc = d.pmc := rfl
@[simp] theorem setAct_mgt (p : Page) (a : PageAct) (d : Dev) : (setAct p a d).mgt = d.mgt := rfl
@[simp] theorem setAct_tel (p : Page) (a : PageAct) (d : Dev) : (setAct p a d).tel = d.tel := rfl
@[simp] theorem setAct_rst (p : Page) (a : PageAct) (d : Dev) : (setAct p a d).rst = d.rst := rfl
@[simp] theorem setAct_ctl_regs (p : Page) (a : PageAct) (d : Dev) : (setAct p a d).ctl.regs = d.ctl.regs := rfl
@[simp] theorem setAct_ctl_staged (p : Page) (a : PageAct) (d : Dev) : (setAct p a d).ctl.staged = d.ctl.staged := rfl
@[simp] theorem setAct_ctl_commits (p : Page) (a : PageAct) (d : Dev) : (setAct p a d).ctl.commits = d.ctl.commits := rfl
@[simp] theorem setAct_ctl_latchHost (p : Page) (a : PageAct) (d : Dev) : (setAct p a d).ctl.latchHost = d.ctl.latchHost := rfl
@[simp] theorem setAct_ctl_latchInband (p : Page) (a : PageAct) (d : Dev) : (setAct p a d).ctl.latchInband = d.ctl.latchInband := rfl
@[simp] theorem setAct_ctl_tables (p : Page) (a : PageAct) (d : Dev) : (setAct p a d).ctl.tables = d.ctl.tables := rfl
@[simp] theorem setAct_ctl_tblPend (p : Page) (a : PageAct) (d : Dev) : (setAct p a d).ctl.tblPend = d.ctl.tblPend := rfl
@[simp] theorem setAct_ctl_abortWave (p : Page) (a : PageAct) (d : Dev) : (setAct p a d).ctl.abortWave = d.ctl.abortWave := rfl
@[simp] theorem setAct_ctl_abortAllAt (p : Page) (a : PageAct) (d : Dev) : (setAct p a d).ctl.abortAllAt = d.ctl.abortAllAt := rfl
@[simp] theorem setAct_ctl_ownerAll (p : Page) (a : PageAct) (d : Dev) : (setAct p a d).ctl.ownerAll = d.ctl.ownerAll := rfl
@[simp] theorem setAct_ctl_parityBad (p : Page) (a : PageAct) (d : Dev) : (setAct p a d).ctl.parityBad = d.ctl.parityBad := rfl
@[simp] theorem setAct_ctl_busMaster (p : Page) (a : PageAct) (d : Dev) : (setAct p a d).ctl.busMaster = d.ctl.busMaster := rfl
@[simp] theorem setAct_ctl_msixEnable (p : Page) (a : PageAct) (d : Dev) : (setAct p a d).ctl.msixEnable = d.ctl.msixEnable := rfl
@[simp] theorem setAct_ctl_d3hot (p : Page) (a : PageAct) (d : Dev) : (setAct p a d).ctl.d3hot = d.ctl.d3hot := rfl
@[simp] theorem setAct_ctl_pba (p : Page) (a : PageAct) (d : Dev) : (setAct p a d).ctl.pba = d.ctl.pba := rfl
@[simp] theorem setAct_ctl_eventSent (p : Page) (a : PageAct) (d : Dev) : (setAct p a d).ctl.eventSent = d.ctl.eventSent := rfl
@[simp] theorem setAct_ctl_draws (p : Page) (a : PageAct) (d : Dev) : (setAct p a d).ctl.draws = d.ctl.draws := rfl
@[simp] theorem setAct_ctl_out (p : Page) (a : PageAct) (d : Dev) : (setAct p a d).ctl.out = d.ctl.out := rfl

/-! ### tset -/

@[simp] theorem tset_lnk (p : Page) (t i : Nat) (ws : List W32) (d : Dev) : (tset p t i ws d).lnk = d.lnk := rfl
@[simp] theorem tset_sw (p : Page) (t i : Nat) (ws : List W32) (d : Dev) : (tset p t i ws d).sw = d.sw := rfl
@[simp] theorem tset_fwd (p : Page) (t i : Nat) (ws : List W32) (d : Dev) : (tset p t i ws d).fwd = d.fwd := rfl
@[simp] theorem tset_byp (p : Page) (t i : Nat) (ws : List W32) (d : Dev) : (tset p t i ws d).byp = d.byp := rfl
@[simp] theorem tset_col (p : Page) (t i : Nat) (ws : List W32) (d : Dev) : (tset p t i ws d).col = d.col := rfl
@[simp] theorem tset_ldl (p : Page) (t i : Nat) (ws : List W32) (d : Dev) : (tset p t i ws d).ldl = d.ldl := rfl
@[simp] theorem tset_stk (p : Page) (t i : Nat) (ws : List W32) (d : Dev) : (tset p t i ws d).stk = d.stk := rfl
@[simp] theorem tset_tim (p : Page) (t i : Nat) (ws : List W32) (d : Dev) : (tset p t i ws d).tim = d.tim := rfl
@[simp] theorem tset_pmc (p : Page) (t i : Nat) (ws : List W32) (d : Dev) : (tset p t i ws d).pmc = d.pmc := rfl
@[simp] theorem tset_mgt (p : Page) (t i : Nat) (ws : List W32) (d : Dev) : (tset p t i ws d).mgt = d.mgt := rfl
@[simp] theorem tset_tel (p : Page) (t i : Nat) (ws : List W32) (d : Dev) : (tset p t i ws d).tel = d.tel := rfl
@[simp] theorem tset_rst (p : Page) (t i : Nat) (ws : List W32) (d : Dev) : (tset p t i ws d).rst = d.rst := rfl
@[simp] theorem tset_ctl_regs (p : Page) (t i : Nat) (ws : List W32) (d : Dev) : (tset p t i ws d).ctl.regs = d.ctl.regs := rfl
@[simp] theorem tset_ctl_staged (p : Page) (t i : Nat) (ws : List W32) (d : Dev) : (tset p t i ws d).ctl.staged = d.ctl.staged := rfl
@[simp] theorem tset_ctl_commits (p : Page) (t i : Nat) (ws : List W32) (d : Dev) : (tset p t i ws d).ctl.commits = d.ctl.commits := rfl
@[simp] theorem tset_ctl_latchHost (p : Page) (t i : Nat) (ws : List W32) (d : Dev) : (tset p t i ws d).ctl.latchHost = d.ctl.latchHost := rfl
@[simp] theorem tset_ctl_latchInband (p : Page) (t i : Nat) (ws : List W32) (d : Dev) : (tset p t i ws d).ctl.latchInband = d.ctl.latchInband := rfl
@[simp] theorem tset_ctl_tblPend (p : Page) (t i : Nat) (ws : List W32) (d : Dev) : (tset p t i ws d).ctl.tblPend = d.ctl.tblPend := rfl
@[simp] theorem tset_ctl_acts (p : Page) (t i : Nat) (ws : List W32) (d : Dev) : (tset p t i ws d).ctl.acts = d.ctl.acts := rfl
@[simp] theorem tset_ctl_abortWave (p : Page) (t i : Nat) (ws : List W32) (d : Dev) : (tset p t i ws d).ctl.abortWave = d.ctl.abortWave := rfl
@[simp] theorem tset_ctl_abortAllAt (p : Page) (t i : Nat) (ws : List W32) (d : Dev) : (tset p t i ws d).ctl.abortAllAt = d.ctl.abortAllAt := rfl
@[simp] theorem tset_ctl_ownerAll (p : Page) (t i : Nat) (ws : List W32) (d : Dev) : (tset p t i ws d).ctl.ownerAll = d.ctl.ownerAll := rfl
@[simp] theorem tset_ctl_parityBad (p : Page) (t i : Nat) (ws : List W32) (d : Dev) : (tset p t i ws d).ctl.parityBad = d.ctl.parityBad := rfl
@[simp] theorem tset_ctl_busMaster (p : Page) (t i : Nat) (ws : List W32) (d : Dev) : (tset p t i ws d).ctl.busMaster = d.ctl.busMaster := rfl
@[simp] theorem tset_ctl_msixEnable (p : Page) (t i : Nat) (ws : List W32) (d : Dev) : (tset p t i ws d).ctl.msixEnable = d.ctl.msixEnable := rfl
@[simp] theorem tset_ctl_d3hot (p : Page) (t i : Nat) (ws : List W32) (d : Dev) : (tset p t i ws d).ctl.d3hot = d.ctl.d3hot := rfl
@[simp] theorem tset_ctl_pba (p : Page) (t i : Nat) (ws : List W32) (d : Dev) : (tset p t i ws d).ctl.pba = d.ctl.pba := rfl
@[simp] theorem tset_ctl_eventSent (p : Page) (t i : Nat) (ws : List W32) (d : Dev) : (tset p t i ws d).ctl.eventSent = d.ctl.eventSent := rfl
@[simp] theorem tset_ctl_draws (p : Page) (t i : Nat) (ws : List W32) (d : Dev) : (tset p t i ws d).ctl.draws = d.ctl.draws := rfl
@[simp] theorem tset_ctl_out (p : Page) (t i : Nat) (ws : List W32) (d : Dev) : (tset p t i ws d).ctl.out = d.ctl.out := rfl

/-! ### drawNext -/

@[simp] theorem drawNext_lnk (d : Dev) : (drawNext d).lnk = d.lnk := rfl
@[simp] theorem drawNext_sw (d : Dev) : (drawNext d).sw = d.sw := rfl
@[simp] theorem drawNext_fwd (d : Dev) : (drawNext d).fwd = d.fwd := rfl
@[simp] theorem drawNext_byp (d : Dev) : (drawNext d).byp = d.byp := rfl
@[simp] theorem drawNext_col (d : Dev) : (drawNext d).col = d.col := rfl
@[simp] theorem drawNext_ldl (d : Dev) : (drawNext d).ldl = d.ldl := rfl
@[simp] theorem drawNext_stk (d : Dev) : (drawNext d).stk = d.stk := rfl
@[simp] theorem drawNext_tim (d : Dev) : (drawNext d).tim = d.tim := rfl
@[simp] theorem drawNext_pmc (d : Dev) : (drawNext d).pmc = d.pmc := rfl
@[simp] theorem drawNext_mgt (d : Dev) : (drawNext d).mgt = d.mgt := rfl
@[simp] theorem drawNext_tel (d : Dev) : (drawNext d).tel = d.tel := rfl
@[simp] theorem drawNext_rst (d : Dev) : (drawNext d).rst = d.rst := rfl
@[simp] theorem drawNext_ctl_regs (d : Dev) : (drawNext d).ctl.regs = d.ctl.regs := rfl
@[simp] theorem drawNext_ctl_staged (d : Dev) : (drawNext d).ctl.staged = d.ctl.staged := rfl
@[simp] theorem drawNext_ctl_commits (d : Dev) : (drawNext d).ctl.commits = d.ctl.commits := rfl
@[simp] theorem drawNext_ctl_latchHost (d : Dev) : (drawNext d).ctl.latchHost = d.ctl.latchHost := rfl
@[simp] theorem drawNext_ctl_latchInband (d : Dev) : (drawNext d).ctl.latchInband = d.ctl.latchInband := rfl
@[simp] theorem drawNext_ctl_tables (d : Dev) : (drawNext d).ctl.tables = d.ctl.tables := rfl
@[simp] theorem drawNext_ctl_tblPend (d : Dev) : (drawNext d).ctl.tblPend = d.ctl.tblPend := rfl
@[simp] theorem drawNext_ctl_acts (d : Dev) : (drawNext d).ctl.acts = d.ctl.acts := rfl
@[simp] theorem drawNext_ctl_abortWave (d : Dev) : (drawNext d).ctl.abortWave = d.ctl.abortWave := rfl
@[simp] theorem drawNext_ctl_abortAllAt (d : Dev) : (drawNext d).ctl.abortAllAt = d.ctl.abortAllAt := rfl
@[simp] theorem drawNext_ctl_ownerAll (d : Dev) : (drawNext d).ctl.ownerAll = d.ctl.ownerAll := rfl
@[simp] theorem drawNext_ctl_parityBad (d : Dev) : (drawNext d).ctl.parityBad = d.ctl.parityBad := rfl
@[simp] theorem drawNext_ctl_busMaster (d : Dev) : (drawNext d).ctl.busMaster = d.ctl.busMaster := rfl
@[simp] theorem drawNext_ctl_msixEnable (d : Dev) : (drawNext d).ctl.msixEnable = d.ctl.msixEnable := rfl
@[simp] theorem drawNext_ctl_d3hot (d : Dev) : (drawNext d).ctl.d3hot = d.ctl.d3hot := rfl
@[simp] theorem drawNext_ctl_pba (d : Dev) : (drawNext d).ctl.pba = d.ctl.pba := rfl
@[simp] theorem drawNext_ctl_eventSent (d : Dev) : (drawNext d).ctl.eventSent = d.ctl.eventSent := rfl
@[simp] theorem drawNext_ctl_out (d : Dev) : (drawNext d).ctl.out = d.ctl.out := rfl

/-! ### emit -/

@[simp] theorem emit_lnk (o : Output) (d : Dev) : (emit o d).lnk = d.lnk := rfl
@[simp] theorem emit_sw (o : Output) (d : Dev) : (emit o d).sw = d.sw := rfl
@[simp] theorem emit_fwd (o : Output) (d : Dev) : (emit o d).fwd = d.fwd := rfl
@[simp] theorem emit_byp (o : Output) (d : Dev) : (emit o d).byp = d.byp := rfl
@[simp] theorem emit_col (o : Output) (d : Dev) : (emit o d).col = d.col := rfl
@[simp] theorem emit_ldl (o : Output) (d : Dev) : (emit o d).ldl = d.ldl := rfl
@[simp] theorem emit_stk (o : Output) (d : Dev) : (emit o d).stk = d.stk := rfl
@[simp] theorem emit_tim (o : Output) (d : Dev) : (emit o d).tim = d.tim := rfl
@[simp] theorem emit_pmc (o : Output) (d : Dev) : (emit o d).pmc = d.pmc := rfl
@[simp] theorem emit_mgt (o : Output) (d : Dev) : (emit o d).mgt = d.mgt := rfl
@[simp] theorem emit_tel (o : Output) (d : Dev) : (emit o d).tel = d.tel := rfl
@[simp] theorem emit_rst (o : Output) (d : Dev) : (emit o d).rst = d.rst := rfl
@[simp] theorem emit_ctl_regs (o : Output) (d : Dev) : (emit o d).ctl.regs = d.ctl.regs := rfl
@[simp] theorem emit_ctl_staged (o : Output) (d : Dev) : (emit o d).ctl.staged = d.ctl.staged := rfl
@[simp] theorem emit_ctl_commits (o : Output) (d : Dev) : (emit o d).ctl.commits = d.ctl.commits := rfl
@[simp] theorem emit_ctl_latchHost (o : Output) (d : Dev) : (emit o d).ctl.latchHost = d.ctl.latchHost := rfl
@[simp] theorem emit_ctl_latchInband (o : Output) (d : Dev) : (emit o d).ctl.latchInband = d.ctl.latchInband := rfl
@[simp] theorem emit_ctl_tables (o : Output) (d : Dev) : (emit o d).ctl.tables = d.ctl.tables := rfl
@[simp] theorem emit_ctl_tblPend (o : Output) (d : Dev) : (emit o d).ctl.tblPend = d.ctl.tblPend := rfl
@[simp] theorem emit_ctl_acts (o : Output) (d : Dev) : (emit o d).ctl.acts = d.ctl.acts := rfl
@[simp] theorem emit_ctl_abortWave (o : Output) (d : Dev) : (emit o d).ctl.abortWave = d.ctl.abortWave := rfl
@[simp] theorem emit_ctl_abortAllAt (o : Output) (d : Dev) : (emit o d).ctl.abortAllAt = d.ctl.abortAllAt := rfl
@[simp] theorem emit_ctl_ownerAll (o : Output) (d : Dev) : (emit o d).ctl.ownerAll = d.ctl.ownerAll := rfl
@[simp] theorem emit_ctl_parityBad (o : Output) (d : Dev) : (emit o d).ctl.parityBad = d.ctl.parityBad := rfl
@[simp] theorem emit_ctl_busMaster (o : Output) (d : Dev) : (emit o d).ctl.busMaster = d.ctl.busMaster := rfl
@[simp] theorem emit_ctl_msixEnable (o : Output) (d : Dev) : (emit o d).ctl.msixEnable = d.ctl.msixEnable := rfl
@[simp] theorem emit_ctl_d3hot (o : Output) (d : Dev) : (emit o d).ctl.d3hot = d.ctl.d3hot := rfl
@[simp] theorem emit_ctl_pba (o : Output) (d : Dev) : (emit o d).ctl.pba = d.ctl.pba := rfl
@[simp] theorem emit_ctl_eventSent (o : Output) (d : Dev) : (emit o d).ctl.eventSent = d.ctl.eventSent := rfl
@[simp] theorem emit_ctl_draws (o : Output) (d : Dev) : (emit o d).ctl.draws = d.ctl.draws := rfl

/-! ### setPort -/

@[simp] theorem setPort_ctl (lane : Nat) (p : Port) (d : Dev) : (setPort lane p d).ctl = d.ctl := rfl
@[simp] theorem setPort_sw (lane : Nat) (p : Port) (d : Dev) : (setPort lane p d).sw = d.sw := rfl
@[simp] theorem setPort_fwd (lane : Nat) (p : Port) (d : Dev) : (setPort lane p d).fwd = d.fwd := rfl
@[simp] theorem setPort_byp (lane : Nat) (p : Port) (d : Dev) : (setPort lane p d).byp = d.byp := rfl
@[simp] theorem setPort_col (lane : Nat) (p : Port) (d : Dev) : (setPort lane p d).col = d.col := rfl
@[simp] theorem setPort_ldl (lane : Nat) (p : Port) (d : Dev) : (setPort lane p d).ldl = d.ldl := rfl
@[simp] theorem setPort_stk (lane : Nat) (p : Port) (d : Dev) : (setPort lane p d).stk = d.stk := rfl
@[simp] theorem setPort_tim (lane : Nat) (p : Port) (d : Dev) : (setPort lane p d).tim = d.tim := rfl
@[simp] theorem setPort_pmc (lane : Nat) (p : Port) (d : Dev) : (setPort lane p d).pmc = d.pmc := rfl
@[simp] theorem setPort_mgt (lane : Nat) (p : Port) (d : Dev) : (setPort lane p d).mgt = d.mgt := rfl
@[simp] theorem setPort_tel (lane : Nat) (p : Port) (d : Dev) : (setPort lane p d).tel = d.tel := rfl
@[simp] theorem setPort_rst (lane : Nat) (p : Port) (d : Dev) : (setPort lane p d).rst = d.rst := rfl
@[simp] theorem setPort_lnk_repairs (lane : Nat) (p : Port) (d : Dev) : (setPort lane p d).lnk.repairs = d.lnk.repairs := rfl
@[simp] theorem setPort_lnk_repairItem (lane : Nat) (p : Port) (d : Dev) : (setPort lane p d).lnk.repairItem = d.lnk.repairItem := rfl
@[simp] theorem setPort_lnk_ownFailed (lane : Nat) (p : Port) (d : Dev) : (setPort lane p d).lnk.ownFailed = d.lnk.ownFailed := rfl
@[simp] theorem setPort_lnk_laser (lane : Nat) (p : Port) (d : Dev) : (setPort lane p d).lnk.laser = d.lnk.laser := rfl
@[simp] theorem setPort_lnk_holdoff (lane : Nat) (p : Port) (d : Dev) : (setPort lane p d).lnk.holdoff = d.lnk.holdoff := rfl
@[simp] theorem setPort_lnk_drops (lane : Nat) (p : Port) (d : Dev) : (setPort lane p d).lnk.drops = d.lnk.drops := rfl
@[simp] theorem setPort_lnk_d2dPaused (lane : Nat) (p : Port) (d : Dev) : (setPort lane p d).lnk.d2dPaused = d.lnk.d2dPaused := rfl
@[simp] theorem setPort_lnk_refLost (lane : Nat) (p : Port) (d : Dev) : (setPort lane p d).lnk.refLost = d.lnk.refLost := rfl

/-! ### updPort -/

@[simp] theorem updPort_ctl (lane : Nat) (f : Port → Port) (d : Dev) : (updPort lane f d).ctl = d.ctl := rfl
@[simp] theorem updPort_sw (lane : Nat) (f : Port → Port) (d : Dev) : (updPort lane f d).sw = d.sw := rfl
@[simp] theorem updPort_fwd (lane : Nat) (f : Port → Port) (d : Dev) : (updPort lane f d).fwd = d.fwd := rfl
@[simp] theorem updPort_byp (lane : Nat) (f : Port → Port) (d : Dev) : (updPort lane f d).byp = d.byp := rfl
@[simp] theorem updPort_col (lane : Nat) (f : Port → Port) (d : Dev) : (updPort lane f d).col = d.col := rfl
@[simp] theorem updPort_ldl (lane : Nat) (f : Port → Port) (d : Dev) : (updPort lane f d).ldl = d.ldl := rfl
@[simp] theorem updPort_stk (lane : Nat) (f : Port → Port) (d : Dev) : (updPort lane f d).stk = d.stk := rfl
@[simp] theorem updPort_tim (lane : Nat) (f : Port → Port) (d : Dev) : (updPort lane f d).tim = d.tim := rfl
@[simp] theorem updPort_pmc (lane : Nat) (f : Port → Port) (d : Dev) : (updPort lane f d).pmc = d.pmc := rfl
@[simp] theorem updPort_mgt (lane : Nat) (f : Port → Port) (d : Dev) : (updPort lane f d).mgt = d.mgt := rfl
@[simp] theorem updPort_tel (lane : Nat) (f : Port → Port) (d : Dev) : (updPort lane f d).tel = d.tel := rfl
@[simp] theorem updPort_rst (lane : Nat) (f : Port → Port) (d : Dev) : (updPort lane f d).rst = d.rst := rfl
@[simp] theorem updPort_lnk_repairs (lane : Nat) (f : Port → Port) (d : Dev) : (updPort lane f d).lnk.repairs = d.lnk.repairs := rfl
@[simp] theorem updPort_lnk_repairItem (lane : Nat) (f : Port → Port) (d : Dev) : (updPort lane f d).lnk.repairItem = d.lnk.repairItem := rfl
@[simp] theorem updPort_lnk_ownFailed (lane : Nat) (f : Port → Port) (d : Dev) : (updPort lane f d).lnk.ownFailed = d.lnk.ownFailed := rfl
@[simp] theorem updPort_lnk_laser (lane : Nat) (f : Port → Port) (d : Dev) : (updPort lane f d).lnk.laser = d.lnk.laser := rfl
@[simp] theorem updPort_lnk_holdoff (lane : Nat) (f : Port → Port) (d : Dev) : (updPort lane f d).lnk.holdoff = d.lnk.holdoff := rfl
@[simp] theorem updPort_lnk_drops (lane : Nat) (f : Port → Port) (d : Dev) : (updPort lane f d).lnk.drops = d.lnk.drops := rfl
@[simp] theorem updPort_lnk_d2dPaused (lane : Nat) (f : Port → Port) (d : Dev) : (updPort lane f d).lnk.d2dPaused = d.lnk.d2dPaused := rfl
@[simp] theorem updPort_lnk_refLost (lane : Nat) (f : Port → Port) (d : Dev) : (updPort lane f d).lnk.refLost = d.lnk.refLost := rfl

/-! ### updLaser -/

@[simp] theorem updLaser_ctl (m : Nat) (f : Laser → Laser) (d : Dev) : (updLaser m f d).ctl = d.ctl := rfl
@[simp] theorem updLaser_sw (m : Nat) (f : Laser → Laser) (d : Dev) : (updLaser m f d).sw = d.sw := rfl
@[simp] theorem updLaser_fwd (m : Nat) (f : Laser → Laser) (d : Dev) : (updLaser m f d).fwd = d.fwd := rfl
@[simp] theorem updLaser_byp (m : Nat) (f : Laser → Laser) (d : Dev) : (updLaser m f d).byp = d.byp := rfl
@[simp] theorem updLaser_col (m : Nat) (f : Laser → Laser) (d : Dev) : (updLaser m f d).col = d.col := rfl
@[simp] theorem updLaser_ldl (m : Nat) (f : Laser → Laser) (d : Dev) : (updLaser m f d).ldl = d.ldl := rfl
@[simp] theorem updLaser_stk (m : Nat) (f : Laser → Laser) (d : Dev) : (updLaser m f d).stk = d.stk := rfl
@[simp] theorem updLaser_tim (m : Nat) (f : Laser → Laser) (d : Dev) : (updLaser m f d).tim = d.tim := rfl
@[simp] theorem updLaser_pmc (m : Nat) (f : Laser → Laser) (d : Dev) : (updLaser m f d).pmc = d.pmc := rfl
@[simp] theorem updLaser_mgt (m : Nat) (f : Laser → Laser) (d : Dev) : (updLaser m f d).mgt = d.mgt := rfl
@[simp] theorem updLaser_tel (m : Nat) (f : Laser → Laser) (d : Dev) : (updLaser m f d).tel = d.tel := rfl
@[simp] theorem updLaser_rst (m : Nat) (f : Laser → Laser) (d : Dev) : (updLaser m f d).rst = d.rst := rfl
@[simp] theorem updLaser_lnk_ports (m : Nat) (f : Laser → Laser) (d : Dev) : (updLaser m f d).lnk.ports = d.lnk.ports := rfl
@[simp] theorem updLaser_lnk_repairs (m : Nat) (f : Laser → Laser) (d : Dev) : (updLaser m f d).lnk.repairs = d.lnk.repairs := rfl
@[simp] theorem updLaser_lnk_repairItem (m : Nat) (f : Laser → Laser) (d : Dev) : (updLaser m f d).lnk.repairItem = d.lnk.repairItem := rfl
@[simp] theorem updLaser_lnk_ownFailed (m : Nat) (f : Laser → Laser) (d : Dev) : (updLaser m f d).lnk.ownFailed = d.lnk.ownFailed := rfl
@[simp] theorem updLaser_lnk_holdoff (m : Nat) (f : Laser → Laser) (d : Dev) : (updLaser m f d).lnk.holdoff = d.lnk.holdoff := rfl
@[simp] theorem updLaser_lnk_drops (m : Nat) (f : Laser → Laser) (d : Dev) : (updLaser m f d).lnk.drops = d.lnk.drops := rfl
@[simp] theorem updLaser_lnk_d2dPaused (m : Nat) (f : Laser → Laser) (d : Dev) : (updLaser m f d).lnk.d2dPaused = d.lnk.d2dPaused := rfl
@[simp] theorem updLaser_lnk_refLost (m : Nat) (f : Laser → Laser) (d : Dev) : (updLaser m f d).lnk.refLost = d.lnk.refLost := rfl

/-! ### setVoq -/

@[simp] theorem setVoq_ctl (k : Nat) (v : Voq) (d : Dev) : (setVoq k v d).ctl = d.ctl := rfl
@[simp] theorem setVoq_lnk (k : Nat) (v : Voq) (d : Dev) : (setVoq k v d).lnk = d.lnk := rfl
@[simp] theorem setVoq_fwd (k : Nat) (v : Voq) (d : Dev) : (setVoq k v d).fwd = d.fwd := rfl
@[simp] theorem setVoq_byp (k : Nat) (v : Voq) (d : Dev) : (setVoq k v d).byp = d.byp := rfl
@[simp] theorem setVoq_col (k : Nat) (v : Voq) (d : Dev) : (setVoq k v d).col = d.col := rfl
@[simp] theorem setVoq_ldl (k : Nat) (v : Voq) (d : Dev) : (setVoq k v d).ldl = d.ldl := rfl
@[simp] theorem setVoq_stk (k : Nat) (v : Voq) (d : Dev) : (setVoq k v d).stk = d.stk := rfl
@[simp] theorem setVoq_tim (k : Nat) (v : Voq) (d : Dev) : (setVoq k v d).tim = d.tim := rfl
@[simp] theorem setVoq_pmc (k : Nat) (v : Voq) (d : Dev) : (setVoq k v d).pmc = d.pmc := rfl
@[simp] theorem setVoq_mgt (k : Nat) (v : Voq) (d : Dev) : (setVoq k v d).mgt = d.mgt := rfl
@[simp] theorem setVoq_tel (k : Nat) (v : Voq) (d : Dev) : (setVoq k v d).tel = d.tel := rfl
@[simp] theorem setVoq_rst (k : Nat) (v : Voq) (d : Dev) : (setVoq k v d).rst = d.rst := rfl
@[simp] theorem setVoq_sw_mcast (k : Nat) (v : Voq) (d : Dev) : (setVoq k v d).sw.mcast = d.sw.mcast := rfl
@[simp] theorem setVoq_sw_repl (k : Nat) (v : Voq) (d : Dev) : (setVoq k v d).sw.repl = d.sw.repl := rfl
@[simp] theorem setVoq_sw_staging (k : Nat) (v : Voq) (d : Dev) : (setVoq k v d).sw.staging = d.sw.staging := rfl
@[simp] theorem setVoq_sw_units (k : Nat) (v : Voq) (d : Dev) : (setVoq k v d).sw.units = d.sw.units := rfl
@[simp] theorem setVoq_sw_copies (k : Nat) (v : Voq) (d : Dev) : (setVoq k v d).sw.copies = d.sw.copies := rfl
@[simp] theorem setVoq_sw_mtags (k : Nat) (v : Voq) (d : Dev) : (setVoq k v d).sw.mtags = d.sw.mtags := rfl
@[simp] theorem setVoq_sw_parkA (k : Nat) (v : Voq) (d : Dev) : (setVoq k v d).sw.parkA = d.sw.parkA := rfl
@[simp] theorem setVoq_sw_parkB (k : Nat) (v : Voq) (d : Dev) : (setVoq k v d).sw.parkB = d.sw.parkB := rfl
@[simp] theorem setVoq_sw_grantArb (k : Nat) (v : Voq) (d : Dev) : (setVoq k v d).sw.grantArb = d.sw.grantArb := rfl
@[simp] theorem setVoq_sw_txArb (k : Nat) (v : Voq) (d : Dev) : (setVoq k v d).sw.txArb = d.sw.txArb := rfl
@[simp] theorem setVoq_sw_grantPtr (k : Nat) (v : Voq) (d : Dev) : (setVoq k v d).sw.grantPtr = d.sw.grantPtr := rfl
@[simp] theorem setVoq_sw_acceptPtr (k : Nat) (v : Voq) (d : Dev) : (setVoq k v d).sw.acceptPtr = d.sw.acceptPtr := rfl
@[simp] theorem setVoq_sw_flushA (k : Nat) (v : Voq) (d : Dev) : (setVoq k v d).sw.flushA = d.sw.flushA := rfl
@[simp] theorem setVoq_sw_flushB (k : Nat) (v : Voq) (d : Dev) : (setVoq k v d).sw.flushB = d.sw.flushB := rfl
@[simp] theorem setVoq_sw_flushCount (k : Nat) (v : Voq) (d : Dev) : (setVoq k v d).sw.flushCount = d.sw.flushCount := rfl
@[simp] theorem setVoq_sw_fencedGroups (k : Nat) (v : Voq) (d : Dev) : (setVoq k v d).sw.fencedGroups = d.sw.fencedGroups := rfl
@[simp] theorem setVoq_sw_eccTimes (k : Nat) (v : Voq) (d : Dev) : (setVoq k v d).sw.eccTimes = d.sw.eccTimes := rfl
@[simp] theorem setVoq_sw_moved (k : Nat) (v : Voq) (d : Dev) : (setVoq k v d).sw.moved = d.sw.moved := rfl
@[simp] theorem setVoq_sw_numNext (k : Nat) (v : Voq) (d : Dev) : (setVoq k v d).sw.numNext = d.sw.numNext := rfl
@[simp] theorem setVoq_sw_escFlows (k : Nat) (v : Voq) (d : Dev) : (setVoq k v d).sw.escFlows = d.sw.escFlows := rfl
@[simp] theorem setVoq_sw_gates (k : Nat) (v : Voq) (d : Dev) : (setVoq k v d).sw.gates = d.sw.gates := rfl
@[simp] theorem setVoq_sw_shapers (k : Nat) (v : Voq) (d : Dev) : (setVoq k v d).sw.shapers = d.sw.shapers := rfl
@[simp] theorem setVoq_sw_aggregates (k : Nat) (v : Voq) (d : Dev) : (setVoq k v d).sw.aggregates = d.sw.aggregates := rfl
@[simp] theorem setVoq_sw_policers (k : Nat) (v : Voq) (d : Dev) : (setVoq k v d).sw.policers = d.sw.policers := rfl
@[simp] theorem setVoq_sw_wheel (k : Nat) (v : Voq) (d : Dev) : (setVoq k v d).sw.wheel = d.sw.wheel := rfl

/-! ### updUnits -/

@[simp] theorem updUnits_ctl (source tc : Nat) (f : Units → Units) (d : Dev) : (updUnits source tc f d).ctl = d.ctl := rfl
@[simp] theorem updUnits_lnk (source tc : Nat) (f : Units → Units) (d : Dev) : (updUnits source tc f d).lnk = d.lnk := rfl
@[simp] theorem updUnits_fwd (source tc : Nat) (f : Units → Units) (d : Dev) : (updUnits source tc f d).fwd = d.fwd := rfl
@[simp] theorem updUnits_byp (source tc : Nat) (f : Units → Units) (d : Dev) : (updUnits source tc f d).byp = d.byp := rfl
@[simp] theorem updUnits_col (source tc : Nat) (f : Units → Units) (d : Dev) : (updUnits source tc f d).col = d.col := rfl
@[simp] theorem updUnits_ldl (source tc : Nat) (f : Units → Units) (d : Dev) : (updUnits source tc f d).ldl = d.ldl := rfl
@[simp] theorem updUnits_stk (source tc : Nat) (f : Units → Units) (d : Dev) : (updUnits source tc f d).stk = d.stk := rfl
@[simp] theorem updUnits_tim (source tc : Nat) (f : Units → Units) (d : Dev) : (updUnits source tc f d).tim = d.tim := rfl
@[simp] theorem updUnits_pmc (source tc : Nat) (f : Units → Units) (d : Dev) : (updUnits source tc f d).pmc = d.pmc := rfl
@[simp] theorem updUnits_mgt (source tc : Nat) (f : Units → Units) (d : Dev) : (updUnits source tc f d).mgt = d.mgt := rfl
@[simp] theorem updUnits_tel (source tc : Nat) (f : Units → Units) (d : Dev) : (updUnits source tc f d).tel = d.tel := rfl
@[simp] theorem updUnits_rst (source tc : Nat) (f : Units → Units) (d : Dev) : (updUnits source tc f d).rst = d.rst := rfl
@[simp] theorem updUnits_sw_voqs (source tc : Nat) (f : Units → Units) (d : Dev) : (updUnits source tc f d).sw.voqs = d.sw.voqs := rfl
@[simp] theorem updUnits_sw_mcast (source tc : Nat) (f : Units → Units) (d : Dev) : (updUnits source tc f d).sw.mcast = d.sw.mcast := rfl
@[simp] theorem updUnits_sw_repl (source tc : Nat) (f : Units → Units) (d : Dev) : (updUnits source tc f d).sw.repl = d.sw.repl := rfl
@[simp] theorem updUnits_sw_staging (source tc : Nat) (f : Units → Units) (d : Dev) : (updUnits source tc f d).sw.staging = d.sw.staging := rfl
@[simp] theorem updUnits_sw_copies (source tc : Nat) (f : Units → Units) (d : Dev) : (updUnits source tc f d).sw.copies = d.sw.copies := rfl
@[simp] theorem updUnits_sw_mtags (source tc : Nat) (f : Units → Units) (d : Dev) : (updUnits source tc f d).sw.mtags = d.sw.mtags := rfl
@[simp] theorem updUnits_sw_parkA (source tc : Nat) (f : Units → Units) (d : Dev) : (updUnits source tc f d).sw.parkA = d.sw.parkA := rfl
@[simp] theorem updUnits_sw_parkB (source tc : Nat) (f : Units → Units) (d : Dev) : (updUnits source tc f d).sw.parkB = d.sw.parkB := rfl
@[simp] theorem updUnits_sw_grantArb (source tc : Nat) (f : Units → Units) (d : Dev) : (updUnits source tc f d).sw.grantArb = d.sw.grantArb := rfl
@[simp] theorem updUnits_sw_txArb (source tc : Nat) (f : Units → Units) (d : Dev) : (updUnits source tc f d).sw.txArb = d.sw.txArb := rfl
@[simp] theorem updUnits_sw_grantPtr (source tc : Nat) (f : Units → Units) (d : Dev) : (updUnits source tc f d).sw.grantPtr = d.sw.grantPtr := rfl
@[simp] theorem updUnits_sw_acceptPtr (source tc : Nat) (f : Units → Units) (d : Dev) : (updUnits source tc f d).sw.acceptPtr = d.sw.acceptPtr := rfl
@[simp] theorem updUnits_sw_flushA (source tc : Nat) (f : Units → Units) (d : Dev) : (updUnits source tc f d).sw.flushA = d.sw.flushA := rfl
@[simp] theorem updUnits_sw_flushB (source tc : Nat) (f : Units → Units) (d : Dev) : (updUnits source tc f d).sw.flushB = d.sw.flushB := rfl
@[simp] theorem updUnits_sw_flushCount (source tc : Nat) (f : Units → Units) (d : Dev) : (updUnits source tc f d).sw.flushCount = d.sw.flushCount := rfl
@[simp] theorem updUnits_sw_fencedGroups (source tc : Nat) (f : Units → Units) (d : Dev) : (updUnits source tc f d).sw.fencedGroups = d.sw.fencedGroups := rfl
@[simp] theorem updUnits_sw_eccTimes (source tc : Nat) (f : Units → Units) (d : Dev) : (updUnits source tc f d).sw.eccTimes = d.sw.eccTimes := rfl
@[simp] theorem updUnits_sw_moved (source tc : Nat) (f : Units → Units) (d : Dev) : (updUnits source tc f d).sw.moved = d.sw.moved := rfl
@[simp] theorem updUnits_sw_numNext (source tc : Nat) (f : Units → Units) (d : Dev) : (updUnits source tc f d).sw.numNext = d.sw.numNext := rfl
@[simp] theorem updUnits_sw_escFlows (source tc : Nat) (f : Units → Units) (d : Dev) : (updUnits source tc f d).sw.escFlows = d.sw.escFlows := rfl
@[simp] theorem updUnits_sw_gates (source tc : Nat) (f : Units → Units) (d : Dev) : (updUnits source tc f d).sw.gates = d.sw.gates := rfl
@[simp] theorem updUnits_sw_shapers (source tc : Nat) (f : Units → Units) (d : Dev) : (updUnits source tc f d).sw.shapers = d.sw.shapers := rfl
@[simp] theorem updUnits_sw_aggregates (source tc : Nat) (f : Units → Units) (d : Dev) : (updUnits source tc f d).sw.aggregates = d.sw.aggregates := rfl
@[simp] theorem updUnits_sw_policers (source tc : Nat) (f : Units → Units) (d : Dev) : (updUnits source tc f d).sw.policers = d.sw.policers := rfl
@[simp] theorem updUnits_sw_wheel (source tc : Nat) (f : Units → Units) (d : Dev) : (updUnits source tc f d).sw.wheel = d.sw.wheel := rfl

/-! ### setStaged -/

@[simp] theorem setStaged_ctl (egress tc : Nat) (l : List Box) (d : Dev) : (setStaged egress tc l d).ctl = d.ctl := rfl
@[simp] theorem setStaged_lnk (egress tc : Nat) (l : List Box) (d : Dev) : (setStaged egress tc l d).lnk = d.lnk := rfl
@[simp] theorem setStaged_fwd (egress tc : Nat) (l : List Box) (d : Dev) : (setStaged egress tc l d).fwd = d.fwd := rfl
@[simp] theorem setStaged_byp (egress tc : Nat) (l : List Box) (d : Dev) : (setStaged egress tc l d).byp = d.byp := rfl
@[simp] theorem setStaged_col (egress tc : Nat) (l : List Box) (d : Dev) : (setStaged egress tc l d).col = d.col := rfl
@[simp] theorem setStaged_ldl (egress tc : Nat) (l : List Box) (d : Dev) : (setStaged egress tc l d).ldl = d.ldl := rfl
@[simp] theorem setStaged_stk (egress tc : Nat) (l : List Box) (d : Dev) : (setStaged egress tc l d).stk = d.stk := rfl
@[simp] theorem setStaged_tim (egress tc : Nat) (l : List Box) (d : Dev) : (setStaged egress tc l d).tim = d.tim := rfl
@[simp] theorem setStaged_pmc (egress tc : Nat) (l : List Box) (d : Dev) : (setStaged egress tc l d).pmc = d.pmc := rfl
@[simp] theorem setStaged_mgt (egress tc : Nat) (l : List Box) (d : Dev) : (setStaged egress tc l d).mgt = d.mgt := rfl
@[simp] theorem setStaged_tel (egress tc : Nat) (l : List Box) (d : Dev) : (setStaged egress tc l d).tel = d.tel := rfl
@[simp] theorem setStaged_rst (egress tc : Nat) (l : List Box) (d : Dev) : (setStaged egress tc l d).rst = d.rst := rfl
@[simp] theorem setStaged_sw_voqs (egress tc : Nat) (l : List Box) (d : Dev) : (setStaged egress tc l d).sw.voqs = d.sw.voqs := rfl
@[simp] theorem setStaged_sw_mcast (egress tc : Nat) (l : List Box) (d : Dev) : (setStaged egress tc l d).sw.mcast = d.sw.mcast := rfl
@[simp] theorem setStaged_sw_repl (egress tc : Nat) (l : List Box) (d : Dev) : (setStaged egress tc l d).sw.repl = d.sw.repl := rfl
@[simp] theorem setStaged_sw_units (egress tc : Nat) (l : List Box) (d : Dev) : (setStaged egress tc l d).sw.units = d.sw.units := rfl
@[simp] theorem setStaged_sw_copies (egress tc : Nat) (l : List Box) (d : Dev) : (setStaged egress tc l d).sw.copies = d.sw.copies := rfl
@[simp] theorem setStaged_sw_mtags (egress tc : Nat) (l : List Box) (d : Dev) : (setStaged egress tc l d).sw.mtags = d.sw.mtags := rfl
@[simp] theorem setStaged_sw_parkA (egress tc : Nat) (l : List Box) (d : Dev) : (setStaged egress tc l d).sw.parkA = d.sw.parkA := rfl
@[simp] theorem setStaged_sw_parkB (egress tc : Nat) (l : List Box) (d : Dev) : (setStaged egress tc l d).sw.parkB = d.sw.parkB := rfl
@[simp] theorem setStaged_sw_grantArb (egress tc : Nat) (l : List Box) (d : Dev) : (setStaged egress tc l d).sw.grantArb = d.sw.grantArb := rfl
@[simp] theorem setStaged_sw_txArb (egress tc : Nat) (l : List Box) (d : Dev) : (setStaged egress tc l d).sw.txArb = d.sw.txArb := rfl
@[simp] theorem setStaged_sw_grantPtr (egress tc : Nat) (l : List Box) (d : Dev) : (setStaged egress tc l d).sw.grantPtr = d.sw.grantPtr := rfl
@[simp] theorem setStaged_sw_acceptPtr (egress tc : Nat) (l : List Box) (d : Dev) : (setStaged egress tc l d).sw.acceptPtr = d.sw.acceptPtr := rfl
@[simp] theorem setStaged_sw_flushA (egress tc : Nat) (l : List Box) (d : Dev) : (setStaged egress tc l d).sw.flushA = d.sw.flushA := rfl
@[simp] theorem setStaged_sw_flushB (egress tc : Nat) (l : List Box) (d : Dev) : (setStaged egress tc l d).sw.flushB = d.sw.flushB := rfl
@[simp] theorem setStaged_sw_flushCount (egress tc : Nat) (l : List Box) (d : Dev) : (setStaged egress tc l d).sw.flushCount = d.sw.flushCount := rfl
@[simp] theorem setStaged_sw_fencedGroups (egress tc : Nat) (l : List Box) (d : Dev) : (setStaged egress tc l d).sw.fencedGroups = d.sw.fencedGroups := rfl
@[simp] theorem setStaged_sw_eccTimes (egress tc : Nat) (l : List Box) (d : Dev) : (setStaged egress tc l d).sw.eccTimes = d.sw.eccTimes := rfl
@[simp] theorem setStaged_sw_moved (egress tc : Nat) (l : List Box) (d : Dev) : (setStaged egress tc l d).sw.moved = d.sw.moved := rfl
@[simp] theorem setStaged_sw_numNext (egress tc : Nat) (l : List Box) (d : Dev) : (setStaged egress tc l d).sw.numNext = d.sw.numNext := rfl
@[simp] theorem setStaged_sw_escFlows (egress tc : Nat) (l : List Box) (d : Dev) : (setStaged egress tc l d).sw.escFlows = d.sw.escFlows := rfl
@[simp] theorem setStaged_sw_gates (egress tc : Nat) (l : List Box) (d : Dev) : (setStaged egress tc l d).sw.gates = d.sw.gates := rfl
@[simp] theorem setStaged_sw_shapers (egress tc : Nat) (l : List Box) (d : Dev) : (setStaged egress tc l d).sw.shapers = d.sw.shapers := rfl
@[simp] theorem setStaged_sw_aggregates (egress tc : Nat) (l : List Box) (d : Dev) : (setStaged egress tc l d).sw.aggregates = d.sw.aggregates := rfl
@[simp] theorem setStaged_sw_policers (egress tc : Nat) (l : List Box) (d : Dev) : (setStaged egress tc l d).sw.policers = d.sw.policers := rfl
@[simp] theorem setStaged_sw_wheel (egress tc : Nat) (l : List Box) (d : Dev) : (setStaged egress tc l d).sw.wheel = d.sw.wheel := rfl

end Sys2Proof.Machine
end

