-- ==== Sys2Proof/Laws/Commands.lean ====
section
/-! SUPPORT. Each command as an effect on the state: the dispatch and the command's own definition unfolded once. -/

namespace Sys2Proof.Machine

theorem exec_registerWrite (src : Src) (bar : Bar) (addr bytes : Nat) (value : W64) (s : State) : exec (.registerWrite src bar addr bytes value) s =
    effect (.registerWrite src bar addr bytes value) (access src bar addr bytes value) s := rfl

theorem exec_lowWordRead (src : Src) (bar : Bar) (addr bytes : Nat) (s : State) : exec (.lowWordRead src bar addr bytes) s =
    effect (.lowWordRead src bar addr bytes) (fun s =>
      let r := accessRead src bar addr bytes s
      onDev (emit (.readData src addr r.1)) r.2) s := rfl

theorem exec_enable (src : Src) (page : Page) (v : Bool) (s : State) : exec (.enable src page v) s =
    effect (.enable src page v) (fun s => write32 src page 0x008 (bit v + 2 * rd s.dev page Reg.PAGE_CTL_QUIESCE_REQ) s) s := rfl

theorem exec_quiesceReq (src : Src) (page : Page) (v : Bool) (s : State) : exec (.quiesceReq src page v) s =
    effect (.quiesceReq src page v) (fun s => write32 src page 0x008 (rd s.dev page Reg.PAGE_CTL_ENABLE + 2 * bit v) s) s := rfl

theorem exec_quiesced (page : Page) (s : State) : exec (.quiesced page) s =
    effect (.quiesced page) (onDev (quiesced page)) s := rfl

theorem exec_goIdle (page : Page) (s : State) : exec (.goIdle page) s =
    effect (.goIdle page) (onDev (goIdle page)) s := rfl

theorem exec_abort (src : Src) (page : Page) (s : State) : exec (.abort src page) s =
    effect (.abort src page) (write32 src page 0x008 4) s := rfl

theorem exec_abortComplete (page : Page) (s : State) : exec (.abortComplete page) s =
    effect (.abortComplete page) (onDev (abortComplete s.now page)) s := rfl

theorem exec_abortDeadline (page : Page) (s : State) : exec (.abortDeadline page) s =
    effect (.abortDeadline page) (abortDeadline page) s := rfl

theorem exec_blockReset (src : Src) (page : Page) (s : State) : exec (.blockReset src page) s =
    effect (.blockReset src page) (write32 src page 0x008 8) s := rfl

theorem exec_blockResetComplete (page : Page) (checksPass : Bool) (s : State) : exec (.blockResetComplete page checksPass) s =
    effect (.blockResetComplete page checksPass) (onDev (resetComplete s.now page checksPass)) s := rfl

theorem exec_blockFail (page : Page) (unit detail : Nat) (s : State) : exec (.blockFail page unit detail) s =
    effect (.blockFail page unit detail) (onDev (pageFailLogged s.now page unit detail)) s := rfl

theorem exec_commit (src : Src) (page : Page) (tag : Nat) (s : State) : exec (.commit src page tag) s =
    effect (.commit src page tag) (write32 src page 0x024 (tag % 256 * 2 ^ 24 + 1)) s := rfl

theorem exec_commitApply (page : Page) (s : State) : exec (.commitApply page) s =
    effect (.commitApply page) (onDev (commitApply s.now page)) s := rfl

theorem exec_pageOwnerWrite (src : Src) (page : Page) (owner : Src) (lock : Bool) (s : State) : exec (.pageOwnerWrite src page owner lock) s =
    effect (.pageOwnerWrite src page owner lock) (write32 src page 0x020 (owner.bit + 256 * bit lock)) s := rfl

theorem exec_abortAll (src : Src) (s : State) : exec (.abortAll src) s =
    effect (.abortAll src) (write32 src Page.pkg 0x100 1) s := rfl

theorem exec_abortAllWave (s : State) : exec .abortAllWave s =
    effect .abortAllWave abortAllWave s := rfl

theorem exec_ownerAll (src : Src) (mask : Nat) (lock : Bool) (owner : Src) (s : State) : exec (.ownerAll src mask lock owner) s =
    effect (.ownerAll src mask lock owner) (write32 src Page.pkg 0x108 (mask % 65536 * 65536 + 256 * bit lock + owner.bit)) s := rfl

theorem exec_ownerAllDone (s : State) : exec .ownerAllDone s =
    effect .ownerAllDone (onDev ownerAllDone) s := rfl

theorem exec_tblRead (src : Src) (page : Page) (table : Nat) (s : State) : exec (.tblRead src page table) s =
    effect (.tblRead src page table) (tblWriteCmd src page table toREAD) s := rfl

theorem exec_tblWrite (src : Src) (page : Page) (table : Nat) (s : State) : exec (.tblWrite src page table) s =
    effect (.tblWrite src page table) (tblWriteCmd src page table toWRITE) s := rfl

theorem exec_tblInsert (src : Src) (page : Page) (table : Nat) (s : State) : exec (.tblInsert src page table) s =
    effect (.tblInsert src page table) (tblWriteCmd src page table toINSERT) s := rfl

theorem exec_tblDelete (src : Src) (page : Page) (table : Nat) (s : State) : exec (.tblDelete src page table) s =
    effect (.tblDelete src page table) (tblWriteCmd src page table toDELETE) s := rfl

theorem exec_cmpwr (src : Src) (page : Page) (table : Nat) (s : State) : exec (.cmpwr src page table) s =
    effect (.cmpwr src page table) (tblWriteCmd src page table toCMPWR) s := rfl

theorem exec_tblCmdComplete (page : Page) (s : State) : exec (.tblCmdComplete page) s =
    effect (.tblCmdComplete page) (onDev (tblComplete page)) s := rfl

theorem exec_cellReceive (lane : Nat) (s : State) : exec (.cellReceive lane) s =
    effect (.cellReceive lane) (onDev (cellReceive s.now lane)) s := rfl

theorem exec_colanderIngress (lane : Nat) (s : State) : exec (.colanderIngress lane) s =
    effect (.colanderIngress lane) (onDev (colanderIngress s.now lane)) s := rfl

theorem exec_escapeMove (source egress tc ineligible : Nat) (s : State) : exec (.escapeMove source egress tc ineligible) s =
    effect (.escapeMove source egress tc ineligible) (onDev (escapeMove s.now source egress tc ineligible)) s := rfl

theorem exec_landingPromote (source tc : Nat) (s : State) : exec (.landingPromote source tc) s =
    effect (.landingPromote source tc) (onDev (landingPromote source tc)) s := rfl

theorem exec_thresholdRecompute (s : State) : exec .thresholdRecompute s =
    effect .thresholdRecompute (onDev recomputeFree) s := rfl

theorem exec_crossbarMatch (s : State) : exec .crossbarMatch s =
    effect .crossbarMatch crossbarMatch s := rfl

theorem exec_a2aPhaseOpen (group member : Nat) (s : State) : exec (.a2aPhaseOpen group member) s =
    effect (.a2aPhaseOpen group member) (onDev (openPhase s.now group member)) s := rfl

theorem exec_multicastReplicate (source tc : Nat) (s : State) : exec (.multicastReplicate source tc) s =
    effect (.multicastReplicate source tc) (onDev (multicastReplicate s.now source tc)) s := rfl

theorem exec_egressReplicaWrite (region egress : Nat) (s : State) : exec (.egressReplicaWrite region egress) s =
    effect (.egressReplicaWrite region egress) (onDev (replicaWrite region egress)) s := rfl

theorem exec_txCellSlot (lane : Nat) (s : State) : exec (.txCellSlot lane) s =
    effect (.txCellSlot lane) (onDev (txSlot s.now lane)) s := rfl

theorem exec_wheelSlot (die : Nat) (s : State) : exec (.wheelSlot die) s =
    effect (.wheelSlot die) (onDev (wheelSlot s.now die)) s := rfl

theorem exec_gateStart (src : Src) (lane : Nat) (s : State) : exec (.gateStart src lane) s =
    effect (.gateStart src lane) (fun s => write32 src (Page.etm lane) 0x104 (2 + (shownWord s.dev ((Page.etm lane).base + 0x104)).toNat % 2) s) s := rfl

theorem exec_gateEntry (lane : Nat) (s : State) : exec (.gateEntry lane) s =
    effect (.gateEntry lane) (onDev (gateAdvance s.now lane)) s := rfl

theorem exec_holdWrite (src : Src) (lane mask : Nat) (s : State) : exec (.holdWrite src lane mask) s =
    effect (.holdWrite src lane mask) (write32 src (Page.etm lane) 0x128 mask) s := rfl

theorem exec_flushDone (die : Nat) (s : State) : exec (.flushDone die) s =
    effect (.flushDone die) (onDev (flushDone s.now die)) s := rfl

theorem exec_unitEccError (unit : EccUnit) (bankGroup : Nat) (s : State) : exec (.unitEccError unit bankGroup) s =
    effect (.unitEccError unit bankGroup) (unitEcc unit bankGroup) s := rfl

theorem exec_loadWindow (ladle : List Nat) (s : State) : exec (.loadWindow ladle) s =
    effect (.loadWindow ladle) (onDev (forEach (List.range 8) (regionWindow ladle))) s := rfl

theorem exec_adminUp (src : Src) (lane : Nat) (v : Bool) (s : State) : exec (.adminUp src lane v) s =
    effect (.adminUp src lane v) (fun s => write32 src (Page.lnk lane) 0x100 (bit v + 2 * rd s.dev (Page.lnk lane) Reg.LNK_LNK_CTL_SPARE_AUTO) s) s := rfl

theorem exec_retrain (src : Src) (lane : Nat) (s : State) : exec (.retrain src lane) s =
    effect (.retrain src lane) (fun s => write32 src (Page.lnk lane) 0x100 (4 + (rdWord s.dev (Page.lnk lane) 0x100).toNat % 4) s) s := rfl

theorem exec_lockAcquired (lane : Nat) (s : State) : exec (.lockAcquired lane) s =
    effect (.lockAcquired lane) (onDev (trainStep s.now lane lsSearch lsTrain)) s := rfl

theorem exec_deskewDone (lane : Nat) (s : State) : exec (.deskewDone lane) s =
    effect (.deskewDone lane) (onDev (trainStep s.now lane lsTrain lsIdentify)) s := rfl

theorem exec_linkTrainingTimeout (lane : Nat) (s : State) : exec (.linkTrainingTimeout lane) s =
    effect (.linkTrainingTimeout lane) (onDev (trainingTimeout s.now lane)) s := rfl

theorem exec_trainingFrame (lane : Nat) (frame : List Byte) (laneBytes : List Nat) (s : State) : exec (.trainingFrame lane frame laneBytes) s =
    effect (.trainingFrame lane frame laneBytes) (onDev (trainingFrame s.now lane frame laneBytes)) s := rfl

theorem exec_landingReservationRetry (lane : Nat) (s : State) : exec (.landingReservationRetry lane) s =
    effect (.landingReservationRetry lane) (onDev (landingRetry s.now lane)) s := rfl

theorem exec_autoRetrain (lane : Nat) (s : State) : exec (.autoRetrain lane) s =
    effect (.autoRetrain lane) (onDev (autoRetrain s.now lane)) s := rfl

theorem exec_codewordSend (lane : Nat) (s : State) : exec (.codewordSend lane) s =
    effect (.codewordSend lane) (onDev (codewordSend s.now lane)) s := rfl

theorem exec_dataCodewordReceive (lane : Nat) (cw : Codeword) (seq corrected : Nat) (s : State) : exec (.dataCodewordReceive lane cw seq corrected) s =
    effect (.dataCodewordReceive lane cw seq corrected) (onDev (dataCodeword s.now lane cw seq corrected)) s := rfl

theorem exec_uncorrectableCodeword (lane : Nat) (s : State) : exec (.uncorrectableCodeword lane) s =
    effect (.uncorrectableCodeword lane) (onDev (uncorrectable s.now lane)) s := rfl

theorem exec_credit (lane value : Nat) (s : State) : exec (.credit lane value) s =
    effect (.credit lane value) (onDev (fun d => doIf (carries d lane) (creditItem (portOfLane d lane) value) d)) s := rfl

theorem exec_ack (lane value : Nat) (s : State) : exec (.ack lane value) s =
    effect (.ack lane value) (onDev (fun d => doIf (carries d lane) (ackItem s.now (portOfLane d lane) value) d)) s := rfl

theorem exec_nak (lane value : Nat) (s : State) : exec (.nak lane value) s =
    effect (.nak lane value) (onDev (fun d => doIf (carries d lane) (nakItem s.now (portOfLane d lane) value) d)) s := rfl

theorem exec_ackTimeout (lane : Nat) (s : State) : exec (.ackTimeout lane) s =
    effect (.ackTimeout lane) (onDev (ackTimeout s.now lane)) s := rfl

theorem exec_repairRequest (portBlock laneIdx : Nat) (s : State) : exec (.repairRequest portBlock laneIdx) s =
    effect (.repairRequest portBlock laneIdx) (onDev (repairRequest s.now portBlock laneIdx)) s := rfl

theorem exec_repairAccept (portBlock laneIdx : Nat) (s : State) : exec (.repairAccept portBlock laneIdx) s =
    effect (.repairAccept portBlock laneIdx) (onDev (repairAccept portBlock laneIdx)) s := rfl

theorem exec_repairRefuse (portBlock laneIdx reason : Nat) (s : State) : exec (.repairRefuse portBlock laneIdx reason) s =
    effect (.repairRefuse portBlock laneIdx reason) (onDev (repairRefuse s.now portBlock laneIdx reason)) s := rfl

theorem exec_repairAnswerTimeout (portBlock : Nat) (s : State) : exec (.repairAnswerTimeout portBlock) s =
    effect (.repairAnswerTimeout portBlock) (onDev (repairTimeout s.now portBlock)) s := rfl

theorem exec_laneSwitch (portBlock : Nat) (s : State) : exec (.laneSwitch portBlock) s =
    effect (.laneSwitch portBlock) (onDev (laneSwitch portBlock)) s := rfl

theorem exec_spareDeskewDone (portBlock : Nat) (s : State) : exec (.spareDeskewDone portBlock) s =
    effect (.spareDeskewDone portBlock) (onDev (spareDeskew s.now portBlock)) s := rfl

theorem exec_noLight (lane : Nat) (s : State) : exec (.noLight lane) s =
    effect (.noLight lane) (onDev (laneFail s.now lane 2)) s := rfl

theorem exec_lockLost (lane : Nat) (s : State) : exec (.lockLost lane) s =
    effect (.lockLost lane) (onDev (laneFail s.now lane 3)) s := rfl

theorem exec_spareThreshExceeded (lane : Nat) (s : State) : exec (.spareThreshExceeded lane) s =
    effect (.spareThreshExceeded lane) (onDev (threshExceeded s.now lane)) s := rfl

theorem exec_depart (lane : Nat) (s : State) : exec (.depart lane) s =
    effect (.depart lane) (onDev (departReceived s.now lane)) s := rfl

theorem exec_departedClose (lane : Nat) (lightAbsent : Bool) (s : State) : exec (.departedClose lane lightAbsent) s =
    effect (.departedClose lane lightAbsent) (onDev (departedClose s.now lane lightAbsent)) s := rfl

theorem exec_flitCrcError (group : Nat) (s : State) : exec (.flitCrcError group) s =
    effect (.flitCrcError group) (onDev (flitError group)) s := rfl

theorem exec_d2dWireRepair (group wire : Nat) (s : State) : exec (.d2dWireRepair group wire) s =
    effect (.d2dWireRepair group wire) (onDev (wireRepair s.now group wire)) s := rfl

theorem exec_d2dRepairDone (group : Nat) (s : State) : exec (.d2dRepairDone group) s =
    effect (.d2dRepairDone group) (onDev (wireRepairDone group)) s := rfl

theorem exec_referenceLoss (s : State) : exec .referenceLoss s =
    effect .referenceLoss (onDev referenceLoss) s := rfl

theorem exec_laserInsert (m : Nat) (s : State) : exec (.laserInsert m) s =
    effect (.laserInsert m) (onDev (laserInsert s.now m)) s := rfl

theorem exec_laserVerify (m : Nat) (info : ModuleInfo) (s : State) : exec (.laserVerify m info) s =
    effect (.laserVerify m info) (onDev (laserVerify s.now m info)) s := rfl

theorem exec_laserRampDone (m : Nat) (s : State) : exec (.laserRampDone m) s =
    effect (.laserRampDone m) (onDev (laserRampDone s.now m)) s := rfl

theorem exec_laserPoll (m status temp : Nat) (s : State) : exec (.laserPoll m status temp) s =
    effect (.laserPoll m status temp) (onDev (laserPoll m status temp)) s := rfl

theorem exec_laserEvent (m : Nat) (s : State) : exec (.laserEvent m) s =
    effect (.laserEvent m) (onDev (laserEvent s.now m)) s := rfl

theorem exec_laserChangeoverDone (tile : Nat) (s : State) : exec (.laserChangeoverDone tile) s =
    effect (.laserChangeoverDone tile) (onDev (laserChangeover s.now tile)) s := rfl

theorem exec_laserHoldoffEnd (tile : Nat) (s : State) : exec (.laserHoldoffEnd tile) s =
    effect (.laserHoldoffEnd tile) (onDev (laserHoldoffEnd tile)) s := rfl

theorem exec_laserRemove (m : Nat) (s : State) : exec (.laserRemove m) s =
    effect (.laserRemove m) (onDev (laserRemove s.now m)) s := rfl

theorem exec_wearHour (m : Nat) (s : State) : exec (.wearHour m) s =
    effect (.wearHour m) (onDev (wearHour s.now m)) s := rfl

theorem exec_release (src : Src) (m : Nat) (force : Bool) (s : State) : exec (.release src m force) s =
    effect (.release src m force) (write32 src (Page.laser m) 0x100 (1 + 2 * bit force)) s := rfl

theorem exec_releaseDone (m : Nat) (s : State) : exec (.releaseDone m) s =
    effect (.releaseDone m) (onDev (releaseDone s.now m)) s := rfl

theorem exec_resume (src : Src) (m : Nat) (s : State) : exec (.resume src m) s =
    effect (.resume src m) (write32 src (Page.laser m) 0x100 4) s := rfl

theorem exec_swap (src : Src) (s : State) : exec (.swap src) s =
    effect (.swap src) (write32 src Page.fwd 0x104 1) s := rfl

theorem exec_arm (src : Src) (s : State) : exec (.arm src) s =
    effect (.arm src) (write32 src Page.fwd 0x104 2) s := rfl

theorem exec_disarm (src : Src) (s : State) : exec (.disarm src) s =
    effect (.disarm src) (write32 src Page.fwd 0x104 4) s := rfl

theorem exec_bankDrained (e : Nat) (s : State) : exec (.bankDrained e) s =
    effect (.bankDrained e) (onDev (bankDrained e)) s := rfl

theorem exec_drainWarning (s : State) : exec .drainWarning s =
    effect .drainWarning (onDev (drainWarning s.now)) s := rfl

theorem exec_flowAgeSweep (s : State) : exec .flowAgeSweep s =
    effect .flowAgeSweep (onDev (flowSweep s.now)) s := rfl

theorem exec_parityRepair (table die index : Nat) (otherBad : Bool) (s : State) : exec (.parityRepair table die index otherBad) s =
    effect (.parityRepair table die index otherBad) (onDev (parityRepair table die index otherBad)) s := rfl

theorem exec_digestWrite (src : Src) (g : Nat) (high : W32) (s : State) : exec (.digestWrite src g high) s =
    effect (.digestWrite src g high) (write32 src Page.fwd (0x144 + 8 * g) high.toNat) s := rfl

theorem exec_scrubPass (g die : Nat) (bad : List Nat) (s : State) : exec (.scrubPass g die bad) s =
    effect (.scrubPass g die bad) (onDev (scrubPass g die bad)) s := rfl

theorem exec_circSetup (src : Src) (index : Nat) (timed : Bool) (s : State) : exec (.circSetup src index timed) s =
    effect (.circSetup src index timed) (circWrite src 1 index timed) s := rfl

theorem exec_circTeardown (src : Src) (index : Nat) (timed : Bool) (s : State) : exec (.circTeardown src index timed) s =
    effect (.circTeardown src index timed) (circWrite src 2 index timed) s := rfl

theorem exec_confirm (src : Src) (index : Nat) (s : State) : exec (.confirm src index) s =
    effect (.confirm src index) (circWrite src 3 index false) s := rfl

theorem exec_circDrainStart (index : Nat) (s : State) : exec (.circDrainStart index) s =
    effect (.circDrainStart index) (onDev (circDrain s.now index)) s := rfl

theorem exec_circuitFence (index : Nat) (s : State) : exec (.circuitFence index) s =
    effect (.circuitFence index) (onDev (circFence s.now index)) s := rfl

theorem exec_circFlush (index : Nat) (s : State) : exec (.circFlush index) s =
    effect (.circFlush index) (onDev (circFlush s.now index)) s := rfl

theorem exec_circReplayCut (index : Nat) (s : State) : exec (.circReplayCut index) s =
    effect (.circReplayCut index) (onDev (circCut s.now index)) s := rfl

theorem exec_circSwitch (index : Nat) (s : State) : exec (.circSwitch index) s =
    effect (.circSwitch index) (onDev (circSwitch s.now index)) s := rfl

theorem exec_circuitUp (index : Nat) (s : State) : exec (.circuitUp index) s =
    effect (.circuitUp index) (onDev (circUp s.now index)) s := rfl

theorem exec_circTriggerLate (index : Nat) (s : State) : exec (.circTriggerLate index) s =
    effect (.circTriggerLate index) (onDev (circLate index)) s := rfl

theorem exec_circLightReturn (index : Nat) (s : State) : exec (.circLightReturn index) s =
    effect (.circLightReturn index) (onDev (lightReturn s.now index)) s := rfl

theorem exec_confirmTimeout (index : Nat) (s : State) : exec (.confirmTimeout index) s =
    effect (.confirmTimeout index) (onDev (confirmTimeout s.now index)) s := rfl

theorem exec_pathPowerLoss (index : Nat) (s : State) : exec (.pathPowerLoss index) s =
    effect (.pathPowerLoss index) (onDev (pathLoss s.now index)) s := rfl

theorem exec_matrixFault (s : State) : exec .matrixFault s =
    effect .matrixFault (onDev (matrixFault s.now)) s := rfl

theorem exec_candWindow (s : State) : exec .candWindow s =
    effect .candWindow (onDev candWindow) s := rfl

theorem exec_planPhaseBoundary (group phase : Nat) (s : State) : exec (.planPhaseBoundary group phase) s =
    effect (.planPhaseBoundary group phase) (onDev (planBoundary s.now group phase)) s := rfl

theorem exec_cup (s : State) : exec .cup s =
    effect .cup (takeInbox ocCUP) s := rfl

theorem exec_ctailUp (s : State) : exec .ctailUp s =
    effect .ctailUp (takeInbox ocCTAIL_UP) s := rfl

theorem exec_missingCellsTimeout (group phase member : Nat) (s : State) : exec (.missingCellsTimeout group phase member) s =
    effect (.missingCellsTimeout group phase member) (missingCells group phase member) s := rfl

theorem exec_chunkTimeout (group phase : Nat) (s : State) : exec (.chunkTimeout group phase) s =
    effect (.chunkTimeout group phase) (chunkTimedOut group phase) s := rfl

theorem exec_resultsReady (group phase : Nat) (s : State) : exec (.resultsReady group phase) s =
    effect (.resultsReady group phase) (onDev (resultsReady (ctxKey group phase))) s := rfl

theorem exec_resultStream (group phase : Nat) (s : State) : exec (.resultStream group phase) s =
    effect (.resultStream group phase) (resultStream group phase) s := rfl

theorem exec_pageOutDone (group phase : Nat) (s : State) : exec (.pageOutDone group phase) s =
    effect (.pageOutDone group phase) (onDev (fun d => forEach (slotKeys d group phase) pageOutDone d)) s := rfl

theorem exec_pageInDone (group phase : Nat) (s : State) : exec (.pageInDone group phase) s =
    effect (.pageInDone group phase) (fun s => unparkReady (onDev (fun d => forEach (slotKeys d group phase) pageInDone d) s)) s := rfl

theorem exec_resize (src : Src) (abort : Bool) (group : Nat) (s : State) : exec (.resize src abort group) s =
    effect (.resize src abort group) (write32 src Page.col 0x120 (2 ^ 31 + bit abort * 2 ^ 30 + group)) s := rfl

theorem exec_resizeDone (group : Nat) (s : State) : exec (.resizeDone group) s =
    effect (.resizeDone group) (onDev (resizeDone s.now group)) s := rfl

theorem exec_genDrainDone (group : Nat) (s : State) : exec (.genDrainDone group) s =
    effect (.genDrainDone group) (onDev (genDrainDone s.now group)) s := rfl

theorem exec_stragClear (src : Src) (group : Nat) (s : State) : exec (.stragClear src group) s =
    effect (.stragClear src group) (write32 src Page.col 0x140 group) s := rfl

theorem exec_accumulateRun (core : Nat) (s : State) : exec (.accumulateRun core) s =
    effect (.accumulateRun core) (onDev (accumulateRun s.now core)) s := rfl

theorem exec_finishRun (core : Nat) (s : State) : exec (.finishRun core) s =
    effect (.finishRun core) (onDev (finishRun core)) s := rfl

theorem exec_rebuildRun (core : Nat) (s : State) : exec (.rebuildRun core) s =
    effect (.rebuildRun core) (onDev (rebuildRun core)) s := rfl

theorem exec_load (src : Src) (slot : Nat) (s : State) : exec (.load src slot) s =
    effect (.load src slot) (write32 src (Page.region 0) 0x110 (2 ^ 30 + slot)) s := rfl

theorem exec_copy (src : Src) (slot : Nat) (s : State) : exec (.copy src slot) s =
    effect (.copy src slot) (write32 src (Page.region 0) 0x110 (2 * 2 ^ 30 + slot)) s := rfl

theorem exec_recipeCmdDone (s : State) : exec .recipeCmdDone s =
    effect .recipeCmdDone (onDev recipeDone) s := rfl

theorem exec_retiringFreed (slot : Nat) (s : State) : exec (.retiringFreed slot) s =
    effect (.retiringFreed slot) (onDev (retiringFreed slot)) s := rfl

theorem exec_coreFail (core : Nat) (s : State) : exec (.coreFail core) s =
    effect (.coreFail core) (coreFail core) s := rfl

theorem exec_scratchCorrected (core : Nat) (s : State) : exec (.scratchCorrected core) s =
    effect (.scratchCorrected core) (onDev (fun d => hwErr (Page.coreBlock (core / 25)) errCorrected core (bump (Page.coreBlock (core / 25)) Reg.CB_CNT 16 d))) s := rfl

theorem exec_spareTakeover (coreBlock : Nat) (s : State) : exec (.spareTakeover coreBlock) s =
    effect (.spareTakeover coreBlock) (onDev (spareTakeover s.now coreBlock)) s := rfl

theorem exec_rebuildDone (coreBlock : Nat) (s : State) : exec (.rebuildDone coreBlock) s =
    effect (.rebuildDone coreBlock) (onDev (rebuildDone s.now coreBlock)) s := rfl

theorem exec_spareSelftest (coreBlock : Nat) (pass : Bool) (s : State) : exec (.spareSelftest coreBlock pass) s =
    effect (.spareSelftest coreBlock pass) (onDev (spareSelftest coreBlock pass)) s := rfl

theorem exec_memPut (s : State) : exec .memPut s =
    effect .memPut (onDev (takeVerb s.now ocMEM_PUT)) s := rfl

theorem exec_memGet (s : State) : exec .memGet s =
    effect .memGet (onDev (takeVerb s.now ocMEM_GET)) s := rfl

theorem exec_memAcc (s : State) : exec .memAcc s =
    effect .memAcc (onDev (takeVerb s.now ocMEM_ACC)) s := rfl

theorem exec_memFence (s : State) : exec .memFence s =
    effect .memFence (onDev (takeFence s.now)) s := rfl

theorem exec_verbAccept (mid : Nat) (s : State) : exec (.verbAccept mid) s =
    effect (.verbAccept mid) (acceptVerb mid) s := rfl

theorem exec_accRun (core : Nat) (s : State) : exec (.accRun core) s =
    effect (.accRun core) (accRun core) s := rfl

theorem exec_fenceComplete (source : W32) (msgid : Nat) (s : State) : exec (.fenceComplete source msgid) s =
    effect (.fenceComplete source msgid) (onDev (fenceComplete s.now source msgid)) s := rfl

theorem exec_fenceTimeout (source : W32) (msgid : Nat) (s : State) : exec (.fenceTimeout source msgid) s =
    effect (.fenceTimeout source msgid) (onDev (fenceTimeout s.now source msgid)) s := rfl

theorem exec_linePoison (addr : Nat) (s : State) : exec (.linePoison addr) s =
    effect (.linePoison addr) (linePoison addr) s := rfl

theorem exec_patrolScrub (corrected : Nat) (s : State) : exec (.patrolScrub corrected) s =
    effect (.patrolScrub corrected) (onDev (patrolScrub corrected)) s := rfl

theorem exec_hostWindowAccess (write : Bool) (offset bytes : Nat) (data : List Byte) (s : State) : exec (.hostWindowAccess write offset bytes data) s =
    effect (.hostWindowAccess write offset bytes data) (hostWindow write offset bytes data) s := rfl

theorem exec_snap (src : Src) (s : State) : exec (.snap src) s =
    effect (.snap src) (write32 src Page.tim 0x140 1) s := rfl

theorem exec_stepRequest (src : Src) (force : Bool) (frac : Nat) (s : State) : exec (.stepRequest src force frac) s =
    effect (.stepRequest src force frac) (write32 src Page.tim 0x12C (2 ^ 31 + bit force * 2 ^ 30 + frac % 65536)) s := rfl

theorem exec_set (src : Src) (frac : Nat) (s : State) : exec (.set src frac) s =
    effect (.set src frac) (write32 src Page.tim 0x138 (2 ^ 31 + frac % 65536)) s := rfl

theorem exec_servoRateChange (rate : W32) (s : State) : exec (.servoRateChange rate) s =
    effect (.servoRateChange rate) (onDev (servoRate s.now rate)) s := rfl

theorem exec_servoStep (step : BitVec 48) (s : State) : exec (.servoStep step) s =
    effect (.servoStep step) (onDev (servoStep s.now step)) s := rfl

theorem exec_timeCellSend (lane : Nat) (s : State) : exec (.timeCellSend lane) s =
    effect (.timeCellSend lane) (onDev (timeDue lane)) s := rfl

theorem exec_timeCellReceive (lane : Nat) (s : State) : exec (.timeCellReceive lane) s =
    effect (.timeCellReceive lane) (onDev (timeCellReceive s.now lane)) s := rfl

theorem exec_locked (s : State) : exec .locked s =
    effect .locked (onDev (locked s.now)) s := rfl

theorem exec_holdoverEnter (s : State) : exec .holdoverEnter s =
    effect .holdoverEnter (onDev (holdover s.now)) s := rfl

theorem exec_triggerHandoff (slot : Nat) (s : State) : exec (.triggerHandoff slot) s =
    effect (.triggerHandoff slot) (onDev (handoff s.now slot)) s := rfl

theorem exec_triggerFire (slot : Nat) (s : State) : exec (.triggerFire slot) s =
    effect (.triggerFire slot) (onDev (triggerFire s.now slot)) s := rfl

theorem exec_ppsInEdge (s : State) : exec .ppsInEdge s =
    effect .ppsInEdge (onDev (ppsIn s.now)) s := rfl

theorem exec_ppsOutPulse (s : State) : exec .ppsOutPulse s =
    effect .ppsOutPulse (onDev (ppsOut s.now)) s := rfl

theorem exec_powerInterval (sample : PowerSample) (s : State) : exec (.powerInterval sample) s =
    effect (.powerInterval sample) (onDev (powerInterval s.now sample)) s := rfl

theorem exec_allocationWatchdog (s : State) : exec .allocationWatchdog s =
    effect .allocationWatchdog (onDev allocationWatchdog) s := rfl

theorem exec_pointChangeDone (region : Nat) (s : State) : exec (.pointChangeDone region) s =
    effect (.pointChangeDone region) (onDev (pointChangeDone s.now region)) s := rfl

theorem exec_droopStart (region : Nat) (s : State) : exec (.droopStart region) s =
    effect (.droopStart region) (onDev (droopStart s.now region)) s := rfl

theorem exec_droopEnd (region : Nat) (s : State) : exec (.droopEnd region) s =
    effect (.droopEnd region) (onDev (droopEnd s.now region)) s := rfl

theorem exec_heldChangeResume (region : Nat) (s : State) : exec (.heldChangeResume region) s =
    effect (.heldChangeResume region) (onDev (heldResume s.now region)) s := rfl

theorem exec_thermalStep (die : Nat) (readings : List Int) (s : State) : exec (.thermalStep die readings) s =
    effect (.thermalStep die readings) (onDev (thermalStep die readings)) s := rfl

theorem exec_tempWarn (die : Nat) (reading : Int) (s : State) : exec (.tempWarn die reading) s =
    effect (.tempWarn die reading) (onDev (tempWarn die reading)) s := rfl

theorem exec_thermTrip (die : Nat) (reading : Int) (s : State) : exec (.thermTrip die reading) s =
    effect (.thermTrip die reading) (onDev (thermTrip die reading)) s := rfl

theorem exec_ageingCheck (domain : Nat) (slowed : Bool) (s : State) : exec (.ageingCheck domain slowed) s =
    effect (.ageingCheck domain slowed) (onDev (ageingCheck domain slowed)) s := rfl

theorem exec_mbxTxHeadWrite (src : Src) (ptr : Nat) (s : State) : exec (.mbxTxHeadWrite src ptr) s =
    effect (.mbxTxHeadWrite src ptr) (write32 src Page.mgt 0x124 ptr) s := rfl

theorem exec_relaySlotSend (s : State) : exec .relaySlotSend s =
    effect .relaySlotSend (onDev (relaySlot s.now)) s := rfl

theorem exec_relayRx (s : State) : exec .relayRx s =
    effect .relayRx (takeMgmt toHost (fun b => onDev (relayTake b))) s := rfl

theorem exec_hello (s : State) : exec .hello s =
    effect .hello (takeMgmt (fun c => !toHost c && decide (kindOf c = kHELLO)) (fun b s => onDev (fun d => helloTake s.now b (commitApply s.now Page.mgt d)) s)) s := rfl

theorem exec_auth (s : State) : exec .auth s =
    effect .auth (takeMgmt (fun c => !toHost c && decide (kindOf c = kAUTH)) (fun b s => onDev (authTake s.now b) s)) s := rfl

theorem exec_authTimeout (session : Nat) (s : State) : exec (.authTimeout session) s =
    effect (.authTimeout session) (onDev (authExpire s.now session)) s := rfl

theorem exec_data (s : State) : exec .data s =
    effect .data (takeMgmt (fun c => !toHost c && decide (kindOf c = kDATA)) dataTake) s := rfl

theorem exec_close (s : State) : exec .close s =
    effect .close (takeMgmt (fun c => !toHost c && decide (kindOf c = kCLOSE)) (fun b => onDev (closeTake b))) s := rfl

theorem exec_sessionIdleTimeout (session : Nat) (s : State) : exec (.sessionIdleTimeout session) s =
    effect (.sessionIdleTimeout session) (onDev (idleExpire s.now session)) s := rfl

theorem exec_event (page : Page) (s : State) : exec (.event page) s =
    effect (.event page) (onDev (event s.now page)) s := rfl

theorem exec_eventSessionWrite (src : Src) (valid : Bool) (session : Nat) (s : State) : exec (.eventSessionWrite src valid session) s =
    effect (.eventSessionWrite src valid session) (write32 src Page.mgt 0x11C (8 * bit valid + session)) s := rfl

theorem exec_enroll (src : Src) (s : State) : exec (.enroll src) s =
    effect (.enroll src) (secWrite src scENROLL) s := rfl

theorem exec_svnCommit (src : Src) (s : State) : exec (.svnCommit src) s =
    effect (.svnCommit src) (secWrite src scSVN_COMMIT) s := rfl

theorem exec_attest (src : Src) (s : State) : exec (.attest src) s =
    effect (.attest src) (secWrite src scATTEST) s := rfl

theorem exec_unlock (src : Src) (s : State) : exec (.unlock src) s =
    effect (.unlock src) (secWrite src scUNLOCK) s := rfl

theorem exec_relock (src : Src) (s : State) : exec (.relock src) s =
    effect (.relock src) (secWrite src scRELOCK) s := rfl

theorem exec_extend (src : Src) (s : State) : exec (.extend src) s =
    effect (.extend src) (secWrite src scEXTEND) s := rfl

theorem exec_challenge (src : Src) (s : State) : exec (.challenge src) s =
    effect (.challenge src) (secWrite src scCHALLENGE) s := rfl

theorem exec_update (src : Src) (s : State) : exec (.update src) s =
    effect (.update src) (secWrite src scUPDATE) s := rfl

theorem exec_secCmdDone (s : State) : exec .secCmdDone s =
    effect .secCmdDone (onDev secCmdDone) s := rfl

theorem exec_dbgRead (src : Src) (s : State) : exec (.dbgRead src) s =
    effect (.dbgRead src) (write32 src Page.dbg 0x108 (2 ^ 30)) s := rfl

theorem exec_dbgWrite (src : Src) (s : State) : exec (.dbgWrite src) s =
    effect (.dbgWrite src) (write32 src Page.dbg 0x108 (2 * 2 ^ 30)) s := rfl

theorem exec_dbgCmdDone (s : State) : exec .dbgCmdDone s =
    effect .dbgCmdDone (onDev dbgDone) s := rfl

theorem exec_halt (src : Src) (mask : Nat) (s : State) : exec (.halt src mask) s =
    effect (.halt src mask) (write32 src Page.dbg 0x110 mask) s := rfl

theorem exec_bootVerify (slot : Nat) (s : State) : exec (.bootVerify slot) s =
    effect (.bootVerify slot) (onDev (bootVerify slot)) s := rfl

theorem exec_journalAppend (type key : Nat) (value : List Byte) (delete readBackOk : Bool) (s : State) : exec (.journalAppend type key value delete readBackOk) s =
    effect (.journalAppend type key value delete readBackOk) (onDev (journalAppend type key value delete readBackOk)) s := rfl

theorem exec_compaction (s : State) : exec .compaction s =
    effect .compaction (onDev compaction) s := rfl

theorem exec_coldReset (s : State) : exec .coldReset s =
    effect .coldReset coldReset s := rfl

theorem exec_warmReset (s : State) : exec .warmReset s =
    effect .warmReset warmReset s := rfl

theorem exec_hot (src : Src) (s : State) : exec (.hot src) s =
    effect (.hot src) (write32 src Page.pkg 0x110 0x11) s := rfl

theorem exec_drain (src : Src) (s : State) : exec (.drain src) s =
    effect (.drain src) (write32 src Page.pkg 0x110 0x21) s := rfl

theorem exec_inbandResetDelay (s : State) : exec .inbandResetDelay s =
    effect .inbandResetDelay inbandReset s := rfl

theorem exec_departDark (lane : Nat) (s : State) : exec (.departDark lane) s =
    effect (.departDark lane) (fun s => warmProceed (onDev (departDark s.now lane) s)) s := rfl

theorem exec_drainDiscardPoint (s : State) : exec .drainDiscardPoint s =
    effect .drainDiscardPoint discardPoint s := rfl

theorem exec_hotResetDone (failed : List Page) (s : State) : exec (.hotResetDone failed) s =
    effect (.hotResetDone failed) (hotDone failed) s := rfl

theorem exec_pcieHotReset (s : State) : exec .pcieHotReset s =
    effect .pcieHotReset (onDev pcieHotReset) s := rfl

theorem exec_powerStateChange (d3hot : Bool) (s : State) : exec (.powerStateChange d3hot) s =
    effect (.powerStateChange d3hot) (onDev (powerState d3hot)) s := rfl

theorem exec_regionFence (region : Nat) (s : State) : exec (.regionFence region) s =
    effect (.regionFence region) (regionFence region) s := rfl

theorem exec_midFail (mid : Nat) (s : State) : exec (.midFail mid) s =
    effect (.midFail mid) (midFail mid) s := rfl

theorem exec_lockstepMismatch (pair : Nat) (s : State) : exec (.lockstepMismatch pair) s =
    effect (.lockstepMismatch pair) (onDev (lockstep s.now pair)) s := rfl

theorem exec_failStop (detail : Nat) (s : State) : exec (.failStop detail) s =
    effect (.failStop detail) (fun s => if failStopped s.dev then s else failStop detail s) s := rfl

theorem exec_railUndervoltage (rail : Nat) (s : State) : exec (.railUndervoltage rail) s =
    effect (.railUndervoltage rail) (fun s => if failStopped s.dev || !s.dev.rst.pwrGood then s else failStop rail s) s := rfl

theorem exec_powerDown (s : State) : exec .powerDown s =
    effect .powerDown (onDev (powerDown s.now)) s := rfl

theorem exec_capture (src : Src) (s : State) : exec (.capture src) s =
    effect (.capture src) (write32 src Page.tel 0x140 1) s := rfl

theorem exec_captureDone (s : State) : exec .captureDone s =
    effect .captureDone (onDev captureDone) s := rfl

theorem exec_recordWrite (die : Nat) (s : State) : exec (.recordWrite die) s =
    effect (.recordWrite die) (recordWrite die) s := rfl

theorem exec_ringCfgWrite (src : Src) (value : W32) (s : State) : exec (.ringCfgWrite src value) s =
    effect (.ringCfgWrite src value) (write32 src Page.tel 0x104 value.toNat) s := rfl

theorem exec_referenceRestored (s : State) : exec .referenceRestored s =
    effect .referenceRestored (onDev referenceRestored) s := rfl

theorem exec_perstNDeasserted (s : State) : exec .perstNDeasserted s =
    effect .perstNDeasserted (fun s => if s.dev.rst.perst then perstReleased s else s) s := rfl

theorem exec_getReadDone (mid : Nat) (s : State) : exec (.getReadDone mid) s =
    effect (.getReadDone mid) (onDev (getReadDone s.now mid)) s := rfl

theorem exec_bankGroupControllerFail (bankGroup : Nat) (s : State) : exec (.bankGroupControllerFail bankGroup) s =
    effect (.bankGroupControllerFail bankGroup) (fenceGroup bankGroup) s := rfl

theorem exec_circuitTeardownDone (index : Nat) (s : State) : exec (.circuitTeardownDone index) s =
    effect (.circuitTeardownDone index) (onDev (teardownDone index)) s := rfl

end Sys2Proof.Machine
end

