-- ==== Sys2Proof/Laws/Words.lean ====
section
/-! SUPPORT. Bit fields of a word: reading a field just set, and a field that does not overlap it. -/

namespace Sys2Proof

/-- The parts of a word around a field: the bits above, the field, the bits below. -/
theorem split_field (x hi lo : Nat) (h : lo ≤ hi) :
    x = (x / 2 ^ (hi + 1)) * 2 ^ (hi + 1) + (x / 2 ^ lo % 2 ^ (hi + 1 - lo)) * 2 ^ lo + x % 2 ^ lo := by
  have e : 2 ^ (hi + 1) = 2 ^ lo * 2 ^ (hi + 1 - lo) := by rw [← Nat.pow_add]; congr 1; omega
  have h1 := Nat.div_add_mod x (2 ^ lo)
  have h2 := Nat.div_add_mod (x / 2 ^ lo) (2 ^ (hi + 1 - lo))
  have h3 : x / 2 ^ (hi + 1) = x / 2 ^ lo / 2 ^ (hi + 1 - lo) := by rw [e, Nat.div_div_eq_div_mul]
  rw [h3]
  calc x = 2 ^ lo * (x / 2 ^ lo) + x % 2 ^ lo := h1.symm
    _ = 2 ^ lo * (2 ^ (hi + 1 - lo) * (x / 2 ^ lo / 2 ^ (hi + 1 - lo)) + x / 2 ^ lo % 2 ^ (hi + 1 - lo)) + x % 2 ^ lo := by
        rw [h2]
    _ = _ := by rw [e]; ring

/-- A word with a field replaced, as a number. -/
theorem withBits_toNat {w : Nat} (x : BitVec w) (hi lo v : Nat) (h : lo ≤ hi) (hw : hi < w) :
    (withBits x hi lo v).toNat =
      (x.toNat / 2 ^ (hi + 1)) * 2 ^ (hi + 1) + (v % 2 ^ (hi + 1 - lo)) * 2 ^ lo + x.toNat % 2 ^ lo := by
  have e : 2 ^ (hi + 1) = 2 ^ lo * 2 ^ (hi + 1 - lo) := by rw [← Nat.pow_add]; congr 1; omega
  have ew : 2 ^ w = 2 ^ (hi + 1) * 2 ^ (w - (hi + 1)) := by rw [← Nat.pow_add]; congr 1; omega
  have hx := split_field x.toNat hi lo h
  have hlt := x.isLt
  have hv : v % 2 ^ (hi + 1 - lo) < 2 ^ (hi + 1 - lo) := Nat.mod_lt _ (Nat.two_pow_pos _)
  have hb : x.toNat % 2 ^ lo < 2 ^ lo := Nat.mod_lt _ (Nat.two_pow_pos _)
  have hA : x.toNat / 2 ^ (hi + 1) < 2 ^ (w - (hi + 1)) := by
    apply Nat.div_lt_of_lt_mul; rw [← ew]; exact hlt
  simp only [withBits, BitVec.toNat_ofNat, Nat.shiftRight_eq_div_pow]
  generalize x.toNat / 2 ^ (hi + 1) = A at *
  generalize x.toNat / 2 ^ lo % 2 ^ (hi + 1 - lo) = o at *
  generalize x.toNat % 2 ^ lo = B at *
  generalize v % 2 ^ (hi + 1 - lo) = u at *
  have e1 : x.toNat + u * 2 ^ lo - o * 2 ^ lo = A * 2 ^ (hi + 1) + u * 2 ^ lo + B := by omega
  rw [e1]
  apply Nat.mod_eq_of_lt
  have h5 : u * 2 ^ lo + B < 2 ^ (hi + 1) := by
    have : (u + 1) * 2 ^ lo ≤ 2 ^ (hi + 1 - lo) * 2 ^ lo := Nat.mul_le_mul_right _ hv
    rw [e]; nlinarith
  calc A * 2 ^ (hi + 1) + u * 2 ^ lo + B < A * 2 ^ (hi + 1) + 2 ^ (hi + 1) := by omega
    _ = (A + 1) * 2 ^ (hi + 1) := by ring
    _ ≤ 2 ^ (w - (hi + 1)) * 2 ^ (hi + 1) := Nat.mul_le_mul_right _ hA
    _ = 2 ^ w := by rw [ew]; ring

/-- A field just set reads the value, cut to its width. -/
theorem bitsOf_withBits_same {w : Nat} (x : BitVec w) (hi lo v : Nat) (h : lo ≤ hi) (hw : hi < w) :
    bitsOf (withBits x hi lo v) hi lo = v % 2 ^ (hi + 1 - lo) := by
  have hb : x.toNat % 2 ^ lo < 2 ^ lo := Nat.mod_lt _ (Nat.two_pow_pos _)
  have e : 2 ^ (hi + 1) = 2 ^ (hi + 1 - lo) * 2 ^ lo := by rw [← Nat.pow_add]; congr 1; omega
  simp only [bitsOf, withBits_toNat x hi lo v h hw, Nat.shiftRight_eq_div_pow]
  rw [e, show x.toNat / (2 ^ (hi + 1 - lo) * 2 ^ lo) * (2 ^ (hi + 1 - lo) * 2 ^ lo) + v % 2 ^ (hi + 1 - lo) * 2 ^ lo +
      x.toNat % 2 ^ lo = x.toNat % 2 ^ lo +
        (v % 2 ^ (hi + 1 - lo) + 2 ^ (hi + 1 - lo) * (x.toNat / (2 ^ (hi + 1 - lo) * 2 ^ lo))) * 2 ^ lo by ring,
    Nat.add_mul_div_right _ _ (Nat.two_pow_pos _), Nat.div_eq_of_lt hb, Nat.zero_add, Nat.add_mul_mod_self_left, Nat.mod_mod]

/-- A field that does not overlap the one set is unchanged. -/
theorem bitsOf_withBits_ne {w : Nat} (x : BitVec w) (hi lo hi' lo' v : Nat) (h : lo ≤ hi) (hw : hi < w) (h' : lo' ≤ hi')
    (hd : hi' < lo ∨ hi < lo') : bitsOf (withBits x hi lo v) hi' lo' = bitsOf x hi' lo' := by
  simp only [bitsOf, Nat.shiftRight_eq_div_pow]
  have key := withBits_toNat x hi lo v h hw
  have hx := split_field x.toNat hi lo h
  rcases hd with hd | hd
  · have e1 : ∀ n : Nat, n / 2 ^ lo' % 2 ^ (hi' + 1 - lo') = n % 2 ^ lo / 2 ^ lo' % 2 ^ (hi' + 1 - lo') := by
      intro n
      rw [show 2 ^ lo = 2 ^ lo' * 2 ^ (lo - lo') by rw [← Nat.pow_add]; congr 1; omega, Nat.mod_mul_right_div_self,
        Nat.mod_mod_of_dvd _ (Nat.pow_dvd_pow 2 (by omega))]
    have e2 : 2 ^ (hi + 1) = 2 ^ lo * 2 ^ (hi + 1 - lo) := by rw [← Nat.pow_add]; congr 1; omega
    have e3 : (withBits x hi lo v).toNat % 2 ^ lo = x.toNat % 2 ^ lo := by
      rw [key, e2, show x.toNat / (2 ^ lo * 2 ^ (hi + 1 - lo)) * (2 ^ lo * 2 ^ (hi + 1 - lo)) +
        v % 2 ^ (hi + 1 - lo) * 2 ^ lo + x.toNat % 2 ^ lo = x.toNat % 2 ^ lo + 2 ^ lo *
          (x.toNat / (2 ^ lo * 2 ^ (hi + 1 - lo)) * 2 ^ (hi + 1 - lo) + v % 2 ^ (hi + 1 - lo)) by ring,
        Nat.add_mul_mod_self_left, Nat.mod_mod]
    rw [e1 (withBits x hi lo v).toNat, e1 x.toNat, e3]
  · have e1 : ∀ n : Nat, n / 2 ^ lo' % 2 ^ (hi' + 1 - lo') = n / 2 ^ (hi + 1) / 2 ^ (lo' - (hi + 1)) % 2 ^ (hi' + 1 - lo') := by
      intro n
      rw [Nat.div_div_eq_div_mul, ← Nat.pow_add]; congr 3; omega
    have hb : x.toNat % 2 ^ lo < 2 ^ lo := Nat.mod_lt _ (Nat.two_pow_pos _)
    have hv : v % 2 ^ (hi + 1 - lo) < 2 ^ (hi + 1 - lo) := Nat.mod_lt _ (Nat.two_pow_pos _)
    have e2 : 2 ^ (hi + 1) = 2 ^ lo * 2 ^ (hi + 1 - lo) := by rw [← Nat.pow_add]; congr 1; omega
    have h5 : v % 2 ^ (hi + 1 - lo) * 2 ^ lo + x.toNat % 2 ^ lo < 2 ^ (hi + 1) := by
      have : (v % 2 ^ (hi + 1 - lo) + 1) * 2 ^ lo ≤ 2 ^ (hi + 1 - lo) * 2 ^ lo := Nat.mul_le_mul_right _ hv
      rw [e2]; nlinarith
    have e3 : (withBits x hi lo v).toNat / 2 ^ (hi + 1) = x.toNat / 2 ^ (hi + 1) := by
      rw [key, Nat.add_assoc, Nat.add_comm, Nat.add_mul_div_right _ _ (Nat.two_pow_pos _), Nat.div_eq_of_lt h5, Nat.zero_add]
    rw [e1 (withBits x hi lo v).toNat, e1 x.toNat, e3]

end Sys2Proof
end

