-- ==== Sys2Proof/Laws/Registers.lean ====
section
/-! SUPPORT. Register words and fields: a read after a write of the same field, of another field of the word, of
another word, and of another page. -/

namespace Sys2Proof

open Sys2Proof.Machine

theorem Block.code_inj (a b : Block) (h : a.code = b.code) : a = b := by
  cases a <;> cases b <;> first | rfl | (simp [Block.code] at h)

/-- Words of two pages lie at different addresses (R38). -/
theorem Page.addr_inj (p q : Page) (a b : Nat) (hp : p.inst < 4096) (hq : q.inst < 4096) (ha : a < 4096) (hb : b < 4096) :
    p.base + a = q.base + b ↔ p = q ∧ a = b := by
  constructor
  · intro h
    simp only [Page.base] at h
    have h1 : p.blk.code = q.blk.code := by omega
    have h2 : p.inst = q.inst := by omega
    refine ⟨?_, by omega⟩
    have h3 := Block.code_inj _ _ h1
    cases p; cases q
    simp only [Page.mk.injEq]
    exact ⟨h3, h2⟩
  · rintro ⟨rfl, rfl⟩; rfl

end Sys2Proof

namespace Sys2Proof.Machine

/-- The field is a field of one word. -/
def Fd.good (f : Fd) : Bool := decide (f.lo ≤ f.hi) && decide (f.hi < 32) && decide (f.off < 4096)

/-- The fields share no bit. -/
def Fd.apart (f g : Fd) : Bool := decide (f.off ≠ g.off) || decide (f.hi < g.lo) || decide (g.hi < f.lo)

/-! ### Words -/

theorem rdWord_wrWord (p q : Page) (a b : Nat) (v : W32) (d : Dev) :
    rdWord (wrWord p a v d) q b = if p.base + a = q.base + b then v else rdWord d q b := by
  simp only [rdWord, wrWord, Ctl.word, Ctl.setWord, sget_sset]

@[simp] theorem rdWord_wrWord_same (p : Page) (a : Nat) (v : W32) (d : Dev) : rdWord (wrWord p a v d) p a = v := by
  simp [rdWord_wrWord]

theorem rdWord_wrWord_off (p : Page) {a b : Nat} (v : W32) (d : Dev) (h : a ≠ b) :
    rdWord (wrWord p a v d) p b = rdWord d p b := by
  rw [rdWord_wrWord, if_neg (by omega)]

theorem rdWord_wrWord_page {p q : Page} {a b : Nat} (v : W32) (d : Dev) (h : p ≠ q) (hp : p.inst < 4096)
    (hq : q.inst < 4096) (ha : a < 4096) (hb : b < 4096) : rdWord (wrWord p a v d) q b = rdWord d q b := by
  rw [rdWord_wrWord, if_neg]
  rw [Page.addr_inj p q a b hp hq ha hb]
  exact fun c => h c.1

/-! ### Fields -/

theorem rd_wr_same (p : Page) (f : Fd) (v : Nat) (d : Dev) (hf : f.good = true) :
    rd (wr p f v d) p f = v % 2 ^ (f.hi + 1 - f.lo) := by
  simp only [Fd.good, Bool.and_eq_true, decide_eq_true_eq] at hf
  simp only [rd, wr, rdWord_wrWord_same]
  exact bitsOf_withBits_same _ _ _ _ hf.1.1 hf.1.2

theorem rd_wr_fits (p : Page) (f : Fd) (v : Nat) (d : Dev) (hf : f.good = true) (hv : v < 2 ^ (f.hi + 1 - f.lo)) :
    rd (wr p f v d) p f = v := by
  rw [rd_wr_same p f v d hf, Nat.mod_eq_of_lt hv]

theorem rd_wr_apart (p : Page) {f g : Fd} (v : Nat) (d : Dev) (hf : f.good = true) (hg : g.good = true)
    (h : f.apart g = true) : rd (wr p f v d) p g = rd d p g := by
  simp only [Fd.good, Bool.and_eq_true, decide_eq_true_eq] at hf hg
  simp only [Fd.apart, Bool.or_eq_true, decide_eq_true_eq] at h
  simp only [rd, wr]
  by_cases hoff : f.off = g.off
  · rw [hoff, rdWord_wrWord_same]
    exact bitsOf_withBits_ne _ _ _ _ _ _ hf.1.1 hf.1.2 hg.1.1 (by tauto)
  · rw [rdWord_wrWord_off p _ _ hoff]

theorem rd_wr_page {p q : Page} (f g : Fd) (v : Nat) (d : Dev) (h : p ≠ q) (hp : p.inst < 4096) (hq : q.inst < 4096)
    (hf : f.good = true) (hg : g.good = true) : rd (wr p f v d) q g = rd d q g := by
  simp only [Fd.good, Bool.and_eq_true, decide_eq_true_eq] at hf hg
  simp only [rd, wr, rdWord_wrWord_page _ _ h hp hq hf.2 hg.2]

theorem rdWord_wr_off (p : Page) (f : Fd) (v : Nat) (b : Nat) (d : Dev) (h : f.off ≠ b) :
    rdWord (wr p f v d) p b = rdWord d p b := rdWord_wrWord_off p _ d h

theorem rdWord_wr_page {p q : Page} (f : Fd) (v : Nat) (b : Nat) (d : Dev) (h : p ≠ q) (hp : p.inst < 4096)
    (hq : q.inst < 4096) (hf : f.off < 4096) (hb : b < 4096) : rdWord (wr p f v d) q b = rdWord d q b :=
  rdWord_wrWord_page _ d h hp hq hf hb

theorem rd_wrWord_off (p : Page) {a : Nat} (g : Fd) (v : W32) (d : Dev) (h : a ≠ g.off) :
    rd (wrWord p a v d) p g = rd d p g := by simp only [rd, rdWord_wrWord_off p v d h]

theorem rd_wrWord_page {p q : Page} {a : Nat} (g : Fd) (v : W32) (d : Dev) (h : p ≠ q) (hp : p.inst < 4096)
    (hq : q.inst < 4096) (ha : a < 4096) (hg : g.off < 4096) : rd (wrWord p a v d) q g = rd d q g := by
  simp only [rd, rdWord_wrWord_page v d h hp hq ha hg]

theorem wrBit_eq (p : Page) (f : Fd) (b : Bool) (d : Dev) : wrBit p f b d = wr p f (if b then 1 else 0) d := rfl

theorem rdBit_eq (d : Dev) (p : Page) (f : Fd) : rdBit d p f = (rd d p f != 0) := rfl

theorem rdBit_wrBit_same (p : Page) (f : Fd) (b : Bool) (d : Dev) (hf : f.good = true) : rdBit (wrBit p f b d) p f = b := by
  have hf' := hf
  simp only [Fd.good, Bool.and_eq_true, decide_eq_true_eq] at hf'
  have h1 : (1 : Nat) < 2 ^ (f.hi + 1 - f.lo) := Nat.one_lt_two_pow (by omega)
  rw [rdBit_eq, wrBit_eq, rd_wr_fits p f _ d hf (by cases b <;> simp [h1])]
  cases b <;> rfl

/-! ### What depends on the register words alone -/

theorem rdWord_congr {d d' : Dev} (h : d.ctl.regs = d'.ctl.regs) (p : Page) (a : Nat) : rdWord d p a = rdWord d' p a := by
  simp only [rdWord, Ctl.word, h]

theorem rd_congr {d d' : Dev} (h : d.ctl.regs = d'.ctl.regs) (p : Page) (f : Fd) : rd d p f = rd d' p f := by
  simp only [rd, rdWord_congr h]

/-! ### Records and tables -/

@[simp] theorem port_setPort_same (lane : Nat) (p : Port) (d : Dev) : (setPort lane p d).port lane = p := by
  simp [Dev.port, setPort]

theorem port_setPort_ne {l m : Nat} (p : Port) (d : Dev) (h : l ≠ m) : (setPort l p d).port m = d.port m := by
  simp [Dev.port, setPort, sget_sset_ne _ _ _ h]

@[simp] theorem port_updPort_same (lane : Nat) (f : Port → Port) (d : Dev) : (updPort lane f d).port lane = f (d.port lane) := by
  simp [updPort]

theorem port_updPort_ne {l m : Nat} (f : Port → Port) (d : Dev) (h : l ≠ m) : (updPort l f d).port m = d.port m := by
  simp [updPort, port_setPort_ne _ _ h]

@[simp] theorem laserRec_updLaser_same (m : Nat) (f : Laser → Laser) (d : Dev) :
    (updLaser m f d).laserRec m = f (d.laserRec m) := by simp [Dev.laserRec, updLaser]

theorem laserRec_updLaser_ne {l m : Nat} (f : Laser → Laser) (d : Dev) (h : l ≠ m) :
    (updLaser l f d).laserRec m = d.laserRec m := by simp [Dev.laserRec, updLaser, sget_supd_ne _ _ _ h]

@[simp] theorem voq_setVoq_same (k : Nat) (v : Voq) (d : Dev) : (setVoq k v d).voq k = v := by simp [Dev.voq, setVoq]

theorem voq_setVoq_ne {j k : Nat} (v : Voq) (d : Dev) (h : j ≠ k) : (setVoq j v d).voq k = d.voq k := by
  simp [Dev.voq, setVoq, sget_sset_ne _ _ _ h]

@[simp] theorem act_setAct_same (p : Page) (a : PageAct) (d : Dev) : (setAct p a d).act p = a := by simp [Dev.act, setAct]

@[simp] theorem units_updUnits_same (s tc : Nat) (f : Units → Units) (d : Dev) :
    (updUnits s tc f d).units s tc = f (d.units s tc) := by simp [Dev.units, updUnits]

@[simp] theorem staged_setStaged_same (e tc : Nat) (l : List Box) (d : Dev) : (setStaged e tc l d).staged e tc = l := by
  simp [Dev.staged, setStaged]

@[simp] theorem tget_tset_same (p : Page) (t i : Nat) (ws : List W32) (d : Dev) : tget (tset p t i ws d) p t i = ws := by
  simp [tget, tset]

theorem tget_tset_index (p : Page) (t : Nat) {i j : Nat} (ws : List W32) (d : Dev) (h : i ≠ j) :
    tget (tset p t i ws d) p t j = tget d p t j := by
  simp only [tget, tset, tblKey]
  rw [sget_sset_ne]; omega

end Sys2Proof.Machine
end

