-- ==== Sys2Proof/Laws/Flags.lean ====
section
/-! SUPPORT. What the flag operations leave alone: an interrupt raised, an error recorded, a counter bumped and a commit
ended write registers of their page and the vectors' state, and no other part of the state. -/

namespace Sys2Proof.Machine

/-! ### Vectors (R417) -/

@[simp] theorem setPba_lnk (v : Nat) (b : Bool) (d : Dev) : (setPba v b d).lnk = d.lnk := rfl
@[simp] theorem setPba_sw (v : Nat) (b : Bool) (d : Dev) : (setPba v b d).sw = d.sw := rfl
@[simp] theorem setPba_fwd (v : Nat) (b : Bool) (d : Dev) : (setPba v b d).fwd = d.fwd := rfl
@[simp] theorem setPba_byp (v : Nat) (b : Bool) (d : Dev) : (setPba v b d).byp = d.byp := rfl
@[simp] theorem setPba_col (v : Nat) (b : Bool) (d : Dev) : (setPba v b d).col = d.col := rfl
@[simp] theorem setPba_ldl (v : Nat) (b : Bool) (d : Dev) : (setPba v b d).ldl = d.ldl := rfl
@[simp] theorem setPba_stk (v : Nat) (b : Bool) (d : Dev) : (setPba v b d).stk = d.stk := rfl
@[simp] theorem setPba_tim (v : Nat) (b : Bool) (d : Dev) : (setPba v b d).tim = d.tim := rfl
@[simp] theorem setPba_pmc (v : Nat) (b : Bool) (d : Dev) : (setPba v b d).pmc = d.pmc := rfl
@[simp] theorem setPba_mgt (v : Nat) (b : Bool) (d : Dev) : (setPba v b d).mgt = d.mgt := rfl
@[simp] theorem setPba_tel (v : Nat) (b : Bool) (d : Dev) : (setPba v b d).tel = d.tel := rfl
@[simp] theorem setPba_rst (v : Nat) (b : Bool) (d : Dev) : (setPba v b d).rst = d.rst := rfl
@[simp] theorem setPba_ctl_regs (v : Nat) (b : Bool) (d : Dev) : (setPba v b d).ctl.regs = d.ctl.regs := rfl
@[simp] theorem setPba_ctl_staged (v : Nat) (b : Bool) (d : Dev) : (setPba v b d).ctl.staged = d.ctl.staged := rfl
@[simp] theorem setPba_ctl_commits (v : Nat) (b : Bool) (d : Dev) : (setPba v b d).ctl.commits = d.ctl.commits := rfl
@[simp] theorem setPba_ctl_latchHost (v : Nat) (b : Bool) (d : Dev) : (setPba v b d).ctl.latchHost = d.ctl.latchHost := rfl
@[simp] theorem setPba_ctl_latchInband (v : Nat) (b : Bool) (d : Dev) : (setPba v b d).ctl.latchInband = d.ctl.latchInband := rfl
@[simp] theorem setPba_ctl_tables (v : Nat) (b : Bool) (d : Dev) : (setPba v b d).ctl.tables = d.ctl.tables := rfl
@[simp] theorem setPba_ctl_tblPend (v : Nat) (b : Bool) (d : Dev) : (setPba v b d).ctl.tblPend = d.ctl.tblPend := rfl
@[simp] theorem setPba_ctl_acts (v : Nat) (b : Bool) (d : Dev) : (setPba v b d).ctl.acts = d.ctl.acts := rfl
@[simp] theorem setPba_ctl_abortWave (v : Nat) (b : Bool) (d : Dev) : (setPba v b d).ctl.abortWave = d.ctl.abortWave := rfl
@[simp] theorem setPba_ctl_abortAllAt (v : Nat) (b : Bool) (d : Dev) : (setPba v b d).ctl.abortAllAt = d.ctl.abortAllAt := rfl
@[simp] theorem setPba_ctl_ownerAll (v : Nat) (b : Bool) (d : Dev) : (setPba v b d).ctl.ownerAll = d.ctl.ownerAll := rfl
@[simp] theorem setPba_ctl_parityBad (v : Nat) (b : Bool) (d : Dev) : (setPba v b d).ctl.parityBad = d.ctl.parityBad := rfl
@[simp] theorem setPba_ctl_busMaster (v : Nat) (b : Bool) (d : Dev) : (setPba v b d).ctl.busMaster = d.ctl.busMaster := rfl
@[simp] theorem setPba_ctl_msixEnable (v : Nat) (b : Bool) (d : Dev) : (setPba v b d).ctl.msixEnable = d.ctl.msixEnable := rfl
@[simp] theorem setPba_ctl_d3hot (v : Nat) (b : Bool) (d : Dev) : (setPba v b d).ctl.d3hot = d.ctl.d3hot := rfl
@[simp] theorem setPba_ctl_eventSent (v : Nat) (b : Bool) (d : Dev) : (setPba v b d).ctl.eventSent = d.ctl.eventSent := rfl
@[simp] theorem setPba_ctl_draws (v : Nat) (b : Bool) (d : Dev) : (setPba v b d).ctl.draws = d.ctl.draws := rfl
@[simp] theorem setPba_ctl_out (v : Nat) (b : Bool) (d : Dev) : (setPba v b d).ctl.out = d.ctl.out := rfl

@[simp] theorem setEventSent_lnk (p : Page) (b : Bool) (d : Dev) : (setEventSent p b d).lnk = d.lnk := rfl
@[simp] theorem setEventSent_sw (p : Page) (b : Bool) (d : Dev) : (setEventSent p b d).sw = d.sw := rfl
@[simp] theorem setEventSent_fwd (p : Page) (b : Bool) (d : Dev) : (setEventSent p b d).fwd = d.fwd := rfl
@[simp] theorem setEventSent_byp (p : Page) (b : Bool) (d : Dev) : (setEventSent p b d).byp = d.byp := rfl
@[simp] theorem setEventSent_col (p : Page) (b : Bool) (d : Dev) : (setEventSent p b d).col = d.col := rfl
@[simp] theorem setEventSent_ldl (p : Page) (b : Bool) (d : Dev) : (setEventSent p b d).ldl = d.ldl := rfl
@[simp] theorem setEventSent_stk (p : Page) (b : Bool) (d : Dev) : (setEventSent p b d).stk = d.stk := rfl
@[simp] theorem setEventSent_tim (p : Page) (b : Bool) (d : Dev) : (setEventSent p b d).tim = d.tim := rfl
@[simp] theorem setEventSent_pmc (p : Page) (b : Bool) (d : Dev) : (setEventSent p b d).pmc = d.pmc := rfl
@[simp] theorem setEventSent_mgt (p : Page) (b : Bool) (d : Dev) : (setEventSent p b d).mgt = d.mgt := rfl
@[simp] theorem setEventSent_tel (p : Page) (b : Bool) (d : Dev) : (setEventSent p b d).tel = d.tel := rfl
@[simp] theorem setEventSent_rst (p : Page) (b : Bool) (d : Dev) : (setEventSent p b d).rst = d.rst := rfl
@[simp] theorem setEventSent_ctl_regs (p : Page) (b : Bool) (d : Dev) : (setEventSent p b d).ctl.regs = d.ctl.regs := rfl
@[simp] theorem setEventSent_ctl_staged (p : Page) (b : Bool) (d : Dev) : (setEventSent p b d).ctl.staged = d.ctl.staged := rfl
@[simp] theorem setEventSent_ctl_commits (p : Page) (b : Bool) (d : Dev) : (setEventSent p b d).ctl.commits = d.ctl.commits := rfl
@[simp] theorem setEventSent_ctl_latchHost (p : Page) (b : Bool) (d : Dev) : (setEventSent p b d).ctl.latchHost = d.ctl.latchHost := rfl
@[simp] theorem setEventSent_ctl_latchInband (p : Page) (b : Bool) (d : Dev) : (setEventSent p b d).ctl.latchInband = d.ctl.latchInband := rfl
@[simp] theorem setEventSent_ctl_tables (p : Page) (b : Bool) (d : Dev) : (setEventSent p b d).ctl.tables = d.ctl.tables := rfl
@[simp] theorem setEventSent_ctl_tblPend (p : Page) (b : Bool) (d : Dev) : (setEventSent p b d).ctl.tblPend = d.ctl.tblPend := rfl
@[simp] theorem setEventSent_ctl_acts (p : Page) (b : Bool) (d : Dev) : (setEventSent p b d).ctl.acts = d.ctl.acts := rfl
@[simp] theorem setEventSent_ctl_abortWave (p : Page) (b : Bool) (d : Dev) : (setEventSent p b d).ctl.abortWave = d.ctl.abortWave := rfl
@[simp] theorem setEventSent_ctl_abortAllAt (p : Page) (b : Bool) (d : Dev) : (setEventSent p b d).ctl.abortAllAt = d.ctl.abortAllAt := rfl
@[simp] theorem setEventSent_ctl_ownerAll (p : Page) (b : Bool) (d : Dev) : (setEventSent p b d).ctl.ownerAll = d.ctl.ownerAll := rfl
@[simp] theorem setEventSent_ctl_parityBad (p : Page) (b : Bool) (d : Dev) : (setEventSent p b d).ctl.parityBad = d.ctl.parityBad := rfl
@[simp] theorem setEventSent_ctl_busMaster (p : Page) (b : Bool) (d : Dev) : (setEventSent p b d).ctl.busMaster = d.ctl.busMaster := rfl
@[simp] theorem setEventSent_ctl_msixEnable (p : Page) (b : Bool) (d : Dev) : (setEventSent p b d).ctl.msixEnable = d.ctl.msixEnable := rfl
@[simp] theorem setEventSent_ctl_d3hot (p : Page) (b : Bool) (d : Dev) : (setEventSent p b d).ctl.d3hot = d.ctl.d3hot := rfl
@[simp] theorem setEventSent_ctl_pba (p : Page) (b : Bool) (d : Dev) : (setEventSent p b d).ctl.pba = d.ctl.pba := rfl
@[simp] theorem setEventSent_ctl_draws (p : Page) (b : Bool) (d : Dev) : (setEventSent p b d).ctl.draws = d.ctl.draws := rfl
@[simp] theorem setEventSent_ctl_out (p : Page) (b : Bool) (d : Dev) : (setEventSent p b d).ctl.out = d.ctl.out := rfl

@[simp] theorem msixSend_lnk (v : Nat) (d : Dev) : (msixSend v d).lnk = d.lnk := by unfold msixSend; split <;> simp
@[simp] theorem msixSend_sw (v : Nat) (d : Dev) : (msixSend v d).sw = d.sw := by unfold msixSend; split <;> simp
@[simp] theorem msixSend_fwd (v : Nat) (d : Dev) : (msixSend v d).fwd = d.fwd := by unfold msixSend; split <;> simp
@[simp] theorem msixSend_byp (v : Nat) (d : Dev) : (msixSend v d).byp = d.byp := by unfold msixSend; split <;> simp
@[simp] theorem msixSend_col (v : Nat) (d : Dev) : (msixSend v d).col = d.col := by unfold msixSend; split <;> simp
@[simp] theorem msixSend_ldl (v : Nat) (d : Dev) : (msixSend v d).ldl = d.ldl := by unfold msixSend; split <;> simp
@[simp] theorem msixSend_stk (v : Nat) (d : Dev) : (msixSend v d).stk = d.stk := by unfold msixSend; split <;> simp
@[simp] theorem msixSend_tim (v : Nat) (d : Dev) : (msixSend v d).tim = d.tim := by unfold msixSend; split <;> simp
@[simp] theorem msixSend_pmc (v : Nat) (d : Dev) : (msixSend v d).pmc = d.pmc := by unfold msixSend; split <;> simp
@[simp] theorem msixSend_mgt (v : Nat) (d : Dev) : (msixSend v d).mgt = d.mgt := by unfold msixSend; split <;> simp
@[simp] theorem msixSend_tel (v : Nat) (d : Dev) : (msixSend v d).tel = d.tel := by unfold msixSend; split <;> simp
@[simp] theorem msixSend_rst (v : Nat) (d : Dev) : (msixSend v d).rst = d.rst := by unfold msixSend; split <;> simp
@[simp] theorem msixSend_ctl_regs (v : Nat) (d : Dev) : (msixSend v d).ctl.regs = d.ctl.regs := by unfold msixSend; split <;> simp
@[simp] theorem msixSend_ctl_staged (v : Nat) (d : Dev) : (msixSend v d).ctl.staged = d.ctl.staged := by unfold msixSend; split <;> simp
@[simp] theorem msixSend_ctl_commits (v : Nat) (d : Dev) : (msixSend v d).ctl.commits = d.ctl.commits := by unfold msixSend; split <;> simp
@[simp] theorem msixSend_ctl_latchHost (v : Nat) (d : Dev) : (msixSend v d).ctl.latchHost = d.ctl.latchHost := by unfold msixSend; split <;> simp
@[simp] theorem msixSend_ctl_latchInband (v : Nat) (d : Dev) : (msixSend v d).ctl.latchInband = d.ctl.latchInband := by unfold msixSend; split <;> simp
@[simp] theorem msixSend_ctl_tables (v : Nat) (d : Dev) : (msixSend v d).ctl.tables = d.ctl.tables := by unfold msixSend; split <;> simp
@[simp] theorem msixSend_ctl_tblPend (v : Nat) (d : Dev) : (msixSend v d).ctl.tblPend = d.ctl.tblPend := by unfold msixSend; split <;> simp
@[simp] theorem msixSend_ctl_acts (v : Nat) (d : Dev) : (msixSend v d).ctl.acts = d.ctl.acts := by unfold msixSend; split <;> simp
@[simp] theorem msixSend_ctl_abortWave (v : Nat) (d : Dev) : (msixSend v d).ctl.abortWave = d.ctl.abortWave := by unfold msixSend; split <;> simp
@[simp] theorem msixSend_ctl_abortAllAt (v : Nat) (d : Dev) : (msixSend v d).ctl.abortAllAt = d.ctl.abortAllAt := by unfold msixSend; split <;> simp
@[simp] theorem msixSend_ctl_ownerAll (v : Nat) (d : Dev) : (msixSend v d).ctl.ownerAll = d.ctl.ownerAll := by unfold msixSend; split <;> simp
@[simp] theorem msixSend_ctl_parityBad (v : Nat) (d : Dev) : (msixSend v d).ctl.parityBad = d.ctl.parityBad := by unfold msixSend; split <;> simp
@[simp] theorem msixSend_ctl_busMaster (v : Nat) (d : Dev) : (msixSend v d).ctl.busMaster = d.ctl.busMaster := by unfold msixSend; split <;> simp
@[simp] theorem msixSend_ctl_msixEnable (v : Nat) (d : Dev) : (msixSend v d).ctl.msixEnable = d.ctl.msixEnable := by unfold msixSend; split <;> simp
@[simp] theorem msixSend_ctl_d3hot (v : Nat) (d : Dev) : (msixSend v d).ctl.d3hot = d.ctl.d3hot := by unfold msixSend; split <;> simp
@[simp] theorem msixSend_ctl_eventSent (v : Nat) (d : Dev) : (msixSend v d).ctl.eventSent = d.ctl.eventSent := by unfold msixSend; split <;> simp
@[simp] theorem msixSend_ctl_draws (v : Nat) (d : Dev) : (msixSend v d).ctl.draws = d.ctl.draws := by unfold msixSend; split <;> simp

/-! ### withIrq: only the vectors' state beyond the update itself -/

@[simp] theorem withIrq_lnk (p : Page) (f : Dev → Dev) (d : Dev) : (withIrq p f d).lnk = (f d).lnk := by
  simp only [withIrq]; split_ifs <;> simp
@[simp] theorem withIrq_sw (p : Page) (f : Dev → Dev) (d : Dev) : (withIrq p f d).sw = (f d).sw := by
  simp only [withIrq]; split_ifs <;> simp
@[simp] theorem withIrq_fwd (p : Page) (f : Dev → Dev) (d : Dev) : (withIrq p f d).fwd = (f d).fwd := by
  simp only [withIrq]; split_ifs <;> simp
@[simp] theorem withIrq_byp (p : Page) (f : Dev → Dev) (d : Dev) : (withIrq p f d).byp = (f d).byp := by
  simp only [withIrq]; split_ifs <;> simp
@[simp] theorem withIrq_col (p : Page) (f : Dev → Dev) (d : Dev) : (withIrq p f d).col = (f d).col := by
  simp only [withIrq]; split_ifs <;> simp
@[simp] theorem withIrq_ldl (p : Page) (f : Dev → Dev) (d : Dev) : (withIrq p f d).ldl = (f d).ldl := by
  simp only [withIrq]; split_ifs <;> simp
@[simp] theorem withIrq_stk (p : Page) (f : Dev → Dev) (d : Dev) : (withIrq p f d).stk = (f d).stk := by
  simp only [withIrq]; split_ifs <;> simp
@[simp] theorem withIrq_tim (p : Page) (f : Dev → Dev) (d : Dev) : (withIrq p f d).tim = (f d).tim := by
  simp only [withIrq]; split_ifs <;> simp
@[simp] theorem withIrq_pmc (p : Page) (f : Dev → Dev) (d : Dev) : (withIrq p f d).pmc = (f d).pmc := by
  simp only [withIrq]; split_ifs <;> simp
@[simp] theorem withIrq_mgt (p : Page) (f : Dev → Dev) (d : Dev) : (withIrq p f d).mgt = (f d).mgt := by
  simp only [withIrq]; split_ifs <;> simp
@[simp] theorem withIrq_tel (p : Page) (f : Dev → Dev) (d : Dev) : (withIrq p f d).tel = (f d).tel := by
  simp only [withIrq]; split_ifs <;> simp
@[simp] theorem withIrq_rst (p : Page) (f : Dev → Dev) (d : Dev) : (withIrq p f d).rst = (f d).rst := by
  simp only [withIrq]; split_ifs <;> simp
@[simp] theorem withIrq_ctl_regs (p : Page) (f : Dev → Dev) (d : Dev) : (withIrq p f d).ctl.regs = (f d).ctl.regs := by
  simp only [withIrq]; split_ifs <;> simp
@[simp] theorem withIrq_ctl_staged (p : Page) (f : Dev → Dev) (d : Dev) : (withIrq p f d).ctl.staged = (f d).ctl.staged := by
  simp only [withIrq]; split_ifs <;> simp
@[simp] theorem withIrq_ctl_commits (p : Page) (f : Dev → Dev) (d : Dev) : (withIrq p f d).ctl.commits = (f d).ctl.commits := by
  simp only [withIrq]; split_ifs <;> simp
@[simp] theorem withIrq_ctl_latchHost (p : Page) (f : Dev → Dev) (d : Dev) : (withIrq p f d).ctl.latchHost = (f d).ctl.latchHost := by
  simp only [withIrq]; split_ifs <;> simp
@[simp] theorem withIrq_ctl_latchInband (p : Page) (f : Dev → Dev) (d : Dev) : (withIrq p f d).ctl.latchInband = (f d).ctl.latchInband := by
  simp only [withIrq]; split_ifs <;> simp
@[simp] theorem withIrq_ctl_tables (p : Page) (f : Dev → Dev) (d : Dev) : (withIrq p f d).ctl.tables = (f d).ctl.tables := by
  simp only [withIrq]; split_ifs <;> simp
@[simp] theorem withIrq_ctl_tblPend (p : Page) (f : Dev → Dev) (d : Dev) : (withIrq p f d).ctl.tblPend = (f d).ctl.tblPend := by
  simp only [withIrq]; split_ifs <;> simp
@[simp] theorem withIrq_ctl_acts (p : Page) (f : Dev → Dev) (d : Dev) : (withIrq p f d).ctl.acts = (f d).ctl.acts := by
  simp only [withIrq]; split_ifs <;> simp
@[simp] theorem withIrq_ctl_abortWave (p : Page) (f : Dev → Dev) (d : Dev) : (withIrq p f d).ctl.abortWave = (f d).ctl.abortWave := by
  simp only [withIrq]; split_ifs <;> simp
@[simp] theorem withIrq_ctl_abortAllAt (p : Page) (f : Dev → Dev) (d : Dev) : (withIrq p f d).ctl.abortAllAt = (f d).ctl.abortAllAt := by
  simp only [withIrq]; split_ifs <;> simp
@[simp] theorem withIrq_ctl_ownerAll (p : Page) (f : Dev → Dev) (d : Dev) : (withIrq p f d).ctl.ownerAll = (f d).ctl.ownerAll := by
  simp only [withIrq]; split_ifs <;> simp
@[simp] theorem withIrq_ctl_parityBad (p : Page) (f : Dev → Dev) (d : Dev) : (withIrq p f d).ctl.parityBad = (f d).ctl.parityBad := by
  simp only [withIrq]; split_ifs <;> simp
@[simp] theorem withIrq_ctl_busMaster (p : Page) (f : Dev → Dev) (d : Dev) : (withIrq p f d).ctl.busMaster = (f d).ctl.busMaster := by
  simp only [withIrq]; split_ifs <;> simp
@[simp] theorem withIrq_ctl_msixEnable (p : Page) (f : Dev → Dev) (d : Dev) : (withIrq p f d).ctl.msixEnable = (f d).ctl.msixEnable := by
  simp only [withIrq]; split_ifs <;> simp
@[simp] theorem withIrq_ctl_d3hot (p : Page) (f : Dev → Dev) (d : Dev) : (withIrq p f d).ctl.d3hot = (f d).ctl.d3hot := by
  simp only [withIrq]; split_ifs <;> simp
@[simp] theorem withIrq_ctl_draws (p : Page) (f : Dev → Dev) (d : Dev) : (withIrq p f d).ctl.draws = (f d).ctl.draws := by
  simp only [withIrq]; split_ifs <;> simp

/-! ### Interrupts and errors (R46 to R49) -/

@[simp] theorem raiseIrq_lnk (p : Page) (bit : Nat) (d : Dev) : (raiseIrq p bit d).lnk = d.lnk := by simp [raiseIrq]
@[simp] theorem raiseIrq_sw (p : Page) (bit : Nat) (d : Dev) : (raiseIrq p bit d).sw = d.sw := by simp [raiseIrq]
@[simp] theorem raiseIrq_fwd (p : Page) (bit : Nat) (d : Dev) : (raiseIrq p bit d).fwd = d.fwd := by simp [raiseIrq]
@[simp] theorem raiseIrq_byp (p : Page) (bit : Nat) (d : Dev) : (raiseIrq p bit d).byp = d.byp := by simp [raiseIrq]
@[simp] theorem raiseIrq_col (p : Page) (bit : Nat) (d : Dev) : (raiseIrq p bit d).col = d.col := by simp [raiseIrq]
@[simp] theorem raiseIrq_ldl (p : Page) (bit : Nat) (d : Dev) : (raiseIrq p bit d).ldl = d.ldl := by simp [raiseIrq]
@[simp] theorem raiseIrq_stk (p : Page) (bit : Nat) (d : Dev) : (raiseIrq p bit d).stk = d.stk := by simp [raiseIrq]
@[simp] theorem raiseIrq_tim (p : Page) (bit : Nat) (d : Dev) : (raiseIrq p bit d).tim = d.tim := by simp [raiseIrq]
@[simp] theorem raiseIrq_pmc (p : Page) (bit : Nat) (d : Dev) : (raiseIrq p bit d).pmc = d.pmc := by simp [raiseIrq]
@[simp] theorem raiseIrq_mgt (p : Page) (bit : Nat) (d : Dev) : (raiseIrq p bit d).mgt = d.mgt := by simp [raiseIrq]
@[simp] theorem raiseIrq_tel (p : Page) (bit : Nat) (d : Dev) : (raiseIrq p bit d).tel = d.tel := by simp [raiseIrq]
@[simp] theorem raiseIrq_rst (p : Page) (bit : Nat) (d : Dev) : (raiseIrq p bit d).rst = d.rst := by simp [raiseIrq]
@[simp] theorem raiseIrq_ctl_staged (p : Page) (bit : Nat) (d : Dev) : (raiseIrq p bit d).ctl.staged = d.ctl.staged := by simp [raiseIrq]
@[simp] theorem raiseIrq_ctl_commits (p : Page) (bit : Nat) (d : Dev) : (raiseIrq p bit d).ctl.commits = d.ctl.commits := by simp [raiseIrq]
@[simp] theorem raiseIrq_ctl_latchHost (p : Page) (bit : Nat) (d : Dev) : (raiseIrq p bit d).ctl.latchHost = d.ctl.latchHost := by simp [raiseIrq]
@[simp] theorem raiseIrq_ctl_latchInband (p : Page) (bit : Nat) (d : Dev) : (raiseIrq p bit d).ctl.latchInband = d.ctl.latchInband := by simp [raiseIrq]
@[simp] theorem raiseIrq_ctl_tables (p : Page) (bit : Nat) (d : Dev) : (raiseIrq p bit d).ctl.tables = d.ctl.tables := by simp [raiseIrq]
@[simp] theorem raiseIrq_ctl_tblPend (p : Page) (bit : Nat) (d : Dev) : (raiseIrq p bit d).ctl.tblPend = d.ctl.tblPend := by simp [raiseIrq]
@[simp] theorem raiseIrq_ctl_acts (p : Page) (bit : Nat) (d : Dev) : (raiseIrq p bit d).ctl.acts = d.ctl.acts := by simp [raiseIrq]
@[simp] theorem raiseIrq_ctl_abortWave (p : Page) (bit : Nat) (d : Dev) : (raiseIrq p bit d).ctl.abortWave = d.ctl.abortWave := by simp [raiseIrq]
@[simp] theorem raiseIrq_ctl_abortAllAt (p : Page) (bit : Nat) (d : Dev) : (raiseIrq p bit d).ctl.abortAllAt = d.ctl.abortAllAt := by simp [raiseIrq]
@[simp] theorem raiseIrq_ctl_ownerAll (p : Page) (bit : Nat) (d : Dev) : (raiseIrq p bit d).ctl.ownerAll = d.ctl.ownerAll := by simp [raiseIrq]
@[simp] theorem raiseIrq_ctl_parityBad (p : Page) (bit : Nat) (d : Dev) : (raiseIrq p bit d).ctl.parityBad = d.ctl.parityBad := by simp [raiseIrq]
@[simp] theorem raiseIrq_ctl_busMaster (p : Page) (bit : Nat) (d : Dev) : (raiseIrq p bit d).ctl.busMaster = d.ctl.busMaster := by simp [raiseIrq]
@[simp] theorem raiseIrq_ctl_msixEnable (p : Page) (bit : Nat) (d : Dev) : (raiseIrq p bit d).ctl.msixEnable = d.ctl.msixEnable := by simp [raiseIrq]
@[simp] theorem raiseIrq_ctl_d3hot (p : Page) (bit : Nat) (d : Dev) : (raiseIrq p bit d).ctl.d3hot = d.ctl.d3hot := by simp [raiseIrq]
@[simp] theorem raiseIrq_ctl_draws (p : Page) (bit : Nat) (d : Dev) : (raiseIrq p bit d).ctl.draws = d.ctl.draws := by simp [raiseIrq]

@[simp] theorem setErrs_lnk (p : Page) (cs : List Nat) (src off detail : Nat) (d : Dev) : (setErrs p cs src off detail d).lnk = d.lnk := by simp only [setErrs]; split_ifs <;> simp
@[simp] theorem setErrs_sw (p : Page) (cs : List Nat) (src off detail : Nat) (d : Dev) : (setErrs p cs src off detail d).sw = d.sw := by simp only [setErrs]; split_ifs <;> simp
@[simp] theorem setErrs_fwd (p : Page) (cs : List Nat) (src off detail : Nat) (d : Dev) : (setErrs p cs src off detail d).fwd = d.fwd := by simp only [setErrs]; split_ifs <;> simp
@[simp] theorem setErrs_byp (p : Page) (cs : List Nat) (src off detail : Nat) (d : Dev) : (setErrs p cs src off detail d).byp = d.byp := by simp only [setErrs]; split_ifs <;> simp
@[simp] theorem setErrs_col (p : Page) (cs : List Nat) (src off detail : Nat) (d : Dev) : (setErrs p cs src off detail d).col = d.col := by simp only [setErrs]; split_ifs <;> simp
@[simp] theorem setErrs_ldl (p : Page) (cs : List Nat) (src off detail : Nat) (d : Dev) : (setErrs p cs src off detail d).ldl = d.ldl := by simp only [setErrs]; split_ifs <;> simp
@[simp] theorem setErrs_stk (p : Page) (cs : List Nat) (src off detail : Nat) (d : Dev) : (setErrs p cs src off detail d).stk = d.stk := by simp only [setErrs]; split_ifs <;> simp
@[simp] theorem setErrs_tim (p : Page) (cs : List Nat) (src off detail : Nat) (d : Dev) : (setErrs p cs src off detail d).tim = d.tim := by simp only [setErrs]; split_ifs <;> simp
@[simp] theorem setErrs_pmc (p : Page) (cs : List Nat) (src off detail : Nat) (d : Dev) : (setErrs p cs src off detail d).pmc = d.pmc := by simp only [setErrs]; split_ifs <;> simp
@[simp] theorem setErrs_mgt (p : Page) (cs : List Nat) (src off detail : Nat) (d : Dev) : (setErrs p cs src off detail d).mgt = d.mgt := by simp only [setErrs]; split_ifs <;> simp
@[simp] theorem setErrs_tel (p : Page) (cs : List Nat) (src off detail : Nat) (d : Dev) : (setErrs p cs src off detail d).tel = d.tel := by simp only [setErrs]; split_ifs <;> simp
@[simp] theorem setErrs_rst (p : Page) (cs : List Nat) (src off detail : Nat) (d : Dev) : (setErrs p cs src off detail d).rst = d.rst := by simp only [setErrs]; split_ifs <;> simp
@[simp] theorem setErrs_ctl_staged (p : Page) (cs : List Nat) (src off detail : Nat) (d : Dev) : (setErrs p cs src off detail d).ctl.staged = d.ctl.staged := by simp only [setErrs]; split_ifs <;> simp
@[simp] theorem setErrs_ctl_commits (p : Page) (cs : List Nat) (src off detail : Nat) (d : Dev) : (setErrs p cs src off detail d).ctl.commits = d.ctl.commits := by simp only [setErrs]; split_ifs <;> simp
@[simp] theorem setErrs_ctl_latchHost (p : Page) (cs : List Nat) (src off detail : Nat) (d : Dev) : (setErrs p cs src off detail d).ctl.latchHost = d.ctl.latchHost := by simp only [setErrs]; split_ifs <;> simp
@[simp] theorem setErrs_ctl_latchInband (p : Page) (cs : List Nat) (src off detail : Nat) (d : Dev) : (setErrs p cs src off detail d).ctl.latchInband = d.ctl.latchInband := by simp only [setErrs]; split_ifs <;> simp
@[simp] theorem setErrs_ctl_tables (p : Page) (cs : List Nat) (src off detail : Nat) (d : Dev) : (setErrs p cs src off detail d).ctl.tables = d.ctl.tables := by simp only [setErrs]; split_ifs <;> simp
@[simp] theorem setErrs_ctl_tblPend (p : Page) (cs : List Nat) (src off detail : Nat) (d : Dev) : (setErrs p cs src off detail d).ctl.tblPend = d.ctl.tblPend := by simp only [setErrs]; split_ifs <;> simp
@[simp] theorem setErrs_ctl_acts (p : Page) (cs : List Nat) (src off detail : Nat) (d : Dev) : (setErrs p cs src off detail d).ctl.acts = d.ctl.acts := by simp only [setErrs]; split_ifs <;> simp
@[simp] theorem setErrs_ctl_abortWave (p : Page) (cs : List Nat) (src off detail : Nat) (d : Dev) : (setErrs p cs src off detail d).ctl.abortWave = d.ctl.abortWave := by simp only [setErrs]; split_ifs <;> simp
@[simp] theorem setErrs_ctl_abortAllAt (p : Page) (cs : List Nat) (src off detail : Nat) (d : Dev) : (setErrs p cs src off detail d).ctl.abortAllAt = d.ctl.abortAllAt := by simp only [setErrs]; split_ifs <;> simp
@[simp] theorem setErrs_ctl_ownerAll (p : Page) (cs : List Nat) (src off detail : Nat) (d : Dev) : (setErrs p cs src off detail d).ctl.ownerAll = d.ctl.ownerAll := by simp only [setErrs]; split_ifs <;> simp
@[simp] theorem setErrs_ctl_parityBad (p : Page) (cs : List Nat) (src off detail : Nat) (d : Dev) : (setErrs p cs src off detail d).ctl.parityBad = d.ctl.parityBad := by simp only [setErrs]; split_ifs <;> simp
@[simp] theorem setErrs_ctl_busMaster (p : Page) (cs : List Nat) (src off detail : Nat) (d : Dev) : (setErrs p cs src off detail d).ctl.busMaster = d.ctl.busMaster := by simp only [setErrs]; split_ifs <;> simp
@[simp] theorem setErrs_ctl_msixEnable (p : Page) (cs : List Nat) (src off detail : Nat) (d : Dev) : (setErrs p cs src off detail d).ctl.msixEnable = d.ctl.msixEnable := by simp only [setErrs]; split_ifs <;> simp
@[simp] theorem setErrs_ctl_d3hot (p : Page) (cs : List Nat) (src off detail : Nat) (d : Dev) : (setErrs p cs src off detail d).ctl.d3hot = d.ctl.d3hot := by simp only [setErrs]; split_ifs <;> simp
@[simp] theorem setErrs_ctl_draws (p : Page) (cs : List Nat) (src off detail : Nat) (d : Dev) : (setErrs p cs src off detail d).ctl.draws = d.ctl.draws := by simp only [setErrs]; split_ifs <;> simp

@[simp] theorem setErr_lnk (p : Page) (c : Nat) (src : Src) (off detail : Nat) (d : Dev) : (setErr p c src off detail d).lnk = d.lnk := by simp [setErr]
@[simp] theorem setErr_sw (p : Page) (c : Nat) (src : Src) (off detail : Nat) (d : Dev) : (setErr p c src off detail d).sw = d.sw := by simp [setErr]
@[simp] theorem setErr_fwd (p : Page) (c : Nat) (src : Src) (off detail : Nat) (d : Dev) : (setErr p c src off detail d).fwd = d.fwd := by simp [setErr]
@[simp] theorem setErr_byp (p : Page) (c : Nat) (src : Src) (off detail : Nat) (d : Dev) : (setErr p c src off detail d).byp = d.byp := by simp [setErr]
@[simp] theorem setErr_col (p : Page) (c : Nat) (src : Src) (off detail : Nat) (d : Dev) : (setErr p c src off detail d).col = d.col := by simp [setErr]
@[simp] theorem setErr_ldl (p : Page) (c : Nat) (src : Src) (off detail : Nat) (d : Dev) : (setErr p c src off detail d).ldl = d.ldl := by simp [setErr]
@[simp] theorem setErr_stk (p : Page) (c : Nat) (src : Src) (off detail : Nat) (d : Dev) : (setErr p c src off detail d).stk = d.stk := by simp [setErr]
@[simp] theorem setErr_tim (p : Page) (c : Nat) (src : Src) (off detail : Nat) (d : Dev) : (setErr p c src off detail d).tim = d.tim := by simp [setErr]
@[simp] theorem setErr_pmc (p : Page) (c : Nat) (src : Src) (off detail : Nat) (d : Dev) : (setErr p c src off detail d).pmc = d.pmc := by simp [setErr]
@[simp] theorem setErr_mgt (p : Page) (c : Nat) (src : Src) (off detail : Nat) (d : Dev) : (setErr p c src off detail d).mgt = d.mgt := by simp [setErr]
@[simp] theorem setErr_tel (p : Page) (c : Nat) (src : Src) (off detail : Nat) (d : Dev) : (setErr p c src off detail d).tel = d.tel := by simp [setErr]
@[simp] theorem setErr_rst (p : Page) (c : Nat) (src : Src) (off detail : Nat) (d : Dev) : (setErr p c src off detail d).rst = d.rst := by simp [setErr]
@[simp] theorem setErr_ctl_staged (p : Page) (c : Nat) (src : Src) (off detail : Nat) (d : Dev) : (setErr p c src off detail d).ctl.staged = d.ctl.staged := by simp [setErr]
@[simp] theorem setErr_ctl_commits (p : Page) (c : Nat) (src : Src) (off detail : Nat) (d : Dev) : (setErr p c src off detail d).ctl.commits = d.ctl.commits := by simp [setErr]
@[simp] theorem setErr_ctl_latchHost (p : Page) (c : Nat) (src : Src) (off detail : Nat) (d : Dev) : (setErr p c src off detail d).ctl.latchHost = d.ctl.latchHost := by simp [setErr]
@[simp] theorem setErr_ctl_latchInband (p : Page) (c : Nat) (src : Src) (off detail : Nat) (d : Dev) : (setErr p c src off detail d).ctl.latchInband = d.ctl.latchInband := by simp [setErr]
@[simp] theorem setErr_ctl_tables (p : Page) (c : Nat) (src : Src) (off detail : Nat) (d : Dev) : (setErr p c src off detail d).ctl.tables = d.ctl.tables := by simp [setErr]
@[simp] theorem setErr_ctl_tblPend (p : Page) (c : Nat) (src : Src) (off detail : Nat) (d : Dev) : (setErr p c src off detail d).ctl.tblPend = d.ctl.tblPend := by simp [setErr]
@[simp] theorem setErr_ctl_acts (p : Page) (c : Nat) (src : Src) (off detail : Nat) (d : Dev) : (setErr p c src off detail d).ctl.acts = d.ctl.acts := by simp [setErr]
@[simp] theorem setErr_ctl_abortWave (p : Page) (c : Nat) (src : Src) (off detail : Nat) (d : Dev) : (setErr p c src off detail d).ctl.abortWave = d.ctl.abortWave := by simp [setErr]
@[simp] theorem setErr_ctl_abortAllAt (p : Page) (c : Nat) (src : Src) (off detail : Nat) (d : Dev) : (setErr p c src off detail d).ctl.abortAllAt = d.ctl.abortAllAt := by simp [setErr]
@[simp] theorem setErr_ctl_ownerAll (p : Page) (c : Nat) (src : Src) (off detail : Nat) (d : Dev) : (setErr p c src off detail d).ctl.ownerAll = d.ctl.ownerAll := by simp [setErr]
@[simp] theorem setErr_ctl_parityBad (p : Page) (c : Nat) (src : Src) (off detail : Nat) (d : Dev) : (setErr p c src off detail d).ctl.parityBad = d.ctl.parityBad := by simp [setErr]
@[simp] theorem setErr_ctl_busMaster (p : Page) (c : Nat) (src : Src) (off detail : Nat) (d : Dev) : (setErr p c src off detail d).ctl.busMaster = d.ctl.busMaster := by simp [setErr]
@[simp] theorem setErr_ctl_msixEnable (p : Page) (c : Nat) (src : Src) (off detail : Nat) (d : Dev) : (setErr p c src off detail d).ctl.msixEnable = d.ctl.msixEnable := by simp [setErr]
@[simp] theorem setErr_ctl_d3hot (p : Page) (c : Nat) (src : Src) (off detail : Nat) (d : Dev) : (setErr p c src off detail d).ctl.d3hot = d.ctl.d3hot := by simp [setErr]
@[simp] theorem setErr_ctl_draws (p : Page) (c : Nat) (src : Src) (off detail : Nat) (d : Dev) : (setErr p c src off detail d).ctl.draws = d.ctl.draws := by simp [setErr]

@[simp] theorem hwErr_lnk (p : Page) (c detail : Nat) (d : Dev) : (hwErr p c detail d).lnk = d.lnk := by simp [hwErr]
@[simp] theorem hwErr_sw (p : Page) (c detail : Nat) (d : Dev) : (hwErr p c detail d).sw = d.sw := by simp [hwErr]
@[simp] theorem hwErr_fwd (p : Page) (c detail : Nat) (d : Dev) : (hwErr p c detail d).fwd = d.fwd := by simp [hwErr]
@[simp] theorem hwErr_byp (p : Page) (c detail : Nat) (d : Dev) : (hwErr p c detail d).byp = d.byp := by simp [hwErr]
@[simp] theorem hwErr_col (p : Page) (c detail : Nat) (d : Dev) : (hwErr p c detail d).col = d.col := by simp [hwErr]
@[simp] theorem hwErr_ldl (p : Page) (c detail : Nat) (d : Dev) : (hwErr p c detail d).ldl = d.ldl := by simp [hwErr]
@[simp] theorem hwErr_stk (p : Page) (c detail : Nat) (d : Dev) : (hwErr p c detail d).stk = d.stk := by simp [hwErr]
@[simp] theorem hwErr_tim (p : Page) (c detail : Nat) (d : Dev) : (hwErr p c detail d).tim = d.tim := by simp [hwErr]
@[simp] theorem hwErr_pmc (p : Page) (c detail : Nat) (d : Dev) : (hwErr p c detail d).pmc = d.pmc := by simp [hwErr]
@[simp] theorem hwErr_mgt (p : Page) (c detail : Nat) (d : Dev) : (hwErr p c detail d).mgt = d.mgt := by simp [hwErr]
@[simp] theorem hwErr_tel (p : Page) (c detail : Nat) (d : Dev) : (hwErr p c detail d).tel = d.tel := by simp [hwErr]
@[simp] theorem hwErr_rst (p : Page) (c detail : Nat) (d : Dev) : (hwErr p c detail d).rst = d.rst := by simp [hwErr]
@[simp] theorem hwErr_ctl_staged (p : Page) (c detail : Nat) (d : Dev) : (hwErr p c detail d).ctl.staged = d.ctl.staged := by simp [hwErr]
@[simp] theorem hwErr_ctl_commits (p : Page) (c detail : Nat) (d : Dev) : (hwErr p c detail d).ctl.commits = d.ctl.commits := by simp [hwErr]
@[simp] theorem hwErr_ctl_latchHost (p : Page) (c detail : Nat) (d : Dev) : (hwErr p c detail d).ctl.latchHost = d.ctl.latchHost := by simp [hwErr]
@[simp] theorem hwErr_ctl_latchInband (p : Page) (c detail : Nat) (d : Dev) : (hwErr p c detail d).ctl.latchInband = d.ctl.latchInband := by simp [hwErr]
@[simp] theorem hwErr_ctl_tables (p : Page) (c detail : Nat) (d : Dev) : (hwErr p c detail d).ctl.tables = d.ctl.tables := by simp [hwErr]
@[simp] theorem hwErr_ctl_tblPend (p : Page) (c detail : Nat) (d : Dev) : (hwErr p c detail d).ctl.tblPend = d.ctl.tblPend := by simp [hwErr]
@[simp] theorem hwErr_ctl_acts (p : Page) (c detail : Nat) (d : Dev) : (hwErr p c detail d).ctl.acts = d.ctl.acts := by simp [hwErr]
@[simp] theorem hwErr_ctl_abortWave (p : Page) (c detail : Nat) (d : Dev) : (hwErr p c detail d).ctl.abortWave = d.ctl.abortWave := by simp [hwErr]
@[simp] theorem hwErr_ctl_abortAllAt (p : Page) (c detail : Nat) (d : Dev) : (hwErr p c detail d).ctl.abortAllAt = d.ctl.abortAllAt := by simp [hwErr]
@[simp] theorem hwErr_ctl_ownerAll (p : Page) (c detail : Nat) (d : Dev) : (hwErr p c detail d).ctl.ownerAll = d.ctl.ownerAll := by simp [hwErr]
@[simp] theorem hwErr_ctl_parityBad (p : Page) (c detail : Nat) (d : Dev) : (hwErr p c detail d).ctl.parityBad = d.ctl.parityBad := by simp [hwErr]
@[simp] theorem hwErr_ctl_busMaster (p : Page) (c detail : Nat) (d : Dev) : (hwErr p c detail d).ctl.busMaster = d.ctl.busMaster := by simp [hwErr]
@[simp] theorem hwErr_ctl_msixEnable (p : Page) (c detail : Nat) (d : Dev) : (hwErr p c detail d).ctl.msixEnable = d.ctl.msixEnable := by simp [hwErr]
@[simp] theorem hwErr_ctl_d3hot (p : Page) (c detail : Nat) (d : Dev) : (hwErr p c detail d).ctl.d3hot = d.ctl.d3hot := by simp [hwErr]
@[simp] theorem hwErr_ctl_draws (p : Page) (c detail : Nat) (d : Dev) : (hwErr p c detail d).ctl.draws = d.ctl.draws := by simp [hwErr]

/-- The register words after an interrupt is raised: the bit of PAGE_IRQ, no other word. -/
theorem rdWord_raiseIrq (p q : Page) (bit a : Nat) (d : Dev) :
    rdWord (raiseIrq p bit d) q a =
      if p.base + 0x010 = q.base + a then rdWord d p 0x010 ||| BitVec.ofNat 32 (2 ^ bit) else rdWord d q a := by
  rw [show rdWord (raiseIrq p bit d) q a =
    rdWord (wrWord p 0x010 (rdWord d p 0x010 ||| BitVec.ofNat 32 (2 ^ bit)) d) q a from rdWord_congr (by simp [raiseIrq]) q a,
    rdWord_wrWord]

theorem rdWord_raiseIrq_off (p : Page) (bit : Nat) {a : Nat} (d : Dev) (h : a ≠ 0x010) :
    rdWord (raiseIrq p bit d) p a = rdWord d p a := by rw [rdWord_raiseIrq, if_neg (by omega)]

theorem rdWord_raiseIrq_page {p q : Page} (bit : Nat) {a : Nat} (d : Dev) (h : p ≠ q) (hp : p.inst < 4096)
    (hq : q.inst < 4096) (ha : a < 4096) : rdWord (raiseIrq p bit d) q a = rdWord d q a := by
  rw [rdWord_raiseIrq, if_neg]
  rw [Page.addr_inj p q _ _ hp hq (by omega) ha]
  exact fun c => h c.1

theorem rd_raiseIrq_off (p : Page) (bit : Nat) (g : Fd) (d : Dev) (h : g.off ≠ 0x010) :
    rd (raiseIrq p bit d) p g = rd d p g := by simp only [rd, rdWord_raiseIrq_off p bit d h]

theorem rd_raiseIrq_page {p q : Page} (bit : Nat) (g : Fd) (d : Dev) (h : p ≠ q) (hp : p.inst < 4096)
    (hq : q.inst < 4096) (hg : g.off < 4096) : rd (raiseIrq p bit d) q g = rd d q g := by
  simp only [rd, rdWord_raiseIrq_page bit d h hp hq hg]

/-- The bit just raised. -/
theorem raiseIrq_bit (p : Page) (bit : Nat) (d : Dev) (h : bit < 32) :
    (rdWord (raiseIrq p bit d) p 0x010).getLsbD bit = true := by
  rw [rdWord_raiseIrq, if_pos rfl, BitVec.getLsbD_or, BitVec.getLsbD_ofNat]
  simp [h, Nat.testBit_two_pow_self]

/-- Errors are recorded in PAGE_ERR, PAGE_ERR_INFO and PAGE_IRQ of their page alone. -/
theorem rdWord_setErrs_ne (p q : Page) (cs : List Nat) (src off detail : Nat) {a : Nat} (d : Dev)
    (h : p.base + 0x010 ≠ q.base + a) (h1 : p.base + 0x018 ≠ q.base + a) (h2 : p.base + 0x01C ≠ q.base + a) :
    rdWord (setErrs p cs src off detail d) q a = rdWord d q a := by
  simp only [setErrs]
  split_ifs <;> simp only [rdWord_raiseIrq, rdWord_wrWord, if_neg h, if_neg h1, if_neg h2]

theorem rdWord_setErrs_off (p : Page) (cs : List Nat) (src off detail : Nat) {a : Nat} (d : Dev)
    (h : a ≠ 0x010 ∧ a ≠ 0x018 ∧ a ≠ 0x01C) : rdWord (setErrs p cs src off detail d) p a = rdWord d p a :=
  rdWord_setErrs_ne p p cs src off detail d (by omega) (by omega) (by omega)

theorem rdWord_setErrs_page {p q : Page} (cs : List Nat) (src off detail : Nat) {a : Nat} (d : Dev) (h : p ≠ q)
    (hp : p.inst < 4096) (hq : q.inst < 4096) (ha : a < 4096) : rdWord (setErrs p cs src off detail d) q a = rdWord d q a := by
  have key : ∀ b, b < 4096 → p.base + b ≠ q.base + a := fun b hb c => h ((Page.addr_inj p q b a hp hq hb ha).1 c).1
  exact rdWord_setErrs_ne p q cs src off detail d (key _ (by omega)) (key _ (by omega)) (key _ (by omega))

theorem rd_setErrs_off (p : Page) (cs : List Nat) (src off detail : Nat) (g : Fd) (d : Dev)
    (h : g.off ≠ 0x010 ∧ g.off ≠ 0x018 ∧ g.off ≠ 0x01C) : rd (setErrs p cs src off detail d) p g = rd d p g := by
  simp only [rd, rdWord_setErrs_off p cs src off detail d h]

theorem rd_setErrs_page {p q : Page} (cs : List Nat) (src off detail : Nat) (g : Fd) (d : Dev) (h : p ≠ q)
    (hp : p.inst < 4096) (hq : q.inst < 4096) (hg : g.off < 4096) : rd (setErrs p cs src off detail d) q g = rd d q g := by
  simp only [rd, rdWord_setErrs_page cs src off detail d h hp hq hg]

/-- PAGE_ERR after errors are recorded. -/
theorem rdWord_setErrs_err (p : Page) (cs : List Nat) (src off detail : Nat) (d : Dev) :
    rdWord (setErrs p cs src off detail d) p 0x018 =
      cs.foldl (fun e c => e ||| BitVec.ofNat 32 (2 ^ c)) (rdWord d p 0x018) := by
  have h1 : p.base + 0x01C ≠ p.base + 0x018 := by omega
  have h2 : p.base + 0x010 ≠ p.base + 0x018 := by omega
  unfold setErrs
  extract_lets e e' info info' d1
  have h3 : rdWord d1 p 0x018 = e' := by simp only [d1, rdWord_wrWord, if_neg h1, if_true]
  split
  · exact h3
  · rw [rdWord_raiseIrq, if_neg h2, h3]

/-- The class recorded shows in PAGE_ERR. -/
theorem setErrs_bit (p : Page) (c src off detail : Nat) (d : Dev) (h : c < 32) :
    (rdWord (setErrs p [c] src off detail d) p 0x018).getLsbD c = true := by
  rw [rdWord_setErrs_err, List.foldl_cons, List.foldl_nil, BitVec.getLsbD_or, BitVec.getLsbD_ofNat]
  simp [h, Nat.testBit_two_pow_self]

/-! ### Counters (R467) -/

@[simp] theorem watchStep_lnk (a n i : Nat) (r : Dev × Nat) : (watchStep a n i r).1.lnk = r.1.lnk := by
  simp only [watchStep]; split_ifs <;> simp
theorem bumpAt_lnk (fuel : Nat) (p : Page) (off n : Nat) (d : Dev) : (bumpAt fuel p off n d).lnk = d.lnk := by
  induction fuel generalizing p off n d with
  | zero => rfl
  | succ k ih =>
    have h : ∀ (l : List Nat) (a n : Nat) (r : Dev × Nat), (l.foldl (fun r i => watchStep a n i r) r).1.lnk = r.1.lnk := by
      intro l; induction l with
      | nil => intros; rfl
      | cons x l ihl => intro a n r; rw [List.foldl_cons, ihl, watchStep_lnk]
    simp only [bumpAt]
    split_ifs
    · rw [h]; simp
    · rw [ih, h]; simp
@[simp] theorem bumpN_lnk (p : Page) (base : Fd) (k n : Nat) (d : Dev) : (bumpN p base k n d).lnk = d.lnk := by
  unfold bumpN; split_ifs <;> simp [bumpAt_lnk]
@[simp] theorem bump_lnk (p : Page) (base : Fd) (k : Nat) (d : Dev) : (bump p base k d).lnk = d.lnk := by
  unfold bump; exact bumpN_lnk p base k 1 d

@[simp] theorem watchStep_sw (a n i : Nat) (r : Dev × Nat) : (watchStep a n i r).1.sw = r.1.sw := by
  simp only [watchStep]; split_ifs <;> simp
theorem bumpAt_sw (fuel : Nat) (p : Page) (off n : Nat) (d : Dev) : (bumpAt fuel p off n d).sw = d.sw := by
  induction fuel generalizing p off n d with
  | zero => rfl
  | succ k ih =>
    have h : ∀ (l : List Nat) (a n : Nat) (r : Dev × Nat), (l.foldl (fun r i => watchStep a n i r) r).1.sw = r.1.sw := by
      intro l; induction l with
      | nil => intros; rfl
      | cons x l ihl => intro a n r; rw [List.foldl_cons, ihl, watchStep_sw]
    simp only [bumpAt]
    split_ifs
    · rw [h]; simp
    · rw [ih, h]; simp
@[simp] theorem bumpN_sw (p : Page) (base : Fd) (k n : Nat) (d : Dev) : (bumpN p base k n d).sw = d.sw := by
  unfold bumpN; split_ifs <;> simp [bumpAt_sw]
@[simp] theorem bump_sw (p : Page) (base : Fd) (k : Nat) (d : Dev) : (bump p base k d).sw = d.sw := by
  unfold bump; exact bumpN_sw p base k 1 d

@[simp] theorem watchStep_fwd (a n i : Nat) (r : Dev × Nat) : (watchStep a n i r).1.fwd = r.1.fwd := by
  simp only [watchStep]; split_ifs <;> simp
theorem bumpAt_fwd (fuel : Nat) (p : Page) (off n : Nat) (d : Dev) : (bumpAt fuel p off n d).fwd = d.fwd := by
  induction fuel generalizing p off n d with
  | zero => rfl
  | succ k ih =>
    have h : ∀ (l : List Nat) (a n : Nat) (r : Dev × Nat), (l.foldl (fun r i => watchStep a n i r) r).1.fwd = r.1.fwd := by
      intro l; induction l with
      | nil => intros; rfl
      | cons x l ihl => intro a n r; rw [List.foldl_cons, ihl, watchStep_fwd]
    simp only [bumpAt]
    split_ifs
    · rw [h]; simp
    · rw [ih, h]; simp
@[simp] theorem bumpN_fwd (p : Page) (base : Fd) (k n : Nat) (d : Dev) : (bumpN p base k n d).fwd = d.fwd := by
  unfold bumpN; split_ifs <;> simp [bumpAt_fwd]
@[simp] theorem bump_fwd (p : Page) (base : Fd) (k : Nat) (d : Dev) : (bump p base k d).fwd = d.fwd := by
  unfold bump; exact bumpN_fwd p base k 1 d

@[simp] theorem watchStep_byp (a n i : Nat) (r : Dev × Nat) : (watchStep a n i r).1.byp = r.1.byp := by
  simp only [watchStep]; split_ifs <;> simp
theorem bumpAt_byp (fuel : Nat) (p : Page) (off n : Nat) (d : Dev) : (bumpAt fuel p off n d).byp = d.byp := by
  induction fuel generalizing p off n d with
  | zero => rfl
  | succ k ih =>
    have h : ∀ (l : List Nat) (a n : Nat) (r : Dev × Nat), (l.foldl (fun r i => watchStep a n i r) r).1.byp = r.1.byp := by
      intro l; induction l with
      | nil => intros; rfl
      | cons x l ihl => intro a n r; rw [List.foldl_cons, ihl, watchStep_byp]
    simp only [bumpAt]
    split_ifs
    · rw [h]; simp
    · rw [ih, h]; simp
@[simp] theorem bumpN_byp (p : Page) (base : Fd) (k n : Nat) (d : Dev) : (bumpN p base k n d).byp = d.byp := by
  unfold bumpN; split_ifs <;> simp [bumpAt_byp]
@[simp] theorem bump_byp (p : Page) (base : Fd) (k : Nat) (d : Dev) : (bump p base k d).byp = d.byp := by
  unfold bump; exact bumpN_byp p base k 1 d

@[simp] theorem watchStep_col (a n i : Nat) (r : Dev × Nat) : (watchStep a n i r).1.col = r.1.col := by
  simp only [watchStep]; split_ifs <;> simp
theorem bumpAt_col (fuel : Nat) (p : Page) (off n : Nat) (d : Dev) : (bumpAt fuel p off n d).col = d.col := by
  induction fuel generalizing p off n d with
  | zero => rfl
  | succ k ih =>
    have h : ∀ (l : List Nat) (a n : Nat) (r : Dev × Nat), (l.foldl (fun r i => watchStep a n i r) r).1.col = r.1.col := by
      intro l; induction l with
      | nil => intros; rfl
      | cons x l ihl => intro a n r; rw [List.foldl_cons, ihl, watchStep_col]
    simp only [bumpAt]
    split_ifs
    · rw [h]; simp
    · rw [ih, h]; simp
@[simp] theorem bumpN_col (p : Page) (base : Fd) (k n : Nat) (d : Dev) : (bumpN p base k n d).col = d.col := by
  unfold bumpN; split_ifs <;> simp [bumpAt_col]
@[simp] theorem bump_col (p : Page) (base : Fd) (k : Nat) (d : Dev) : (bump p base k d).col = d.col := by
  unfold bump; exact bumpN_col p base k 1 d

@[simp] theorem watchStep_ldl (a n i : Nat) (r : Dev × Nat) : (watchStep a n i r).1.ldl = r.1.ldl := by
  simp only [watchStep]; split_ifs <;> simp
theorem bumpAt_ldl (fuel : Nat) (p : Page) (off n : Nat) (d : Dev) : (bumpAt fuel p off n d).ldl = d.ldl := by
  induction fuel generalizing p off n d with
  | zero => rfl
  | succ k ih =>
    have h : ∀ (l : List Nat) (a n : Nat) (r : Dev × Nat), (l.foldl (fun r i => watchStep a n i r) r).1.ldl = r.1.ldl := by
      intro l; induction l with
      | nil => intros; rfl
      | cons x l ihl => intro a n r; rw [List.foldl_cons, ihl, watchStep_ldl]
    simp only [bumpAt]
    split_ifs
    · rw [h]; simp
    · rw [ih, h]; simp
@[simp] theorem bumpN_ldl (p : Page) (base : Fd) (k n : Nat) (d : Dev) : (bumpN p base k n d).ldl = d.ldl := by
  unfold bumpN; split_ifs <;> simp [bumpAt_ldl]
@[simp] theorem bump_ldl (p : Page) (base : Fd) (k : Nat) (d : Dev) : (bump p base k d).ldl = d.ldl := by
  unfold bump; exact bumpN_ldl p base k 1 d

@[simp] theorem watchStep_stk (a n i : Nat) (r : Dev × Nat) : (watchStep a n i r).1.stk = r.1.stk := by
  simp only [watchStep]; split_ifs <;> simp
theorem bumpAt_stk (fuel : Nat) (p : Page) (off n : Nat) (d : Dev) : (bumpAt fuel p off n d).stk = d.stk := by
  induction fuel generalizing p off n d with
  | zero => rfl
  | succ k ih =>
    have h : ∀ (l : List Nat) (a n : Nat) (r : Dev × Nat), (l.foldl (fun r i => watchStep a n i r) r).1.stk = r.1.stk := by
      intro l; induction l with
      | nil => intros; rfl
      | cons x l ihl => intro a n r; rw [List.foldl_cons, ihl, watchStep_stk]
    simp only [bumpAt]
    split_ifs
    · rw [h]; simp
    · rw [ih, h]; simp
@[simp] theorem bumpN_stk (p : Page) (base : Fd) (k n : Nat) (d : Dev) : (bumpN p base k n d).stk = d.stk := by
  unfold bumpN; split_ifs <;> simp [bumpAt_stk]
@[simp] theorem bump_stk (p : Page) (base : Fd) (k : Nat) (d : Dev) : (bump p base k d).stk = d.stk := by
  unfold bump; exact bumpN_stk p base k 1 d

@[simp] theorem watchStep_tim (a n i : Nat) (r : Dev × Nat) : (watchStep a n i r).1.tim = r.1.tim := by
  simp only [watchStep]; split_ifs <;> simp
theorem bumpAt_tim (fuel : Nat) (p : Page) (off n : Nat) (d : Dev) : (bumpAt fuel p off n d).tim = d.tim := by
  induction fuel generalizing p off n d with
  | zero => rfl
  | succ k ih =>
    have h : ∀ (l : List Nat) (a n : Nat) (r : Dev × Nat), (l.foldl (fun r i => watchStep a n i r) r).1.tim = r.1.tim := by
      intro l; induction l with
      | nil => intros; rfl
      | cons x l ihl => intro a n r; rw [List.foldl_cons, ihl, watchStep_tim]
    simp only [bumpAt]
    split_ifs
    · rw [h]; simp
    · rw [ih, h]; simp
@[simp] theorem bumpN_tim (p : Page) (base : Fd) (k n : Nat) (d : Dev) : (bumpN p base k n d).tim = d.tim := by
  unfold bumpN; split_ifs <;> simp [bumpAt_tim]
@[simp] theorem bump_tim (p : Page) (base : Fd) (k : Nat) (d : Dev) : (bump p base k d).tim = d.tim := by
  unfold bump; exact bumpN_tim p base k 1 d

@[simp] theorem watchStep_pmc (a n i : Nat) (r : Dev × Nat) : (watchStep a n i r).1.pmc = r.1.pmc := by
  simp only [watchStep]; split_ifs <;> simp
theorem bumpAt_pmc (fuel : Nat) (p : Page) (off n : Nat) (d : Dev) : (bumpAt fuel p off n d).pmc = d.pmc := by
  induction fuel generalizing p off n d with
  | zero => rfl
  | succ k ih =>
    have h : ∀ (l : List Nat) (a n : Nat) (r : Dev × Nat), (l.foldl (fun r i => watchStep a n i r) r).1.pmc = r.1.pmc := by
      intro l; induction l with
      | nil => intros; rfl
      | cons x l ihl => intro a n r; rw [List.foldl_cons, ihl, watchStep_pmc]
    simp only [bumpAt]
    split_ifs
    · rw [h]; simp
    · rw [ih, h]; simp
@[simp] theorem bumpN_pmc (p : Page) (base : Fd) (k n : Nat) (d : Dev) : (bumpN p base k n d).pmc = d.pmc := by
  unfold bumpN; split_ifs <;> simp [bumpAt_pmc]
@[simp] theorem bump_pmc (p : Page) (base : Fd) (k : Nat) (d : Dev) : (bump p base k d).pmc = d.pmc := by
  unfold bump; exact bumpN_pmc p base k 1 d

@[simp] theorem watchStep_mgt (a n i : Nat) (r : Dev × Nat) : (watchStep a n i r).1.mgt = r.1.mgt := by
  simp only [watchStep]; split_ifs <;> simp
theorem bumpAt_mgt (fuel : Nat) (p : Page) (off n : Nat) (d : Dev) : (bumpAt fuel p off n d).mgt = d.mgt := by
  induction fuel generalizing p off n d with
  | zero => rfl
  | succ k ih =>
    have h : ∀ (l : List Nat) (a n : Nat) (r : Dev × Nat), (l.foldl (fun r i => watchStep a n i r) r).1.mgt = r.1.mgt := by
      intro l; induction l with
      | nil => intros; rfl
      | cons x l ihl => intro a n r; rw [List.foldl_cons, ihl, watchStep_mgt]
    simp only [bumpAt]
    split_ifs
    · rw [h]; simp
    · rw [ih, h]; simp
@[simp] theorem bumpN_mgt (p : Page) (base : Fd) (k n : Nat) (d : Dev) : (bumpN p base k n d).mgt = d.mgt := by
  unfold bumpN; split_ifs <;> simp [bumpAt_mgt]
@[simp] theorem bump_mgt (p : Page) (base : Fd) (k : Nat) (d : Dev) : (bump p base k d).mgt = d.mgt := by
  unfold bump; exact bumpN_mgt p base k 1 d

@[simp] theorem watchStep_tel (a n i : Nat) (r : Dev × Nat) : (watchStep a n i r).1.tel = r.1.tel := by
  simp only [watchStep]; split_ifs <;> simp
theorem bumpAt_tel (fuel : Nat) (p : Page) (off n : Nat) (d : Dev) : (bumpAt fuel p off n d).tel = d.tel := by
  induction fuel generalizing p off n d with
  | zero => rfl
  | succ k ih =>
    have h : ∀ (l : List Nat) (a n : Nat) (r : Dev × Nat), (l.foldl (fun r i => watchStep a n i r) r).1.tel = r.1.tel := by
      intro l; induction l with
      | nil => intros; rfl
      | cons x l ihl => intro a n r; rw [List.foldl_cons, ihl, watchStep_tel]
    simp only [bumpAt]
    split_ifs
    · rw [h]; simp
    · rw [ih, h]; simp
@[simp] theorem bumpN_tel (p : Page) (base : Fd) (k n : Nat) (d : Dev) : (bumpN p base k n d).tel = d.tel := by
  unfold bumpN; split_ifs <;> simp [bumpAt_tel]
@[simp] theorem bump_tel (p : Page) (base : Fd) (k : Nat) (d : Dev) : (bump p base k d).tel = d.tel := by
  unfold bump; exact bumpN_tel p base k 1 d

@[simp] theorem watchStep_rst (a n i : Nat) (r : Dev × Nat) : (watchStep a n i r).1.rst = r.1.rst := by
  simp only [watchStep]; split_ifs <;> simp
theorem bumpAt_rst (fuel : Nat) (p : Page) (off n : Nat) (d : Dev) : (bumpAt fuel p off n d).rst = d.rst := by
  induction fuel generalizing p off n d with
  | zero => rfl
  | succ k ih =>
    have h : ∀ (l : List Nat) (a n : Nat) (r : Dev × Nat), (l.foldl (fun r i => watchStep a n i r) r).1.rst = r.1.rst := by
      intro l; induction l with
      | nil => intros; rfl
      | cons x l ihl => intro a n r; rw [List.foldl_cons, ihl, watchStep_rst]
    simp only [bumpAt]
    split_ifs
    · rw [h]; simp
    · rw [ih, h]; simp
@[simp] theorem bumpN_rst (p : Page) (base : Fd) (k n : Nat) (d : Dev) : (bumpN p base k n d).rst = d.rst := by
  unfold bumpN; split_ifs <;> simp [bumpAt_rst]
@[simp] theorem bump_rst (p : Page) (base : Fd) (k : Nat) (d : Dev) : (bump p base k d).rst = d.rst := by
  unfold bump; exact bumpN_rst p base k 1 d

@[simp] theorem watchStep_ctl_staged (a n i : Nat) (r : Dev × Nat) : (watchStep a n i r).1.ctl.staged = r.1.ctl.staged := by
  simp only [watchStep]; split_ifs <;> simp
theorem bumpAt_ctl_staged (fuel : Nat) (p : Page) (off n : Nat) (d : Dev) : (bumpAt fuel p off n d).ctl.staged = d.ctl.staged := by
  induction fuel generalizing p off n d with
  | zero => rfl
  | succ k ih =>
    have h : ∀ (l : List Nat) (a n : Nat) (r : Dev × Nat), (l.foldl (fun r i => watchStep a n i r) r).1.ctl.staged = r.1.ctl.staged := by
      intro l; induction l with
      | nil => intros; rfl
      | cons x l ihl => intro a n r; rw [List.foldl_cons, ihl, watchStep_ctl_staged]
    simp only [bumpAt]
    split_ifs
    · rw [h]; simp
    · rw [ih, h]; simp
@[simp] theorem bumpN_ctl_staged (p : Page) (base : Fd) (k n : Nat) (d : Dev) : (bumpN p base k n d).ctl.staged = d.ctl.staged := by
  unfold bumpN; split_ifs <;> simp [bumpAt_ctl_staged]
@[simp] theorem bump_ctl_staged (p : Page) (base : Fd) (k : Nat) (d : Dev) : (bump p base k d).ctl.staged = d.ctl.staged := by
  unfold bump; exact bumpN_ctl_staged p base k 1 d

@[simp] theorem watchStep_ctl_commits (a n i : Nat) (r : Dev × Nat) : (watchStep a n i r).1.ctl.commits = r.1.ctl.commits := by
  simp only [watchStep]; split_ifs <;> simp
theorem bumpAt_ctl_commits (fuel : Nat) (p : Page) (off n : Nat) (d : Dev) : (bumpAt fuel p off n d).ctl.commits = d.ctl.commits := by
  induction fuel generalizing p off n d with
  | zero => rfl
  | succ k ih =>
    have h : ∀ (l : List Nat) (a n : Nat) (r : Dev × Nat), (l.foldl (fun r i => watchStep a n i r) r).1.ctl.commits = r.1.ctl.commits := by
      intro l; induction l with
      | nil => intros; rfl
      | cons x l ihl => intro a n r; rw [List.foldl_cons, ihl, watchStep_ctl_commits]
    simp only [bumpAt]
    split_ifs
    · rw [h]; simp
    · rw [ih, h]; simp
@[simp] theorem bumpN_ctl_commits (p : Page) (base : Fd) (k n : Nat) (d : Dev) : (bumpN p base k n d).ctl.commits = d.ctl.commits := by
  unfold bumpN; split_ifs <;> simp [bumpAt_ctl_commits]
@[simp] theorem bump_ctl_commits (p : Page) (base : Fd) (k : Nat) (d : Dev) : (bump p base k d).ctl.commits = d.ctl.commits := by
  unfold bump; exact bumpN_ctl_commits p base k 1 d

@[simp] theorem watchStep_ctl_latchHost (a n i : Nat) (r : Dev × Nat) : (watchStep a n i r).1.ctl.latchHost = r.1.ctl.latchHost := by
  simp only [watchStep]; split_ifs <;> simp
theorem bumpAt_ctl_latchHost (fuel : Nat) (p : Page) (off n : Nat) (d : Dev) : (bumpAt fuel p off n d).ctl.latchHost = d.ctl.latchHost := by
  induction fuel generalizing p off n d with
  | zero => rfl
  | succ k ih =>
    have h : ∀ (l : List Nat) (a n : Nat) (r : Dev × Nat), (l.foldl (fun r i => watchStep a n i r) r).1.ctl.latchHost = r.1.ctl.latchHost := by
      intro l; induction l with
      | nil => intros; rfl
      | cons x l ihl => intro a n r; rw [List.foldl_cons, ihl, watchStep_ctl_latchHost]
    simp only [bumpAt]
    split_ifs
    · rw [h]; simp
    · rw [ih, h]; simp
@[simp] theorem bumpN_ctl_latchHost (p : Page) (base : Fd) (k n : Nat) (d : Dev) : (bumpN p base k n d).ctl.latchHost = d.ctl.latchHost := by
  unfold bumpN; split_ifs <;> simp [bumpAt_ctl_latchHost]
@[simp] theorem bump_ctl_latchHost (p : Page) (base : Fd) (k : Nat) (d : Dev) : (bump p base k d).ctl.latchHost = d.ctl.latchHost := by
  unfold bump; exact bumpN_ctl_latchHost p base k 1 d

@[simp] theorem watchStep_ctl_latchInband (a n i : Nat) (r : Dev × Nat) : (watchStep a n i r).1.ctl.latchInband = r.1.ctl.latchInband := by
  simp only [watchStep]; split_ifs <;> simp
theorem bumpAt_ctl_latchInband (fuel : Nat) (p : Page) (off n : Nat) (d : Dev) : (bumpAt fuel p off n d).ctl.latchInband = d.ctl.latchInband := by
  induction fuel generalizing p off n d with
  | zero => rfl
  | succ k ih =>
    have h : ∀ (l : List Nat) (a n : Nat) (r : Dev × Nat), (l.foldl (fun r i => watchStep a n i r) r).1.ctl.latchInband = r.1.ctl.latchInband := by
      intro l; induction l with
      | nil => intros; rfl
      | cons x l ihl => intro a n r; rw [List.foldl_cons, ihl, watchStep_ctl_latchInband]
    simp only [bumpAt]
    split_ifs
    · rw [h]; simp
    · rw [ih, h]; simp
@[simp] theorem bumpN_ctl_latchInband (p : Page) (base : Fd) (k n : Nat) (d : Dev) : (bumpN p base k n d).ctl.latchInband = d.ctl.latchInband := by
  unfold bumpN; split_ifs <;> simp [bumpAt_ctl_latchInband]
@[simp] theorem bump_ctl_latchInband (p : Page) (base : Fd) (k : Nat) (d : Dev) : (bump p base k d).ctl.latchInband = d.ctl.latchInband := by
  unfold bump; exact bumpN_ctl_latchInband p base k 1 d

@[simp] theorem watchStep_ctl_tblPend (a n i : Nat) (r : Dev × Nat) : (watchStep a n i r).1.ctl.tblPend = r.1.ctl.tblPend := by
  simp only [watchStep]; split_ifs <;> simp
theorem bumpAt_ctl_tblPend (fuel : Nat) (p : Page) (off n : Nat) (d : Dev) : (bumpAt fuel p off n d).ctl.tblPend = d.ctl.tblPend := by
  induction fuel generalizing p off n d with
  | zero => rfl
  | succ k ih =>
    have h : ∀ (l : List Nat) (a n : Nat) (r : Dev × Nat), (l.foldl (fun r i => watchStep a n i r) r).1.ctl.tblPend = r.1.ctl.tblPend := by
      intro l; induction l with
      | nil => intros; rfl
      | cons x l ihl => intro a n r; rw [List.foldl_cons, ihl, watchStep_ctl_tblPend]
    simp only [bumpAt]
    split_ifs
    · rw [h]; simp
    · rw [ih, h]; simp
@[simp] theorem bumpN_ctl_tblPend (p : Page) (base : Fd) (k n : Nat) (d : Dev) : (bumpN p base k n d).ctl.tblPend = d.ctl.tblPend := by
  unfold bumpN; split_ifs <;> simp [bumpAt_ctl_tblPend]
@[simp] theorem bump_ctl_tblPend (p : Page) (base : Fd) (k : Nat) (d : Dev) : (bump p base k d).ctl.tblPend = d.ctl.tblPend := by
  unfold bump; exact bumpN_ctl_tblPend p base k 1 d

@[simp] theorem watchStep_ctl_acts (a n i : Nat) (r : Dev × Nat) : (watchStep a n i r).1.ctl.acts = r.1.ctl.acts := by
  simp only [watchStep]; split_ifs <;> simp
theorem bumpAt_ctl_acts (fuel : Nat) (p : Page) (off n : Nat) (d : Dev) : (bumpAt fuel p off n d).ctl.acts = d.ctl.acts := by
  induction fuel generalizing p off n d with
  | zero => rfl
  | succ k ih =>
    have h : ∀ (l : List Nat) (a n : Nat) (r : Dev × Nat), (l.foldl (fun r i => watchStep a n i r) r).1.ctl.acts = r.1.ctl.acts := by
      intro l; induction l with
      | nil => intros; rfl
      | cons x l ihl => intro a n r; rw [List.foldl_cons, ihl, watchStep_ctl_acts]
    simp only [bumpAt]
    split_ifs
    · rw [h]; simp
    · rw [ih, h]; simp
@[simp] theorem bumpN_ctl_acts (p : Page) (base : Fd) (k n : Nat) (d : Dev) : (bumpN p base k n d).ctl.acts = d.ctl.acts := by
  unfold bumpN; split_ifs <;> simp [bumpAt_ctl_acts]
@[simp] theorem bump_ctl_acts (p : Page) (base : Fd) (k : Nat) (d : Dev) : (bump p base k d).ctl.acts = d.ctl.acts := by
  unfold bump; exact bumpN_ctl_acts p base k 1 d

@[simp] theorem watchStep_ctl_abortWave (a n i : Nat) (r : Dev × Nat) : (watchStep a n i r).1.ctl.abortWave = r.1.ctl.abortWave := by
  simp only [watchStep]; split_ifs <;> simp
theorem bumpAt_ctl_abortWave (fuel : Nat) (p : Page) (off n : Nat) (d : Dev) : (bumpAt fuel p off n d).ctl.abortWave = d.ctl.abortWave := by
  induction fuel generalizing p off n d with
  | zero => rfl
  | succ k ih =>
    have h : ∀ (l : List Nat) (a n : Nat) (r : Dev × Nat), (l.foldl (fun r i => watchStep a n i r) r).1.ctl.abortWave = r.1.ctl.abortWave := by
      intro l; induction l with
      | nil => intros; rfl
      | cons x l ihl => intro a n r; rw [List.foldl_cons, ihl, watchStep_ctl_abortWave]
    simp only [bumpAt]
    split_ifs
    · rw [h]; simp
    · rw [ih, h]; simp
@[simp] theorem bumpN_ctl_abortWave (p : Page) (base : Fd) (k n : Nat) (d : Dev) : (bumpN p base k n d).ctl.abortWave = d.ctl.abortWave := by
  unfold bumpN; split_ifs <;> simp [bumpAt_ctl_abortWave]
@[simp] theorem bump_ctl_abortWave (p : Page) (base : Fd) (k : Nat) (d : Dev) : (bump p base k d).ctl.abortWave = d.ctl.abortWave := by
  unfold bump; exact bumpN_ctl_abortWave p base k 1 d

@[simp] theorem watchStep_ctl_abortAllAt (a n i : Nat) (r : Dev × Nat) : (watchStep a n i r).1.ctl.abortAllAt = r.1.ctl.abortAllAt := by
  simp only [watchStep]; split_ifs <;> simp
theorem bumpAt_ctl_abortAllAt (fuel : Nat) (p : Page) (off n : Nat) (d : Dev) : (bumpAt fuel p off n d).ctl.abortAllAt = d.ctl.abortAllAt := by
  induction fuel generalizing p off n d with
  | zero => rfl
  | succ k ih =>
    have h : ∀ (l : List Nat) (a n : Nat) (r : Dev × Nat), (l.foldl (fun r i => watchStep a n i r) r).1.ctl.abortAllAt = r.1.ctl.abortAllAt := by
      intro l; induction l with
      | nil => intros; rfl
      | cons x l ihl => intro a n r; rw [List.foldl_cons, ihl, watchStep_ctl_abortAllAt]
    simp only [bumpAt]
    split_ifs
    · rw [h]; simp
    · rw [ih, h]; simp
@[simp] theorem bumpN_ctl_abortAllAt (p : Page) (base : Fd) (k n : Nat) (d : Dev) : (bumpN p base k n d).ctl.abortAllAt = d.ctl.abortAllAt := by
  unfold bumpN; split_ifs <;> simp [bumpAt_ctl_abortAllAt]
@[simp] theorem bump_ctl_abortAllAt (p : Page) (base : Fd) (k : Nat) (d : Dev) : (bump p base k d).ctl.abortAllAt = d.ctl.abortAllAt := by
  unfold bump; exact bumpN_ctl_abortAllAt p base k 1 d

@[simp] theorem watchStep_ctl_ownerAll (a n i : Nat) (r : Dev × Nat) : (watchStep a n i r).1.ctl.ownerAll = r.1.ctl.ownerAll := by
  simp only [watchStep]; split_ifs <;> simp
theorem bumpAt_ctl_ownerAll (fuel : Nat) (p : Page) (off n : Nat) (d : Dev) : (bumpAt fuel p off n d).ctl.ownerAll = d.ctl.ownerAll := by
  induction fuel generalizing p off n d with
  | zero => rfl
  | succ k ih =>
    have h : ∀ (l : List Nat) (a n : Nat) (r : Dev × Nat), (l.foldl (fun r i => watchStep a n i r) r).1.ctl.ownerAll = r.1.ctl.ownerAll := by
      intro l; induction l with
      | nil => intros; rfl
      | cons x l ihl => intro a n r; rw [List.foldl_cons, ihl, watchStep_ctl_ownerAll]
    simp only [bumpAt]
    split_ifs
    · rw [h]; simp
    · rw [ih, h]; simp
@[simp] theorem bumpN_ctl_ownerAll (p : Page) (base : Fd) (k n : Nat) (d : Dev) : (bumpN p base k n d).ctl.ownerAll = d.ctl.ownerAll := by
  unfold bumpN; split_ifs <;> simp [bumpAt_ctl_ownerAll]
@[simp] theorem bump_ctl_ownerAll (p : Page) (base : Fd) (k : Nat) (d : Dev) : (bump p base k d).ctl.ownerAll = d.ctl.ownerAll := by
  unfold bump; exact bumpN_ctl_ownerAll p base k 1 d

@[simp] theorem watchStep_ctl_parityBad (a n i : Nat) (r : Dev × Nat) : (watchStep a n i r).1.ctl.parityBad = r.1.ctl.parityBad := by
  simp only [watchStep]; split_ifs <;> simp
theorem bumpAt_ctl_parityBad (fuel : Nat) (p : Page) (off n : Nat) (d : Dev) : (bumpAt fuel p off n d).ctl.parityBad = d.ctl.parityBad := by
  induction fuel generalizing p off n d with
  | zero => rfl
  | succ k ih =>
    have h : ∀ (l : List Nat) (a n : Nat) (r : Dev × Nat), (l.foldl (fun r i => watchStep a n i r) r).1.ctl.parityBad = r.1.ctl.parityBad := by
      intro l; induction l with
      | nil => intros; rfl
      | cons x l ihl => intro a n r; rw [List.foldl_cons, ihl, watchStep_ctl_parityBad]
    simp only [bumpAt]
    split_ifs
    · rw [h]; simp
    · rw [ih, h]; simp
@[simp] theorem bumpN_ctl_parityBad (p : Page) (base : Fd) (k n : Nat) (d : Dev) : (bumpN p base k n d).ctl.parityBad = d.ctl.parityBad := by
  unfold bumpN; split_ifs <;> simp [bumpAt_ctl_parityBad]
@[simp] theorem bump_ctl_parityBad (p : Page) (base : Fd) (k : Nat) (d : Dev) : (bump p base k d).ctl.parityBad = d.ctl.parityBad := by
  unfold bump; exact bumpN_ctl_parityBad p base k 1 d

@[simp] theorem watchStep_ctl_busMaster (a n i : Nat) (r : Dev × Nat) : (watchStep a n i r).1.ctl.busMaster = r.1.ctl.busMaster := by
  simp only [watchStep]; split_ifs <;> simp
theorem bumpAt_ctl_busMaster (fuel : Nat) (p : Page) (off n : Nat) (d : Dev) : (bumpAt fuel p off n d).ctl.busMaster = d.ctl.busMaster := by
  induction fuel generalizing p off n d with
  | zero => rfl
  | succ k ih =>
    have h : ∀ (l : List Nat) (a n : Nat) (r : Dev × Nat), (l.foldl (fun r i => watchStep a n i r) r).1.ctl.busMaster = r.1.ctl.busMaster := by
      intro l; induction l with
      | nil => intros; rfl
      | cons x l ihl => intro a n r; rw [List.foldl_cons, ihl, watchStep_ctl_busMaster]
    simp only [bumpAt]
    split_ifs
    · rw [h]; simp
    · rw [ih, h]; simp
@[simp] theorem bumpN_ctl_busMaster (p : Page) (base : Fd) (k n : Nat) (d : Dev) : (bumpN p base k n d).ctl.busMaster = d.ctl.busMaster := by
  unfold bumpN; split_ifs <;> simp [bumpAt_ctl_busMaster]
@[simp] theorem bump_ctl_busMaster (p : Page) (base : Fd) (k : Nat) (d : Dev) : (bump p base k d).ctl.busMaster = d.ctl.busMaster := by
  unfold bump; exact bumpN_ctl_busMaster p base k 1 d

@[simp] theorem watchStep_ctl_msixEnable (a n i : Nat) (r : Dev × Nat) : (watchStep a n i r).1.ctl.msixEnable = r.1.ctl.msixEnable := by
  simp only [watchStep]; split_ifs <;> simp
theorem bumpAt_ctl_msixEnable (fuel : Nat) (p : Page) (off n : Nat) (d : Dev) : (bumpAt fuel p off n d).ctl.msixEnable = d.ctl.msixEnable := by
  induction fuel generalizing p off n d with
  | zero => rfl
  | succ k ih =>
    have h : ∀ (l : List Nat) (a n : Nat) (r : Dev × Nat), (l.foldl (fun r i => watchStep a n i r) r).1.ctl.msixEnable = r.1.ctl.msixEnable := by
      intro l; induction l with
      | nil => intros; rfl
      | cons x l ihl => intro a n r; rw [List.foldl_cons, ihl, watchStep_ctl_msixEnable]
    simp only [bumpAt]
    split_ifs
    · rw [h]; simp
    · rw [ih, h]; simp
@[simp] theorem bumpN_ctl_msixEnable (p : Page) (base : Fd) (k n : Nat) (d : Dev) : (bumpN p base k n d).ctl.msixEnable = d.ctl.msixEnable := by
  unfold bumpN; split_ifs <;> simp [bumpAt_ctl_msixEnable]
@[simp] theorem bump_ctl_msixEnable (p : Page) (base : Fd) (k : Nat) (d : Dev) : (bump p base k d).ctl.msixEnable = d.ctl.msixEnable := by
  unfold bump; exact bumpN_ctl_msixEnable p base k 1 d

@[simp] theorem watchStep_ctl_d3hot (a n i : Nat) (r : Dev × Nat) : (watchStep a n i r).1.ctl.d3hot = r.1.ctl.d3hot := by
  simp only [watchStep]; split_ifs <;> simp
theorem bumpAt_ctl_d3hot (fuel : Nat) (p : Page) (off n : Nat) (d : Dev) : (bumpAt fuel p off n d).ctl.d3hot = d.ctl.d3hot := by
  induction fuel generalizing p off n d with
  | zero => rfl
  | succ k ih =>
    have h : ∀ (l : List Nat) (a n : Nat) (r : Dev × Nat), (l.foldl (fun r i => watchStep a n i r) r).1.ctl.d3hot = r.1.ctl.d3hot := by
      intro l; induction l with
      | nil => intros; rfl
      | cons x l ihl => intro a n r; rw [List.foldl_cons, ihl, watchStep_ctl_d3hot]
    simp only [bumpAt]
    split_ifs
    · rw [h]; simp
    · rw [ih, h]; simp
@[simp] theorem bumpN_ctl_d3hot (p : Page) (base : Fd) (k n : Nat) (d : Dev) : (bumpN p base k n d).ctl.d3hot = d.ctl.d3hot := by
  unfold bumpN; split_ifs <;> simp [bumpAt_ctl_d3hot]
@[simp] theorem bump_ctl_d3hot (p : Page) (base : Fd) (k : Nat) (d : Dev) : (bump p base k d).ctl.d3hot = d.ctl.d3hot := by
  unfold bump; exact bumpN_ctl_d3hot p base k 1 d

@[simp] theorem watchStep_ctl_draws (a n i : Nat) (r : Dev × Nat) : (watchStep a n i r).1.ctl.draws = r.1.ctl.draws := by
  simp only [watchStep]; split_ifs <;> simp
theorem bumpAt_ctl_draws (fuel : Nat) (p : Page) (off n : Nat) (d : Dev) : (bumpAt fuel p off n d).ctl.draws = d.ctl.draws := by
  induction fuel generalizing p off n d with
  | zero => rfl
  | succ k ih =>
    have h : ∀ (l : List Nat) (a n : Nat) (r : Dev × Nat), (l.foldl (fun r i => watchStep a n i r) r).1.ctl.draws = r.1.ctl.draws := by
      intro l; induction l with
      | nil => intros; rfl
      | cons x l ihl => intro a n r; rw [List.foldl_cons, ihl, watchStep_ctl_draws]
    simp only [bumpAt]
    split_ifs
    · rw [h]; simp
    · rw [ih, h]; simp
@[simp] theorem bumpN_ctl_draws (p : Page) (base : Fd) (k n : Nat) (d : Dev) : (bumpN p base k n d).ctl.draws = d.ctl.draws := by
  unfold bumpN; split_ifs <;> simp [bumpAt_ctl_draws]
@[simp] theorem bump_ctl_draws (p : Page) (base : Fd) (k : Nat) (d : Dev) : (bump p base k d).ctl.draws = d.ctl.draws := by
  unfold bump; exact bumpN_ctl_draws p base k 1 d

@[simp] theorem rdWord_tset (p q : Page) (t i : Nat) (ws : List W32) (d : Dev) (a : Nat) :
    rdWord (tset p t i ws d) q a = rdWord d q a := rfl

@[simp] theorem rd_tset (p q : Page) (t i : Nat) (ws : List W32) (d : Dev) (f : Fd) :
    rd (tset p t i ws d) q f = rd d q f := rfl

/-- A page's word address lies outside TEL unless the page is TEL. -/
theorem tel_addr {q : Page} (hq : q ≠ Page.tel) (hqi : q.inst < 4096) {a b : Nat} (ha : a < 4096) (hb : b < 4096) :
    Page.tel.base + b ≠ q.base + a := fun c =>
  hq (((Page.addr_inj Page.tel q b a (by decide) hqi hb ha).1 c).1).symm

/-- A watch writes words of TEL alone. -/
theorem rdWord_watchStep (a' n i : Nat) (r : Dev × Nat) {q : Page} {a : Nat} (hq : q ≠ Page.tel) (hqi : q.inst < 4096)
    (ha : a < 4096) : rdWord (watchStep a' n i r).1 q a = rdWord r.1 q a := by
  simp only [watchStep]
  split_ifs with c1 c2 c3
  · simp only [Bool.and_eq_true, decide_eq_true_eq] at c1
    have h1 : Page.tel.base + (0x120 + 4 * (i / 32)) ≠ q.base + a := tel_addr hq hqi ha (by omega)
    simp only [rdWord_raiseIrq, if_neg (tel_addr hq hqi ha (by omega : 0x010 < 4096)), rdWord_wrWord, if_neg h1, rdWord_tset]
  · simp
  · simp
  · rfl

theorem rdWord_watchFold (l : List Nat) (a' n : Nat) (r : Dev × Nat) {q : Page} {a : Nat} (hq : q ≠ Page.tel)
    (hqi : q.inst < 4096) (ha : a < 4096) :
    rdWord (l.foldl (fun r i => watchStep a' n i r) r).1 q a = rdWord r.1 q a := by
  induction l generalizing r with
  | nil => rfl
  | cons x l ih => rw [List.foldl_cons, ih, rdWord_watchStep a' n x r hq hqi ha]

theorem rdWord_wr64_ne (p q : Page) (f : Fd) (v : Nat) {a : Nat} (d : Dev) (h : p.base + f.off ≠ q.base + a)
    (h' : p.base + (f.off + 4) ≠ q.base + a) : rdWord (wr64 p f v d) q a = rdWord d q a := by
  simp only [wr64, rdWord_wrWord, if_neg h, if_neg h']

/-- A count writes its counter's two words, and words of TEL (R467). -/
theorem rdWord_bumpAt_ne (fuel : Nat) (p q : Page) (off n : Nat) {a : Nat} (d : Dev) (hq : q ≠ Page.tel)
    (hqi : q.inst < 4096) (ha : a < 4096) (h : p.base + off ≠ q.base + a) (h' : p.base + (off + 4) ≠ q.base + a) :
    rdWord (bumpAt fuel p off n d) q a = rdWord d q a := by
  induction fuel generalizing p off n d with
  | zero => rfl
  | succ k ih =>
    simp only [bumpAt]
    split_ifs
    · rw [rdWord_watchFold _ _ _ _ hq hqi ha, rdWord_wr64_ne _ _ _ _ _ h h']
    · rw [ih _ _ _ _ (tel_addr hq hqi ha (by decide)) (tel_addr hq hqi ha (by decide)),
        rdWord_watchFold _ _ _ _ hq hqi ha, rdWord_wr64_ne _ _ _ _ _ h h']

theorem rdWord_bumpN_page {p q : Page} (base : Fd) (k n : Nat) {a : Nat} (d : Dev) (hq : q ≠ Page.tel) (h : p ≠ q)
    (hp : p.inst < 4096) (hqi : q.inst < 4096) (hb : base.off + 8 * k + 4 < 4096) (ha : a < 4096) :
    rdWord (bumpN p base k n d) q a = rdWord d q a := by
  unfold bumpN
  split_ifs
  · rfl
  · have key : ∀ b, b < 4096 → p.base + b ≠ q.base + a := fun b hb c => h ((Page.addr_inj p q b a hp hqi hb ha).1 c).1
    exact rdWord_bumpAt_ne 256 p q _ n d hq hqi ha (key _ (by omega)) (key _ hb)

theorem rdWord_bumpN_off {p : Page} (base : Fd) (k n : Nat) {a : Nat} (d : Dev) (hq : p ≠ Page.tel) (hp : p.inst < 4096)
    (ha : a < 4096) (h : a < base.off + 8 * k ∨ base.off + 8 * k + 8 ≤ a) (h4 : a % 4 = 0) (h5 : base.off % 4 = 0) :
    rdWord (bumpN p base k n d) p a = rdWord d p a := by
  unfold bumpN
  split_ifs
  · rfl
  · exact rdWord_bumpAt_ne 256 p p _ n d hq hp ha (by omega) (by omega)

theorem rdWord_bump_page {p q : Page} (base : Fd) (k : Nat) {a : Nat} (d : Dev) (hq : q ≠ Page.tel) (h : p ≠ q)
    (hp : p.inst < 4096) (hqi : q.inst < 4096) (hb : base.off + 8 * k + 4 < 4096) (ha : a < 4096) :
    rdWord (bump p base k d) q a = rdWord d q a := rdWord_bumpN_page base k 1 d hq h hp hqi hb ha

theorem rdWord_bump_off {p : Page} (base : Fd) (k : Nat) {a : Nat} (d : Dev) (hq : p ≠ Page.tel) (hp : p.inst < 4096)
    (ha : a < 4096) (h : a < base.off + 8 * k ∨ base.off + 8 * k + 8 ≤ a) (h4 : a % 4 = 0) (h5 : base.off % 4 = 0) :
    rdWord (bump p base k d) p a = rdWord d p a := rdWord_bumpN_off base k 1 d hq hp ha h h4 h5

theorem rd_bump_page {p q : Page} (base : Fd) (k : Nat) (g : Fd) (d : Dev) (hq : q ≠ Page.tel) (h : p ≠ q)
    (hp : p.inst < 4096) (hqi : q.inst < 4096) (hb : base.off + 8 * k + 4 < 4096) (ha : g.off < 4096) :
    rd (bump p base k d) q g = rd d q g := by simp only [rd, rdWord_bump_page base k d hq h hp hqi hb ha]

theorem rd_bump_off {p : Page} (base : Fd) (k : Nat) (g : Fd) (d : Dev) (hq : p ≠ Page.tel) (hp : p.inst < 4096)
    (ha : g.off < 4096) (h : g.off < base.off + 8 * k ∨ base.off + 8 * k + 8 ≤ g.off) (h4 : g.off % 4 = 0)
    (h5 : base.off % 4 = 0) : rd (bump p base k d) p g = rd d p g := by
  simp only [rd, rdWord_bump_off base k d hq hp ha h h4 h5]

theorem rd64_wr64_same (p : Page) (f : Fd) (v : Nat) (d : Dev) (h : v < 2 ^ 64) : rd64 (wr64 p f v d) p f = v := by
  simp only [rd64, wr64, rdWord_wrWord, lo32, hi32]
  simp only [if_true, if_neg (show ¬ p.base + (f.off + 4) = p.base + f.off by omega), BitVec.toNat_ofNat]
  omega

/-- The watched counter itself, for a page other than TEL: it rises by what is counted (R467). -/
theorem rd64_bump (p : Page) (base : Fd) (k : Nat) (d : Dev) (hp : p ≠ Page.tel) (hpi : p.inst < 4096)
    (hb : base.off + 8 * k + 4 < 4096) :
    rd64 (bump p base k d) p ⟨base.off + 8 * k, 31, 0⟩ =
      counterSum p (rd64 d p ⟨base.off + 8 * k, 31, 0⟩ + 1) % 2 ^ 64 := by
  have key : ∀ (v : Nat) (f : Fd) (d : Dev), rd64 (wr64 p f v d) p f = v % 2 ^ 64 := by
    intro v f d
    simp only [rd64, wr64, rdWord_wrWord, lo32, hi32]
    simp only [if_true, if_neg (show ¬ p.base + (f.off + 4) = p.base + f.off by omega), BitVec.toNat_ofNat]
    omega
  unfold bump bumpN
  rw [if_neg (by omega : ¬(1 = 0)), bumpAt]
  split_ifs
  · rw [← key (counterSum p (rd64 d p ⟨base.off + 8 * k, 31, 0⟩ + 1)) ⟨base.off + 8 * k, 31, 0⟩ d]
    simp only [rd64, rdWord_watchFold _ _ _ _ hp hpi hb,
      rdWord_watchFold _ _ _ _ hp hpi (by omega : base.off + 8 * k < 4096)]
  · rw [← key (counterSum p (rd64 d p ⟨base.off + 8 * k, 31, 0⟩ + 1)) ⟨base.off + 8 * k, 31, 0⟩ d]
    simp only [rd64]
    have t : ∀ {a b : Nat}, a < 4096 → b < 4096 → Page.tel.base + b ≠ p.base + a := fun ha hb => tel_addr hp hpi ha hb
    rw [rdWord_bumpAt_ne _ _ _ _ _ _ hp hpi (by omega) (t (by omega) (by decide)) (t (by omega) (by decide)),
      rdWord_bumpAt_ne _ _ _ _ _ _ hp hpi (by omega) (t (by omega) (by decide)) (t (by omega) (by decide)),
      rdWord_watchFold _ _ _ _ hp hpi (by omega), rdWord_watchFold _ _ _ _ hp hpi hb]

end Sys2Proof.Machine
end

