-- ==== Sys2Proof/Laws/Memory.lean ====
section
/-! SUPPORT. Stockpot's bytes (R342): a read after a write, what a write leaves alone, and that every memory operation
keeps the canonical form. -/

namespace Sys2Proof.Machine

@[simp] theorem memByte_set_same (m : List Host.Cell) (a : Nat) (b : Byte) : memByte (memSetByte m a b) a = b :=
  sget_sset_same memDefault m a b

theorem memByte_set_ne (m : List Host.Cell) {a x : Nat} (b : Byte) (h : a ≠ x) :
    memByte (memSetByte m a b) x = memByte m x := sget_sset_ne memDefault m b h

theorem memSetByte_wf (m : List Host.Cell) (a : Nat) (b : Byte) (h : Memory.wf m = true) :
    Memory.wf (memSetByte m a b) = true := swf_sset memDefault m a b h

theorem memWrite_wf (m : List Host.Cell) (a : Nat) (bs : List Byte) (h : Memory.wf m = true) :
    Memory.wf (memWrite m a bs) = true := by
  induction bs generalizing m a with
  | nil => exact h
  | cons b bs ih => exact ih _ _ (memSetByte_wf m a b h)

/-- A write leaves every byte outside it alone. -/
theorem memByte_write_ne (m : List Host.Cell) (a x : Nat) (bs : List Byte) (h : x < a ∨ a + bs.length ≤ x) :
    memByte (memWrite m a bs) x = memByte m x := by
  induction bs generalizing m a with
  | nil => rfl
  | cons b bs ih =>
    simp only [List.length_cons] at h
    simp only [memWrite]
    rw [ih _ _ (by omega), memByte_set_ne _ _ (by omega)]

/-- A byte just written. -/
theorem memByte_write (m : List Host.Cell) (a k : Nat) (bs : List Byte) (h : k < bs.length) :
    memByte (memWrite m a bs) (a + k) = bs.getD k 0 := by
  induction bs generalizing m a k with
  | nil => simp at h
  | cons b bs ih =>
    simp only [memWrite]
    cases k with
    | zero =>
      rw [memByte_write_ne _ _ _ _ (by omega)]
      simp
    | succ k =>
      rw [show a + (k + 1) = a + 1 + k by omega, ih _ _ _ (by simpa using h)]
      simp

/-- Reading back what was written. -/
theorem memRead_write (m : List Host.Cell) (a : Nat) (bs : List Byte) : memRead (memWrite m a bs) a bs.length = bs := by
  have key : ∀ (m : List Host.Cell) (x : Nat) (cs : List Byte) (pre : List Byte), x = a + pre.length →
      memRead (memWrite (memWrite m a pre) x cs) x cs.length = cs := by
    intro m x cs pre hx
    induction cs generalizing m x pre with
    | nil => rfl
    | cons c cs ih =>
      simp only [List.length_cons, memRead, memWrite]
      rw [memByte_write_ne _ _ _ _ (by omega), memByte_set_same]
      have e : memWrite (memWrite m a (pre)) x (c :: cs) = memWrite (memSetByte (memWrite m a pre) x c) (x + 1) cs := rfl
      have app : ∀ (m : List Host.Cell) (a : Nat) (l : List Byte), memSetByte (memWrite m a l) (a + l.length) c =
          memWrite m a (l ++ [c]) := by
        intro m a l
        induction l generalizing m a with
        | nil => rfl
        | cons b l ihl =>
          simp only [memWrite, List.cons_append, List.length_cons]
          rw [← ihl, show a + (l.length + 1) = a + 1 + l.length by omega]
      rw [hx, app, ih m _ (pre ++ [c]) (by simp; omega)]
  exact key m a bs [] (by simp)

theorem memRead_congr (m m' : List Host.Cell) (a n : Nat) (h : ∀ x, a ≤ x → x < a + n → memByte m x = memByte m' x) :
    memRead m a n = memRead m' a n := by
  induction n generalizing a with
  | zero => rfl
  | succ n ih =>
    simp only [memRead]
    rw [h a (le_refl a) (by omega), ih (a + 1) (fun x h1 h2 => h x (by omega) (by omega))]

theorem memberSet_wf (i : Nat) (ws : List W32) (s : State) (h : Memory.wf s.mem = true) :
    Memory.wf (memberSet i ws s).mem = true := memWrite_wf _ _ _ h

theorem bytesLE_length (n v : Nat) : (bytesLE n v).length = n := by
  induction n generalizing v with
  | zero => rfl
  | succ n ih => simp [bytesLE, ih]

theorem fitWords_length (n : Nat) (ws : List W32) : (fitWords n ws).length = n := by simp [fitWords]

theorem wordsBytes_length (ws : List W32) : (wordsBytes ws).length = 4 * ws.length := by
  induction ws with
  | nil => rfl
  | cons w ws ih =>
    have : wordsBytes (w :: ws) = bytesLE 4 w.toNat ++ wordsBytes ws := rfl
    rw [this, List.length_append, ih, bytesLE_length, List.length_cons]; omega

/-- A member entry's write leaves every byte outside its 64 alone (R343). -/
theorem memByte_memberSet_ne (i x : Nat) (ws : List W32) (s : State) (h : x < 64 * i ∨ 64 * i + 64 ≤ x) :
    memByte (memberSet i ws s).mem x = memByte s.mem x := by
  apply memByte_write_ne
  rw [wordsBytes_length, fitWords_length]; omega

end Sys2Proof.Machine
end

