-- ==== Sys2Proof/Laws/Steady.lean ====
section
/-! SUPPORT. What every state operation keeps: the queue, the local counter, and the canonical form of Stockpot's bytes.
One lemma per operation on the whole state. -/

namespace Sys2Proof.Machine

/-- The queue and the counter are the same, and Stockpot's form is kept. -/
structure Steady (s t : State) : Prop where
  pending : t.pending = s.pending
  now : t.now = s.now
  mem : Memory.wf s.mem = true → Memory.wf t.mem = true

theorem Steady.refl (s : State) : Steady s s := ⟨rfl, rfl, id⟩

/-- An operation on a state reached steadily. -/
theorem Steady.after {s t u : State} (h : Steady t u) (h' : Steady s t) : Steady s u :=
  ⟨h.pending.trans h'.pending, h.now.trans h'.now, fun w => h.mem (h'.mem w)⟩

theorem steady_dev (s : State) (d : Dev) : Steady s { s with dev := d } := ⟨rfl, rfl, id⟩

theorem onDev_steady (f : Dev → Dev) (s : State) : Steady s (onDev f s) := ⟨rfl, rfl, id⟩

theorem memberSet_steady (i : Nat) (ws : List W32) (s : State) : Steady s (memberSet i ws s) :=
  ⟨rfl, rfl, fun h => memWrite_wf _ _ _ h⟩

theorem steady_write (s : State) (d : Dev) (a : Nat) (bs : List Byte) :
    Steady s { s with dev := d, mem := memWrite s.mem a bs } := ⟨rfl, rfl, fun h => memWrite_wf _ _ _ h⟩

theorem foldl_steady {α : Type} (l : List α) (f : State → α → State) (h : ∀ s a, Steady s (f s a)) (s : State) :
    Steady s (l.foldl f s) := by
  induction l generalizing s with
  | nil => exact Steady.refl s
  | cons a l ih => exact (ih (f s a)).after (h s a)

theorem failChunk_steady (k : Nat) (s : State) : Steady s (failChunk k s) := by
  unfold failChunk
  try dsimp only
  repeat first
    | with_reducible exact Steady.refl _
    | with_reducible exact onDev_steady _ _
    | with_reducible exact steady_dev _ _
    | with_reducible exact steady_write _ _ _ _
    | with_reducible refine Steady.after (onDev_steady _ _) ?_
    | with_reducible refine Steady.after (memberSet_steady _ _ _) ?_
    | with_reducible refine foldl_steady _ _ (fun _ _ => ?_) _
    | with_reducible refine Steady.after (foldl_steady _ _ (fun _ _ => ?_) _) ?_
    | split

theorem failLost_steady (lost : Context → Bool) (s : State) : Steady s (failLost lost s) := by
  unfold failLost
  try dsimp only
  repeat first
    | with_reducible exact Steady.refl _
    | with_reducible exact onDev_steady _ _
    | with_reducible exact steady_dev _ _
    | with_reducible exact steady_write _ _ _ _
    | with_reducible refine Steady.after (failChunk_steady ..) ?_
    | with_reducible refine Steady.after (onDev_steady _ _) ?_
    | with_reducible refine Steady.after (memberSet_steady _ _ _) ?_
    | with_reducible refine foldl_steady _ _ (fun _ _ => ?_) _
    | with_reducible refine Steady.after (foldl_steady _ _ (fun _ _ => ?_) _) ?_
    | split

theorem countFail_steady (slot : Nat) (s : State) : Steady s (countFail slot s) := by
  unfold countFail; exact memberSet_steady _ _ _

theorem failContrib_steady (k m detail : Nat) (s : State) : Steady s (failContrib k m detail s) := by
  unfold failContrib
  split
  · exact Steady.refl s
  · extract_lets g ws x gone s1 s2
    have h1 : Steady s s1 := onDev_steady _ _
    have h2 : Steady s s2 := (countFail_steady _ s1).after h1
    split
    · exact (failChunk_steady _ _).after h2
    · exact h2

theorem closeContrib_steady (k m : Nat) (c : Context) (s : State) : Steady s (closeContrib k m c s) := by
  unfold closeContrib
  try dsimp only
  repeat first
    | with_reducible exact Steady.refl _
    | with_reducible exact onDev_steady _ _
    | with_reducible exact steady_dev _ _
    | with_reducible exact steady_write _ _ _ _
    | with_reducible refine Steady.after (onDev_steady _ _) ?_
    | with_reducible refine Steady.after (memberSet_steady _ _ _) ?_
    | with_reducible refine foldl_steady _ _ (fun _ _ => ?_) _
    | with_reducible refine Steady.after (foldl_steady _ _ (fun _ _ => ?_) _) ?_
    | split

theorem tryClose_steady (k m : Nat) (s : State) : Steady s (tryClose k m s) := by
  unfold tryClose
  split
  · exact Steady.refl _
  · dsimp only
    split
    · exact Steady.refl _
    · split
      · exact Steady.refl _
      · split
        · exact closeContrib_steady ..
        · exact failContrib_steady ..

theorem takeCup_steady (k m : Nat) (b : Box) (c : Context) (s : State) : Steady s (takeCup k m b c s) := by
  unfold takeCup
  try dsimp only
  repeat first
    | with_reducible exact Steady.refl _
    | with_reducible exact onDev_steady _ _
    | with_reducible exact steady_dev _ _
    | with_reducible exact steady_write _ _ _ _
    | with_reducible refine Steady.after (tryClose_steady ..) ?_
    | with_reducible refine Steady.after (onDev_steady _ _) ?_
    | with_reducible refine Steady.after (memberSet_steady _ _ _) ?_
    | with_reducible refine foldl_steady _ _ (fun _ _ => ?_) _
    | with_reducible refine Steady.after (foldl_steady _ _ (fun _ _ => ?_) _) ?_
    | split

theorem takeTail_steady (k m : Nat) (b : Box) (c : Context) (s : State) : Steady s (takeTail k m b c s) := by
  unfold takeTail
  try dsimp only
  repeat first
    | with_reducible exact Steady.refl _
    | with_reducible exact onDev_steady _ _
    | with_reducible exact steady_dev _ _
    | with_reducible exact steady_write _ _ _ _
    | with_reducible refine Steady.after (failContrib_steady ..) ?_
    | with_reducible refine Steady.after (tryClose_steady ..) ?_
    | with_reducible refine Steady.after (onDev_steady _ _) ?_
    | with_reducible refine Steady.after (memberSet_steady _ _ _) ?_
    | with_reducible refine foldl_steady _ _ (fun _ _ => ?_) _
    | with_reducible refine Steady.after (foldl_steady _ _ (fun _ _ => ?_) _) ?_
    | split

theorem enterCtx_steady (k m : Nat) (b : Box) (ent : List W32) (c : Context) (s : State) : Steady s (enterCtx k m b ent c s) := by
  unfold enterCtx
  try dsimp only
  repeat first
    | with_reducible exact Steady.refl _
    | with_reducible exact onDev_steady _ _
    | with_reducible exact steady_dev _ _
    | with_reducible exact steady_write _ _ _ _
    | with_reducible refine Steady.after (takeCup_steady ..) ?_
    | with_reducible refine Steady.after (takeTail_steady ..) ?_
    | with_reducible refine Steady.after (onDev_steady _ _) ?_
    | with_reducible refine Steady.after (memberSet_steady _ _ _) ?_
    | with_reducible refine foldl_steady _ _ (fun _ _ => ?_) _
    | with_reducible refine Steady.after (foldl_steady _ _ (fun _ _ => ?_) _) ?_
    | split

theorem openWith_steady (k m : Nat) (b : Box) (ent : List W32) (s : State) (d1 : Dev) : Steady s (match d1.ctx k with
        | some c => enterCtx k m b ent c { s with dev := d1 }
        | none => s) := by
  cases d1.ctx k with
  | some c => exact (enterCtx_steady _ _ _ _ _ _).after (steady_dev s d1)
  | none => exact Steady.refl s

theorem openAdmit_steady (k m : Nat) (b : Box) (ent : List W32) (s : State) (d1 : Dev) (o : Option Nat) (f : Nat → Dev → Dev) : Steady s (match o with
      | some detail => onDev (f detail) s
      | none =>
        match d1.ctx k with
        | some c => enterCtx k m b ent c { s with dev := d1 }
        | none => s) := by
  cases o with
  | some x => exact onDev_steady _ _
  | none => exact openWith_steady k m b ent s d1

theorem openFor_steady (k m : Nat) (b : Box) (ent : List W32) (s : State) : Steady s (openFor k m b ent s) := by
  unfold openFor
  dsimp only
  split
  · exact onDev_steady _ _
  · split
    · exact onDev_steady _ _
    · split
      · exact onDev_steady _ _
      · exact openAdmit_steady k m b ent s _ _ (fun detail _ => denyCell s.now k m b ent (deny k detail s.dev).1 (deny k detail s.dev).2)

theorem takeUp_steady (b : Box) (s : State) : Steady s (takeUp b s) := by
  unfold takeUp
  try dsimp only
  repeat first
    | with_reducible exact Steady.refl _
    | with_reducible exact onDev_steady _ _
    | with_reducible exact steady_dev _ _
    | with_reducible exact steady_write _ _ _ _
    | with_reducible refine Steady.after (enterCtx_steady ..) ?_
    | with_reducible refine Steady.after (openFor_steady ..) ?_
    | with_reducible refine Steady.after (onDev_steady _ _) ?_
    | with_reducible refine Steady.after (memberSet_steady _ _ _) ?_
    | with_reducible refine foldl_steady _ _ (fun _ _ => ?_) _
    | with_reducible refine Steady.after (foldl_steady _ _ (fun _ _ => ?_) _) ?_
    | split

theorem unparkOne_steady (s : State) (e : Nat × Box) : Steady s (unparkOne s e) := by
  unfold unparkOne
  try dsimp only
  repeat first
    | with_reducible exact Steady.refl _
    | with_reducible exact onDev_steady _ _
    | with_reducible exact steady_dev _ _
    | with_reducible exact steady_write _ _ _ _
    | with_reducible refine Steady.after (takeUp_steady ..) ?_
    | with_reducible refine Steady.after (onDev_steady _ _) ?_
    | with_reducible refine Steady.after (memberSet_steady _ _ _) ?_
    | with_reducible refine foldl_steady _ _ (fun _ _ => ?_) _
    | with_reducible refine Steady.after (foldl_steady _ _ (fun _ _ => ?_) _) ?_
    | split

theorem unparkReady_steady (s : State) : Steady s (unparkReady s) := by
  unfold unparkReady
  try dsimp only
  repeat first
    | with_reducible exact Steady.refl _
    | with_reducible exact onDev_steady _ _
    | with_reducible exact steady_dev _ _
    | with_reducible exact steady_write _ _ _ _
    | with_reducible refine Steady.after (unparkOne_steady ..) ?_
    | with_reducible refine Steady.after (onDev_steady _ _) ?_
    | with_reducible refine Steady.after (memberSet_steady _ _ _) ?_
    | with_reducible refine foldl_steady _ _ (fun _ _ => ?_) _
    | with_reducible refine Steady.after (foldl_steady _ _ (fun _ _ => ?_) _) ?_
    | split

theorem countUp_steady (c : Cell) (s : State) : Steady s (countUp c s) := by
  unfold countUp
  try dsimp only
  repeat first
    | with_reducible exact Steady.refl _
    | with_reducible exact onDev_steady _ _
    | with_reducible exact steady_dev _ _
    | with_reducible exact steady_write _ _ _ _
    | with_reducible refine Steady.after (onDev_steady _ _) ?_
    | with_reducible refine Steady.after (memberSet_steady _ _ _) ?_
    | with_reducible refine foldl_steady _ _ (fun _ _ => ?_) _
    | with_reducible refine Steady.after (foldl_steady _ _ (fun _ _ => ?_) _) ?_
    | split

theorem takeInbox_steady (op : Nat) (s : State) : Steady s (takeInbox op s) := by
  unfold takeInbox
  try dsimp only
  repeat first
    | with_reducible exact Steady.refl _
    | with_reducible exact onDev_steady _ _
    | with_reducible exact steady_dev _ _
    | with_reducible exact steady_write _ _ _ _
    | with_reducible refine Steady.after (takeUp_steady ..) ?_
    | with_reducible refine Steady.after (unparkReady_steady ..) ?_
    | with_reducible refine Steady.after (countUp_steady ..) ?_
    | with_reducible refine Steady.after (onDev_steady _ _) ?_
    | with_reducible refine Steady.after (memberSet_steady _ _ _) ?_
    | with_reducible refine foldl_steady _ _ (fun _ _ => ?_) _
    | with_reducible refine Steady.after (foldl_steady _ _ (fun _ _ => ?_) _) ?_
    | split

theorem missingCells_steady (g p m : Nat) (s : State) : Steady s (missingCells g p m s) := by
  unfold missingCells
  try dsimp only
  repeat first
    | with_reducible exact Steady.refl _
    | with_reducible exact onDev_steady _ _
    | with_reducible exact steady_dev _ _
    | with_reducible exact steady_write _ _ _ _
    | with_reducible refine Steady.after (failContrib_steady ..) ?_
    | with_reducible refine Steady.after (onDev_steady _ _) ?_
    | with_reducible refine Steady.after (memberSet_steady _ _ _) ?_
    | with_reducible refine foldl_steady _ _ (fun _ _ => ?_) _
    | with_reducible refine Steady.after (foldl_steady _ _ (fun _ _ => ?_) _) ?_
    | split

theorem chunkTimedOut_steady (g p : Nat) (s : State) : Steady s (chunkTimedOut g p s) := by
  unfold chunkTimedOut
  try dsimp only
  repeat first
    | with_reducible exact Steady.refl _
    | with_reducible exact onDev_steady _ _
    | with_reducible exact steady_dev _ _
    | with_reducible exact steady_write _ _ _ _
    | with_reducible refine Steady.after (failChunk_steady ..) ?_
    | with_reducible refine Steady.after (onDev_steady _ _) ?_
    | with_reducible refine Steady.after (memberSet_steady _ _ _) ?_
    | with_reducible refine foldl_steady _ _ (fun _ _ => ?_) _
    | with_reducible refine Steady.after (foldl_steady _ _ (fun _ _ => ?_) _) ?_
    | split

theorem streamNext_steady (k : Nat) (c : Context) (s : State) : Steady s (streamNext k c s) := by
  unfold streamNext
  try dsimp only
  repeat first
    | with_reducible exact Steady.refl _
    | with_reducible exact onDev_steady _ _
    | with_reducible exact steady_dev _ _
    | with_reducible exact steady_write _ _ _ _
    | with_reducible refine Steady.after (onDev_steady _ _) ?_
    | with_reducible refine Steady.after (memberSet_steady _ _ _) ?_
    | with_reducible refine foldl_steady _ _ (fun _ _ => ?_) _
    | with_reducible refine Steady.after (foldl_steady _ _ (fun _ _ => ?_) _) ?_
    | split

theorem resultStream_steady (g p : Nat) (s : State) : Steady s (resultStream g p s) := by
  unfold resultStream
  try dsimp only
  repeat first
    | with_reducible exact Steady.refl _
    | with_reducible exact onDev_steady _ _
    | with_reducible exact steady_dev _ _
    | with_reducible exact steady_write _ _ _ _
    | with_reducible refine Steady.after (streamNext_steady ..) ?_
    | with_reducible refine Steady.after (onDev_steady _ _) ?_
    | with_reducible refine Steady.after (memberSet_steady _ _ _) ?_
    | with_reducible refine foldl_steady _ _ (fun _ _ => ?_) _
    | with_reducible refine Steady.after (foldl_steady _ _ (fun _ _ => ?_) _) ?_
    | split

theorem resizeCmd_steady (src : Src) (abort : Bool) (g : Nat) (s : State) : Steady s (resizeCmd src abort g s) := by
  unfold resizeCmd
  try dsimp only
  repeat first
    | with_reducible exact Steady.refl _
    | with_reducible exact onDev_steady _ _
    | with_reducible exact steady_dev _ _
    | with_reducible exact steady_write _ _ _ _
    | with_reducible refine Steady.after (onDev_steady _ _) ?_
    | with_reducible refine Steady.after (memberSet_steady _ _ _) ?_
    | with_reducible refine foldl_steady _ _ (fun _ _ => ?_) _
    | with_reducible refine Steady.after (foldl_steady _ _ (fun _ _ => ?_) _) ?_
    | split

theorem fenceBlock_steady (n : Nat) (s : State) : Steady s (fenceBlock n s) := by
  unfold fenceBlock
  try dsimp only
  repeat first
    | with_reducible exact Steady.refl _
    | with_reducible exact onDev_steady _ _
    | with_reducible exact steady_dev _ _
    | with_reducible exact steady_write _ _ _ _
    | with_reducible refine Steady.after (failLost_steady ..) ?_
    | with_reducible refine Steady.after (onDev_steady _ _) ?_
    | with_reducible refine Steady.after (memberSet_steady _ _ _) ?_
    | with_reducible refine foldl_steady _ _ (fun _ _ => ?_) _
    | with_reducible refine Steady.after (foldl_steady _ _ (fun _ _ => ?_) _) ?_
    | split

theorem coreFail_steady (n : Nat) (s : State) : Steady s (coreFail n s) := by
  unfold coreFail
  try dsimp only
  repeat first
    | with_reducible exact Steady.refl _
    | with_reducible exact onDev_steady _ _
    | with_reducible exact steady_dev _ _
    | with_reducible exact steady_write _ _ _ _
    | with_reducible refine Steady.after (fenceBlock_steady ..) ?_
    | with_reducible refine Steady.after (onDev_steady _ _) ?_
    | with_reducible refine Steady.after (memberSet_steady _ _ _) ?_
    | with_reducible refine foldl_steady _ _ (fun _ _ => ?_) _
    | with_reducible refine Steady.after (foldl_steady _ _ (fun _ _ => ?_) _) ?_
    | split

theorem abortBlock_steady (b : Nat) (s : State) : Steady s (abortBlock b s) := by
  unfold abortBlock
  try dsimp only
  repeat first
    | with_reducible exact Steady.refl _
    | with_reducible exact onDev_steady _ _
    | with_reducible exact steady_dev _ _
    | with_reducible exact steady_write _ _ _ _
    | with_reducible refine Steady.after (failLost_steady ..) ?_
    | with_reducible refine Steady.after (onDev_steady _ _) ?_
    | with_reducible refine Steady.after (memberSet_steady _ _ _) ?_
    | with_reducible refine foldl_steady _ _ (fun _ _ => ?_) _
    | with_reducible refine Steady.after (foldl_steady _ _ (fun _ _ => ?_) _) ?_
    | split

theorem acceptPut_steady (mid : Nat) (v : Verb) (rest : List Verb) (s : State) : Steady s (acceptPut mid v rest s) := by
  unfold acceptPut
  try dsimp only
  repeat first
    | with_reducible exact Steady.refl _
    | with_reducible exact onDev_steady _ _
    | with_reducible exact steady_dev _ _
    | with_reducible exact steady_write _ _ _ _
    | with_reducible refine Steady.after (onDev_steady _ _) ?_
    | with_reducible refine Steady.after (memberSet_steady _ _ _) ?_
    | with_reducible refine foldl_steady _ _ (fun _ _ => ?_) _
    | with_reducible refine Steady.after (foldl_steady _ _ (fun _ _ => ?_) _) ?_
    | split

theorem acceptVerb_steady (mid : Nat) (s : State) : Steady s (acceptVerb mid s) := by
  unfold acceptVerb
  try dsimp only
  repeat first
    | with_reducible exact Steady.refl _
    | with_reducible exact onDev_steady _ _
    | with_reducible exact steady_dev _ _
    | with_reducible exact steady_write _ _ _ _
    | with_reducible refine Steady.after (acceptPut_steady ..) ?_
    | with_reducible refine Steady.after (onDev_steady _ _) ?_
    | with_reducible refine Steady.after (memberSet_steady _ _ _) ?_
    | with_reducible refine foldl_steady _ _ (fun _ _ => ?_) _
    | with_reducible refine Steady.after (foldl_steady _ _ (fun _ _ => ?_) _) ?_
    | split

theorem runAcc_steady (n : Nat) (v : Verb) (s : State) : Steady s (runAcc n v s) := by
  unfold runAcc
  try dsimp only
  repeat first
    | with_reducible exact Steady.refl _
    | with_reducible exact onDev_steady _ _
    | with_reducible exact steady_dev _ _
    | with_reducible exact steady_write _ _ _ _
    | with_reducible refine Steady.after (onDev_steady _ _) ?_
    | with_reducible refine Steady.after (memberSet_steady _ _ _) ?_
    | with_reducible refine foldl_steady _ _ (fun _ _ => ?_) _
    | with_reducible refine Steady.after (foldl_steady _ _ (fun _ _ => ?_) _) ?_
    | split

theorem accRun_steady (n : Nat) (s : State) : Steady s (accRun n s) := by
  unfold accRun
  try dsimp only
  repeat first
    | with_reducible exact Steady.refl _
    | with_reducible exact onDev_steady _ _
    | with_reducible exact steady_dev _ _
    | with_reducible exact steady_write _ _ _ _
    | with_reducible refine Steady.after (runAcc_steady ..) ?_
    | with_reducible refine Steady.after (onDev_steady _ _) ?_
    | with_reducible refine Steady.after (memberSet_steady _ _ _) ?_
    | with_reducible refine foldl_steady _ _ (fun _ _ => ?_) _
    | with_reducible refine Steady.after (foldl_steady _ _ (fun _ _ => ?_) _) ?_
    | split

theorem linePoison_steady (addr : Nat) (s : State) : Steady s (linePoison addr s) := by
  unfold linePoison
  try dsimp only
  repeat first
    | with_reducible exact Steady.refl _
    | with_reducible exact onDev_steady _ _
    | with_reducible exact steady_dev _ _
    | with_reducible exact steady_write _ _ _ _
    | with_reducible refine Steady.after (failChunk_steady ..) ?_
    | with_reducible refine Steady.after (onDev_steady _ _) ?_
    | with_reducible refine Steady.after (memberSet_steady _ _ _) ?_
    | with_reducible refine foldl_steady _ _ (fun _ _ => ?_) _
    | with_reducible refine Steady.after (foldl_steady _ _ (fun _ _ => ?_) _) ?_
    | split

theorem settleAccs_steady (addr n : Nat) (s : State) : Steady s (settleAccs addr n s) := by
  unfold settleAccs
  try dsimp only
  repeat first
    | with_reducible exact Steady.refl _
    | with_reducible exact onDev_steady _ _
    | with_reducible exact steady_dev _ _
    | with_reducible exact steady_write _ _ _ _
    | with_reducible refine Steady.after (runAcc_steady ..) ?_
    | with_reducible refine Steady.after (onDev_steady _ _) ?_
    | with_reducible refine Steady.after (memberSet_steady _ _ _) ?_
    | with_reducible refine foldl_steady _ _ (fun _ _ => ?_) _
    | with_reducible refine Steady.after (foldl_steady _ _ (fun _ _ => ?_) _) ?_
    | split

theorem windowWrite_steady (addr : Nat) (data : List Byte) (s : State) : Steady s (windowWrite addr data s) := by
  unfold windowWrite
  refine foldl_steady _ _ (fun s l => ?_) s
  dsimp only
  split
  · exact ⟨rfl, rfl, fun h => memWrite_wf _ _ _ h⟩
  · split
    · exact Steady.refl s
    · exact ⟨rfl, rfl, fun h => memWrite_wf _ _ _ h⟩

theorem hostWindow_steady (write : Bool) (offset n : Nat) (data : List Byte) (s : State) : Steady s (hostWindow write offset n data s) := by
  unfold hostWindow
  try dsimp only
  repeat first
    | with_reducible exact Steady.refl _
    | with_reducible exact onDev_steady _ _
    | with_reducible exact steady_dev _ _
    | with_reducible exact steady_write _ _ _ _
    | with_reducible refine Steady.after (settleAccs_steady ..) ?_
    | with_reducible refine Steady.after (windowWrite_steady ..) ?_
    | with_reducible refine Steady.after (onDev_steady _ _) ?_
    | with_reducible refine Steady.after (memberSet_steady _ _ _) ?_
    | with_reducible refine foldl_steady _ _ (fun _ _ => ?_) _
    | with_reducible refine Steady.after (foldl_steady _ _ (fun _ _ => ?_) _) ?_
    | split

theorem exchangeGranted_steady (b : Box) (s : State) : Steady s (exchangeGranted b s) := by
  unfold exchangeGranted
  try dsimp only
  repeat first
    | with_reducible exact Steady.refl _
    | with_reducible exact onDev_steady _ _
    | with_reducible exact steady_dev _ _
    | with_reducible exact steady_write _ _ _ _
    | with_reducible refine Steady.after (onDev_steady _ _) ?_
    | with_reducible refine Steady.after (memberSet_steady _ _ _) ?_
    | with_reducible refine foldl_steady _ _ (fun _ _ => ?_) _
    | with_reducible refine Steady.after (foldl_steady _ _ (fun _ _ => ?_) _) ?_
    | split

theorem fenceGroup_steady (bg : Nat) (s : State) : Steady s (fenceGroup bg s) := by
  unfold fenceGroup
  try dsimp only
  repeat first
    | with_reducible exact Steady.refl _
    | with_reducible exact onDev_steady _ _
    | with_reducible exact steady_dev _ _
    | with_reducible exact steady_write _ _ _ _
    | with_reducible refine Steady.after (failChunk_steady ..) ?_
    | with_reducible refine Steady.after (onDev_steady _ _) ?_
    | with_reducible refine Steady.after (memberSet_steady _ _ _) ?_
    | with_reducible refine foldl_steady _ _ (fun _ _ => ?_) _
    | with_reducible refine Steady.after (foldl_steady _ _ (fun _ _ => ?_) _) ?_
    | split

theorem unitEcc_steady (unit : EccUnit) (bg : Nat) (s : State) : Steady s (unitEcc unit bg s) := by
  unfold unitEcc
  try dsimp only
  repeat first
    | with_reducible exact Steady.refl _
    | with_reducible exact onDev_steady _ _
    | with_reducible exact steady_dev _ _
    | with_reducible exact steady_write _ _ _ _
    | with_reducible refine Steady.after (failChunk_steady ..) ?_
    | with_reducible refine Steady.after (fenceGroup_steady ..) ?_
    | with_reducible refine Steady.after (onDev_steady _ _) ?_
    | with_reducible refine Steady.after (memberSet_steady _ _ _) ?_
    | with_reducible refine foldl_steady _ _ (fun _ _ => ?_) _
    | with_reducible refine Steady.after (foldl_steady _ _ (fun _ _ => ?_) _) ?_
    | split

theorem transfer_steady (r : Req) (s : State) : Steady s (transfer r s) := by
  unfold transfer
  try dsimp only
  repeat first
    | with_reducible exact Steady.refl _
    | with_reducible exact onDev_steady _ _
    | with_reducible exact steady_dev _ _
    | with_reducible exact steady_write _ _ _ _
    | with_reducible refine Steady.after (exchangeGranted_steady ..) ?_
    | with_reducible refine Steady.after (onDev_steady _ _) ?_
    | with_reducible refine Steady.after (memberSet_steady _ _ _) ?_
    | with_reducible refine foldl_steady _ _ (fun _ _ => ?_) _
    | with_reducible refine Steady.after (foldl_steady _ _ (fun _ _ => ?_) _) ?_
    | split

theorem decide1_steady (s : State) (egress : Nat) : Steady s (decide1 s egress).2 := by
  unfold decide1
  try dsimp only
  repeat first
    | with_reducible exact Steady.refl _
    | with_reducible exact onDev_steady _ _
    | with_reducible exact steady_dev _ _
    | with_reducible exact steady_write _ _ _ _
    | with_reducible refine Steady.after (transfer_steady ..) ?_
    | with_reducible refine Steady.after (onDev_steady _ _) ?_
    | with_reducible refine Steady.after (memberSet_steady _ _ _) ?_
    | with_reducible refine foldl_steady _ _ (fun _ _ => ?_) _
    | with_reducible refine Steady.after (foldl_steady _ _ (fun _ _ => ?_) _) ?_
    | split

theorem applyGrant_steady (r : Req) (s : State) : Steady s (applyGrant r s) := by
  unfold applyGrant
  try dsimp only
  repeat first
    | with_reducible exact Steady.refl _
    | with_reducible exact onDev_steady _ _
    | with_reducible exact steady_dev _ _
    | with_reducible exact steady_write _ _ _ _
    | with_reducible refine Steady.after (transfer_steady ..) ?_
    | with_reducible refine Steady.after (onDev_steady _ _) ?_
    | with_reducible refine Steady.after (memberSet_steady _ _ _) ?_
    | with_reducible refine foldl_steady _ _ (fun _ _ => ?_) _
    | with_reducible refine Steady.after (foldl_steady _ _ (fun _ _ => ?_) _) ?_
    | split

theorem iteration_steady (u : Used) (s : State) : Steady s (iteration u s).2 := by
  unfold iteration
  exact foldl_steady _ _ (fun s r => applyGrant_steady r s) s

theorem crossbarMatch_steady (s : State) : Steady s (crossbarMatch s) := by
  unfold crossbarMatch
  split
  · exact Steady.refl s
  · extract_lets s0 r1 r2
    have h0 : Steady s s0 := onDev_steady _ _
    have h1 : Steady s r1.2 := (iteration_steady _ s0).after h0
    have h2 : Steady s r2.2 := (iteration_steady _ r1.2).after h1
    exact (onDev_steady _ _).after ((iteration_steady _ r2.2).after h2)

theorem recordWrite_steady (die : Nat) (s : State) : Steady s (recordWrite die s) := by
  unfold recordWrite
  try dsimp only
  repeat first
    | with_reducible exact Steady.refl _
    | with_reducible exact onDev_steady _ _
    | with_reducible exact steady_dev _ _
    | with_reducible exact steady_write _ _ _ _
    | with_reducible refine Steady.after (onDev_steady _ _) ?_
    | with_reducible refine Steady.after (memberSet_steady _ _ _) ?_
    | with_reducible refine foldl_steady _ _ (fun _ _ => ?_) _
    | with_reducible refine Steady.after (foldl_steady _ _ (fun _ _ => ?_) _) ?_
    | split

theorem tblStore_steady (p : Page) (t i : Nat) (data new : List W32) (s : State) : Steady s (tblStore p t i data new s) := by
  unfold tblStore
  try dsimp only
  repeat first
    | with_reducible exact Steady.refl _
    | with_reducible exact onDev_steady _ _
    | with_reducible exact steady_dev _ _
    | with_reducible exact steady_write _ _ _ _
    | with_reducible refine Steady.after (onDev_steady _ _) ?_
    | with_reducible refine Steady.after (memberSet_steady _ _ _) ?_
    | with_reducible refine foldl_steady _ _ (fun _ _ => ?_) _
    | with_reducible refine Steady.after (foldl_steady _ _ (fun _ _ => ?_) _) ?_
    | split

theorem tblErase_steady (p : Page) (t i : Nat) (s : State) : Steady s (tblErase p t i s) := by
  unfold tblErase
  try dsimp only
  repeat first
    | with_reducible exact Steady.refl _
    | with_reducible exact onDev_steady _ _
    | with_reducible exact steady_dev _ _
    | with_reducible exact steady_write _ _ _ _
    | with_reducible refine Steady.after (onDev_steady _ _) ?_
    | with_reducible refine Steady.after (memberSet_steady _ _ _) ?_
    | with_reducible refine foldl_steady _ _ (fun _ _ => ?_) _
    | with_reducible refine Steady.after (foldl_steady _ _ (fun _ _ => ?_) _) ?_
    | split

theorem refuseErr_steady (r : TblReq) (x : Refuse) (s : State) : Steady s (refuseErr r x s) := by
  unfold refuseErr
  try dsimp only
  repeat first
    | with_reducible exact Steady.refl _
    | with_reducible exact onDev_steady _ _
    | with_reducible exact steady_dev _ _
    | with_reducible exact steady_write _ _ _ _
    | with_reducible refine Steady.after (onDev_steady _ _) ?_
    | with_reducible refine Steady.after (memberSet_steady _ _ _) ?_
    | with_reducible refine foldl_steady _ _ (fun _ _ => ?_) _
    | with_reducible refine Steady.after (foldl_steady _ _ (fun _ _ => ?_) _) ?_
    | split

theorem tblRead_steady (r : TblReq) (s : State) : Steady s (tblRead r s).state := by
  unfold tblRead
  repeat first
    | exact Steady.refl _
    | exact onDev_steady _ _
    | split
    | dsimp only

theorem keyedDelete_steady (p : Page) (t : Nat) (data : List W32) (s : State) : Steady s (keyedDelete p t data s).state := by
  unfold keyedDelete
  repeat first
    | exact Steady.refl _
    | exact onDev_steady _ _
    | split
    | dsimp only [done]

theorem keyedInsert_steady (p : Page) (t : Nat) (data : List W32) (s : State) : Steady s (keyedInsert p t data s).state := by
  unfold keyedInsert
  repeat first
    | exact Steady.refl _
    | exact onDev_steady _ _
    | exact keyedDelete_steady _ _ _ _
    | split
    | dsimp only [done]

theorem tblChange_steady (r : TblReq) (s : State) : Steady s (tblChange r s).state := by
  unfold tblChange
  extract_lets new refuse old
  split
  · exact Steady.refl s
  · split
    · exact refuseErr_steady _ _ _
    · split
      · exact tblErase_steady _ _ _ _
      · split
        · exact Steady.refl s
        · exact tblStore_steady _ _ _ _ _ _

theorem tblRun_steady (r : TblReq) (s : State) : Steady s (tblRun r s).state := by
  unfold tblRun
  split
  · exact Steady.refl s
  · split
    · exact keyedInsert_steady _ _ _ _
    · split
      · exact keyedDelete_steady _ _ _ _
      · split
        · exact Steady.refl s
        · split
          · exact tblRead_steady _ _
          · exact tblChange_steady _ _

theorem tblStart_steady (src : Src) (p : Page) (table op : Nat) (s : State) : Steady s (tblStart src p table op s) := by
  unfold tblStart
  exact (onDev_steady _ _).after (tblRun_steady _ s)

theorem discardWork_steady (p : Page) (s : State) : Steady s (discardWork p s) := by
  unfold discardWork
  try dsimp only
  repeat first
    | with_reducible exact Steady.refl _
    | with_reducible exact onDev_steady _ _
    | with_reducible exact steady_dev _ _
    | with_reducible exact steady_write _ _ _ _
    | with_reducible refine Steady.after (abortBlock_steady ..) ?_
    | with_reducible refine Steady.after (onDev_steady _ _) ?_
    | with_reducible refine Steady.after (memberSet_steady _ _ _) ?_
    | with_reducible refine foldl_steady _ _ (fun _ _ => ?_) _
    | with_reducible refine Steady.after (foldl_steady _ _ (fun _ _ => ?_) _) ?_
    | split

theorem resetWork_steady (p : Page) (s : State) : Steady s (resetWork p s) := by
  unfold resetWork
  try dsimp only
  repeat first
    | with_reducible exact Steady.refl _
    | with_reducible exact onDev_steady _ _
    | with_reducible exact steady_dev _ _
    | with_reducible exact steady_write _ _ _ _
    | with_reducible refine Steady.after (onDev_steady _ _) ?_
    | with_reducible refine Steady.after (memberSet_steady _ _ _) ?_
    | with_reducible refine foldl_steady _ _ (fun _ _ => ?_) _
    | with_reducible refine Steady.after (foldl_steady _ _ (fun _ _ => ?_) _) ?_
    | split

theorem blockRuns_steady (p : Page) (s : State) : Steady s (blockRuns p s) := by
  unfold blockRuns
  try dsimp only
  repeat first
    | with_reducible exact Steady.refl _
    | with_reducible exact onDev_steady _ _
    | with_reducible exact steady_dev _ _
    | with_reducible exact steady_write _ _ _ _
    | with_reducible refine Steady.after (unparkReady_steady ..) ?_
    | with_reducible refine Steady.after (onDev_steady _ _) ?_
    | with_reducible refine Steady.after (memberSet_steady _ _ _) ?_
    | with_reducible refine foldl_steady _ _ (fun _ _ => ?_) _
    | with_reducible refine Steady.after (foldl_steady _ _ (fun _ _ => ?_) _) ?_
    | split

theorem writeEnable_steady (enable quiesce : Bool) (p : Page) (s : State) : Steady s (writeEnable enable quiesce p s) := by
  unfold writeEnable
  try dsimp only
  repeat first
    | with_reducible exact Steady.refl _
    | with_reducible exact onDev_steady _ _
    | with_reducible exact steady_dev _ _
    | with_reducible exact steady_write _ _ _ _
    | with_reducible refine Steady.after (blockRuns_steady ..) ?_
    | with_reducible refine Steady.after (onDev_steady _ _) ?_
    | with_reducible refine Steady.after (memberSet_steady _ _ _) ?_
    | with_reducible refine foldl_steady _ _ (fun _ _ => ?_) _
    | with_reducible refine Steady.after (foldl_steady _ _ (fun _ _ => ?_) _) ?_
    | split

theorem startAbort_steady (p : Page) (reset : Bool) (s : State) : Steady s (startAbort p reset s) := by
  unfold startAbort
  try dsimp only
  repeat first
    | with_reducible exact Steady.refl _
    | with_reducible exact onDev_steady _ _
    | with_reducible exact steady_dev _ _
    | with_reducible exact steady_write _ _ _ _
    | with_reducible refine Steady.after (discardWork_steady ..) ?_
    | with_reducible refine Steady.after (resetWork_steady ..) ?_
    | with_reducible refine Steady.after (onDev_steady _ _) ?_
    | with_reducible refine Steady.after (memberSet_steady _ _ _) ?_
    | with_reducible refine foldl_steady _ _ (fun _ _ => ?_) _
    | with_reducible refine Steady.after (foldl_steady _ _ (fun _ _ => ?_) _) ?_
    | split

theorem abortPage_steady (p : Page) (reset : Bool) (s : State) : Steady s (abortPage p reset s) := by
  unfold abortPage
  try dsimp only
  repeat first
    | with_reducible exact Steady.refl _
    | with_reducible exact onDev_steady _ _
    | with_reducible exact steady_dev _ _
    | with_reducible exact steady_write _ _ _ _
    | with_reducible refine Steady.after (startAbort_steady ..) ?_
    | with_reducible refine Steady.after (onDev_steady _ _) ?_
    | with_reducible refine Steady.after (memberSet_steady _ _ _) ?_
    | with_reducible refine foldl_steady _ _ (fun _ _ => ?_) _
    | with_reducible refine Steady.after (foldl_steady _ _ (fun _ _ => ?_) _) ?_
    | split

theorem ctlWrite_steady (p : Page) (v : Nat) (s : State) : Steady s (ctlWrite p v s) := by
  unfold ctlWrite
  try dsimp only
  repeat first
    | with_reducible exact Steady.refl _
    | with_reducible exact onDev_steady _ _
    | with_reducible exact steady_dev _ _
    | with_reducible exact steady_write _ _ _ _
    | with_reducible refine Steady.after (writeEnable_steady ..) ?_
    | with_reducible refine Steady.after (abortPage_steady ..) ?_
    | with_reducible refine Steady.after (onDev_steady _ _) ?_
    | with_reducible refine Steady.after (memberSet_steady _ _ _) ?_
    | with_reducible refine foldl_steady _ _ (fun _ _ => ?_) _
    | with_reducible refine Steady.after (foldl_steady _ _ (fun _ _ => ?_) _) ?_
    | split

theorem abortDeadline_steady (p : Page) (s : State) : Steady s (abortDeadline p s) := by
  unfold abortDeadline
  try dsimp only
  repeat first
    | with_reducible exact Steady.refl _
    | with_reducible exact onDev_steady _ _
    | with_reducible exact steady_dev _ _
    | with_reducible exact steady_write _ _ _ _
    | with_reducible refine Steady.after (resetWork_steady ..) ?_
    | with_reducible refine Steady.after (startAbort_steady ..) ?_
    | with_reducible refine Steady.after (onDev_steady _ _) ?_
    | with_reducible refine Steady.after (memberSet_steady _ _ _) ?_
    | with_reducible refine foldl_steady _ _ (fun _ _ => ?_) _
    | with_reducible refine Steady.after (foldl_steady _ _ (fun _ _ => ?_) _) ?_
    | split

theorem startWave_steady (k : Nat) (s : State) : Steady s (startWave k s) := by
  unfold startWave
  try dsimp only
  repeat first
    | with_reducible exact Steady.refl _
    | with_reducible exact onDev_steady _ _
    | with_reducible exact steady_dev _ _
    | with_reducible exact steady_write _ _ _ _
    | with_reducible refine Steady.after (startAbort_steady ..) ?_
    | with_reducible refine Steady.after (onDev_steady _ _) ?_
    | with_reducible refine Steady.after (memberSet_steady _ _ _) ?_
    | with_reducible refine foldl_steady _ _ (fun _ _ => ?_) _
    | with_reducible refine Steady.after (foldl_steady _ _ (fun _ _ => ?_) _) ?_
    | split

theorem abortAll_steady (s : State) : Steady s (abortAll s) := by
  unfold abortAll
  try dsimp only
  repeat first
    | with_reducible exact Steady.refl _
    | with_reducible exact onDev_steady _ _
    | with_reducible exact steady_dev _ _
    | with_reducible exact steady_write _ _ _ _
    | with_reducible refine Steady.after (startWave_steady ..) ?_
    | with_reducible refine Steady.after (onDev_steady _ _) ?_
    | with_reducible refine Steady.after (memberSet_steady _ _ _) ?_
    | with_reducible refine foldl_steady _ _ (fun _ _ => ?_) _
    | with_reducible refine Steady.after (foldl_steady _ _ (fun _ _ => ?_) _) ?_
    | split

theorem abortAllWave_steady (s : State) : Steady s (abortAllWave s) := by
  unfold abortAllWave
  try dsimp only
  repeat first
    | with_reducible exact Steady.refl _
    | with_reducible exact onDev_steady _ _
    | with_reducible exact steady_dev _ _
    | with_reducible exact steady_write _ _ _ _
    | with_reducible refine Steady.after (startWave_steady ..) ?_
    | with_reducible refine Steady.after (onDev_steady _ _) ?_
    | with_reducible refine Steady.after (memberSet_steady _ _ _) ?_
    | with_reducible refine foldl_steady _ _ (fun _ _ => ?_) _
    | with_reducible refine Steady.after (foldl_steady _ _ (fun _ _ => ?_) _) ?_
    | split

theorem resetStart_steady (src : Src) (type : Nat) (s : State) : Steady s (resetStart src type s) := by
  unfold resetStart
  extract_lets p s1
  have h1 : Steady s s1 := onDev_steady _ _
  split
  · exact onDev_steady _ _
  · exact (onDev_steady _ _).after ((startAbort_steady _ _ s1).after h1)

theorem resetWrite_steady (src : Src) (type : Nat) (s : State) : Steady s (resetWrite src type s) := by
  unfold resetWrite
  try dsimp only
  repeat first
    | with_reducible exact Steady.refl _
    | with_reducible exact onDev_steady _ _
    | with_reducible exact steady_dev _ _
    | with_reducible exact steady_write _ _ _ _
    | with_reducible refine Steady.after (resetStart_steady ..) ?_
    | with_reducible refine Steady.after (onDev_steady _ _) ?_
    | with_reducible refine Steady.after (memberSet_steady _ _ _) ?_
    | with_reducible refine foldl_steady _ _ (fun _ _ => ?_) _
    | with_reducible refine Steady.after (foldl_steady _ _ (fun _ _ => ?_) _) ?_
    | split

theorem inbandReset_steady (s : State) : Steady s (inbandReset s) := by
  unfold inbandReset
  try dsimp only
  repeat first
    | with_reducible exact Steady.refl _
    | with_reducible exact onDev_steady _ _
    | with_reducible exact steady_dev _ _
    | with_reducible exact steady_write _ _ _ _
    | with_reducible refine Steady.after (resetStart_steady ..) ?_
    | with_reducible refine Steady.after (onDev_steady _ _) ?_
    | with_reducible refine Steady.after (memberSet_steady _ _ _) ?_
    | with_reducible refine foldl_steady _ _ (fun _ _ => ?_) _
    | with_reducible refine Steady.after (foldl_steady _ _ (fun _ _ => ?_) _) ?_
    | split

theorem scopeReset_steady (p : Page) (s : State) : Steady s (scopeReset p s) := by
  unfold scopeReset
  try dsimp only
  repeat first
    | with_reducible exact Steady.refl _
    | with_reducible exact onDev_steady _ _
    | with_reducible exact steady_dev _ _
    | with_reducible exact steady_write _ _ _ _
    | with_reducible refine Steady.after (discardWork_steady ..) ?_
    | with_reducible refine Steady.after (resetWork_steady ..) ?_
    | with_reducible refine Steady.after (onDev_steady _ _) ?_
    | with_reducible refine Steady.after (memberSet_steady _ _ _) ?_
    | with_reducible refine foldl_steady _ _ (fun _ _ => ?_) _
    | with_reducible refine Steady.after (foldl_steady _ _ (fun _ _ => ?_) _) ?_
    | split

theorem discardNow_steady (s : State) : Steady s (discardNow s) := by
  unfold discardNow
  extract_lets p us s1 pages
  have h1 : Steady s s1 := onDev_steady _ _
  exact (onDev_steady _ _).after ((foldl_steady _ _ (fun s q => scopeReset_steady q s) s1).after h1)

theorem discardPoint_steady (s : State) : Steady s (discardPoint s) := by
  unfold discardPoint
  extract_lets d hot due
  split
  · exact discardNow_steady s
  · exact Steady.refl s

theorem failStop_steady (detail : Nat) (s : State) : Steady s (failStop detail s) := by
  unfold failStop
  extract_lets p s0
  have h0 : Steady s s0 := by
    simp only [s0]
    split
    · exact discardNow_steady s
    · exact Steady.refl s
  exact (onDev_steady _ _).after h0

theorem hotDone_steady (failed : List Page) (s : State) : Steady s (hotDone failed s) := by
  unfold hotDone
  split
  · exact Steady.refl s
  · extract_lets again pages s1 s2 s3
    have h1 : Steady s s1 := onDev_steady _ _
    have h2 : Steady s s2 := (onDev_steady _ s1).after h1
    have h3 : Steady s s3 := (foldl_steady _ _ (fun s q => writeEnable_steady _ _ q s) s2).after h2
    split
    · exact (failStop_steady _ _).after ((onDev_steady _ _).after h1)
    · exact (onDev_steady _ _).after h3

theorem regionFence_steady (r : Nat) (s : State) : Steady s (regionFence r s) := by
  unfold regionFence
  try dsimp only
  repeat first
    | with_reducible exact Steady.refl _
    | with_reducible exact onDev_steady _ _
    | with_reducible exact steady_dev _ _
    | with_reducible exact steady_write _ _ _ _
    | with_reducible refine Steady.after (failLost_steady ..) ?_
    | with_reducible refine Steady.after (onDev_steady _ _) ?_
    | with_reducible refine Steady.after (memberSet_steady _ _ _) ?_
    | with_reducible refine foldl_steady _ _ (fun _ _ => ?_) _
    | with_reducible refine Steady.after (foldl_steady _ _ (fun _ _ => ?_) _) ?_
    | split

theorem midFail_steady (mid : Nat) (s : State) : Steady s (midFail mid s) := by
  unfold midFail
  try dsimp only
  repeat first
    | with_reducible exact Steady.refl _
    | with_reducible exact onDev_steady _ _
    | with_reducible exact steady_dev _ _
    | with_reducible exact steady_write _ _ _ _
    | with_reducible refine Steady.after (failLost_steady ..) ?_
    | with_reducible refine Steady.after (onDev_steady _ _) ?_
    | with_reducible refine Steady.after (memberSet_steady _ _ _) ?_
    | with_reducible refine foldl_steady _ _ (fun _ _ => ?_) _
    | with_reducible refine Steady.after (foldl_steady _ _ (fun _ _ => ?_) _) ?_
    | split

theorem takeMgmt_steady (mine : Cell → Bool) (f : Box → State → State) (s : State) (h : ∀ b s, Steady s (f b s)) :
    Steady s (takeMgmt mine f s) := by
  unfold takeMgmt
  split
  · exact Steady.refl s
  · extract_lets s1
    have h1 : Steady s s1 := onDev_steady _ _
    split
    · exact h1
    · split
      · exact (h _ _).after h1
      · exact h1

theorem takeLatch_steady (src : Src) (p : Page) (off : Nat) (s : State) : Steady s (takeLatch src p off s) := by
  unfold takeLatch
  try dsimp only
  repeat first
    | with_reducible exact Steady.refl _
    | with_reducible exact onDev_steady _ _
    | with_reducible exact steady_dev _ _
    | with_reducible exact steady_write _ _ _ _
    | with_reducible refine Steady.after (onDev_steady _ _) ?_
    | with_reducible refine Steady.after (memberSet_steady _ _ _) ?_
    | with_reducible refine foldl_steady _ _ (fun _ _ => ?_) _
    | with_reducible refine Steady.after (foldl_steady _ _ (fun _ _ => ?_) _) ?_
    | split

theorem refuseAccess_steady (src : Src) (addr : Nat) (s : State) : Steady s (refuseAccess src addr s) := by
  unfold refuseAccess
  try dsimp only
  repeat first
    | with_reducible exact Steady.refl _
    | with_reducible exact onDev_steady _ _
    | with_reducible exact steady_dev _ _
    | with_reducible exact steady_write _ _ _ _
    | with_reducible refine Steady.after (onDev_steady _ _) ?_
    | with_reducible refine Steady.after (memberSet_steady _ _ _) ?_
    | with_reducible refine foldl_steady _ _ (fun _ _ => ?_) _
    | with_reducible refine Steady.after (foldl_steady _ _ (fun _ _ => ?_) _) ?_
    | split

theorem settleRead_steady (p : Page) (off : Nat) (s : State) : Steady s (settleRead p off s) := by
  unfold settleRead
  try dsimp only
  repeat first
    | with_reducible exact Steady.refl _
    | with_reducible exact onDev_steady _ _
    | with_reducible exact steady_dev _ _
    | with_reducible exact steady_write _ _ _ _
    | with_reducible refine Steady.after (onDev_steady _ _) ?_
    | with_reducible refine Steady.after (memberSet_steady _ _ _) ?_
    | with_reducible refine foldl_steady _ _ (fun _ _ => ?_) _
    | with_reducible refine Steady.after (foldl_steady _ _ (fun _ _ => ?_) _) ?_
    | split

theorem readPage_steady (src : Src) (narrow : Bool) (p : Page) (off : Nat) (s : State) : Steady s (readPage src narrow p off s).2 := by
  unfold readPage
  try dsimp only
  repeat first
    | with_reducible exact Steady.refl _
    | with_reducible exact onDev_steady _ _
    | with_reducible exact steady_dev _ _
    | with_reducible exact steady_write _ _ _ _
    | with_reducible refine Steady.after (takeLatch_steady ..) ?_
    | with_reducible refine Steady.after (settleRead_steady ..) ?_
    | with_reducible refine Steady.after (onDev_steady _ _) ?_
    | with_reducible refine Steady.after (memberSet_steady _ _ _) ?_
    | with_reducible refine foldl_steady _ _ (fun _ _ => ?_) _
    | with_reducible refine Steady.after (foldl_steady _ _ (fun _ _ => ?_) _) ?_
    | split

theorem bar0Read_steady (src : Src) (addr bytes : Nat) (s : State) : Steady s (bar0Read src addr bytes s).2 := by
  unfold bar0Read
  try dsimp only
  repeat first
    | with_reducible exact Steady.refl _
    | with_reducible exact onDev_steady _ _
    | with_reducible exact steady_dev _ _
    | with_reducible exact steady_write _ _ _ _
    | with_reducible refine Steady.after (refuseAccess_steady ..) ?_
    | with_reducible refine Steady.after (readPage_steady ..) ?_
    | with_reducible refine Steady.after (onDev_steady _ _) ?_
    | with_reducible refine Steady.after (memberSet_steady _ _ _) ?_
    | with_reducible refine foldl_steady _ _ (fun _ _ => ?_) _
    | with_reducible refine Steady.after (foldl_steady _ _ (fun _ _ => ?_) _) ?_
    | split

theorem tblCmdWrite_steady (src : Src) (p : Page) (v : W32) (s : State) : Steady s (tblCmdWrite src p v s) := by
  unfold tblCmdWrite
  try dsimp only
  repeat first
    | with_reducible exact Steady.refl _
    | with_reducible exact onDev_steady _ _
    | with_reducible exact steady_dev _ _
    | with_reducible exact steady_write _ _ _ _
    | with_reducible refine Steady.after (tblStart_steady ..) ?_
    | with_reducible refine Steady.after (onDev_steady _ _) ?_
    | with_reducible refine Steady.after (memberSet_steady _ _ _) ?_
    | with_reducible refine foldl_steady _ _ (fun _ _ => ?_) _
    | with_reducible refine Steady.after (foldl_steady _ _ (fun _ _ => ?_) _) ?_
    | split

theorem mgtWrite_steady (src : Src) (off : Nat) (v : W32) (r : RegDef) (s : State) : Steady s (mgtWrite src off v r s) := by
  unfold mgtWrite
  try dsimp only
  repeat first
    | with_reducible exact Steady.refl _
    | with_reducible exact onDev_steady _ _
    | with_reducible exact steady_dev _ _
    | with_reducible exact steady_write _ _ _ _
    | with_reducible refine Steady.after (onDev_steady _ _) ?_
    | with_reducible refine Steady.after (memberSet_steady _ _ _) ?_
    | with_reducible refine foldl_steady _ _ (fun _ _ => ?_) _
    | with_reducible refine Steady.after (foldl_steady _ _ (fun _ _ => ?_) _) ?_
    | split

theorem pkgWrite_steady (src : Src) (off : Nat) (v : W32) (r : RegDef) (s : State) : Steady s (pkgWrite src off v r s) := by
  unfold pkgWrite
  try dsimp only
  repeat first
    | with_reducible exact Steady.refl _
    | with_reducible exact onDev_steady _ _
    | with_reducible exact steady_dev _ _
    | with_reducible exact steady_write _ _ _ _
    | with_reducible refine Steady.after (abortAll_steady ..) ?_
    | with_reducible refine Steady.after (resetWrite_steady ..) ?_
    | with_reducible refine Steady.after (onDev_steady _ _) ?_
    | with_reducible refine Steady.after (memberSet_steady _ _ _) ?_
    | with_reducible refine foldl_steady _ _ (fun _ _ => ?_) _
    | with_reducible refine Steady.after (foldl_steady _ _ (fun _ _ => ?_) _) ?_
    | split

theorem colWrite_steady (src : Src) (off : Nat) (v : W32) (r : RegDef) (s : State) : Steady s (colWrite src off v r s) := by
  unfold colWrite
  try dsimp only
  repeat first
    | with_reducible exact Steady.refl _
    | with_reducible exact onDev_steady _ _
    | with_reducible exact steady_dev _ _
    | with_reducible exact steady_write _ _ _ _
    | with_reducible refine Steady.after (resizeCmd_steady ..) ?_
    | with_reducible refine Steady.after (onDev_steady _ _) ?_
    | with_reducible refine Steady.after (memberSet_steady _ _ _) ?_
    | with_reducible refine foldl_steady _ _ (fun _ _ => ?_) _
    | with_reducible refine Steady.after (foldl_steady _ _ (fun _ _ => ?_) _) ?_
    | split

theorem blockWrite_steady (src : Src) (p : Page) (off : Nat) (v : W32) (r : RegDef) (s : State) : Steady s (blockWrite src p off v r s) := by
  unfold blockWrite
  try dsimp only
  repeat first
    | with_reducible exact Steady.refl _
    | with_reducible exact onDev_steady _ _
    | with_reducible exact steady_dev _ _
    | with_reducible exact steady_write _ _ _ _
    | with_reducible refine Steady.after (mgtWrite_steady ..) ?_
    | with_reducible refine Steady.after (pkgWrite_steady ..) ?_
    | with_reducible refine Steady.after (colWrite_steady ..) ?_
    | with_reducible refine Steady.after (onDev_steady _ _) ?_
    | with_reducible refine Steady.after (memberSet_steady _ _ _) ?_
    | with_reducible refine foldl_steady _ _ (fun _ _ => ?_) _
    | with_reducible refine Steady.after (foldl_steady _ _ (fun _ _ => ?_) _) ?_
    | split

theorem regWrite_steady (src : Src) (p : Page) (off : Nat) (v : W32) (r : RegDef) (s : State) : Steady s (regWrite src p off v r s) := by
  unfold regWrite
  try dsimp only
  repeat first
    | with_reducible exact Steady.refl _
    | with_reducible exact onDev_steady _ _
    | with_reducible exact steady_dev _ _
    | with_reducible exact steady_write _ _ _ _
    | with_reducible refine Steady.after (ctlWrite_steady ..) ?_
    | with_reducible refine Steady.after (tblCmdWrite_steady ..) ?_
    | with_reducible refine Steady.after (blockWrite_steady ..) ?_
    | with_reducible refine Steady.after (onDev_steady _ _) ?_
    | with_reducible refine Steady.after (memberSet_steady _ _ _) ?_
    | with_reducible refine foldl_steady _ _ (fun _ _ => ?_) _
    | with_reducible refine Steady.after (foldl_steady _ _ (fun _ _ => ?_) _) ?_
    | split

theorem writePage_steady (src : Src) (p : Page) (off : Nat) (v : W32) (s : State) : Steady s (writePage src p off v s) := by
  unfold writePage
  try dsimp only
  repeat first
    | with_reducible exact Steady.refl _
    | with_reducible exact onDev_steady _ _
    | with_reducible exact steady_dev _ _
    | with_reducible exact steady_write _ _ _ _
    | with_reducible refine Steady.after (regWrite_steady ..) ?_
    | with_reducible refine Steady.after (onDev_steady _ _) ?_
    | with_reducible refine Steady.after (memberSet_steady _ _ _) ?_
    | with_reducible refine foldl_steady _ _ (fun _ _ => ?_) _
    | with_reducible refine Steady.after (foldl_steady _ _ (fun _ _ => ?_) _) ?_
    | split

theorem bar0Write_steady (src : Src) (addr bytes : Nat) (value : W64) (s : State) : Steady s (bar0Write src addr bytes value s) := by
  unfold bar0Write
  try dsimp only
  repeat first
    | with_reducible exact Steady.refl _
    | with_reducible exact onDev_steady _ _
    | with_reducible exact steady_dev _ _
    | with_reducible exact steady_write _ _ _ _
    | with_reducible refine Steady.after (refuseAccess_steady ..) ?_
    | with_reducible refine Steady.after (writePage_steady ..) ?_
    | with_reducible refine Steady.after (onDev_steady _ _) ?_
    | with_reducible refine Steady.after (memberSet_steady _ _ _) ?_
    | with_reducible refine foldl_steady _ _ (fun _ _ => ?_) _
    | with_reducible refine Steady.after (foldl_steady _ _ (fun _ _ => ?_) _) ?_
    | split

theorem bar4ReadWord_steady (src : Src) (a : Nat) (s : State) : Steady s (bar4ReadWord src a s).2 := by
  unfold bar4ReadWord
  try dsimp only
  repeat first
    | with_reducible exact Steady.refl _
    | with_reducible exact onDev_steady _ _
    | with_reducible exact steady_dev _ _
    | with_reducible exact steady_write _ _ _ _
    | with_reducible refine Steady.after (refuseAccess_steady ..) ?_
    | with_reducible refine Steady.after (onDev_steady _ _) ?_
    | with_reducible refine Steady.after (memberSet_steady _ _ _) ?_
    | with_reducible refine foldl_steady _ _ (fun _ _ => ?_) _
    | with_reducible refine Steady.after (foldl_steady _ _ (fun _ _ => ?_) _) ?_
    | split

theorem bar4WriteWord_steady (src : Src) (a : Nat) (v : W32) (s : State) : Steady s (bar4WriteWord src a v s) := by
  unfold bar4WriteWord
  try dsimp only
  repeat first
    | with_reducible exact Steady.refl _
    | with_reducible exact onDev_steady _ _
    | with_reducible exact steady_dev _ _
    | with_reducible exact steady_write _ _ _ _
    | with_reducible refine Steady.after (refuseAccess_steady ..) ?_
    | with_reducible refine Steady.after (onDev_steady _ _) ?_
    | with_reducible refine Steady.after (memberSet_steady _ _ _) ?_
    | with_reducible refine foldl_steady _ _ (fun _ _ => ?_) _
    | with_reducible refine Steady.after (foldl_steady _ _ (fun _ _ => ?_) _) ?_
    | split

theorem bar4Read_steady (src : Src) (addr bytes : Nat) (s : State) : Steady s (bar4Read src addr bytes s).2 := by
  unfold bar4Read
  try dsimp only
  repeat first
    | with_reducible exact Steady.refl _
    | with_reducible exact onDev_steady _ _
    | with_reducible exact steady_dev _ _
    | with_reducible exact steady_write _ _ _ _
    | with_reducible refine Steady.after (refuseAccess_steady ..) ?_
    | with_reducible refine Steady.after (bar4ReadWord_steady ..) ?_
    | with_reducible refine Steady.after (onDev_steady _ _) ?_
    | with_reducible refine Steady.after (memberSet_steady _ _ _) ?_
    | with_reducible refine foldl_steady _ _ (fun _ _ => ?_) _
    | with_reducible refine Steady.after (foldl_steady _ _ (fun _ _ => ?_) _) ?_
    | split

theorem bar4Write_steady (src : Src) (addr bytes : Nat) (value : W64) (s : State) : Steady s (bar4Write src addr bytes value s) := by
  unfold bar4Write
  try dsimp only
  repeat first
    | with_reducible exact Steady.refl _
    | with_reducible exact onDev_steady _ _
    | with_reducible exact steady_dev _ _
    | with_reducible exact steady_write _ _ _ _
    | with_reducible refine Steady.after (refuseAccess_steady ..) ?_
    | with_reducible refine Steady.after (bar4WriteWord_steady ..) ?_
    | with_reducible refine Steady.after (onDev_steady _ _) ?_
    | with_reducible refine Steady.after (memberSet_steady _ _ _) ?_
    | with_reducible refine foldl_steady _ _ (fun _ _ => ?_) _
    | with_reducible refine Steady.after (foldl_steady _ _ (fun _ _ => ?_) _) ?_
    | split

theorem access_steady (src : Src) (bar : Bar) (addr bytes : Nat) (value : W64) (s : State) : Steady s (access src bar addr bytes value s) := by
  unfold access
  try dsimp only
  repeat first
    | with_reducible exact Steady.refl _
    | with_reducible exact onDev_steady _ _
    | with_reducible exact steady_dev _ _
    | with_reducible exact steady_write _ _ _ _
    | with_reducible refine Steady.after (bar0Write_steady ..) ?_
    | with_reducible refine Steady.after (bar4Write_steady ..) ?_
    | with_reducible refine Steady.after (onDev_steady _ _) ?_
    | with_reducible refine Steady.after (memberSet_steady _ _ _) ?_
    | with_reducible refine foldl_steady _ _ (fun _ _ => ?_) _
    | with_reducible refine Steady.after (foldl_steady _ _ (fun _ _ => ?_) _) ?_
    | split

theorem accessRead_steady (src : Src) (bar : Bar) (addr bytes : Nat) (s : State) : Steady s (accessRead src bar addr bytes s).2 := by
  unfold accessRead
  try dsimp only
  repeat first
    | with_reducible exact Steady.refl _
    | with_reducible exact onDev_steady _ _
    | with_reducible exact steady_dev _ _
    | with_reducible exact steady_write _ _ _ _
    | with_reducible refine Steady.after (bar0Read_steady ..) ?_
    | with_reducible refine Steady.after (bar4Read_steady ..) ?_
    | with_reducible refine Steady.after (onDev_steady _ _) ?_
    | with_reducible refine Steady.after (memberSet_steady _ _ _) ?_
    | with_reducible refine foldl_steady _ _ (fun _ _ => ?_) _
    | with_reducible refine Steady.after (foldl_steady _ _ (fun _ _ => ?_) _) ?_
    | split

theorem write32_steady (src : Src) (p : Page) (off v : Nat) (s : State) : Steady s (write32 src p off v s) := by
  unfold write32
  try dsimp only
  repeat first
    | with_reducible exact Steady.refl _
    | with_reducible exact onDev_steady _ _
    | with_reducible exact steady_dev _ _
    | with_reducible exact steady_write _ _ _ _
    | with_reducible refine Steady.after (access_steady ..) ?_
    | with_reducible refine Steady.after (onDev_steady _ _) ?_
    | with_reducible refine Steady.after (memberSet_steady _ _ _) ?_
    | with_reducible refine foldl_steady _ _ (fun _ _ => ?_) _
    | with_reducible refine Steady.after (foldl_steady _ _ (fun _ _ => ?_) _) ?_
    | split

theorem tblWriteCmd_steady (src : Src) (page : Page) (table op : Nat) (s : State) : Steady s (tblWriteCmd src page table op s) := by
  unfold tblWriteCmd
  try dsimp only
  repeat first
    | with_reducible exact Steady.refl _
    | with_reducible exact onDev_steady _ _
    | with_reducible exact steady_dev _ _
    | with_reducible exact steady_write _ _ _ _
    | with_reducible refine Steady.after (write32_steady ..) ?_
    | with_reducible refine Steady.after (onDev_steady _ _) ?_
    | with_reducible refine Steady.after (memberSet_steady _ _ _) ?_
    | with_reducible refine foldl_steady _ _ (fun _ _ => ?_) _
    | with_reducible refine Steady.after (foldl_steady _ _ (fun _ _ => ?_) _) ?_
    | split

theorem circWrite_steady (src : Src) (op index : Nat) (timed : Bool) (s : State) : Steady s (circWrite src op index timed s) := by
  unfold circWrite
  try dsimp only
  repeat first
    | with_reducible exact Steady.refl _
    | with_reducible exact onDev_steady _ _
    | with_reducible exact steady_dev _ _
    | with_reducible exact steady_write _ _ _ _
    | with_reducible refine Steady.after (write32_steady ..) ?_
    | with_reducible refine Steady.after (onDev_steady _ _) ?_
    | with_reducible refine Steady.after (memberSet_steady _ _ _) ?_
    | with_reducible refine foldl_steady _ _ (fun _ _ => ?_) _
    | with_reducible refine Steady.after (foldl_steady _ _ (fun _ _ => ?_) _) ?_
    | split

theorem secWrite_steady (src : Src) (op : Nat) (s : State) : Steady s (secWrite src op s) := by
  unfold secWrite
  try dsimp only
  repeat first
    | with_reducible exact Steady.refl _
    | with_reducible exact onDev_steady _ _
    | with_reducible exact steady_dev _ _
    | with_reducible exact steady_write _ _ _ _
    | with_reducible refine Steady.after (write32_steady ..) ?_
    | with_reducible refine Steady.after (onDev_steady _ _) ?_
    | with_reducible refine Steady.after (memberSet_steady _ _ _) ?_
    | with_reducible refine foldl_steady _ _ (fun _ _ => ?_) _
    | with_reducible refine Steady.after (foldl_steady _ _ (fun _ _ => ?_) _) ?_
    | split

theorem requestAccess_steady (op addr : Nat) (v : W32) (s : State) : Steady s (requestAccess op addr v s).2.2 := by
  unfold requestAccess
  try dsimp only
  repeat first
    | with_reducible exact Steady.refl _
    | with_reducible exact onDev_steady _ _
    | with_reducible exact steady_dev _ _
    | with_reducible exact steady_write _ _ _ _
    | with_reducible refine Steady.after (access_steady ..) ?_
    | with_reducible refine Steady.after (accessRead_steady ..) ?_
    | with_reducible refine Steady.after (onDev_steady _ _) ?_
    | with_reducible refine Steady.after (memberSet_steady _ _ _) ?_
    | with_reducible refine foldl_steady _ _ (fun _ _ => ?_) _
    | with_reducible refine Steady.after (foldl_steady _ _ (fun _ _ => ?_) _) ?_
    | split

theorem freeWords_steady (n : Nat) (s : State) : Steady s (freeWords n s).2 := by
  unfold freeWords
  try dsimp only
  repeat first
    | with_reducible exact Steady.refl _
    | with_reducible exact onDev_steady _ _
    | with_reducible exact steady_dev _ _
    | with_reducible exact steady_write _ _ _ _
    | with_reducible refine Steady.after (onDev_steady _ _) ?_
    | with_reducible refine Steady.after (memberSet_steady _ _ _) ?_
    | with_reducible refine foldl_steady _ _ (fun _ _ => ?_) _
    | with_reducible refine Steady.after (foldl_steady _ _ (fun _ _ => ?_) _) ?_
    | split

theorem requestWords_steady (op addr : Nat) (vs : List W32) (s : State) : Steady s (requestWords op addr vs s).2.2 := by
  induction vs generalizing addr s with
  | nil => exact Steady.refl s
  | cons v vs ih => exact (ih _ _).after (requestAccess_steady op addr v s)

theorem performRequest_steady (q : Request) (s : State) : Steady s (performRequest q s).2.2 := by
  unfold performRequest
  split
  · exact freeWords_steady _ s
  · split
    · exact freeWords_steady _ s
    · exact requestWords_steady _ _ _ s

theorem serveRequest_steady (i : Nat) (q : Request) (s : State) : Steady s (serveRequest i q s) := by
  unfold serveRequest
  try dsimp only
  repeat first
    | with_reducible exact Steady.refl _
    | with_reducible exact onDev_steady _ _
    | with_reducible exact steady_dev _ _
    | with_reducible exact steady_write _ _ _ _
    | with_reducible refine Steady.after (performRequest_steady ..) ?_
    | with_reducible refine Steady.after (onDev_steady _ _) ?_
    | with_reducible refine Steady.after (memberSet_steady _ _ _) ?_
    | with_reducible refine foldl_steady _ _ (fun _ _ => ?_) _
    | with_reducible refine Steady.after (foldl_steady _ _ (fun _ _ => ?_) _) ?_
    | split

theorem dataTake_steady (b : Box) (s : State) : Steady s (dataTake b s) := by
  unfold dataTake
  try dsimp only
  repeat first
    | with_reducible exact Steady.refl _
    | with_reducible exact onDev_steady _ _
    | with_reducible exact steady_dev _ _
    | with_reducible exact steady_write _ _ _ _
    | with_reducible refine Steady.after (serveRequest_steady ..) ?_
    | with_reducible refine Steady.after (onDev_steady _ _) ?_
    | with_reducible refine Steady.after (memberSet_steady _ _ _) ?_
    | with_reducible refine foldl_steady _ _ (fun _ _ => ?_) _
    | with_reducible refine Steady.after (foldl_steady _ _ (fun _ _ => ?_) _) ?_
    | split

theorem writeAccs_steady (s : State) : Steady s (writeAccs s) := by
  unfold writeAccs
  try dsimp only
  repeat first
    | with_reducible exact Steady.refl _
    | with_reducible exact onDev_steady _ _
    | with_reducible exact steady_dev _ _
    | with_reducible exact steady_write _ _ _ _
    | with_reducible refine Steady.after (runAcc_steady ..) ?_
    | with_reducible refine Steady.after (onDev_steady _ _) ?_
    | with_reducible refine Steady.after (memberSet_steady _ _ _) ?_
    | with_reducible refine foldl_steady _ _ (fun _ _ => ?_) _
    | with_reducible refine Steady.after (foldl_steady _ _ (fun _ _ => ?_) _) ?_
    | split

theorem warmApply_steady (s : State) : Steady s (warmApply s) :=
  (onDev_steady _ _).after (writeAccs_steady s)

theorem warmProceed_steady (s : State) : Steady s (warmProceed s) := by
  unfold warmProceed
  try dsimp only
  repeat first
    | with_reducible exact Steady.refl _
    | with_reducible exact onDev_steady _ _
    | with_reducible exact steady_dev _ _
    | with_reducible exact steady_write _ _ _ _
    | with_reducible refine Steady.after (warmApply_steady ..) ?_
    | with_reducible refine Steady.after (onDev_steady _ _) ?_
    | with_reducible refine Steady.after (memberSet_steady _ _ _) ?_
    | with_reducible refine foldl_steady _ _ (fun _ _ => ?_) _
    | with_reducible refine Steady.after (foldl_steady _ _ (fun _ _ => ?_) _) ?_
    | split

theorem warmReset_steady (s : State) : Steady s (warmReset s) := by
  unfold warmReset
  try dsimp only
  repeat first
    | with_reducible exact Steady.refl _
    | with_reducible exact onDev_steady _ _
    | with_reducible exact steady_dev _ _
    | with_reducible exact steady_write _ _ _ _
    | with_reducible refine Steady.after (warmProceed_steady ..) ?_
    | with_reducible refine Steady.after (onDev_steady _ _) ?_
    | with_reducible refine Steady.after (memberSet_steady _ _ _) ?_
    | with_reducible refine foldl_steady _ _ (fun _ _ => ?_) _
    | with_reducible refine Steady.after (foldl_steady _ _ (fun _ _ => ?_) _) ?_
    | split

theorem perstReleased_steady (s : State) : Steady s (perstReleased s) := by
  unfold perstReleased
  extract_lets s1 short s2
  have h1 : Steady s s1 := by
    simp only [s1]
    split
    · exact warmApply_steady s
    · exact Steady.refl s
  have h2 : Steady s s2 := (onDev_steady _ s1).after h1
  split
  · exact ⟨h2.pending, h2.now, fun _ => rfl⟩
  · exact h2

end Sys2Proof.Machine
end

