-- ==== Sys2Proof/Laws/Writes.lean ====
section
/-! SUPPORT. The path of a register write: a 32-bit write by a page's owner is the write of the register at that offset. -/

namespace Sys2Proof

open Sys2Proof.Machine

theorem Page.inst_lt {p : Page} (h : p.exists = true) : p.inst < 4096 := by
  simp only [Page.exists, decide_eq_true_eq] at h
  have : p.blk.instances ≤ 1088 := by cases p.blk <;> decide
  omega

@[simp] theorem blockOfCode_code (b : Block) : blockOfCode b.code = some b := by cases b <;> rfl

theorem addr_code (c i off : Nat) (hi : i < 4096) (ho : off < 4096) :
    (c * 16777216 + i * 4096 + off) / 16777216 = c := by omega

theorem addr_inst (c i off : Nat) (hi : i < 4096) (ho : off < 4096) :
    (c * 16777216 + i * 4096 + off) / 4096 % 4096 = i := by omega

theorem addr_off (c i off : Nat) (ho : off < 4096) : (c * 16777216 + i * 4096 + off) % 4096 = off := by omega

theorem addr_align (c i off : Nat) (h4 : off % 4 = 0) : (c * 16777216 + i * 4096 + off) % 4 = 0 := by omega

theorem Page.code_of_addr (p : Page) (off : Nat) (hp : p.inst < 4096) (ho : off < 4096) :
    (p.base + off) / 0x1000000 = p.blk.code := by rw [Page.base]; exact addr_code _ _ _ hp ho

theorem Page.inst_of_addr (p : Page) (off : Nat) (hp : p.inst < 4096) (ho : off < 4096) :
    (p.base + off) / 0x1000 % 0x1000 = p.inst := by rw [Page.base]; exact addr_inst _ _ _ hp ho

theorem Page.off_of_addr (p : Page) (off : Nat) (ho : off < 4096) : (p.base + off) % 0x1000 = off := by
  rw [Page.base]; exact addr_off _ _ _ ho

theorem Page.align_of_addr (p : Page) (off : Nat) (h4 : off % 4 = 0) : (p.base + off) % 4 = 0 := by
  rw [Page.base]; exact addr_align _ _ _ h4

/-- The page and offset of an address made of them. -/
theorem pageOf_base (p : Page) (off : Nat) (hp : p.inst < 4096) (ho : off < 4096) : pageOf (p.base + off) = some (p, off) := by
  rw [pageOf, p.code_of_addr off hp ho, blockOfCode_code, p.inst_of_addr off hp ho, p.off_of_addr off ho]

end Sys2Proof

namespace Sys2Proof.Machine

theorem bar0Page_base (p : Page) (off : Nat) (hp : p.exists = true) (ho : off < 4096) (h4 : off % 4 = 0) :
    bar0Page (p.base + off) 4 = some (p, off) := by
  have h1 : alignedAccess (p.base + off) 4 = true := by
    rw [alignedAccess, p.align_of_addr off h4]; rfl
  have h2 : pageOf (p.base + off) = some (p, off) := pageOf_base p off (Page.inst_lt hp) ho
  revert h1 h2
  generalize p.base + off = addr
  intro h1 h2
  simp [bar0Page, h1, h2, hp]

/-- A 32-bit write at an address that lies in a page present, by a source that reaches it. -/
theorem access_page {src : Src} {p : Page} {s : State} {addr off : Nat} (v : W64) (hu : unreachable' s.dev src = false)
    (ha : bar0Page addr 4 = some (p, off)) (hp : pagePresent s.dev p = true) :
    access src .bar0 addr 4 v s = writePage src p off (lo32 v.toNat) s := by
  simp [access, hu, bar0Write, ha, hp]

theorem lo32_ofNat (v : Nat) (hv : v < 2 ^ 32) : lo32 (BitVec.ofNat 64 (v % 2 ^ 32)).toNat = BitVec.ofNat 32 v := by
  have e1 : v % 2 ^ 32 = v := Nat.mod_eq_of_lt hv
  have e2 : v % 2 ^ 64 = v := Nat.mod_eq_of_lt (by omega)
  rw [e1, BitVec.toNat_ofNat, e2, lo32]

/-- A 32-bit write of a page's word by the page's owner reaches the page. -/
theorem write32_page {src : Src} {p : Page} {s : State} (off v : Nat) (h : Owns src p s) (ho : off < 4096)
    (h4 : off % 4 = 0) (hv : v < 2 ^ 32) : write32 src p off v s = writePage src p off (BitVec.ofNat 32 v) s := by
  obtain ⟨he, hpr, _, hu, _⟩ := h
  rw [write32, access_page _ hu (bar0Page_base p off he ho h4) hpr, lo32_ofNat v hv]

/-- A write of a mapped register by its page's owner acts on the register. -/
theorem writePage_reg {src : Src} {p : Page} {s : State} {off : Nat} {r : RegDef} (v : W32) (h : Owns src p s)
    (ho : off ≠ 0x020) (hr : p.regAt off = some r) (hd : p ≠ Page.dbg) : writePage src p off v s = regWrite src p off v r s := by
  obtain ⟨_, _, ha, _, hown⟩ := h
  simp [writePage, ha, ho, hr, hown, dbgLocked, hd]

theorem write32_reg {src : Src} {p : Page} {s : State} {off : Nat} {r : RegDef} (v : Nat) (h : Owns src p s)
    (ho : off < 4096) (h4 : off % 4 = 0) (hn : off ≠ 0x020) (hr : p.regAt off = some r) (hd : p ≠ Page.dbg)
    (hv : v < 2 ^ 32) : write32 src p off v s = regWrite src p off (BitVec.ofNat 32 v) r s := by
  rw [write32_page off v h ho h4 hv, writePage_reg _ h hn hr hd]

/-- Every page maps the registers of the header (R41). -/
theorem regAt_header (p : Page) (off : Nat) (r : RegDef) (h : RegMap.hdr.find? (fun r => r.covers off) = some r) :
    p.regAt off = some r := by
  simp [Page.regAt, Page.regDefs, List.find?_append, h]

end Sys2Proof.Machine
end

