-- ==== Sys2Proof/Tests/Slice0.lean ====
section
/-! SUPPORT. Tests. Part one: an ill-formed command for each check of `Instr.wf`. Part two: for every statement with
hypotheses, a state and operands that meet them. Part three: one step each, with the value the rule gives. -/

open Sys2Proof Sys2Proof.Machine

namespace Sys2Proof.Tests

set_option Elab.async false

/-- The device with its image running (STAGE 2). -/
def booted : Dev := wr Page.mgt Reg.MGT_BOOT_STAT_STAGE 2 Dev.reset

/-- The state after reset with the image running and the changes made in turn. -/
def on (l : List (Dev → Dev)) : State := { State.reset with dev := l.foldl (fun d f => f d) booted }

/-- The same at a counter value. -/
def at' (n : Nat) (l : List (Dev → Dev)) : State := { on l with now := BitVec.ofNat 64 n }

/-- The page runs. -/
def runs (p : Page) : Dev → Dev := setPageState p stRunning


/-! ### Ill-formed commands: one for each check of `Instr.wf` -/

/-- A LNK page beyond the 1,088 of the device. -/
def noPage : Page := Page.lnk 1088

def cwZero : Codeword := { null := true, kind := 0, value := 0, body := [] }
def infoZero : ModuleInfo := { busOk := false, layout := 0, serial := 0, life := 0, wearMirror := 0, certificate := [], response := [] }

/-- Each fails one check. -/
def illFormedA : List Instr := [
    .enable .pcie noPage false, .quiesceReq .pcie noPage false, .quiesced noPage, .goIdle noPage,
    .abort .pcie noPage, .abortComplete noPage, .abortDeadline noPage, .blockReset .pcie noPage,
    .blockResetComplete noPage false, .blockFail noPage 0 0, .commit .pcie noPage 0, .commitApply noPage,
    .pageOwnerWrite .pcie noPage .pcie false, .tblRead .pcie noPage 0, .tblWrite .pcie noPage 0,
    .tblInsert .pcie noPage 0, .tblDelete .pcie noPage 0, .cmpwr .pcie noPage 0, .tblCmdComplete noPage,
    .cellReceive 1024, .colanderIngress 1024, .escapeMove 1032 0 0 0, .escapeMove 0 1024 0 0,
    .escapeMove 0 0 8 0, .landingPromote 1032 0, .landingPromote 0 8, .a2aPhaseOpen 65536 0,
    .a2aPhaseOpen 0 1048576, .multicastReplicate 1032 0, .multicastReplicate 0 8, .egressReplicaWrite 8 0,
    .egressReplicaWrite 0 1024, .txCellSlot 1024, .wheelSlot 2, .gateStart .pcie 1024, .gateEntry 1024,
    .holdWrite .pcie 1024 0, .flushDone 2, .unitEccError (.voq 1032 0 0 false) 0,
    .unitEccError (.voq 0 1024 0 false) 0]

theorem test_ill_formed_a : ∀ i ∈ illFormedA, i.wf = false := by decide

/-- Each fails one check. -/
def illFormedB : List Instr := [
    .unitEccError (.voq 0 0 8 false) 0, .unitEccError (.mcast 1032 0) 0, .unitEccError (.mcast 0 8) 0,
    .unitEccError (.park 2) 0, .unitEccError (.context 65536 0) 0, .unitEccError (.context 0 16) 0,
    .unitEccError (.park 0) 128, .adminUp .pcie 1024 false, .retrain .pcie 1024, .lockAcquired 1088,
    .deskewDone 1088, .linkTrainingTimeout 1088, .trainingFrame 1088 [] [], .landingReservationRetry 1024,
    .autoRetrain 1024, .codewordSend 1088, .dataCodewordReceive 1088 cwZero 0 0, .uncorrectableCodeword 1088,
    .credit 1088 0, .ack 1088 0, .nak 1088 0, .ackTimeout 1024, .repairRequest 64 0, .repairRequest 0 16,
    .repairAccept 64 0, .repairAccept 0 16, .repairRefuse 64 0 0, .repairRefuse 0 16 0, .repairAnswerTimeout 64,
    .laneSwitch 64, .spareDeskewDone 64, .noLight 1088, .lockLost 1088, .spareThreshExceeded 1088, .depart 1024,
    .departedClose 1024 false, .flitCrcError 3232, .d2dWireRepair 3232 0, .d2dWireRepair 0 40,
    .d2dRepairDone 3232]

theorem test_ill_formed_b : ∀ i ∈ illFormedB, i.wf = false := by decide

/-- Each fails one check. -/
def illFormedC : List Instr := [
    .laserInsert 16, .laserVerify 16 infoZero, .laserRampDone 16, .laserPoll 16 0 0, .laserEvent 16,
    .laserChangeoverDone 8, .laserHoldoffEnd 8, .laserRemove 16, .wearHour 16, .release .pcie 16 false,
    .releaseDone 16, .resume .pcie 16, .bankDrained 2, .parityRepair 3 0 0 false, .parityRepair 0 2 0 false,
    .parityRepair 2 0 1048576 false, .parityRepair 1 0 4096 false, .digestWrite .pcie 8 0, .scrubPass 8 0 [],
    .scrubPass 0 2 [], .circSetup .pcie 128 false, .circTeardown .pcie 128 false, .confirm .pcie 128,
    .circDrainStart 128, .circuitFence 128, .circFlush 128, .circReplayCut 128, .circSwitch 128, .circuitUp 128,
    .circTriggerLate 128, .circLightReturn 128, .confirmTimeout 128, .pathPowerLoss 128,
    .planPhaseBoundary 65536 0, .planPhaseBoundary 0 4096, .missingCellsTimeout 65536 0 0,
    .missingCellsTimeout 0 16 0, .missingCellsTimeout 0 0 1048576, .chunkTimeout 65536 0, .chunkTimeout 0 16]

theorem test_ill_formed_c : ∀ i ∈ illFormedC, i.wf = false := by decide

/-- Each fails one check. -/
def illFormedD : List Instr := [
    .resultsReady 65536 0, .resultsReady 0 16, .resultStream 65536 0, .resultStream 0 16, .pageOutDone 65536 0,
    .pageOutDone 0 16, .pageInDone 65536 0, .pageInDone 0 16, .resize .pcie false 65536, .resizeDone 65536,
    .genDrainDone 65536, .stragClear .pcie 65536, .accumulateRun 800, .finishRun 800, .rebuildRun 800,
    .load .pcie 256, .copy .pcie 256, .retiringFreed 256, .coreFail 800, .scratchCorrected 800,
    .spareTakeover 32, .rebuildDone 32, .spareSelftest 32 false, .verbAccept 2, .accRun 800,
    .linePoison (480 * 2 ^ 30), .hostWindowAccess false 0 0 [], .hostWindowAccess false (2 ^ 36) 1 [],
    .hostWindowAccess true 0 2 [0], .timeCellSend 1024, .timeCellReceive 1024, .triggerHandoff 64,
    .triggerFire 64, .pointChangeDone 8, .droopStart 8, .droopEnd 8, .heldChangeResume 8, .thermalStep 24 [],
    .tempWarn 24 0, .thermTrip 24 0]

theorem test_ill_formed_d : ∀ i ∈ illFormedD, i.wf = false := by decide

/-- Each fails one check. -/
def illFormedE : List Instr := [
    .ageingCheck 10 false, .authTimeout 8, .sessionIdleTimeout 8, .event noPage,
    .eventSessionWrite .pcie false 8, .bootVerify 2, .departDark 1024, .regionFence 8, .midFail 2,
    .lockstepMismatch 2, .railUndervoltage 34, .recordWrite 2, .getReadDone 2, .bankGroupControllerFail 128,
    .circuitTeardownDone 128]

theorem test_ill_formed_e : ∀ i ∈ illFormedE, i.wf = false := by decide

/-! ### Witnesses: the block, its pages, tables and registers -/

theorem wit_IdleStepTicks : State.reset.pending = [] ∧ State.reset.dev.tim.ppsPin = false := ⟨rfl, rfl⟩

theorem wit_QueueAndCounterKept :
    (∃ t, step { State.reset with pending := [.swap .pcie, .crossbarMatch] } = .next t) ∧
    (∃ t, exec .thresholdRecompute State.reset = .next t) ∧ Instr.thresholdRecompute ≠ .coldReset :=
  ⟨⟨_, rfl⟩, ⟨_, rfl⟩, by decide⟩

theorem wit_StockpotStaysCanonical :
    let s := { State.reset with mem := [(0, 1), (515396075519, 255)], pending := [.linePoison 515396075519] }
    s.memOk ∧ ∃ t, step s = .next t := ⟨by unfold State.memOk; decide +kernel, ⟨_, rfl⟩⟩

theorem wit_ResetState : (Page.etm 1023).exists = true := by decide

theorem wit_PageStopsAccepting :
    (let s := on [wr (Page.coreBlock 31) Reg.PAGE_OWNER_OWNER 1, runs (Page.coreBlock 31)]
     Owns .inband (Page.coreBlock 31) s ∧ dbgLocked s.dev (Page.coreBlock 31) 0x008 = false ∧
       pageState s.dev (Page.coreBlock 31) = stRunning) ∧
    (let s := on []
     Owns .pcie Page.pmc s ∧ dbgLocked s.dev Page.pmc 0x008 = false ∧ pageState s.dev Page.pmc = stRunning ∧
       Page.pmc.blk ≠ .ldl) := by unfold Owns; decide +kernel

theorem wit_EnableStartsIdlePage :
    (∀ p ∈ [Page.lnk 1087, Page.byp, Page.col, Page.dbg], Owns .pcie p (on []) ∧
      (p = Page.dbg ∨ dbgLocked (on []).dev p 0x008 = false) ∧
      pageState (on []).dev p = stIdle ∧ ((on []).dev.act p).finishing = false ∧
      rdBit (on []).dev p Reg.PAGE_CTL_QUIESCE_REQ = false ∧ rdBit (on []).dev p Reg.LNK_LNK_CTL_ADMIN_UP = false ∧
      (on []).dev.sw.parkA = [] ∧ (on []).dev.sw.parkB = []) := by unfold Owns; decide +kernel

theorem wit_PageSettles :
    let p := Page.etm 1023
    p.exists = true ∧
    (let s := on [runs p, wrBit p Reg.PAGE_STAT_QUIESCING true]
     inFlight s.dev p = false ∧ pageState s.dev p = stRunning ∧ (s.dev.act p).finishing = false ∧
       rdBit s.dev p Reg.PAGE_STAT_QUIESCING = true) ∧
    (let s := on [runs p, setAct p { PageAct.idle with finishing := true }]
     inFlight s.dev p = false ∧ pageState s.dev p = stRunning ∧ (s.dev.act p).finishing = true) := by decide +kernel

theorem wit_AbortsRun :
    (let p := Page.tile 0
     Owns .pcie p (on []) ∧ p.blk = .opt ∧ pageState (on []).dev p = stIdle ∧ ((on []).dev.act p).forced = false) ∧
    (Owns .pcie Page.mgt (on []) ∧ pageState (on []).dev Page.mgt = stRunning) ∧
    (let p := Page.dbg
     let s := at' 160000 [setPageState p stAborting]
     p.exists = true ∧ ([.stk, .col, .etm, .tim, .pmc, .tel, .dbg, .pkg] : List Block).contains p.blk = true ∧
       pageState s.dev p = stAborting ∧
       (s.dev.act p).resetting = false ∧ elapsed s.now (s.dev.act p).abortAt 100000 = true ∧ frozen s.dev p = false) ∧
    (let p := Page.lnk 1087
     let s := on [setPageState p stAborting]
     p.exists = true ∧ pageState s.dev p = stAborting ∧ (s.dev.act p).resetting = false ∧ (s.dev.act p).forced = false ∧
       tblRunning s.dev p = false ∧ frozen s.dev p = false ∧ pagesUnder p = [] ∧ s.dev.ctl.abortWave = none) ∧
    (let p := Page.etm 1023
     let s := on [setPageState p stAborting, setAct p { PageAct.idle with resetting := true }]
     p.exists = true ∧ pageState s.dev p = stAborting ∧ (s.dev.act p).resetting = true ∧ (s.dev.act p).forced = false ∧
       frozen s.dev p = false ∧ s.dev.ctl.abortWave = none) ∧
    (Owns .pcie Page.pkg (on []) ∧ rd (on []).dev Page.pkg Reg.PKG_ABORT_ALL_STAT_RESULT ≠ 1) := by
  unfold Owns; decide +kernel

theorem wit_AbortsRun_lastWave :
    let s := on [fun d => { d with ctl := { d.ctl with abortWave := some 2 } }]
    s.dev.ctl.abortWave = some 2 ∧ waveDone s.dev 2 = true := by decide +kernel

theorem wit_PageFails :
    let p := Page.lnk 1087
    let s := on [runs p]
    p.exists = true ∧ p.blk ≠ .pkg ∧ p.blk ≠ .mgt ∧ p.blk ≠ .tel ∧ pageState s.dev p ≠ stAborting ∧
      sget (konst (0, 256)) s.dev.rst.faultLast (p.num * 65536 + 65535) = (0, 256) := by decide +kernel

theorem wit_CommitsRun :
    (Owns .pcie Page.fwd (on []) ∧ dbgLocked (on []).dev Page.fwd 0x024 = false ∧ commitPending (on []).dev Page.fwd = false ∧
      pageState (on []).dev Page.fwd ≠ stAborting ∧ pageState (on []).dev Page.fwd ≠ stFailed) ∧
    (let p := Page.xbs
     let off := Reg.XBS_WEIGHT_LO_TC0.off
     let s := on [wr p Reg.PAGE_COMMIT_STAT_RESULT 1, setCommitSet p [(p.base + off, 0xFF010101)]]
     p.exists = true ∧ commitPending s.dev p = true ∧ unlisted p (commitSet s.dev p) = none ∧
       disagrees p s.dev (activate (commitSet s.dev p) s.dev) = none ∧ commitSet s.dev p = [(p.base + off, 0xFF010101)] ∧
       0x100 ≤ off ∧ off < 4096) := by unfold Owns; decide +kernel

theorem wit_CommitRefused :
    let p := Page.lnk 1087
    (let s := on [wr p Reg.PAGE_COMMIT_STAT_RESULT 1]
     Owns .pcie p s ∧ dbgLocked s.dev p 0x024 = false ∧ commitPending s.dev p = true) ∧
    (let s := on [setPageState p stAborting]
     Owns .pcie p s ∧ dbgLocked s.dev p 0x024 = false ∧ commitPending s.dev p = false ∧ pageState s.dev p = stAborting) ∧
    (let s := on [setPageState p stFailed]
     Owns .pcie p s ∧ dbgLocked s.dev p 0x024 = false ∧ commitPending s.dev p = false ∧ pageState s.dev p = stFailed) := by
  unfold Owns; decide +kernel

theorem wit_PagesOwned :
    (let p := Page.lnk 1087
     p.exists = true ∧ pagePresent (on []).dev p = true ∧ pageAnswers (on []).dev p = true ∧
       unreachable' (on []).dev .inband = false ∧ ownerAllowed (on []).dev .pcie p .inband = true ∧
       pageOwner (on []).dev p ≠ .inband ∧ ownerAllowed (on [wr p Reg.PAGE_OWNER_LOCK 1]).dev .inband p .inband = false) ∧
    (Owns .pcie Page.pkg (on []) ∧ (Page.dbg).exists = true ∧ pagePresent (on []).dev Page.dbg = true ∧
      65535 / 2 ^ Page.dbg.blk.code % 2 = 1) ∧
    (let s := on [fun d => { d with ctl := { d.ctl with ownerAll := true } }]
     tblRunning s.dev Page.pkg = false ∧ commitPending s.dev Page.pkg = false ∧ pageState s.dev Page.pkg ≠ stAborting ∧
       (s.dev.act Page.pkg).resetting = false) := by unfold Owns; decide +kernel

/-- TBL_CMD's operands: INDEX and TBL_DATA. -/
def cmdWords (p : Page) (i : Nat) (ws : List W32) : Dev → Dev := fun d =>
  ((List.range ws.length).zip ws).foldl (fun d x => wrWord p (0x050 + 4 * x.1) x.2 d) (wrWord p 0x044 (BitVec.ofNat 32 i) d)

theorem wit_TablePort_read :
    let p := Page.fwd
    let s := on [runs p, cmdWords p 4095 []]
    TableReady .pcie p 1 toREAD s ∧ tblIndexOk s.dev p 1 4095 = true ∧ entryBad s.dev p 1 4095 = false ∧
      rdWord s.dev p 0x044 = 4095 := by unfold TableReady Owns; decide +kernel

theorem wit_TablePort_write :
    (∀ op ∈ [toWRITE, toCMPWR, toDELETE],
     let s := on [cmdWords Page.stk 4095 [0x80FF0000, 0, 0, 0, 4096, 0]]
     TableReady .pcie Page.stk 0 op s ∧ tblIndexOk s.dev Page.stk 0 4095 = true ∧
       tblRefuse s Page.stk 0 op 4095 (newWords Page.stk 0 (tblData s.dev Page.stk)) = .no) ∧
    (∀ op ∈ [toWRITE, toCMPWR, toDELETE],
     let s := on [cmdWords Page.tel 255 [0x800001C8, 0, 0, 0, 0, 0]]
     TableReady .pcie Page.tel 0 op s ∧ tblIndexOk s.dev Page.tel 0 255 = true ∧
       tblRefuse s Page.tel 0 op 255 (newWords Page.tel 0 (tblData s.dev Page.tel)) = .no) := by
  unfold TableReady Owns; decide +kernel

theorem wit_TablePort_compare :
    (let s := on [wrWord Page.stk 0x04C 1]
     word (entryWords s Page.stk 0 0) 0 ≠ rdWord s.dev Page.stk 0x04C) ∧
    (let s := on []
     word (entryWords s Page.stk 0 0) 0 = rdWord s.dev Page.stk 0x04C) := by decide +kernel

theorem wit_TablePort_watch :
    (∀ c : Bool,
     let s := on [cmdWords Page.tel 255 [0x80000001]]
     TableReady .pcie Page.tel 0 (if c then toCMPWR else toWRITE) s ∧ rdWord s.dev Page.tel 0x044 = 255 ∧
       wbit (newWords Page.tel 0 (tblData s.dev Page.tel)) 0 31 = true ∧
       wbits (newWords Page.tel 0 (tblData s.dev Page.tel)) 0 27 0 = 1 ∧ rdWord s.dev Page.tel 0x018 = 0) ∧
    (∀ (p : Page) (off : Nat), 1 = p.base + off → p.inst < 4096 → off < 4096 →
      ¬ (off % 8 = 0 ∧ (counterRange p).1 ≤ off ∧ off < (counterRange p).1 + 8 * (counterRange p).2)) := by
  refine ⟨by unfold TableReady Owns; decide +kernel, ?_⟩
  intro p off h _ _ ⟨h8, _⟩
  unfold Page.base at h
  omega

/-- The 16 entries of the set that the key of all zeros falls in. -/
def zeroSet : List Nat := flowSet 0 (flowHash 0 0 0)

theorem wit_TablePort_insert :
    (let s := on [cmdWords Page.fwd 0 [0x80000000]]
     let new := newWords Page.fwd 2 (tblData s.dev Page.fwd)
     TableReady .pcie Page.fwd 2 toINSERT s ∧ wbit new 0 31 = true ∧ flowFind s.dev new = none ∧
       (flowEmpty s.dev new).isSome = true) ∧
    (let s := on [cmdWords Page.fwd 0 [0x80000000],
       fun d => zeroSet.foldl (fun d i => tset Page.fwd 2 i [0x80000000, 1, 0, 0, 0, 0, 0] d) d]
     let new := newWords Page.fwd 2 (tblData s.dev Page.fwd)
     TableReady .pcie Page.fwd 2 toINSERT s ∧ wbit new 0 31 = true ∧ flowFind s.dev new = none ∧
       flowEmpty s.dev new = none) := by unfold TableReady Owns; decide +kernel

theorem wit_TablePort_complete :
    let x : TblPend := { src := .inband, result := 4, index := 2 ^ 24 - 1, data := some (List.replicate 16 7) }
    let s := on [setTblPend Page.col (some x)]
    Page.col.exists = true ∧ Page.col.hasTables = true ∧
      sget (konst none) s.dev.ctl.tblPend Page.col.num = some x ∧ x.result < 16 ∧ x.index < 2 ^ 24 ∧ x.result ≠ 0 := by
  decide +kernel

theorem wit_RegisterAccesses_write :
    let p := Page.xbs
    let s := on [wr p Reg.PAGE_OWNER_OWNER 1]
    (∃ r, p.regAt 0x100 = some r ∧ (∀ f ∈ r.flds, f.acc ≠ .w1c ∧ f.ok (lo32 0x01FF0101) = true)) ∧
      Owns .inband p s ∧ quiescedOrIdle s.dev p = true ∧ pageOwner s.dev p ≠ .pcie ∧ unreachable' s.dev .pcie = false := by
  refine ⟨⟨_, rfl, by decide⟩, ?_⟩
  unfold Owns; decide +kernel

theorem wit_RegisterAccesses_read :
    let p := Page.tim
    let l : Latch := { offset := p.base + 0x110, high := 5, further := 0 }
    p.exists = true ∧ pagePresent (on []).dev p = true ∧ pageAnswers (on []).dev p = true ∧
      unreachable' (on []).dev .pcie = false ∧
      (p.regAt 0x110).isSome = true ∧ halfOf p 0x110 = 1 ∧ latched (on []).dev .pcie (p.base + 0x110) = none ∧
      (p.regAt 0x114).isSome = true ∧ halfOf p 0x114 = 2 ∧
      latched (on [setLatch .pcie l]).dev .pcie (p.base + 0x114) = some 5 := by decide +kernel


/-! ### Witnesses: cells in the switch -/

/-- The coordinate of this device with `SUB` 0, on plane 1, row 2, column 3. -/
def homeCoord : Nat := 1 * 2 ^ 30 + 2 * 2 ^ 24 + 3 * 2 ^ 18 + 15 * 2 ^ 14

/-- SELF names that device. -/
def atHome : Dev → Dev := fun d =>
  wr Page.fwd Reg.FWD_SELF_SET 1 (wr Page.fwd Reg.FWD_SELF_PLANE 1 (wr Page.fwd Reg.FWD_SELF_SPINE 131 d))

/-- Another device of the plane: row 63, column 63, chassis 0. -/
def farCoord : Nat := 1 * 2 ^ 30 + 63 * 2 ^ 24 + 63 * 2 ^ 18

def cellTo (dst tc op : Nat) : Cell := reseal (mkCell dst tc op 7 8 9 [])
def framedOf (c : Cell) : Framed := { cell := c, rxNs := 0, rxTick := 0 }
def boxOf (c : Cell) (source : Nat) : Box := { mkBox c source 0 0 0 0 with acct := .landing }
def withFramed (lane : Nat) (l : List Framed) : Dev → Dev := updPort lane (fun p => { p with framed := l })
def withPipe (lane : Nat) (l : List Box) : Dev → Dev := updPort lane (fun p => { p with pipe := l })
def ingress (lane : Nat) : List (Dev → Dev) := [atHome, runs Page.fwd, runs Page.voq, runs Page.xbs, runs (Page.lnk lane)]

/-- A cell whose HCRC does not agree (check 1), and one of another plane (check 5). -/
def badCrc : Cell := setHb (cellTo farCoord 0 ocDATA) 15 0 (headCrc (cellTo farCoord 0 ocDATA) + 1)

theorem wit_CellReceived :
    (∀ x ∈ [(1, badCrc), (2, cellTo farCoord 0 0x1F), (3, reseal (setHb (cellTo farCoord 0 ocDATA) 91 90 3)),
       (4, cellTo farCoord 7 ocDATA)],
     let s := on (ingress 1020 ++ [withFramed 1020 [framedOf x.2]])
     NextFramed 1020 (framedOf x.2) s ∧ cellCheck s.dev x.2 = some x.1 ∧ x.1 < 5 ∧
       vcOf (cTc x.2) (cEsc x.2) < (s.dev.port 1020).returned.length) ∧
    (let f := framedOf (cellTo farCoord 1 ocDATA)
     let s := on (ingress 1020 ++ [withFramed 1020 [f]])
     NextFramed 1020 f s ∧ cellCheck s.dev f.cell = none ∧ cColour f.cell < 2 ∧
       policerOf s.dev 1020 (cTc f.cell) = none ∧ rdBit s.dev Page.tel Reg.TEL_SAMPLE_CFG_EN = false) := by
  unfold NextFramed; decide +kernel

/-- A destination entry of bank 0 for that device: valid, one member, lane 1016, its escape member, healthy. -/
def farEntry : List W32 := [0x81000001, 1016, 0, 0, 0, 0, 0]

theorem wit_ColanderPlacesCell :
    (∀ op ∈ [ocCUP, ocCTAIL_UP, ocMEM_PUT, ocMEM_GET, ocMEM_ACC, ocMEM_FENCE, ocMGMT],
     let b := boxOf (cellTo homeCoord 0 op) 1020
     let s := on (ingress 1020 ++ [withPipe 1020 [b]])
     NextLooked 1020 b [] s ∧ forSelf s.dev (cDst b.cell) = true ∧ resetting s.dev = false ∧ cOp b.cell = op) ∧
    (let b := boxOf (cellTo farCoord 0 ocNOTIFY) 1020
     let s := on (ingress 1020 ++ [withPipe 1020 [b]])
     NextLooked 1020 b [] s ∧ forSelf s.dev (cDst b.cell) = false ∧ cOp b.cell ≠ ocMROW ∧ cOp b.cell ≠ ocMCOL ∧
       notifiable b.cell = false ∧ b.multi = false ∧ b.counted = false ∧ b.flow = none ∧ b.tag = none ∧
       deValid (destEntry s.dev (rd s.dev Page.fwd Reg.FWD_EPOCH_STAT_ACTIVE) (coEntry (cDst b.cell))) = false) ∧
    (let b := boxOf (setHb (cellTo farCoord 7 ocMGMT) 92 92 1) 1020
     let s := on (ingress 1020 ++ [withPipe 1020 [b], tset Page.fwd 0 (coEntry farCoord) farEntry,
       runs (Page.lnk 1016), setLinkState 1016 lsUp, wr (Page.lnk 1016) Reg.LNK_NBR_COORD_COORD farCoord])
     NextLooked 1020 b [] s ∧ forSelf s.dev (cDst b.cell) = false ∧ cOp b.cell ≠ ocMROW ∧ cOp b.cell ≠ ocMCOL ∧
       cEsc b.cell = 1 ∧ rd s.dev Page.fwd Reg.FWD_FLOW_CFG_TRACK_TC / 2 ^ cTc b.cell % 2 = 0 ∧
       missOf s.dev (dieOf 1020) (rd s.dev Page.fwd Reg.FWD_EPOCH_STAT_ACTIVE) (coEntry (cDst b.cell)) true = none ∧
       escMember s.dev (destEntry s.dev 0 (coEntry (cDst b.cell))) (coEntry (cDst b.cell)) = some 0 ∧
       rd s.dev Page.fwd Reg.FWD_EPOCH_STAT_ACTIVE = 0) := by
  unfold NextLooked; decide +kernel

/-- The cell at the head of one normal list. -/
def queued (source egress tc : Nat) (b : Box) : Dev → Dev := setVoq (voqKey source egress tc) { norm := [b], esc := [] }

theorem wit_QueuedCellsMove :
    (let b := { boxOf (cellTo farCoord 6 ocDATA) 1020 with counted := true }
     let s := at' 1600000 (ingress 1020 ++ [queued 1020 1012 6 b, tset Page.fwd 0 (coEntry farCoord) farEntry,
       runs (Page.lnk 1016), setLinkState 1016 lsUp, wr (Page.lnk 1016) Reg.LNK_NBR_COORD_COORD farCoord])
     pinnedTc 6 = false ∧ (s.dev.voq (voqKey 1020 1012 6)).norm = [b] ∧ b.source = 1020 ∧ cTc b.cell = 6 ∧
       (rd s.dev Page.fwd Reg.FWD_ESC_TIMEOUT_T * 10 + 0) * 8 < ticksSince s.now b.headTick * 5 ∧
       inCircuit s.dev 1012 = false ∧
       missOf s.dev (dieOfSource 1020) (cEpoch b.cell) (coEntry (cDst b.cell)) true = none ∧
       escMember s.dev (destEntry s.dev (cEpoch b.cell) (coEntry (cDst b.cell))) (coEntry (cDst b.cell)) = some 0) ∧
    (let b := boxOf (cellTo farCoord 7 ocMGMT) 1020
     let s := on (ingress 1020 ++ [queued 1020 1012 7 b, updUnits 1020 7 (fun u => u.add .landing)])
     (roomIn s.dev 1020 7).isSome = true ∧ oldestLanding s.dev 1020 7 = some b ∧ b.source = 1020 ∧ cTc b.cell = 7 ∧
       b.vcIn < (s.dev.port 1020).returned.length) := by decide +kernel

theorem wit_CrossbarMovesCell :
    (let b := boxOf (cellTo farCoord 7 ocMGMT) 1020
     let r : Req := { key := voqKey 1020 1012 7, esc := false }
     let s := on (ingress 1020 ++ [fun d => { d with sw := { d.sw with voqs := [(r.key, { norm := [b], esc := [] })] } },
       runs (Page.lnk 1012), runs (Page.etm 1012), setLinkState 1012 lsUp])
     OnlyCell r b s ∧ accepting s.dev Page.xbs = true ∧ exchangeGroup s.dev b.cell = none ∧
       classEligible s.now s.dev (voqEgress r.key) (voqTc r.key) = true) ∧
    accepting (on []).dev Page.xbs = false := by unfold OnlyCell; decide +kernel


/-- A stored multicast cell with one copy for lane 1023. -/
def storedCopy : Mcast :=
  { box := boxOf (cellTo farCoord 2 ocMROW) 1020, copies := some [{ egress := 1023, cell := cellTo farCoord 2 ocMROW }] }

theorem wit_CopiesAndPhases :
    (let s := on (ingress 1020 ++ [fun d => { d with sw := { d.sw with mcast := [(mcastKey 1031 2, [storedCopy])] } }])
     accepting s.dev Page.xbs = true ∧ s.dev.mcasts (mcastKey 1031 2) = [storedCopy] ∧
       storedCopy.copies = some [{ egress := 1023, cell := cellTo farCoord 2 ocMROW }] ∧ regionOf 1023 = 7 ∧
       (s.dev.repls 7).length < 4096) ∧
    (let c : Copy := { egress := 1023, cell := cellTo farCoord 2 ocMROW }
     let x : Repl := { box := storedCopy.box, copies := [c] }
     let s := on (ingress 1020 ++ [fun d => { d with sw := { d.sw with repl := [(7, [x])] } }, setLinkState 1023 lsUp])
     pageState s.dev Page.xbs = stRunning ∧ replFor s.dev 1023 (s.dev.repls 7) = some x ∧
       x.copies.find? (fun c => c.egress == 1023) = some c ∧ portUp s.dev 1023 = true ∧ x.copies = [c]) ∧
    (let r : Round := { t0 := 0, phases := [1, 1, 1, 1], ended := [false, false, false, true], planDone := [] }
     let s := at' 16000000 [fun d => setRound 65535 (some r) d, tset Page.col 0 65535 [0, 0, 0, 0, 0, 0, 0, 1000]]
     3 < r.phases.length ∧ r.phases.length ≤ 1048576 ∧ r.ended.length = r.phases.length ∧ roundOf s.dev 65535 = some r ∧
       r.ended.getD 3 false = true ∧ r.phases.getD 3 1 + 1 < r.phases.length ∧
       r.t0 + r.phases.getD 3 1 * gPhaseT (grp s.dev 65535) * 10 ≤ fabricNs s.dev s.now) := by decide +kernel

theorem wit_TransmitSlot :
    (let s := on [setLinkState 1023 lsUp, updPort 1023 (fun p => { p with timeDue := true })]
     maySend s.dev 1023 = true ∧ (s.dev.port 1023).timeDue = true) ∧
    (let b := boxOf (cellTo farCoord 7 ocMGMT) 1020
     let s := on [setLinkState 1023 lsUp, updPort 1023 (fun p => { p with allow := List.replicate 16 1 }), setStaged 1023 7 [b]]
     maySend s.dev 1023 = true ∧ (s.dev.port 1023).timeDue = false ∧ s.dev.staged 1023 7 = [b] ∧
       hasCredit s.dev 1023 b.cell = true) := by decide +kernel

/-- List 1 of a port: two entries of 20 ns. -/
def gateList (lane : Nat) : List (Dev → Dev) :=
  [wr (Page.etm lane) Reg.ETM_GATE_LEN_LEN1 2, wr (Page.etm lane) (Reg.ETM_GATE_CYCLE_NS.idx 1) 40,
   wr (Page.etm lane) Reg.ETM_GATE_CTL_NEXT_LIST 1, tset (Page.etm lane) 0 256 [1, 20], tset (Page.etm lane) 0 257 [2, 20]]

theorem wit_GatesAndHolds :
    (let s := on (gateList 1022)
     Owns .pcie (Page.etm 1022) s ∧ rd s.dev (Page.etm 1022) Reg.ETM_GATE_CTL_NEXT_LIST = 1 ∧
       gateCheck s.dev 1022 1 = none) ∧
    (let s := on [wr (Page.etm 1022) Reg.ETM_GATE_LEN_LEN0 257]
     Owns .pcie (Page.etm 1022) s ∧ gateCheck s.dev 1022 (rd s.dev (Page.etm 1022) Reg.ETM_GATE_CTL_NEXT_LIST) = some 1) ∧
    (let g : Gate := { start := 0, entryStart := 0, entry := 1 }
     let s := at' 32 (gateList 1022 ++ [setGate 1022 (some g), wr (Page.etm 1022) Reg.ETM_GATE_STAT_ACTIVE_LIST 1])
     gateOf s.dev 1022 = some g ∧ g.entryStart + (gateEntry s.dev 1022 (activeList s.dev 1022) g.entry).2 ≤ fabricNs s.dev s.now ∧
       gateLen s.dev 1022 (activeList s.dev 1022) ≤ 256) := by unfold Owns; decide +kernel

theorem wit_WheelsFlushesAndLoads :
    (∀ n ∈ [0, 1000],
     let k := 1023 * 8 + 6
     let s := at' 8 [fun d => { d with sw := { d.sw with wheel := [(k, 2)] } },
       wr (Page.etm 1023) (Reg.ETM_SHAPE_RATE_MBPS.idx 6) n]
     s.dev.sw.wheel = [(k, s.now.toNat / 8 + 1)] ∧ wheelDie k = 1) ∧
    (let s := on [wr Page.voq Reg.VOQ_FLUSH_STAT_ACTIVE_B 1]
     rdBit s.dev Page.voq Reg.VOQ_FLUSH_STAT_ACTIVE_B = true) ∧
    (let b := boxOf (cellTo farCoord 7 ocMGMT) 1031
     let s := on [queued 1031 1023 7 b]
     (s.dev.voq (voqKey 1031 1023 7)).norm = [b] ∧ sget (konst []) s.dev.sw.eccTimes 127 = []) ∧
    (let s := on []
     s.dev.sw.fencedGroups.contains 127 = false ∧ s.dev.sw.voqs = [] ∧ s.dev.sw.mcast = [] ∧ s.dev.sw.parkA = [] ∧
       s.dev.sw.parkB = [] ∧ s.dev.col.contexts = []) := by decide +kernel


/-! ### Witnesses: links and lasers -/

theorem wit_PortsTrain_moves :
    (∀ lane ∈ [1022, 1087],
      trainUnit (on []).dev lane = true ∧ linkState (on [setLinkState lane lsSearch]).dev lane = lsSearch ∧
        linkState (on [setLinkState lane lsTrain]).dev lane = lsTrain) ∧
    (let s := at' 16000000 [setLinkState 1087 lsSearch]
     trainTimeout (linkState s.dev 1087) = some 10000000 ∧ elapsed s.now (s.dev.port 1087).sinceTick 10000000 = true) := by
  decide +kernel

/-- The frame a neighbour with nothing configured sends from the two lanes of port 1022, and the state it meets. -/
def peerFrame : List Byte := ownFrame (on []).dev 1022
def identifying : List (Dev → Dev) := [setLinkState 1022 lsIdentify, wr (Page.lnk 1022) Reg.LNK_NBR_COORD_COORD (selfCoord Dev.reset),
  wr (Page.lnk 1022) Reg.LNK_NBR_PORT_PORT (ownPort Dev.reset 1022)]

theorem wit_PortsTrain_up :
    (let s := on identifying
     trainUnit s.dev 1022 = true ∧ linkState s.dev 1022 = lsIdentify ∧ frGood peerFrame = true ∧
       (s.dev.port 1022).matched = false ∧ frameMismatch s.dev 1022 peerFrame [0, 2] = some 10 ∧
       frameMismatch s.dev 1022 peerFrame [0, 1] = none ∧ (s.dev.port 1022).flushing = false ∧
       landingUnits s.dev 1022 ≤ freeUnits (matchNoted 1022 peerFrame s.dev) (dieOf 1022)) ∧
    (let s := on (identifying ++ [updPort 1022 (fun p => { p with matched := true })])
     (s.dev.port 1022).matched = true ∧ linkState s.dev 1022 = lsIdentify ∧ (s.dev.port 1022).flushing = false ∧
       landingUnits s.dev 1022 ≤ freeUnits s.dev (dieOf 1022)) := by decide +kernel

theorem wit_PortsLeave :
    (let s := on [runs (Page.lnk 1022)]
     Owns .pcie (Page.lnk 1022) s ∧ isPort s.dev 1022 = true ∧ linkState s.dev 1022 = lsDisabled ∧
       lnkRunning s.dev 1022 = true ∧ (s.dev.port 1022).dark = false ∧
       rdBit s.dev (Page.lnk 1022) Reg.LNK_LNK_CTL_ADMIN_UP = false) ∧
    (let s := on [setLinkState 1022 lsUp, wr (Page.lnk 1022) Reg.LNK_LNK_CTL_ADMIN_UP 1]
     Owns .pcie (Page.lnk 1022) s ∧ isPort s.dev 1022 = true ∧ linkState s.dev 1022 ≠ lsDisabled ∧
       rdBit s.dev (Page.lnk 1022) Reg.LNK_LNK_CTL_ADMIN_UP = true) ∧
    (let s := at' 160000000 [setLinkState 1022 lsFailed]
     trainUnit s.dev 1022 = true ∧ linkState s.dev 1022 = lsFailed ∧
       elapsed s.now (s.dev.port 1022).sinceTick 100000000 = true) ∧
    (let s := on [setLinkState 1022 lsUp]
     isPort s.dev 1022 = true ∧ portUp s.dev 1022 = true) ∧
    departedOpen (on [setLinkState 1022 lsDeparted, updPort 1022 (fun p => { p with rxOpen := true })]).dev 1022 = true := by
  unfold Owns; decide +kernel

theorem wit_CodewordsCross_sent :
    (∀ lane ∈ [1022, 1087], let s := on [setLinkState lane lsIdentify]
     trainUnit s.dev lane = true ∧ linkState s.dev lane = lsIdentify) ∧
    (let s := on [setLinkState 1022 lsUp, updPort 1022 (fun p => { p with txStream := txBytes (cellTo farCoord 0 ocDATA) false })]
     trainUnit s.dev 1022 = true ∧ linkState s.dev 1022 = lsUp ∧ circQuiet s.dev 1022 = false ∧
       (s.dev.port 1022).suspended = false ∧ (s.dev.port 1022).departing = .no ∧ (s.dev.port 1022).replayAt = none ∧
       (s.dev.port 1022).nakOwed = false ∧ (s.dev.port 1022).txLane = 0 ∧
       (s.dev.port 1022).replay.length + portWidth s.dev 1022 ≤ replayRoom s.dev 1022 ∧
       (s.dev.port 1022).txStream ≠ []) := by decide +kernel

theorem wit_CodewordsCross_received :
    let s := on [setLinkState 1022 lsUp, runs (Page.lnk 1022)]
    portOfLane s.dev 1023 = 1022 ∧ carries s.dev 1023 = true ∧ receiving s.dev 1022 = true ∧ (s.dev.port 1022).rxNaks < 7 ∧
      inCircuit s.dev 1022 = false ∧ (s.dev.port 1022).rxSeq = 0 ∧ linkActive s.dev 1022 = true := by decide +kernel

/-- Port 1022 with two data codewords not acknowledged. -/
def unacked : List (Dev → Dev) := [setLinkState 1022 lsUp, runs (Page.lnk 1022),
  updPort 1022 (fun p => { p with txSeq := 2, replay := [{ seq := 0, body := [] }, { seq := 1, body := [] }] })]

/-- An ACK of half a data period keeps its first codeword, from which a NAK of the second replays (R116, R117). -/
theorem test_replay_starts_at_period :
    let d := nakItem 0 1022 1 (ackItem 0 1022 0 (on unacked).dev)
    (d.port 1022).replay = [{ seq := 1, body := [] }] ∧ (d.port 1022).ackHeld = [{ seq := 0, body := [] }] ∧
      (d.port 1022).replayAt = some 0 := by decide +kernel

theorem wit_CodewordsCross_items :
    (let s := on unacked
     portOfLane s.dev 1023 = 1022 ∧ carries s.dev 1023 = true ∧ linkActive s.dev 1022 = true ∧
       (15 : Nat) < (s.dev.port 1022).allow.length ∧ (15 : Nat) < (s.dev.port 1022).lastCredit.length ∧
       (15 * 2048 + 1023) / 2048 % 16 = 15 ∧
       ((15 * 2048 + 1023) % 2048 + 2048 - (s.dev.port 1022).lastCredit.getD 15 0) % 2048 = 1023 ∧
       (1 + 1 + 32768 - (s.dev.port 1022).ackNext) % 32768 = 2 ∧ 2 ≤ (s.dev.port 1022).replay.length ∧
       (s.dev.port 1022).replay.findIdx? (fun cw => cw.seq == 1) = some 1 ∧ (s.dev.port 1022).replayAt = none ∧
       (s.dev.port 1022).nakCount < 7) ∧
    (let s := at' 25600 unacked
     portUp s.dev 1022 = true ∧ inCircuit s.dev 1022 = false ∧ (s.dev.port 1022).replay ≠ [] ∧
       elapsed s.now (s.dev.port 1022).ackTick 16000 = true) := by decide +kernel

theorem wit_LanesRepaired :
    (let s := on [setLinkState 1022 lsUp, setLinkState 1087 lsSpareIdle, wr (Page.lnk 1023) Reg.LNK_LNK_CTL_SPARE_AUTO 1,
       wr (Page.lnk 1023) Reg.LNK_SPARE_THRESH_UCW 1]
     rd s.dev (Page.lnk 1023) Reg.LNK_SPARE_THRESH_UCW ≠ 0 ∧ portUp s.dev (lowestLane s.dev 1023) = true ∧
       rdBit s.dev (Page.lnk 1023) Reg.LNK_LNK_CTL_SPARE_AUTO = true ∧ repairOf s.dev 63 = none ∧
       linkState s.dev (spareOf 1023) = lsSpareIdle ∧ heldOff s.dev 7 = false ∧
       inCircuit s.dev (lowestLane s.dev 1023) = false ∧ sget (konst false) s.dev.lnk.ownFailed 1023 = false) ∧
    (let s := on [setLinkState 1022 lsUp, wr (Page.lnk 1023) Reg.LNK_LNK_CTL_SPARE_AUTO 0]
     portUp s.dev (lowestLane s.dev 1023) = true ∧ rdBit s.dev (Page.lnk 1023) Reg.LNK_LNK_CTL_SPARE_AUTO = false ∧
       heldOff s.dev 7 = false ∧ inCircuit s.dev (lowestLane s.dev 1023) = false ∧
       sget (konst false) s.dev.lnk.ownFailed 1023 = false) ∧
    (∀ x ∈ [(false, false), (true, false), (true, true)],
      let r : Repair := { laneIdx := 15, attempt := 1, accepted := x.1, switched := x.2, startTick := 0 }
      repairOf (on [setRepair 63 (some r)]).dev 63 = some r) := by decide +kernel

theorem wit_DieLinksAndReference :
    2 ≤ (tget (on []).dev (Page.lnk 0) 1 3231).length ∧ wbit (tget (on []).dev (Page.lnk 0) 1 3231) 0 31 = false ∧
      wbit (tget (on []).dev (Page.lnk 0) 1 3231) 0 30 = false := by decide +kernel

/-- Module 15 in a state, with its partner in another. -/
def lasers (a b : Nat) : List (Dev → Dev) := [updLaser 15 (fun l => { l with present := true }), setLsrState 15 a, setLsrState 14 b]

theorem wit_LasersComeAndGo_in :
    ((on []).dev.laserRec 15).present = false ∧
    (let s := at' 800000000 (lasers lmVerifying lmAbsent)
     (s.dev.laserRec 15).present = true ∧ lsrState s.dev 15 = lmVerifying ∧
       elapsed s.now (s.dev.laserRec 15).insertTick 500000000 = true ∧ rd s.dev Page.mgt Reg.MGT_BOOT_STAT_STAGE = 2 ∧
       laserReject s.dev { busOk := false, layout := 1, serial := 0, life := 0, wearMirror := 0, certificate := [], response := [] } ≠ none) ∧
    (let s := on (lasers lmRamping lmRunning)
     lsrState s.dev 15 = lmRamping ∧ lsrState s.dev (partner 15) = lmRunning ∧ (s.dev.laserRec 15).present = true) ∧
    (let s := on (lasers lmRunning lmRunning)
     Owns .pcie (Page.laser 15) s ∧ wearKnown s.dev 15 = true ∧ lsrState s.dev 15 ≠ lmReleased ∧ lsrLit s.dev (partner 15) = true) ∧
    (let s := on (lasers lmCarrying lmFailed)
     Owns .pcie (Page.laser 15) s ∧ wearKnown s.dev 15 = true ∧ lsrState s.dev 15 ≠ lmReleased ∧ lsrLit s.dev (partner 15) = false) ∧
    (let s := on (lasers lmReleased lmCarrying)
     Owns .pcie (Page.laser 15) s ∧ (s.dev.laserRec 15).present = true ∧ lsrState s.dev 15 = lmReleased) := by
  unfold Owns; decide +kernel

theorem wit_LasersComeAndGo_out :
    (let s := on (lasers lmRunning lmRunning)
     lsrLit s.dev 15 = true ∧ lsrLit s.dev (partner 15) = true) ∧
    (let s := on (lasers lmRunning lmFailed ++ [updLaser 15 (fun l => { l with boost := true })])
     (s.dev.laserRec 15).boost = true ∧ lsrState s.dev 15 = lmRunning) ∧
    (let s := on (lasers lmFailed lmCarrying)
     (s.dev.laserRec 15).present = true ∧ lsrLit s.dev 15 = false ∧ lsrState s.dev 15 ≠ lmRamping) ∧
    (let s := on (lasers lmCarrying lmFailed)
     wearKnown s.dev 15 = true) ∧
    (let s := on (lasers lmRunning lmRunning ++ [updLaser 15 (fun l => { l with releasing := true })])
     (s.dev.laserRec 15).releasing = true ∧ lsrLit s.dev (partner 15) = true) := by decide +kernel


/-! ### Witnesses: forwarding and the optical bypass -/

theorem wit_BankSwaps :
    (∀ b ∈ [false, true], Owns .inband Page.fwd (on [wr Page.fwd Reg.PAGE_OWNER_OWNER 1, wrBit Page.fwd Reg.FWD_EPOCH_STAT_ARMED b]) ∧
      rdBit (on [wr Page.fwd Reg.PAGE_OWNER_OWNER 1, wrBit Page.fwd Reg.FWD_EPOCH_STAT_ARMED b]).dev Page.fwd Reg.FWD_EPOCH_STAT_ARMED = b) ∧
    sget (konst false) (on [fun d => { d with fwd := { d.fwd with drained := [(1, true)] } }]).dev.fwd.drained 1 = true ∧
    (let s := at' 1600 [fun d => { d with fwd := { d.fwd with swapTick := some 0 } }, wr Page.fwd Reg.FWD_DRAIN_WARN_US 1,
       wr Page.fwd (Reg.FWD_DRAIN_CELLS.idx 1) 1]
     s.dev.fwd.swapTick = some 0 ∧ s.dev.fwd.warned = false ∧ rd s.dev Page.fwd Reg.FWD_DRAIN_WARN_US ≠ 0 ∧
       elapsed s.now 0 (rd s.dev Page.fwd Reg.FWD_DRAIN_WARN_US * 1000) = true ∧
       rd s.dev Page.fwd (Reg.FWD_DRAIN_CELLS.idx (1 - rd s.dev Page.fwd Reg.FWD_EPOCH_STAT_ACTIVE)) ≠ 0) := by
  unfold Owns; decide +kernel

theorem wit_TablesUpkept_sweep :
    (let ws : List W32 := [0x80000000, 1, 0, 0, 0, 0, 0]
     let s := at' 6400000000000 [tset Page.fwd 2 1048575 ws]
     (1048575, ws) ∈ tblListed s.dev Page.fwd 2 ∧ flowStale s.now s.dev ws = true) ∧
    (let ws : List W32 := [0x80000000, 1, 0, 0, 0, 0, 0]
     let s := on [tset Page.fwd 2 1048575 ws]
     (1048575, ws) ∈ tblListed s.dev Page.fwd 2 ∧ flowStale s.now s.dev ws = false) := by decide +kernel

theorem wit_TablesUpkept_scrub :
    let armed := [wr Page.fwd Reg.FWD_SCRUB_CTL_ENABLE 1, wr Page.fwd (segStateFd 7) 1,
      fun d => { d with fwd := { d.fwd with passed := [(7, (false, true))] } }]
    Owns .pcie Page.fwd (on armed) ∧ rdBit (on armed).dev Page.fwd Reg.FWD_SCRUB_CTL_ENABLE = true ∧
      segState (on armed).dev 7 = 1 ∧ rdBit (on armed).dev Page.fwd (suspectFd 7 0) = false ∧
      sget (konst (false, false)) (on armed).dev.fwd.passed 7 = (false, true) := by
  unfold Owns; decide +kernel

theorem crc64Step_lt (c : Nat) (h : c < 2 ^ 64) :
    (if c % 2 = 1 then (c / 2) ^^^ 0xC96C5795D7870F42 else c / 2) < 2 ^ 64 := by
  split
  · exact Nat.xor_lt_two_pow (by omega) (by decide)
  · omega

theorem crc64Byte_lt (c : Nat) (b : Byte) (h : c < 2 ^ 64) : crc64Byte c b < 2 ^ 64 := by
  have hb : c ^^^ b.toNat < 2 ^ 64 := Nat.xor_lt_two_pow h (by omega)
  unfold crc64Byte
  simp only [List.foldl]
  iterate 8 apply crc64Step_lt
  exact hb

theorem crc64_lt (bs : List Byte) : crc64 bs < 2 ^ 64 := by
  have h : ∀ (l : List Byte) (c : Nat), c < 2 ^ 64 → l.foldl crc64Byte c < 2 ^ 64 := by
    intro l
    induction l with
    | nil => exact fun c h => h
    | cons b l ih => exact fun c h => ih _ (crc64Byte_lt c b h)
  exact Nat.xor_lt_two_pow (h bs _ (by decide)) (by decide)

/-- With the digest written the segment passes; with another it does not. -/
theorem wit_TablesUpkept_digest (v : Nat) (h : v < 2 ^ 64) :
    let d := wr64 Page.fwd (Reg.FWD_DIGEST.idx 7 8) v Dev.reset
    (v = segDigest Dev.reset 7 → segDigest d 7 = rd64 d Page.fwd (Reg.FWD_DIGEST.idx 7 8)) ∧
    (v ≠ segDigest Dev.reset 7 → segDigest d 7 ≠ rd64 d Page.fwd (Reg.FWD_DIGEST.idx 7 8)) ∧
    segDigest Dev.reset 7 < 2 ^ 64 := by
  have e : segDigest (wr64 Page.fwd (Reg.FWD_DIGEST.idx 7 8) v Dev.reset) 7 = segDigest Dev.reset 7 := rfl
  refine ⟨fun hv => ?_, fun hv => ?_, crc64_lt _⟩
  · rw [rd64_wr64_same _ _ _ _ h, e, hv]
  · rw [rd64_wr64_same _ _ _ _ h, e]
    exact fun x => hv x.symm

/-- Entry 127 of the circuit table: ports 1008 and 1010, width code 1, in a state, with a CONFIRM time. -/
def circ127 (state confirm : Nat) (plan : Bool) : Dev → Dev :=
  setCircWords 127 [BitVec.ofNat 32 (0x84000000 + confirm + if plan then 2 ^ 30 else 0), BitVec.ofNat 32 (1008 * 1024 + 1010), 0, 0, 0,
    BitVec.ofNat 32 (state * 2 ^ 28), 0, 0]
def circPorts : List (Dev → Dev) := [runs Page.byp, setLinkState 1008 lsUp, setLinkState 1010 lsUp]
def circAt (st : Nat) (c : Circ) : State := on (circPorts ++ [circ127 st 0 false, setCirc 127 c])

theorem wit_CircuitsRun_setup :
    (let s := circAt csIdle Circ.idle
     (circWords s.dev 127).length = 8 ∧ Owns .pcie Page.byp s ∧ setupRefusal s.dev false 127 = none ∧
       (choosePair 127 s.dev).1 = none ∧ circTrigger s.dev 127 = none) ∧
    (let s := on (circPorts ++ [circ127 csArmed 0 false, tset Page.tim 0 63 [0x8200007F, 0, 0, 0, 0x10000000, 0, 0]])
     circState s.dev 127 = csArmed ∧ (s.dev.circ 127).late = none ∧ circTrigger s.dev 127 = some 0 ∧
       0 ≤ fabricNs s.dev s.now + drainLead s.dev ∧ matrixFaulted s.dev = false ∧ (choosePair 127 s.dev).1 = none) := by
  unfold Owns; decide +kernel

theorem wit_CircuitsRun_handover :
    (let c : Circ := { Circ.idle with ts := some 0 }
     circNear 0 (circAt csDraining c).dev 127 (fenceLead 127 (circAt csDraining c).dev) = true ∧ c.fenced = false) ∧
    (let c : Circ := { Circ.idle with ts := some 0, fenced := true }
     circNear 0 (circAt csDraining c).dev 127 (100 * lastLead (circAt csDraining c).dev) = true ∧
       ((circAt csDraining c).dev.circ 127) = c ∧ c.flushed = false) ∧
    (let c : Circ := { Circ.idle with ts := some 0, fenced := true, flushed := true }
     circNear 0 (circAt csDraining c).dev 127 10000 = true ∧ ((circAt csDraining c).dev.circ 127) = c ∧ c.cut = false) ∧
    (let c : Circ := { Circ.idle with ts := some 0, fenced := true, flushed := true, cut := true }
     circNear 0 (circAt csDraining c).dev 127 0 = true ∧ ((circAt csDraining c).dev.circ 127) = c) ∧
    (let c : Circ := { Circ.idle with ts := some 0 }
     circState (circAt csSwitching c).dev 127 = csSwitching ∧ ((circAt csSwitching c).dev.circ 127) = c ∧
       c.tearAfterUp = false) := by decide +kernel

theorem wit_CircuitsRun_ends :
    (∀ st ∈ [csUp, csConfirmed, csIdle],
     let s := circAt st Circ.idle
     Owns .pcie Page.byp s ∧ cValid (circWords s.dev 127) = true ∧ cPlan (circWords s.dev 127) = false ∧
       circState s.dev 127 = st) ∧
    (let s := { on (circPorts ++ [circ127 csUp 1 false]) with now := 1600 }
     circState s.dev 127 = csUp ∧ cConfirm (circWords s.dev 127) ≠ 0 ∧
       elapsed s.now (s.dev.circ 127).upTick (cConfirm (circWords s.dev 127) * 1000) = true) ∧
    circDriven (circAt csSwitching Circ.idle).dev 127 = true ∧
    (∀ b ∈ [false, true],
     let s := circAt csTearing { Circ.idle with lightBack := b }
     circState s.dev 127 = csTearing ∧ (s.dev.circ 127).lightBack = b) ∧
    (let s := circAt csArmed { Circ.idle with late := some 0 }
     circState s.dev 127 = csArmed ∧ (s.dev.circ 127).late.isSome = true) := by unfold Owns; decide +kernel

theorem wit_CandidatesAndPlans :
    (let ws : List W32 := [0x80000000, 0, 0, 0, 1, 0, 0]
     let s := on [runs Page.byp, tset Page.fwd 2 1048575 ws, wr Page.byp Reg.BYP_CAND_CFG_TC 1, wr Page.byp Reg.BYP_CAND_CFG_MIN 1]
     tblListed s.dev Page.fwd 2 = [(1048575, ws)] ∧ pageState s.dev Page.byp = stRunning ∧ countedFlow s.dev ws = true ∧
       flowGrowth s.dev 1048575 ws ≠ 0 ∧
       rd s.dev Page.byp Reg.BYP_CAND_CFG_MIN * 2 ^ 20 ≤ flowGrowth s.dev 1048575 ws) ∧
    (let r : Round := { t0 := 0, phases := [1], ended := [false], planDone := [] }
     let s := at' 160000000000 (circPorts ++ [runs Page.col, circ127 csIdle 0 true, setRound 65535 (some r),
       tset Page.col 0 65535 [0x80000000, 0, 0, 0, 0, 0, 0, 0x80000001],
       tset Page.col 3 127 [0x8000FFFF, 0x0FFF0001]])
     tblListed s.dev Page.col 3 = [(127, [0x8000FFFF, 0x0FFF0001])] ∧ pageState s.dev Page.col = stRunning ∧
       roundOf s.dev 65535 = some r ∧ r.planDone.contains 4095 = false ∧ phaseDue s.now s.dev 65535 4095 r = true ∧
       planOf s.dev 65535 127 = some (4095, 1) ∧ (circWords s.dev 127).length = 8 ∧ setupRefusal s.dev true 127 = none ∧
       (choosePair 127 s.dev).1 = none) := by decide +kernel


/-! ### Witnesses: the collective engine -/

/-- Group 65535: ALLREDUCE, its two members at the top of the member array; both are entered. -/
def grpWords (w0 : W32) : List W32 := [w0, 0x10000000, 0, 0, 4194302, 2, 0, 0]
def topSlot : Nat := 4194303
def colDev : List (Dev → Dev) := [atHome, runs Page.fwd, runs Page.voq, runs Page.col, tset Page.col 0 65535 (grpWords 0x80000000)]
def memberWords : List W32 := [0x8000FFFF, BitVec.ofNat 32 farCoord, 0, 0, 0, 0, 0, 0, 0, 0, 0, 0, 0, 0, 0, 0]
def colState (n : Nat) (l : List (Dev → Dev)) : State :=
  memberSet topSlot memberWords (memberSet 4194302 memberWords (at' n (colDev ++ l)))

/-- A contribution cell of that member for phase 15, cell 0, and its tail for one cell. -/
def cupTop (c : Nat) : Cell := setHb (setHb (setHb (cellTo (topSlot / 256) 6 ocCUP) 83 76 (topSlot % 256)) 75 72 15) 71 64 c
def tailTop (crc : Nat) : Cell :=
  reseal (mkCell 0 6 ocCTAIL_UP 7 8 9 (bytesBE 4 crc ++ bytesBE 4 0 ++ bytesBE 2 65535 ++ [0, 0xF8] ++ bytesBE 4 topSlot ++ [0, 0, 1, 1]))

/-- Its context, in a state of a life. -/
def ctxTop : Context :=
  { gen := 0, useNo := 255, state := .openS, paging := .resident, region := 7, slot := 0, block := 31, chunk := none,
    last := false, cells := 0, valid := 0, expected := 2, closed := 0, contribs := [], first := cupTop 0,
    openTick := 0, touchTick := 0, closeTick := 0, frames := [], runs := [], finishing := [], results := [], crc := 0,
    streamPos := 0, tailPos := 0, reserve := 0, recipe := 0, version := 0, units := 0, rebuilding := false, pageIn := false,
    entry := grpWords 0x80000000 }
def topKey : Nat := ctxKey 65535 15
def arriving (b : Box) (c : Context) : State :=
  colState 1600 [setCtx topKey (some c), fun d => { d with col := { d.col with inbox := [b] } }]
def heldCell : Contrib := { cells := [cupTop 0], tail := none, closed := false, fails := 0, lane := 1020 }

theorem wit_CollectiveArrivals_cell :
    let b := boxOf (cupTop 127) 1020
    let s := arriving b ctxTop
    Arrival ocCUP b [] s ∧ InWindow b ctxTop s ∧ arrivalMember b s = 1 ∧ (ctxTop.contrib 1).tail = none := by
  unfold Arrival InWindow; decide +kernel

theorem wit_CollectiveArrivals_tail :
    let b := boxOf (tailTop 0) 1020
    let s := arriving b ctxTop
    Arrival ocCTAIL_UP b [] s ∧ InWindow b ctxTop s ∧ arrivalMember b s = 1 ∧ tailAgrees ctxTop b.cell = true ∧
      (ctxTop.contrib 1).cells.length < tCells b.cell := by
  unfold Arrival InWindow; decide +kernel

theorem wit_CollectiveArrivals_close :
    (∀ n ∈ [0, 1],
     let c := { ctxTop.setContrib 1 heldCell with closed := n }
     let b := boxOf (tailTop (contribCrc [cupTop 0])) 1020
     let s := arriving b c
     Arrival ocCTAIL_UP b [] s ∧ InWindow b c s ∧ arrivalMember b s = 1 ∧ tailAgrees c b.cell = true ∧
       tCells b.cell ≤ (c.contrib 1).cells.length ∧ contribCrc (c.contrib 1).cells = tCrc b.cell ∧ c.useNo < 256 ∧
       upSlot b.cell = gBase c.entry + 1 ∧ c.expected = 2) := by
  unfold Arrival InWindow; decide +kernel

theorem wit_ContextsWait_missing :
    let c := { ctxTop.setContrib 1 { heldCell with cells := [], tail := some (tailTop 0) } with closed := 1 }
    let s := colState 1600000000 [setCtx topKey (some c)]
    s.dev.ctx topKey = some c ∧ c.isResident = true ∧ (c.contrib 1).tail = some (tailTop 0) ∧ c.state = .openS ∧
      (c.contrib 1).closed = false ∧ (c.contrib 1).cells.length < tCells (tailTop 0) ∧ c.expected ≤ c.closed + 1 ∧
      chunkTimeoutNs s.dev ≠ 0 ∧ elapsed s.now c.closeTick (chunkTimeoutNs s.dev / 4) = true ∧
      (c.contrib 1).fails + 1 ≤ rd s.dev Page.col Reg.COL_COL_CFG_RESEND_MAX ∧
      elapsed s.now c.openTick (chunkTimeoutNs s.dev) = true := by decide +kernel

theorem wit_ContextsWait_paging :
    (let c := { ctxTop with paging := .goingOut }
     let s := colState 0 [setCtx topKey (some c)]
     slotKeys s.dev 65535 15 = [topKey] ∧ s.dev.ctx topKey = some c ∧ c.pageIn = false ∧ needsIn s.dev topKey c = false) ∧
    (let c := { ctxTop with paging := .goingIn }
     let s := colState 0 [setCtx topKey (some c)]
     slotKeys s.dev 65535 15 = [topKey] ∧ s.dev.ctx topKey = some c ∧ s.dev.sw.parkA = [] ∧ s.dev.sw.parkB = []) := by
  decide +kernel

theorem wit_ResultsStream :
    (let c := { ctxTop with state := .complete }
     let s := colState 0 [setCtx topKey (some c)]
     s.dev.ctx topKey = some c ∧ c.finishing = [] ∧ c.inRebuild = false) ∧
    (let c := { ctxTop with state := .streaming, cells := 1, results := [(0, some (cdnCell 0 0 []))] }
     let s := colState 0 [setCtx topKey (some c)]
     s.dev.col.owed = [] ∧ streamingOf s.dev 65535 15 = some (topKey, c) ∧ c.isResident = true ∧
       (roomIn s.dev (svcCol c.die) 6).isSome = true ∧ copiesFor s (keyGroup topKey) c (receives c.entry c) ≠ [] ∧
       c.streamPos < c.cells ∧ sget (konst none) c.results c.streamPos = some (cdnCell 0 0 [])) ∧
    (let c := { ctxTop with state := .streaming }
     let s := colState 0 [setCtx topKey (some c)]
     s.dev.col.owed = [] ∧ streamingOf s.dev 65535 15 = some (topKey, c) ∧ c.isResident = true ∧
       (roomIn s.dev (svcCol c.die) 6).isSome = true ∧ copiesFor s (keyGroup topKey) c (receives c.entry c) ≠ [] ∧
       c.cells ≤ c.streamPos ∧ c.tailPos = 0 ∧
       copiesFor s (keyGroup topKey) c (fun m => !receives c.entry c m) = [] ∧ s.dev.ctx topKey = some c) ∧
    (let o : Nat × Nat × Cell × List (Nat × Nat) := (topKey, 1, cdnCell 0 0 [], [(farCoord, 0)])
     let s := colState 0 [fun d => { d with col := { d.col with owed := [o] } }]
     s.dev.col.owed = [o] ∧ o.2.2.2 ≠ [] ∧ (roomIn s.dev (svcCol 1) 6).isSome = true) := by decide +kernel

theorem wit_GroupsChange :
    (let s := colState 0 [wr Page.col Reg.COL_RESIZE_BASE_BASE 4194302, wr Page.col Reg.COL_RESIZE_COUNT_COUNT 3]
     Owns .pcie Page.col s ∧ resizeRefusal s 65535 4194302 3 = some 3 ∧
       rd s.dev Page.col Reg.COL_RESIZE_COUNT_COUNT = 3 ∧ rd s.dev Page.col Reg.COL_RESIZE_BASE_BASE = 4194302) ∧
    (let s := colState 0 [wr Page.col Reg.COL_RESIZE_BASE_BASE 4194303, wr Page.col Reg.COL_RESIZE_COUNT_COUNT 1,
       setCtx topKey (some ctxTop)]
     Owns .pcie Page.col s ∧ resizeRefusal s 65535 4194303 1 = none ∧ (grp s.dev 65535).length = 8) ∧
    (let s := colState 0 [tset Page.col 0 65535 (grpWords 0xA0000000), updGroupRec 65535 (fun r => { r with resize := some (4194303, 1) })]
     (s.dev.groupRec 65535).resize = some (4194303, 1) ∧ gResizing (grp s.dev 65535) = true ∧
       groupBusy s.dev 65535 = false ∧ (grp s.dev 65535).length = 8) ∧
    (let s := colState 1600000000000 [tset Page.col 0 65535 (grpWords 0xC0000000)]
     gDraining (grp s.dev 65535) = true ∧
       (ctxList s.dev).any (fun e => keyGroup e.1 == 65535 && decide (2 ^ 20 ≤ e.1)) = false ∧
       elapsed s.now (s.dev.groupRec 65535).staleTick (rd s.dev Page.col Reg.COL_COL_CFG_GEN_QUIET * 10000) = true) := by
  unfold Owns; decide +kernel


/-! ### Witnesses: the Ladle array and Stockpot -/

/-- The last core block runs, with the context above bound to it; its core for position 0. -/
def ldlState (n : Nat) (c : Context) : State := at' n [runs (Page.coreBlock 31), setCtx topKey (some c)]
def core0 : Nat := 775 + coreOfPos 0 0
def run0 (rebuild : Bool) : Run :=
  { pos := 0, member := 1, cell := cupTop 0, num := 0, rebuild := rebuild, tag := none, rxNs := 0, rxTick := 0, lane := 1020 }

theorem wit_LadleRuns :
    (let c := { ctxTop with runs := [run0 false] }
     let s := ldlState 0 c
     core0 < 800 ∧ coreWorks s.dev core0 = true ∧ finishReady s.dev core0 = [] ∧ rebuildReady s.dev core0 = [] ∧
       oldestRun (accReady s.dev core0) = some (topKey, run0 false) ∧ s.dev.ctx topKey = some c ∧ c.region < 8) ∧
    (let c := { ctxTop with finishing := [0] }
     let s := ldlState 0 c
     coreWorks s.dev core0 = true ∧ oldestFinish (finishReady s.dev core0) = some (0, topKey, 0) ∧
       s.dev.ctx topKey = some c) ∧
    (let c := { ctxTop with runs := [run0 true] }
     let s := ldlState 0 c
     coreWorks s.dev core0 = true ∧ finishReady s.dev core0 = [] ∧
       rebuildReady s.dev core0 = [(topKey, run0 true)] ∧ s.dev.ctx topKey = some c) := by decide +kernel

theorem wit_RecipesLoad :
    (Owns .pcie (Page.region 0) (on []) ∧ (on []).dev.ldl.cmd = none ∧ isRetiring (on []).dev 255 = false ∧
      isRetiring (on [setRetiring 255 true]).dev 255 = true) ∧
    (let s := on [fun d => { d with ldl := { d.ldl with cmd := some (true, 255) } }]
     s.dev.ldl.cmd = some (true, 255)) ∧
    (let s := on [fun d => { d with ldl := { d.ldl with cmd := some (false, 255) } }]
     s.dev.ldl.cmd = some (false, 255) ∧ activeStore s.dev 255 < 2) ∧
    (let s := on [setRetiring 255 true]
     versionUse s.dev (storeOf s.dev 255 0) 255 = 0) := by unfold Owns; decide +kernel

theorem wit_RecipesLoad_checked :
    checkRecipe (recipeOf (on []).dev (storeOf (on []).dev 255 0) 255) = none ∧
      (checkRecipe (recipeOf (on [tset (Page.region 0) 0 (255 * 128) [0xFFFFFFFF, 0xFFFFFFFF]]).dev 0 255)).isSome = true ∧
      storeOf (on []).dev 255 0 = 0 := by decide +kernel

theorem wit_CoresFail :
    (let s := on []
     blockFenced s.dev 31 = false ∧ (s.dev.blk 31).failed = none ∧ rdBit s.dev (Page.coreBlock 31) Reg.CB_STAT_SPARE_OK = true) ∧
    (let s := on [updBlk 31 (fun b => { b with failed := some 23 })]
     blockFenced s.dev 31 = false ∧ (s.dev.blk 31).failed ≠ none ∧ s.dev.col.contexts = []) ∧
    (let s := on [wr (Page.coreBlock 31) Reg.CB_STAT_SPARE_OK 0]
     blockFenced s.dev 31 = false ∧ rdBit s.dev (Page.coreBlock 31) Reg.CB_STAT_SPARE_OK = false ∧ s.dev.col.contexts = []) ∧
    (∀ b ∈ [false, true],
     let s := on [updBlk 31 (fun x => { x with failed := some 24, failTick := 1, taken := b })]
     (s.dev.blk 31).failed = some 24 ∧ (s.dev.blk 31).failTick ≠ 0 ∧ (s.dev.blk 31).taken = b ∧
       blockFenced s.dev 31 = false ∧
       (ctxList s.dev).any (fun e => e.2.block == 31 && e.2.bound && e.2.inRebuild) = false) ∧
    (let s := on [wr (Page.coreBlock 31) Reg.CB_SELFTEST_PERIOD 1]
     rd s.dev (Page.coreBlock 31) Reg.CB_SELFTEST_PERIOD ≠ 0 ∧
       rdBit s.dev (Page.coreBlock 31) Reg.CB_STAT_SPARE_USED = false ∧ blockFenced s.dev 31 = false) := by decide +kernel

/-- Descriptor 4095: the last 8 KiB of Stockpot, readable and writable by anyone. -/
def openDesc : Dev → Dev :=
  tset Page.stk 0 4095 [0xE0000000, 0, BitVec.ofNat 32 (stockpotSize - 8192), BitVec.ofNat 32 ((stockpotSize - 8192) / 2 ^ 32), 8192, 0]
def stkDev : List (Dev → Dev) := [atHome, runs Page.fwd, runs Page.voq, runs Page.stk, openDesc]

/-- A verb cell: flags, format, length, offset, COUNT or weight. -/
def verbCell (op flags fmt len off arg : Nat) : Cell :=
  reseal (mkCell homeCoord 3 op (BitVec.ofNat 32 farCoord).toNat 8 9
    (bytesBE 2 4095 ++ bytesBE 2 0 ++ [BitVec.ofNat 8 flags, BitVec.ofNat 8 fmt] ++ bytesBE 2 len ++ bytesBE 8 off ++ bytesBE 4 arg ++
      List.replicate 12 0 ++ List.replicate 64 7))
def stkIn (c : Cell) (l : List (Dev → Dev)) : State :=
  on (stkDev ++ l ++ [fun d => { d with stk := { d.stk with inbox := [boxOf c 1020] } }])

theorem wit_VerbsServed_arrive :
    (∀ c ∈ [verbCell ocMEM_PUT 0 0 64 8128 0, verbCell ocMEM_GET 0 0 4096 4096 0, verbCell ocMEM_ACC 0 0 64 8128 0],
     let s := stkIn c []
     VerbHead (cOp c) (boxOf c 1020) [] s ∧ verbDenied s.dev c = none ∧ midLoad s.dev (midOf (verbBase s.dev c)) < 4096) ∧
    (∀ x ∈ [(verbCell ocMEM_PUT 0 0 64 8129 0, 5), (verbCell ocMEM_GET 0 0 4096 4097 0, 6), (verbCell ocMEM_ACC 0 0x20 64 8128 0, 5)],
     VerbHead (cOp x.1) (boxOf x.1 1020) [] (stkIn x.1 []) ∧ verbDenied (stkIn x.1 []).dev x.1 = some x.2) ∧
    (let c := verbCell ocMEM_FENCE 0 0 0 0 1
     VerbHead ocMEM_FENCE (boxOf c 1020) [] (stkIn c []) ∧ trackable (stkIn c []).dev (verbKey c) = true) := by
  unfold VerbHead; decide +kernel

/-- A verb as MID B has accepted or holds it. -/
def verbAt (c : Cell) : Verb :=
  { cell := c, lane := 1020, base := stockpotSize - 8192 + vOffset c, recipe := 0, version := 1, num := 0,
    core := accCore (on stkDev).dev (stockpotSize - 8192 + vOffset c), data := [] }

theorem wit_VerbsServed_accept :
    (∀ c ∈ [verbCell ocMEM_PUT 0 0 64 8128 0, verbCell ocMEM_PUT 0 0 1 8191 0, verbCell ocMEM_GET 0 0 4096 4096 0,
       verbCell ocMEM_ACC 0 0 64 8128 0],
     let v := verbAt c
     let s := on (stkDev ++ [setMidQueue 1 [v]])
     midQueue s.dev 1 = [v] ∧ accepting s.dev Page.stk = true ∧ heldByAcc s.dev v.base (verbExtent v.cell) = false ∧
       vLen v.cell ≤ 4096 ∧ linePoisoned s.dev v.base = false ∧ MayAnswer 1 v.cell s) ∧
    (let v := { verbAt (verbCell ocMEM_GET 0 0 64 4096 0) with data := [(0, [7], false)] }
     let s := on (stkDev ++ [setGetQueue 1 [v]])
     getQueue s.dev 1 = [v] ∧ (roomIn s.dev (svcMem 1) 3).isSome = true ∧ v.data ≠ []) := by
  unfold MayAnswer; decide +kernel

theorem wit_AccumulatesAndFences :
    (let v := verbAt (verbCell ocMEM_ACC 0 0 64 8128 0)
     let s := on (stkDev ++ [runs (Page.coreBlock (v.core / 25)), fun d => { d with stk := { d.stk with accs := [v] } }])
     v.core < 800 ∧ s.dev.stk.accs.find? (fun x => verbCore s.dev x == v.core) = some v ∧ coreWorks s.dev v.core = true ∧
       MayAnswer (midOf v.base) v.cell s ∧ anyPoisoned s.dev v.base (accSpan (vFmt v.cell)) = false) ∧
    (∀ n ∈ [0, 1],
     let f : Fence := { source := 5, msgid := 65535, count := n, cell := verbCell ocMEM_FENCE 0 0 0 0 n, lane := 1020, tick := 0 }
     let s := at' 1600000000000 (stkDev ++ [fun d => { d with stk := { d.stk with fences := [f] } }])
     oldestFence s.dev 5 65535 = some f ∧ (roomIn s.dev (svcMem 0) 3).isSome = true ∧ trackCount s.dev (fenceKey f) = 0 ∧
       rd s.dev Page.stk Reg.STK_STK_CFG_FENCE_TIMEOUT ≠ 0 ∧
       elapsed s.now f.tick (rd s.dev Page.stk Reg.STK_STK_CFG_FENCE_TIMEOUT * 1000) = true) := by
  unfold MayAnswer; decide +kernel

theorem wit_StockpotReached :
    serviceStart (on []).dev ≤ 480 * 2 ^ 30 - 1 ∧ rdWord (on []).dev Page.stk 0x018 = 0 ∧
      rd (on []).dev Page.stk Reg.STK_SCRUB_HOURS ≠ 0 ∧
    (let s := on [wr Page.stk Reg.STK_WIN_BASE_GIB 416]
     pageState s.dev Page.stk ≠ stFailed ∧ rd s.dev Page.stk Reg.STK_WIN_BASE_GIB * 2 ^ 30 + (2 ^ 36 - 1) + 1 = stockpotSize ∧
       s.dev.stk.accs = [] ∧ linePoisoned s.dev (stockpotSize - 1) = false ∧
       serviceStart s.dev ≤ stockpotSize - 1) ∧
    (let s := on [wr Page.stk Reg.STK_WIN_CTL_SVC_ONLY 1, wr Page.stk Reg.STK_WIN_BASE_GIB 0]
     pageState s.dev Page.stk ≠ stFailed ∧ rdBit s.dev Page.stk Reg.STK_WIN_CTL_SVC_ONLY = true ∧
       rd s.dev Page.stk Reg.STK_WIN_BASE_GIB * 2 ^ 30 + 0 < serviceStart s.dev) := by decide +kernel


/-! ### Witnesses: time and power -/

theorem noneHanded_on (l : List (Dev → Dev)) (n : Nat) (h : (at' n l).dev.tim.fireAt = []) : NoneHanded (at' n l) := by
  intro i _
  unfold fireTime
  rw [h]
  rfl

theorem wit_TimeStepsAndRates :
    (let s := at' 0 [wr Page.tim Reg.PAGE_OWNER_OWNER 1]
     Owns .inband Page.tim s ∧ s.dev.tim.fireAt = [] ∧ withinLimit s.dev (stepValue s.dev.tim.adjNs 65535) = true) ∧
    (let s := at' 0 [fun d => { d with tim := { d.tim with adjNs := 0x80000000 } }]
     Owns .pcie Page.tim s ∧ s.dev.tim.fireAt = [] ∧ withinLimit s.dev (stepValue s.dev.tim.adjNs 0) = false) ∧
    (let s := at' 0 [wr Page.tim Reg.TIM_TIM_CFG_SERVO_EN 1, wr Page.tim Reg.TIM_TIM_CFG_ROOT 0]
     servoOn s.dev = true ∧ isRoot s.dev = false ∧ rdBit s.dev Page.tim Reg.TIM_TIM_STAT_HOLDOVER = false ∧
       s.dev.tim.fireAt = [] ∧ withinLimit s.dev (BitVec.ofNat 48 (2 ^ 47)).toInt = false ∧
       withinLimit s.dev (BitVec.ofNat 48 (2 ^ 48 - 1)).toInt = true) := by unfold Owns; decide +kernel

/-- A TIME cell of a version, with FLAGS and an echo of a TSEQ. -/
def timeBits (ver flags seq : Nat) : Cell :=
  reseal (mkCell 0 7 ocTIME 0 0 0 ([BitVec.ofNat 8 ver, BitVec.ofNat 8 flags] ++ List.replicate 12 0 ++ bytesBE 2 seq))

theorem wit_TimeSharedAndTriggered :
    (let s := on [setLinkState 1022 lsUp, wr Page.tim Reg.TIM_TIM_CFG_TX_EN 1]
     isPort s.dev 1022 = true ∧ portUp s.dev 1022 = true ∧ (s.dev.port 1022).suspended = false ∧
       rdBit s.dev Page.tim Reg.TIM_TIM_CFG_TX_EN = true) ∧
    (let f := framedOf (timeBits 2 0 0)
     let s := on [withFramed 1022 [f]]
     (s.dev.port 1022).framed.find? (fun f => isTime f.cell) = some f ∧ pb f.cell 0 0 ≠ 1) ∧
    (let f := framedOf (timeBits 1 0xFF 65535)
     let s := on [withFramed 1022 [f], updPort 1022 (fun p => { p with timeSent := 1 })]
     (s.dev.port 1022).framed.find? (fun f => isTime f.cell) = some f ∧ pb f.cell 0 0 = 1 ∧ tcFlag f.cell 7 = true ∧
       tcFlag f.cell 5 = true ∧ ((s.dev.port 1022).tseq + 65536 - pb f.cell 14 15) % 65536 = 1 ∧
       (s.dev.port 1022).timeSent = 1) ∧
    (let s := at' 1600000 [fun d => { d with tim := { d.tim with okTick := some 0 } }, wr Page.tim Reg.TIM_TIM_CFG_SERVO_EN 1]
     s.dev.tim.okTick = some 0 ∧ servoOn s.dev = true ∧ elapsed s.now 0 1000000 = true) ∧
    (let s := at' (2 ^ 40) [wr Page.tim Reg.TIM_TIM_CFG_ROOT 0]
     isRoot s.dev = false ∧ rdBit s.dev Page.tim Reg.TIM_TIM_STAT_HOLDOVER = false ∧
       elapsed s.now (s.dev.tim.syncTick.getD 0) (holdTime s.dev) = true) ∧
    (let s := on [wr Page.tim Reg.TIM_TIM_CFG_PPS_OUT_EN 1]
     rdBit s.dev Page.tim Reg.TIM_TIM_CFG_PPS_OUT_EN = true ∧ (fabricNs s.dev s.now + 2) % 1000000000 ≤ 4) ∧
    (let s := on [setTrigWords 63 [0x86000001, 0, 0, 0, 0x10000000, 0, 0]]
     trigState (trigWords s.dev 63) = 1 ∧ word64 (trigWords s.dev 63) 1 ≤ fabricNs s.dev s.now + 10000) ∧
    (let s := on [setTrigWords 63 [0xC6000001, 0, 0, 0, 0x20000000, 0, 0], setFireTime 63 (some (0, true))]
     fireTime s.dev 63 = some (0, true) ∧ trigState (trigWords s.dev 63) = 2 ∧ 0 ≤ fabricNs s.dev s.now ∧
       (trigWords s.dev 63).length = 7 ∧ trigAction (trigWords s.dev 63) = 6 ∧
       pageState s.dev Page.tim ≠ stAborting) ∧
    (let s := on [setTrigWords 63 [0xC6000001, 0, 0, 10000, 0x20000000, 0, 0], setFireTime 63 (some (0, true))]
     fireTime s.dev 63 = some (0, true) ∧ trigState (trigWords s.dev 63) = 2 ∧ 0 ≤ fabricNs s.dev s.now ∧
       (trigWords s.dev 63).length = 7 ∧ trigAction (trigWords s.dev 63) = 6 ∧
       pageState s.dev Page.tim ≠ stAborting) := by decide +kernel

/-- A power measurement of an interval. -/
def sample0 : PowerSample :=
  { ladle := [], core := [], tile := [], d2d := 0, memory := 0, mgt := 0, matrix := 0, memDemand := 0 }

theorem wit_PowerIsBudgeted :
    (voruirRuns (on []).dev = true ∧ pmcWorks (on []).dev = true) ∧
    (voruirRuns (on [fun d => { d with mgt := { d.mgt with failedPairs := [0, 1] } }]).dev = false) ∧
    (let s := on [fun d => { d with pmc := { d.pmc with missed := 5 } }, wr (Page.region 7) Reg.LDL_REGION_STAT_LP 6]
     5 ≤ s.dev.pmc.missed ∧ (s.dev.rpwr 7).target = none ∧ lpOf s.dev 7 ≠ 7) ∧
    (let s := on [updRpwr 7 (fun x => { x with target := some 7 })]
     changeFree s.dev 7 = true ∧ (s.dev.rpwr 7).target = some 7) := by decide +kernel

theorem wit_DroopsAndHeat :
    (droopActive (on []).dev 7 = false) ∧
    (let s := at' 3200 [wr Page.pmc Reg.PMC_DROOP_STAT_ACTIVE 0x80]
     droopActive s.dev 7 = true) ∧
    (let s := at' 3200 [updRpwr 7 (fun x => { x with droopEnd := some 0, held := true })]
     (s.dev.rpwr 7).droopEnd = some 0 ∧ (s.dev.rpwr 7).held = true ∧ droopActive s.dev 7 = false ∧
       elapsed s.now 0 2000 = true) ∧
    (rd (on []).dev Page.pmc (trimFd 9) < 8) ∧
    (∀ x ∈ [7, 8, 9], 8 ≤ rd (on [wr Page.pmc (trimFd x) 8]).dev Page.pmc (trimFd x)) ∧
    throttleC (on []).dev ≤ 127 ∧ (-128 : Int) < throttleC (on []).dev - 3 ∧
    ((rd (on []).dev Page.pmc Reg.PMC_TEMP_CFG_WARN : Nat) : Int) ≤ 127 := by decide +kernel


/-! ### Witnesses: the management channel -/

/-- An MGMT cell from a device: KIND, whether it is for the host, SESSION, SEQ and what follows. -/
def mgmtOf (kind : Nat) (host : Bool) (session seq : Nat) : Cell :=
  reseal (mkCell homeCoord 7 ocMGMT farCoord 0 0
    ([BitVec.ofNat 8 kind, if host then 0x80 else 0, BitVec.ofNat 8 session, 0] ++ bytesBE 8 seq))

def waitsMgt (c : Cell) (lane : Nat) : Dev → Dev :=
  fun d => { d with mgt := { d.mgt with inbox := [boxOf c lane] } }

/-- A session opened for a port, established or not. -/
def sessionAt (lane : Nat) (est : Bool) : Session :=
  { Session.closed with opened := true, established := est, port := lane, peer := farCoord, transcript := [1, 2], tick := 0 }

/-- Slot 2047 of the TX ring: DST, the port and the first byte of the payload. -/
def ringSlot (via : Nat) : Dev → Dev := setBar4 (128 * 2047) (bytesBE 4 farCoord ++ bytesBE 2 via ++ [0, 0, 5])

def txReady : List (Dev → Dev) :=
  [runs Page.mgt, runs Page.voq, wrBit Page.mgt Reg.MGT_RELAY_CTL_RELAY_EN true, wr Page.mgt Reg.MGT_MBX_TX_TAIL_PTR 2047,
   wr Page.mgt Reg.MGT_MBX_TX_HEAD_PTR 0]

def upPort (lane : Nat) : List (Dev → Dev) := [runs (Page.lnk lane), setLinkState lane lsUp]

theorem wit_RelayRings :
    (let s := on []
     Owns .pcie Page.mgt s ∧ 2047 < 2048) ∧
    (let s := on (txReady ++ upPort 1022 ++ [ringSlot 1022])
     let via := natOfBE (((bar4Bytes s.dev (128 * 2047) 104).drop 4).take 2)
     relayOn s.dev = true ∧ accepting s.dev Page.mgt = true ∧ rd s.dev Page.mgt Reg.MGT_MBX_TX_TAIL_PTR = 2047 ∧
       rd s.dev Page.mgt Reg.MGT_MBX_TX_HEAD_PTR ≠ 2047 ∧ isPort s.dev via = true ∧ portUp s.dev via = true ∧
       (roomIn s.dev (svcMgt (dieOf via)) 7).isSome = true) ∧
    (let s := on (txReady ++ [ringSlot 1023])
     let via := natOfBE (((bar4Bytes s.dev (128 * 2047) 104).drop 4).take 2)
     relayOn s.dev = true ∧ accepting s.dev Page.mgt = true ∧ rd s.dev Page.mgt Reg.MGT_MBX_TX_TAIL_PTR = 2047 ∧
       rd s.dev Page.mgt Reg.MGT_MBX_TX_HEAD_PTR ≠ 2047 ∧ (isPort s.dev via && portUp s.dev via) = false) ∧
    (let b := boxOf (mgmtOf kDATA true 0 0) 1022
     let s := on [runs Page.mgt, waitsMgt b.cell 1022]
     accepting s.dev Page.mgt = true ∧ s.dev.mgt.inbox = [b] ∧ toHost b.cell = true ∧ relayOn s.dev = false) ∧
    (let b := boxOf (mgmtOf kDATA true 0 0) 1022
     let s := on [runs Page.mgt, waitsMgt b.cell 1022, wrBit Page.mgt Reg.MGT_RELAY_CTL_RELAY_EN true,
       wr Page.mgt Reg.MGT_MBX_RX_HEAD_PTR 2047]
     accepting s.dev Page.mgt = true ∧ s.dev.mgt.inbox = [b] ∧ toHost b.cell = true ∧ relayOn s.dev = true ∧
       (rd s.dev Page.mgt Reg.MGT_MBX_RX_HEAD_PTR + 1) % 2048 = rd s.dev Page.mgt Reg.MGT_MBX_RX_TAIL_PTR) ∧
    (let b := boxOf (mgmtOf kDATA true 0 0) 1022
     let s := on [runs Page.mgt, waitsMgt b.cell 1022, wrBit Page.mgt Reg.MGT_RELAY_CTL_RELAY_EN true,
       wr Page.mgt Reg.MGT_MBX_RX_HEAD_PTR 2047, wr Page.mgt Reg.MGT_MBX_RX_TAIL_PTR 2047]
     accepting s.dev Page.mgt = true ∧ s.dev.mgt.inbox = [b] ∧ toHost b.cell = true ∧ relayOn s.dev = true ∧
       (rd s.dev Page.mgt Reg.MGT_MBX_RX_HEAD_PTR + 1) % 2048 ≠ rd s.dev Page.mgt Reg.MGT_MBX_RX_TAIL_PTR) := by
  unfold Owns; decide +kernel

theorem wit_SessionsOpen :
    (let b := boxOf (mgmtOf kHELLO false 0 0) 1022
     let s := on ([runs Page.mgt, runs Page.voq, waitsMgt b.cell 1022, wrBit Page.mgt Reg.MGT_SESSION_CFG_INBAND_EN false] ++
       upPort 1022)
     MgmtHead kHELLO b [] s ∧ commitPending s.dev Page.mgt = false ∧
       rdBit s.dev Page.mgt Reg.MGT_SESSION_CFG_INBAND_EN = false ∧ ReplyFree b.source s) ∧
    (let b := boxOf (mgmtOf kHELLO false 0 0) 1022
     let s := on ([runs Page.mgt, runs Page.voq, waitsMgt b.cell 1022, wrBit Page.mgt Reg.MGT_SESSION_CFG_INBAND_EN true] ++
       (List.range 8).map (fun i => setSession i (sessionAt 1022 true)))
     MgmtHead kHELLO b [] s ∧ commitPending s.dev Page.mgt = false ∧ freeSessions s.dev = [] ∧ ReplyFree b.source s) ∧
    (let b := boxOf (mgmtOf kHELLO false 0 0) 1022
     let s := on ([runs Page.mgt, runs Page.voq, waitsMgt b.cell 1022, wrBit Page.mgt Reg.MGT_SESSION_CFG_INBAND_EN true] ++
       upPort 1022)
     MgmtHead kHELLO b [] s ∧ commitPending s.dev Page.mgt = false ∧
       rdBit s.dev Page.mgt Reg.MGT_SESSION_CFG_INBAND_EN = true ∧ freeSessions s.dev ≠ [] ∧
       (s.dev.units (svcMgt (dieOf b.source)) 7).minimum + 2 ≤ rmin s.dev 7) ∧
    (∀ keys ∈ [[], [List.replicate 32 (7 : Byte)]],
     let b := boxOf (mgmtOf kAUTH false 7 0) 1022
     let s := on [runs Page.mgt, waitsMgt b.cell 1022, setSession 7 (sessionAt 1022 false),
       fun d => { d with mgt := { d.mgt with ownerKeys := keys } }]
     MgmtHead kAUTH b [] s ∧ sessionOf b.cell = 7 ∧ (s.dev.session 7).opened = true ∧ (s.dev.session 7).established = false) := by
  unfold MgmtHead ReplyFree; decide +kernel

/-- No session opens the cell: its number, its state or its SEQ is wrong. -/
theorem openCell_none (d : Dev) (c : Cell) (h : ¬ (sessionOf c < 8 ∧ (d.session (sessionOf c)).established = true ∧
    (d.session (sessionOf c)).seqIn < seqOf c)) : openCell d c = none := if_neg h

/-- Where a seal opens, a cell of an established session with a later SEQ opens. -/
theorem openCell_some (d : Dev) (c : Cell) (plain : List Byte) (h : sessionOf c < 8 ∧
    (d.session (sessionOf c)).established = true ∧ (d.session (sessionOf c)).seqIn < seqOf c)
    (g : ∀ key nonce aad text tag, Config.gcmOpen key nonce aad text tag = some plain) : openCell d c = some plain :=
  (if_pos h).trans (g _ _ _ _ _)

theorem wit_SessionsClose :
    (let s := at' 160000000 [setSession 7 (sessionAt 1022 false)]
     (s.dev.session 7).opened = true ∧ (s.dev.session 7).established = false ∧
       elapsed s.now (s.dev.session 7).tick 100000000 = true) ∧
    (let s := at' 1600000000 [setSession 7 (sessionAt 1022 true), wr Page.mgt Reg.MGT_SESSION_CFG_IDLE_S 1]
     (s.dev.session 7).opened = true ∧ (s.dev.session 7).established = true ∧
       rd s.dev Page.mgt Reg.MGT_SESSION_CFG_IDLE_S ≠ 0 ∧
       elapsed s.now (s.dev.session 7).tick (rd s.dev Page.mgt Reg.MGT_SESSION_CFG_IDLE_S * 1000000000) = true) ∧
    (let b := boxOf (mgmtOf kCLOSE false 0xFF 1) 1022
     let s := on [runs Page.mgt, waitsMgt b.cell 1022]
     MgmtHead kCLOSE b [] s ∧ openCell s.dev b.cell = none) := by
  refine ⟨by decide +kernel, by decide +kernel, by unfold MgmtHead; decide +kernel, openCell_none _ _ ?_⟩
  decide +kernel

theorem wit_SessionCellsOpen :
    (∀ kind ∈ [kDATA, kCLOSE],
     let c := mgmtOf kind false 7 1
     let s := on [setSession 7 (sessionAt 1022 true)]
     sessionOf c < 8 ∧ (s.dev.session (sessionOf c)).established = true ∧ (s.dev.session (sessionOf c)).seqIn < seqOf c) := by
  decide +kernel

/-- The DATA records of the clauses: one stored, one of an unlisted OP, one that writes a word. -/
theorem wit_RequestsPerformed :
    (let b := boxOf (mgmtOf kDATA false 7 1) 1022
     let x := { sessionAt 1022 true with responses := [(0xFFFF, [])] }
     let s := on ([runs Page.mgt, runs Page.voq, waitsMgt b.cell 1022, setSession 7 x] ++ upPort 1022)
     MgmtHead kDATA b [] s ∧ sessionOf b.cell = 7 ∧ (roomIn s.dev (svcMgt (dieOf x.port)) 7).isSome = true ∧
       (x.responses.find? (fun r => decide (r.1 = (parseRequest [0xFF, 0xFF, 2, 1]).req))) ≠ none ∧
       (x.responses.find? (fun r => decide (r.1 = (parseRequest [0, 1, 2, 1]).req))) = none) ∧
    opSWRITE < (parseRequest [0, 1, 5, 1]).op ∧
    (parseRequest [0, 1, 2, 1]).op = opWRITE ∧ (parseRequest [0, 1, 2, 1]).n = 1 ∧
    (let b := boxOf (mgmtOf kDATA false 8 1) 1022
     let s := on [runs Page.mgt, waitsMgt b.cell 1022]
     MgmtHead kDATA b [] s ∧ ¬ (sessionOf b.cell < 8 ∧ (s.dev.session (sessionOf b.cell)).established = true ∧
       (s.dev.session (sessionOf b.cell)).seqIn < seqOf b.cell)) := by
  unfold MgmtHead; decide +kernel

theorem wit_EventsSent :
    (let s := on ([wr Page.dbg Reg.PAGE_OWNER_OWNER 1, wrWord Page.dbg 0x010 1, wrWord Page.dbg 0x014 1, setSession 7 (sessionAt 1022 true),
       wr Page.mgt Reg.MGT_EVENT_SESSION_VALID 1, wr Page.mgt Reg.MGT_EVENT_SESSION_SESSION 7] ++ upPort 1022)
     Page.dbg.exists = true ∧ inbandRequests s.dev Page.dbg = true ∧
       sget (konst false) s.dev.ctl.eventSent Page.dbg.num = false ∧ eventSession s.dev = some 7 ∧
       ReplyFree (s.dev.session 7).port s) ∧
    (Owns .inband Page.mgt (on [wr Page.mgt Reg.PAGE_OWNER_OWNER 1]) ∧ (7 < 8)) ∧
    inbandPages (on []).dev = [] := by
  unfold ReplyFree Owns; decide +kernel

/-! ### Witnesses: security, debug, boot, journal -/

theorem wit_SecurityCommands :
    (SecReady .inband (on [wr Page.mgt Reg.PAGE_OWNER_OWNER 1])) ∧ (SecReady .pcie (on [])) ∧
    (∀ n ∈ [0, 1, 3, 4], let s := on [fun d => { d with mgt := { d.mgt with ownerKeys := List.replicate n [1] } }]
     SecReady .pcie s ∧ s.dev.mgt.ownerKeys.length = n) ∧
    (let s := on [fun d => { d with mgt := { d.mgt with secPend := some (3, 7) } }]
     s.dev.mgt.secPend = some (3, 7)) := by
  unfold SecReady Owns; decide +kernel

theorem wit_DebugUnlocks :
    (let s := on [setBar4 0x90000 (bytesLE 8 1 ++ List.replicate 32 9 ++ [5, 1])]
     SecReady .pcie s ∧ natOfLE ((secIn s.dev 0 108).drop 40 |>.take 1) = 5 ∧ s.dev.mgt.challenge = none) := by
  unfold SecReady Owns; decide +kernel

/-- A token of SIGNER 1 and every bit of SCOPE for this device's serial number and a challenge of 32 nines. -/
def tokenOne : List Byte := bytesLE 8 Config.serial.toNat ++ (List.replicate 32 9 ++ [7, 1, 0, 0] ++ List.replicate 64 0)

/-- That token passes where the owner's signature verifies, and so the clause of the tokens that pass is not empty. -/
theorem wit_TokenPasses (h : ∀ key msg sig, Config.edVerify key msg sig = true) :
    tokenFails { Dev.reset with mgt := { Dev.reset.mgt with ownerKeys := [[1]], challenge := some (List.replicate 32 9) } }
      tokenOne = none := by
  have h1 : tokenOne.take 8 = bytesLE 8 Config.serial.toNat := rfl
  have h2 : (tokenOne.drop 8).take 32 = List.replicate 32 9 := rfl
  have h3 : natOfLE ((tokenOne.drop 41).take 1) = 1 := rfl
  unfold tokenFails
  simp [h1, h2, h3, h, currentOwner]

/-- Debug is unlocked with every bit of SCOPE. -/
def unlocked : List (Dev → Dev) := [wr Page.mgt Reg.MGT_DBG_STAT_UNLOCKED 1, wr Page.mgt Reg.MGT_DBG_STAT_SCOPE 7]

theorem wit_DebugPage :
    (let s := on unlocked
     Owns .pcie Page.dbg s ∧ dbgOpen s.dev = true ∧ s.dev.mgt.dbgCmd = none ∧ dbgScope s.dev 2 = true) ∧
    (Owns .pcie Page.dbg (on []) ∧ dbgOpen (on []).dev = false) ∧
    (let s := on [wr Page.mgt Reg.MGT_DBG_STAT_UNLOCKED 1, wr Page.mgt Reg.MGT_DBG_STAT_SCOPE 1]
     Owns .pcie Page.dbg s ∧ dbgOpen s.dev = true ∧ dbgScope s.dev 2 = false) ∧
    (∀ c ∈ [({ write := true, key := dbgKey 23 2 0xFFFFFF, data := 5, reason := 0, src := .pcie } : DbgCmd),
        { write := false, key := 0, data := 0, reason := 0, src := .pcie }, { write := false, key := 0, data := 0, reason := 3, src := .inband }],
     let s := on [fun d => { d with mgt := { d.mgt with dbgCmd := some c } }]
     s.dev.mgt.dbgCmd = some c ∧ c.reason < 16) := by
  unfold Owns; decide +kernel

/-- The headers' SVN of both slots, so that slot B goes first. -/
def images : Dev → Dev := fun d => { d with mgt := { d.mgt with
  flash := [(4, 1), (5, 0), (slotBase 1 + 4, 2), (slotBase 1 + 5, 0)] } }

theorem wit_BootVerifiesImages :
    (∀ t ∈ [0, 1], let s := on [wr Page.mgt Reg.MGT_BOOT_STAT_STAGE 1, images, fun d => { d with mgt := { d.mgt with bootTried := t } }]
     rd s.dev Page.mgt Reg.MGT_BOOT_STAT_STAGE = 1 ∧ s.dev.rst.warmHeld = false ∧ s.dev.rst.pwrGood = true ∧
       (1 - t = (if s.dev.mgt.bootTried = 0 then firstSlot s.dev else 1 - firstSlot s.dev)) ∧ s.dev.mgt.measure ≠ []) := by
  decide +kernel

theorem wit_JournalKeepsRecords :
    (let h : Half := { recs := [{ type := 1, delete := false, seq := 0, key := 5, value := [9], good := true }], gen := 3, fill := halfSize }
     let s := on [fun d => { d with mgt := { d.mgt with half0 := h, activeHalf := 0 } }]
     3 * halfSize ≤ 4 * (activeHalf s.dev).fill ∧ (standing (activeHalf s.dev) 1 5).map JRec.value = some [9]) := by
  decide +kernel

/-! ### Witnesses: resets and faults -/

theorem wit_WarmResetKeeps :
    (let s := on []
     s.dev.rst.perst = false ∧ s.dev.rst.pwrGood = true ∧ (∀ l, l < 1024 → portUp s.dev l = false) ∧
       anyDeparting s.dev = false ∧ s.dev.stk.accs = []) ∧
    (let s := on [fun d => { d with rst := { d.rst with pwrGood := false } }]
     s.dev.rst.perst = false ∧ s.dev.rst.pwrGood = false) ∧
    (let s := on [fun d => { d with rst := { d.rst with perst := true } }]
     s.dev.rst.perst = true ∧ s.dev.rst.warmDue = false ∧ s.dev.rst.warmHeld = false) ∧
    (let s := at' 160000 [fun d => { d with rst := { d.rst with perst := true, warmHeld := true } }]
     s.dev.rst.perst = true ∧ s.dev.rst.warmDue = false ∧ elapsed s.now s.dev.rst.perstTick 100000 = true) ∧
    (let s := at' 159999 [fun d => { d with rst := { d.rst with perst := true, warmHeld := true } }]
     s.dev.rst.perst = true ∧ s.dev.rst.warmDue = false ∧ s.dev.rst.warmHeld = true ∧
       elapsed s.now s.dev.rst.perstTick 100000 = false) := by decide +kernel

theorem wit_ResetsStart :
    (let s := on (upPort 1022)
     commitPending s.dev Page.pkg = false ∧ Owns .pcie Page.pkg s ∧ resetting s.dev = false ∧ isPort s.dev 1022 = true ∧
       portUp s.dev 1022 = true) ∧
    (let s := on [setPhase 1]
     commitPending s.dev Page.pkg = false ∧ Owns .pcie Page.pkg s ∧ resetting s.dev = true) ∧
    (let s := on [wr Page.pkg Reg.PAGE_OWNER_OWNER 1]
     commitPending s.dev Page.pkg = false ∧ Owns .inband Page.pkg s) ∧
    (∀ ty ∈ [1, 2], let s := at' 16000 [fun d => { d with rst := { d.rst with delayed := [(ty, 0), (1, 5)] } }]
     s.dev.rst.delayed = (ty, 0) :: [(1, 5)] ∧ elapsed s.now 0 10000 = true ∧ resetting s.dev = false) := by
  unfold Owns; decide +kernel

theorem wit_ResetsRunAndEnd :
    (let s := at' 6400 [setLinkState 1022 lsUp, updPort 1022 (fun p => { p with departing := .sending, departTick := 0 })]
     isPort s.dev 1022 = true ∧ linkState s.dev 1022 ≠ lsDisabled ∧ (s.dev.port 1022).dark = false ∧
       ackWaitOver s.now (s.dev.port 1022) = true ∧ drainHolds s.dev 1022 = false ∧
       onlyTileResets s.dev 1022 = false ∧ s.dev.rst.warmDue = false) ∧
    (let s := at' 8000 [setPhase 1, wr Page.pkg Reg.PKG_RESET_STAT_LAST 2]
     resetting s.dev = true ∧ resetPhase s.dev ≠ 3 ∧ rd s.dev Page.pkg Reg.PKG_RESET_STAT_LAST = 2 ∧ resetElapsed s 5000 = true) ∧
    (let s := at' (1600 * 2 ^ 20) [setPhase 1, wr Page.pkg Reg.PKG_RESET_STAT_LAST 3]
     resetting s.dev = true ∧ resetPhase s.dev ≠ 3 ∧ rd s.dev Page.pkg Reg.PKG_RESET_STAT_LAST ≠ 2 ∧
       resetElapsed s (rd s.dev Page.pkg Reg.PKG_RESET_CFG_DRAIN_US * 1000) = true) := by decide +kernel

theorem wit_HotResetEnds :
    (let s := on [setPhase 3, setPageState Page.fwd stAborting]
     resetPhase s.dev = 3 ∧ failStopped s.dev = false ∧ Page.fwd ∈ scopePages s.dev ∧ Page.fwd ∉ s.dev.rst.enables) ∧
    (let s := on [setPhase 3, wr Page.pkg Reg.PKG_CHIP_STAT_FAIL_STOP 1,
       fun d => { d with rst := { d.rst with enables := [Page.fwd] } }]
     resetPhase s.dev = 3 ∧ Page.pkg ∉ [Page.voq] ∧ Page.voq ∈ scopePages s.dev ∧ Page.fwd ∈ scopePages s.dev ∧
       Page.fwd ∈ s.dev.rst.enables ∧ Page.fwd ∉ [Page.voq]) := by
  decide +kernel

theorem wit_EnablesWrittenBack :
    (let s := on [wrBit Page.fwd Reg.PAGE_CTL_ENABLE true]
     Owns .pcie Page.pkg s ∧ commitPending s.dev Page.pkg = false ∧ resetting s.dev = false ∧
       Page.fwd ∈ scopePages s.dev ∧ rdBit s.dev Page.fwd Reg.PAGE_CTL_ENABLE = true) := by
  unfold Owns; decide +kernel

theorem wit_FunctionAndPower :
    let s := on [fun d => { d with ctl := { d.ctl with d3hot := true, busMaster := true, msixEnable := true } },
      setBar4 0x8000C [0, 0, 0, 0]]
    vectorOpen s.dev 0 = false ∧ s.dev.ctl.d3hot = true ∧ (on []).dev.rst.pwrGood = true := by decide +kernel

theorem wit_UnitsFenced :
    regionFenced (on []).dev 7 = false ∧ (on []).dev.rst.midFailed.contains 1 = false ∧
    pageState (on []).dev Page.stk ≠ stAborting ∧
    (on []).dev.mgt.failedPairs.contains 0 = false ∧ (on []).dev.mgt.activePair = 0 ∧ pairRuns (on []).dev 1 = true ∧
    (let s := on [fun d => { d with mgt := { d.mgt with failedPairs := [0], activePair := 1 } }]
     s.dev.mgt.failedPairs.contains 1 = false ∧ s.dev.mgt.failedPairs.contains (1 - 1) = true ∧
       pageState s.dev Page.mgt ≠ stAborting) := by decide +kernel

theorem wit_ChipFailsStop :
    (failStopped (on []).dev = false ∧ resetting (on []).dev = false ∧ (on []).dev.rst.pwrGood = true ∧
      pageState (on []).dev Page.pkg ≠ stAborting) ∧
    failStopped (on [wr Page.pkg Reg.PKG_CHIP_STAT_FAIL_STOP 1]).dev = true ∧
    (on [fun d => { d with rst := { d.rst with pwrGood := false } }]).dev.rst.pwrGood = false := by decide +kernel

/-! ### Witnesses: telemetry -/

theorem wit_CapturesShown :
    (∀ v ∈ [0xC0000000, 0xCE0001B0], ∀ b ∈ [false, true],
     let ws : List W32 := [BitVec.ofNat 32 v, 0xFFFFFFFE, 0xFFFFFFFF]
     let s := on [tset Page.tel 0 255 ws, wrBit Page.tel Reg.TEL_CAPTURE_STAT_BUSY b]
     Owns .pcie Page.tel s ∧ 3 ≤ ws.length ∧ s.dev.ctl.tables = [(tblKey Page.tel 0 255, ws)] ∧ wbit ws 0 31 = true ∧
       wbit ws 0 30 = true ∧ rdBit s.dev Page.tel Reg.TEL_CAPTURE_STAT_BUSY = b ∧ word64 ws 1 + 1 < 2 ^ 64) ∧
    wbits [(0xCE0001B0 : W32)] 0 27 0 = Page.tel.base + Reg.TEL_CNT.off + 48 := by
  unfold Owns; decide +kernel

/-- The ring holds the last number of records that its counts allow. -/
def ringAt (mib n free : Nat) : List (Dev → Dev) :=
  [runs Page.tel, wr Page.tel Reg.TEL_RING_CFG_SIZE_MIB mib, wr Page.tel Reg.TEL_RING_WR_RECORDS n,
   wr Page.tel Reg.TEL_RING_RD_RECORDS (n + 2 ^ 32 - mib * 16384 + free),
   fun d => { d with tel := { d.tel with waitB := [List.replicate 56 1] } }]

theorem wit_RecordsRinged :
    (∀ free ∈ [0, 1], ∀ mode ∈ [false, true],
     let s := on (ringAt 1 (2 ^ 32 - 1) free ++ [wrBit Page.tel Reg.TEL_RING_CFG_MODE mode, wr Page.tel Reg.TEL_RING_THRESH_RECORDS 16384])
     dieBuffer s.dev 1 = [List.replicate 56 1] ∧ (free = 0 ↔ ringSize s.dev ≤ ringFill s.dev) ∧
       rdBit s.dev Page.tel Reg.TEL_RING_CFG_MODE = mode ∧ ringWr s.dev = 2 ^ 32 - 1) ∧
    (∀ x ∈ [(stIdle, (0x04000000 : W32)), (stIdle, 0x00010400), (stRunning, 0)],
     let s := on [setPageState Page.tel x.1]
     Owns .pcie Page.tel s ∧ (quiescedOrIdle s.dev Page.tel = decide (x.1 = stIdle))) ∧
    (1 ≤ bitsOf (0x04000000 : W32) 26 16 ∧ bitsOf (0x04000000 : W32) 9 0 + bitsOf (0x04000000 : W32) 26 16 ≤ 1024) ∧
    (1 ≤ bitsOf (0x04000001 : W32) 26 16 ∧ bitsOf (0x04000001 : W32) 26 16 ≤ 1024 ∧
      1024 < bitsOf (0x04000001 : W32) 9 0 + bitsOf (0x04000001 : W32) 26 16) := by
  unfold Owns; decide +kernel

/-! ### Values the spec works out -/

/-- "123456789" in ASCII. -/
def digits : List Byte := [0x31, 0x32, 0x33, 0x34, 0x35, 0x36, 0x37, 0x38, 0x39]

/-- R75: the check value of HCRC. -/
theorem test_crc16 : crc16 digits = 0x29B1 := by decide +kernel

/-- R90: the check value of CRC-32C. -/
theorem test_crc32c : crc32c digits = 0xE3069283 := by decide +kernel

/-- R158: the check value of the digest's CRC-64. -/
theorem test_crc64 : crc64 digits = 0x995DC9BBDF1939FA := by decide +kernel

/-- R33: LNK[37].PAGE_CTL. -/
theorem test_page_address : (Page.lnk 37).base + 0x008 = 0x05025008 := by decide

/-- The entry worked out in ch. 5: rack position 1,128 over the ports of lanes 74, 200, 390 and 510. -/
def rackEntry : List W32 := [0x8404000F, 0x1863204A, 0x000001FE, 0, 0, 0, 0]

theorem test_destination_entry :
    deValid rackEntry = true ∧ deCount rackEntry = 4 ∧ deEscIdx rackEntry = 0 ∧
    (List.range 4).map (dePin rackEntry) = [false, false, true, false] ∧
    (List.range 4).map (deMember rackEntry) = [74, 200, 390, 510] := by decide

/-- R147: the flow of hash 0x9C3E51A7 is on member 2, and on member 1 with port 195 down. -/
theorem test_hash_member :
    hashMember (on ([74, 200, 390, 510].map (fun l => setLinkState l lsUp))).dev rackEntry 0x9C3E51A7 = some 2 ∧
    hashMember (on ([74, 200, 510].map (fun l => setLinkState l lsUp))).dev rackEntry 0x9C3E51A7 = some 1 := by
  decide +kernel

/-- The block requantised to FP4 with S-E8 in ch. 10: scale 0x81, the codes, 4 underflows and 2 results to zero. -/
def workedBlock : List Acc :=
  [accFin false 5 0, accFin true 11 (-4), accFin false 21 (-4), accFin false 3 (-5), accFin false 25 (-1), accFin true 3 0] ++
    List.replicate 26 (accZero false)

theorem test_requantise :
    let q := quantise 4 1 workedBlock (List.replicate 32 none) false
    q.1 = 0x81 ∧ q.2.1 = [2, 8, 1, 0, 5, 0xA] ++ List.replicate 26 0 ∧ q.2.2.count evUNDERFLOW = 4 ∧
    q.2.2.count evTO_ZERO = 2 := by decide +kernel

/-- The scale products out of range in ch. 10: SCALE_HI with two overflows, SCALE_LO with two results to zero. -/
theorem test_scale_out_of_range :
    let hi := quantise 4 1 ([accFin false 18 210, accFin false 3 209] ++ List.replicate 30 (accZero false)) (List.replicate 32 none) false
    let lo := quantise 4 1 ([accFin false 18 (-206), accFin false 3 (-207)] ++ List.replicate 30 (accZero false)) (List.replicate 32 none) false
    hi.1 = 0xFE ∧ hi.2.1.take 2 = [7, 7] ∧ hi.2.2.contains evSCALE_HI = true ∧ hi.2.2.count evOVERFLOW = 2 ∧
    lo.1 = 0 ∧ lo.2.1.take 2 = [0, 0] ∧ lo.2.2.contains evSCALE_LO = true ∧ lo.2.2.count evTO_ZERO = 2 := by decide +kernel

/-- The INT4 coefficient expanded in ch. 10. -/
theorem test_expand : expandCode (-5) 2 0x2E66 = (0xB999, [evINEXACT]) := by decide +kernel

/-- The circuit of ch. 8: entry 3 joins port 8, lanes 16 and 17, to port 328, lanes 656 and 657. -/
theorem test_circuit_lanes :
    let s := on [tset Page.byp 0 3 ([0x84000032, 0x00004290] ++ List.replicate 10 0)]
    circLanes s.dev 3 = [16, 656] ∧ circAllLanes s.dev 3 = [16, 17, 656, 657] := by decide +kernel

end Sys2Proof.Tests
end

/-! ### What a register word reads after reset (R14) -/

namespace Sys2Proof.Machine

/-- With nothing written, a word of a page reads its reset value (R14). -/
theorem rdWord_reset (p : Page) {off : Nat} (hp : p.inst < 4096) (ho : off < 4096) :
    rdWord Dev.reset p off = p.resetWord off := by
  show sget resetWordAt [] (p.base + off) = _
  rw [sget_nil, resetWordAt, pageOf_base p off hp ho]

/-- PAGE_STAT at reset shows STATE alone: running on the pages enabled from boot (R44, R45). -/
theorem resetWord_stat (p : Page) : p.resetWord 0x00C = if p.bootEnabled then 1 else 0 := rfl

/-- PAGE_CTL at reset shows ENABLE alone (R44). -/
theorem resetWord_ctl (p : Page) : p.resetWord 0x008 = if p.bootEnabled then 1 else 0 := rfl

/-- Every other header register past PAGE_STAT holds 0 at reset (R46 to R49, R58). -/
theorem resetWord_header (p : Page) {off : Nat} {r : RegDef} (h : RegMap.hdr.find? (fun r => r.covers off) = some r)
    (hlo : 0x010 ≤ off) (hhi : off < 0x040) (h0 : fldResets r.flds = 0) : p.resetWord off = 0 := by
  have hw : ¬(p.blk = .etm ∧ 0x1A0 ≤ off ∧ off < 0x1C0) := by omega
  simp only [Page.resetWord, if_neg (by omega : ¬off = 0x000), if_neg (by omega : ¬off = 0x004),
    if_neg (by omega : ¬off = 0x008), if_neg (by omega : ¬off = 0x00C), if_neg hw, regAt_header p off r h, h0]
  rfl

theorem pageState_reset (p : Page) (hp : p.inst < 4096) :
    pageState Dev.reset p = if p.bootEnabled then stRunning else stIdle := by
  show bitsOf (rdWord Dev.reset p 0x00C) 2 0 = _
  rw [rdWord_reset p hp (by decide), resetWord_stat]
  cases p.bootEnabled <;> rfl

theorem enable_reset (p : Page) (hp : p.inst < 4096) : rdBit Dev.reset p Reg.PAGE_CTL_ENABLE = p.bootEnabled := by
  show (bitsOf (rdWord Dev.reset p 0x008) 0 0 != 0) = _
  rw [rdWord_reset p hp (by decide), resetWord_ctl]
  cases p.bootEnabled <;> rfl

theorem ownerWord_reset (p : Page) (hp : p.inst < 4096) : rdWord Dev.reset p 0x020 = 0 := by
  rw [rdWord_reset p hp (by decide), resetWord_header p rfl (by decide) (by decide) rfl]

theorem pageOwner_reset (p : Page) (hp : p.inst < 4096) : pageOwner Dev.reset p = .pcie := by
  show srcOfBit (bitsOf (rdWord Dev.reset p 0x020) 0 0) = _
  rw [ownerWord_reset p hp]; rfl

theorem ownerLock_reset (p : Page) (hp : p.inst < 4096) : rdBit Dev.reset p Reg.PAGE_OWNER_LOCK = false := by
  show (bitsOf (rdWord Dev.reset p 0x020) 8 8 != 0) = _
  rw [ownerWord_reset p hp]; rfl

theorem irqWord_reset (p : Page) (hp : p.inst < 4096) : rdWord Dev.reset p 0x010 = 0 := by
  rw [rdWord_reset p hp (by decide), resetWord_header p rfl (by decide) (by decide) rfl]

theorem errWord_reset (p : Page) (hp : p.inst < 4096) : rdWord Dev.reset p 0x018 = 0 := by
  rw [rdWord_reset p hp (by decide), resetWord_header p rfl (by decide) (by decide) rfl]

/-- Stockpot at reset: nothing listed, so canonical, and every byte reads 0 (log 3). -/
theorem resetStockpotCanonical : Claims.ResetStockpotCanonical := ⟨swf_nil memDefault, fun a => sget_nil memDefault a⟩

/-- What reset leaves on each page, and that no command, output, port, queue or context stands (R14, R45, R59, R364). -/
theorem resetState : Claims.ResetState := by
  refine ⟨fun p he => ?_, rfl, rfl, rfl, rfl, rfl, rfl⟩
  have hp : p.inst < 4096 := Page.inst_lt he
  exact ⟨pageState_reset p hp, enable_reset p hp, pageOwner_reset p hp, ownerLock_reset p hp, irqWord_reset p hp,
    errWord_reset p hp⟩

/-- Settles O6: every register word reads its reset value where nothing is listed, and the header's reset values are those
of R44, R45 and R59. -/
theorem resetLeaves : Obligations.ResetLeaves := ⟨resetStockpotCanonical, resetState⟩

end Sys2Proof.Machine


/-! ### Register accesses: a field write, the refusal of a source that is not the owner, and the read latch -/

namespace Sys2Proof.Machine

/-! #### Frames of a device update -/

theorem coreKept_onDev (f : Dev → Dev) (s : State) : CoreKept s (onDev f s) := ⟨rfl, rfl, rfl⟩

theorem tablesKept_onDev {f : Dev → Dev} {s : State} (h : (f s.dev).ctl.tables = s.dev.ctl.tables) :
    TablesKept s (onDev f s) := fun p k i => by simp only [tget, onDev_dev, h]

theorem pagesKept_onDev {f : Dev → Dev} {s : State} (but : List Page) (h : (f s.dev).ctl.regs = s.dev.ctl.regs) :
    PagesKept but s (onDev f s) := fun q off _ _ _ => rdWord_congr h q off

/-- An update of one word of a page leaves the page's other words alone. -/
theorem wordsKept_of_word {p : Page} {off : Nat} {w : W32} {s t : State}
    (h : ∀ q a, rdWord t.dev q a = if p.base + off = q.base + a then w else rdWord s.dev q a) : WordsKept p [off] s t := by
  intro a _ hne
  rw [h, if_neg (by simpa using fun e : off = a => hne (by simp [e]))]

/-- An update of one word of a page leaves every other page alone. -/
theorem pagesKept_of_word {p : Page} {off : Nat} {w : W32} {s t : State} (hp : p.inst < 4096) (ho : off < 4096)
    (h : ∀ q a, rdWord t.dev q a = if p.base + off = q.base + a then w else rdWord s.dev q a) : PagesKept [p] s t := by
  intro q a hq ha hne
  rw [h, if_neg]
  rw [Page.addr_inj p q off a hp hq ho ha]
  rintro ⟨rfl, -⟩
  exact hne (List.mem_singleton.2 rfl)

/-! #### Masks of a register's fields -/

theorem fldMask_congr {f g : Fld → Bool} {l : List Fld} (h : ∀ x ∈ l, f x = g x) : fldMask f l = fldMask g l := by
  simp only [fldMask, List.filter_congr h]

theorem fldMask_none {f : Fld → Bool} {l : List Fld} (h : ∀ x ∈ l, f x = false) : fldMask f l = 0 := by
  rw [fldMask_congr h]
  simp [fldMask]

/-- Bits of the fields that take a value at once (R10, R54). -/
def setMask (r : RegDef) : W32 :=
  fldMask (fun f => decide (f.acc = .rw) && (decide (f.cls = .L) || decide (f.cls = .Q))) r.flds

/-- Bits of the fields that are staged (R54). -/
def stageMask (r : RegDef) : W32 := fldMask (fun f => decide (f.cls = .S)) r.flds

/-! #### A field write with listed encodings and no W1C field (R10, R12, R15, R54) -/

/-- On a page idle or quiesced, no field of listed encoding is refused (R15, R54). -/
theorem writeErrs_none {v : W32} {l : List Fld} (h : ∀ f ∈ l, f.ok v = true) : writeErrs true v l = [] := by
  have hbad : ¬l.any (fun f => isWritable f && !f.ok v && (decide (f.cls = .L) || (decide (f.cls = .Q) && true))) = true := by
    rw [List.any_eq_true]
    rintro ⟨f, hf, hb⟩
    simp [h f hf] at hb
  rw [writeErrs, if_neg hbad]
  simp

/-- A field write on a page idle or quiesced whose fields all take their value: the word takes the L and Q fields written,
and the S fields are staged. -/
theorem fieldWrite_listed (src : Src) {p : Page} {off : Nat} {v : W32} {r : RegDef} {d : Dev}
    (hbits : portBits d p off = 0) (hopen : quiescedOrIdle d p = true)
    (hf : ∀ f ∈ r.flds, f.acc ≠ .w1c ∧ f.ok v = true) :
    fieldWrite src p off v r d =
      stageFields p off v r.flds (wrWord p off (merge (rdWord d p off) (setMask r) v) d) := by
  have hw1c : fldMask (fun f => decide (f.acc = .w1c)) r.flds = 0 :=
    fldMask_none fun f hm => decide_eq_false (hf f hm).1
  have hset : fldMask (takesNow true v) r.flds = setMask r :=
    fldMask_congr fun f hm => by simp [takesNow, (hf f hm).2]
  have herr : writeErrs true v r.flds = [] := writeErrs_none fun f hm => (hf f hm).2
  have hall : ∀ x : W32, x &&& 0xFFFFFFFF#32 = x := fun x => BitVec.and_allOnes
  simp [fieldWrite, hbits, hopen, hw1c, hset, herr, hall]

/-- What staging leaves alone: every register word and table, and every chapter's part. -/
theorem stageFields_keeps (p : Page) (off : Nat) (v : W32) (l : List Fld) (d : Dev) :
    (stageFields p off v l d).ctl.regs = d.ctl.regs ∧ (stageFields p off v l d).ctl.tables = d.ctl.tables ∧
      ∀ x : Part, x.same d (stageFields p off v l d) := by
  unfold stageFields
  dsimp only
  split <;> exact ⟨rfl, rfl, fun x => by cases x <;> rfl⟩

theorem stagedAt_stageFields (p : Page) (off : Nat) (v : W32) (r : RegDef) (d : Dev) (h : stageMask r ≠ 0) :
    stagedAt (stageFields p off v r.flds d) (p.base + off) = some (v &&& stageMask r) := by
  unfold stageFields
  exact (congrArg (stagedAt · (p.base + off)) (if_neg h)).trans (sget_sset_same _ _ _ _)

/-! #### The registers of XBS, STK and PMC only hold their fields -/

theorem portBits_off_links {p : Page} (off : Nat) (d : Dev) (h : p.blk ≠ .lnk) : portBits d p off = 0 := by
  simp [portBits, h]

/-- A register past the table port is the block's own. -/
theorem regWrite_block (src : Src) {p : Page} {off : Nat} (v : W32) (r : RegDef) (s : State) (h : 0x100 ≤ off) :
    regWrite src p off v r s = blockWrite src p off v r s := by
  have hport : portRegister p off = false := by
    simp only [portRegister, Bool.and_eq_false_iff, decide_eq_false_iff_not]
    omega
  unfold regWrite
  rw [hport, Bool.false_and, if_neg Bool.false_ne_true]
  split
  case h_5 => rw [if_neg (Nat.not_lt.2 h)]
  all_goals omega

/-- A 32-bit write by the owner of a register of XBS, STK or PMC is a field write. -/
theorem registerWrite_fields {src : Src} {p : Page} {off : Nat} {r : RegDef} (v : W64) {s : State} (ho : Owns src p s)
    (hb : p.blk = .xbs ∨ p.blk = .stk ∨ p.blk = .pmc) (hlo : 0x100 ≤ off) (hhi : off < 4096) (h4 : off % 4 = 0)
    (hr : p.regAt off = some r) :
    exec (.registerWrite src .bar0 (p.base + off) 4 v) s = .next (onDev (fieldWrite src p off (lo32 v.toNat) r) s) := by
  obtain ⟨he, hpr, _, hu, _⟩ := id ho
  have hd : p ≠ Page.dbg := by rintro rfl; simp [Page.dbg] at hb
  rw [exec_registerWrite, effect_next _ _ _ rfl, access_page v hu (bar0Page_base p off he hhi h4) hpr,
    writePage_reg _ ho (by omega) hr hd, regWrite_block _ _ _ _ hlo]
  rcases hb with hb | hb | hb <;> simp [blockWrite, hb]

/-- The owner's write, by field class (R10, R12, R15, R54). -/
theorem registerWrite_byClass {src : Src} {p : Page} {off : Nat} {r : RegDef} {v : W64} {s : State} (ho : Owns src p s)
    (hb : p.blk = .xbs ∨ p.blk = .stk ∨ p.blk = .pmc) (hlo : 0x100 ≤ off) (hhi : off < 4096) (h4 : off % 4 = 0)
    (hr : p.regAt off = some r) (hf : ∀ f ∈ r.flds, f.acc ≠ .w1c ∧ f.ok (lo32 v.toNat) = true)
    (hopen : quiescedOrIdle s.dev p = true) :
    ∃ t, exec (.registerWrite src .bar0 (p.base + off) 4 v) s = .next t ∧
      rdWord t.dev p off = merge (rdWord s.dev p off) (setMask r) (lo32 v.toNat) ∧
      (stageMask r ≠ 0 → stagedAt t.dev (p.base + off) = some (lo32 v.toNat &&& stageMask r)) ∧
      CoreKept s t ∧ TablesKept s t ∧ PartsKept [] s t ∧ WordsKept p [off] s t ∧ PagesKept [p] s t := by
  have hl : p.blk ≠ .lnk := by rintro h; simp [h] at hb
  have hdev := fieldWrite_listed src (portBits_off_links off s.dev hl) hopen hf
  obtain ⟨hregs, htables, hparts⟩ := stageFields_keeps p off (lo32 v.toNat) r.flds
    (wrWord p off (merge (rdWord s.dev p off) (setMask r) (lo32 v.toNat)) s.dev)
  rw [← hdev] at hregs htables hparts
  have hword : ∀ (q : Page) (a : Nat), rdWord (onDev (fieldWrite src p off (lo32 v.toNat) r) s).dev q a =
      if p.base + off = q.base + a then merge (rdWord s.dev p off) (setMask r) (lo32 v.toNat) else rdWord s.dev q a :=
    fun q a => (rdWord_congr hregs q a).trans (rdWord_wrWord p q off a _ s.dev)
  refine ⟨_, registerWrite_fields v ho hb hlo hhi h4 hr, ?_, ?_, coreKept_onDev _ s, tablesKept_onDev htables, ?_,
    wordsKept_of_word hword, pagesKept_of_word (Page.inst_lt ho.1) hhi hword⟩
  · rw [hword, if_pos rfl]
  · intro h
    rw [onDev_dev, hdev]
    exact stagedAt_stageFields p off _ r _ h
  · intro x _
    have hx := hparts x
    cases x <;> exact hx

/-! #### A write by a source that is not the owner (R59) -/

/-- A write of a mapped register by a source that does not own the page is refused. -/
theorem writePage_refused {src : Src} {p : Page} {off : Nat} {r : RegDef} (v : W32) {s : State}
    (ha : pageAnswers s.dev p = true) (hown : pageOwner s.dev p ≠ src) (ho : off ≠ 0x020) (hr : p.regAt off = some r) :
    writePage src p off v s = onDev (setErr p errNonOwner src off 0) s := by
  simp [writePage, ha, ho, hr, hown]

theorem setErr_part (p : Page) (c : Nat) (src : Src) (off detail : Nat) (d : Dev) (x : Part) :
    x.same d (setErr p c src off detail d) := by
  cases x <;> simp only [Part.same, setErr_lnk, setErr_sw, setErr_fwd, setErr_byp, setErr_col, setErr_ldl, setErr_stk,
    setErr_tim, setErr_pmc, setErr_mgt, setErr_tel, setErr_rst]

/-- The refused write records NON_OWNER and nothing else changes (R59). -/
theorem registerWrite_refused {src : Src} {p : Page} {off : Nat} {r : RegDef} (v : W64) {s : State} (he : p.exists = true)
    (hpr : pagePresent s.dev p = true) (ha : pageAnswers s.dev p = true) (hu : unreachable' s.dev src = false)
    (hown : pageOwner s.dev p ≠ src) (hhi : off < 4096) (h4 : off % 4 = 0) (ho : off ≠ 0x020) (hr : p.regAt off = some r) :
    ∃ t, exec (.registerWrite src .bar0 (p.base + off) 4 v) s = .next t ∧
      (rdWord t.dev p 0x018).getLsbD errNonOwner = true ∧ t.dev.ctl.staged = s.dev.ctl.staged ∧
      CoreKept s t ∧ TablesKept s t ∧ PartsKept [] s t ∧ WordsKept p [0x010, 0x018, 0x01C] s t ∧ PagesKept [p] s t := by
  have hp : p.inst < 4096 := Page.inst_lt he
  have hexec : exec (.registerWrite src .bar0 (p.base + off) 4 v) s = .next (onDev (setErr p errNonOwner src off 0) s) := by
    rw [exec_registerWrite, effect_next _ _ _ rfl, access_page v hu (bar0Page_base p off he hhi h4) hpr,
      writePage_refused _ ha hown ho hr]
  refine ⟨_, hexec, setErrs_bit p errNonOwner _ _ _ _ (by decide), setErr_ctl_staged .., coreKept_onDev _ s,
    tablesKept_onDev (setErr_ctl_tables ..), fun x _ => setErr_part p _ src off 0 s.dev x, ?_, ?_⟩
  · intro a _ hne
    exact rdWord_setErrs_off p _ _ _ _ _ (by simpa using hne)
  · intro q a hq ha hne
    exact rdWord_setErrs_page _ _ _ _ _ (by rintro rfl; exact hne (List.mem_singleton.2 rfl)) hp hq ha

theorem registerWriteByClass : Claims.RegisterWriteByClass :=
  ⟨fun _ _ _ _ _ _ ho hb hlo hhi h4 hr hf hopen => registerWrite_byClass ho hb hlo hhi h4 hr hf hopen,
    fun _ _ _ _ v _ he hpr ha hu hown hhi h4 ho hr => registerWrite_refused v he hpr ha hu hown hhi h4 ho hr⟩

/-! #### Reads and the latch (R8) -/

/-- A 32-bit read at an address that lies in a page, by a source that reaches it. -/
theorem accessRead_page {src : Src} {p : Page} {s : State} {addr off : Nat} (hu : unreachable' s.dev src = false)
    (ha : bar0Page addr 4 = some (p, off)) :
    accessRead src .bar0 addr 4 s = (join (readPage src true p off s).1 0, (readPage src true p off s).2) := by
  simp [accessRead, hu, bar0Read, ha]

/-- A 32-bit read of a word other than PAGE_STAT: the latched value where one is held, else what the register shows; the
low word of a 64-bit register takes the latch. -/
theorem readPage_word {src : Src} {p : Page} {off : Nat} {s : State} (hpr : pagePresent s.dev p = true)
    (ha : pageAnswers s.dev p = true) (ho : off ≠ 0x00C) (hr : (p.regAt off).isSome = true) :
    readPage src true p off s = ((latched s.dev src (p.base + off)).getD (pageWord s p off),
      if halfOf p off == 1 then takeLatch src p off s else s) := by
  simp [readPage, ha, maps, hr, settleRead, ho, shown, hpr]

/-- A 32-bit read of a page's word other than PAGE_STAT by a source that reaches it. -/
theorem lowWordRead_page {src : Src} {p : Page} {off : Nat} {s : State} (he : p.exists = true)
    (hpr : pagePresent s.dev p = true) (ha : pageAnswers s.dev p = true) (hu : unreachable' s.dev src = false)
    (hhi : off < 4096) (h4 : off % 4 = 0) (ho : off ≠ 0x00C) (hr : (p.regAt off).isSome = true) :
    exec (.lowWordRead src .bar0 (p.base + off) 4) s =
      .next (onDev (emit (.readData src (p.base + off)
          (join ((latched s.dev src (p.base + off)).getD (pageWord s p off)) 0)))
        (if halfOf p off == 1 then takeLatch src p off s else s)) := by
  rw [exec_lowWordRead, effect_next _ _ _ rfl, accessRead_page hu (bar0Page_base p off he hhi h4),
    readPage_word hpr ha ho hr]

/-- What an output leaves alone. -/
theorem emit_keeps (o : Output) (s : State) :
    CoreKept s (onDev (emit o) s) ∧ TablesKept s (onDev (emit o) s) ∧ PartsKept [] s (onDev (emit o) s) ∧
      PagesKept [] s (onDev (emit o) s) :=
  ⟨coreKept_onDev _ s, tablesKept_onDev rfl, fun x _ => by cases x <;> rfl, pagesKept_onDev [] rfl⟩

/-- What the latch and an output together leave alone. -/
theorem latch_emit_keeps (src : Src) (l : Latch) (o : Output) (s : State) :
    let t := onDev (emit o) (onDev (setLatch src l) s)
    CoreKept s t ∧ TablesKept s t ∧ PartsKept [] s t ∧ PagesKept [] s t := by
  have hregs : (setLatch src l s.dev).ctl.regs = s.dev.ctl.regs := by cases src <;> rfl
  have htables : (setLatch src l s.dev).ctl.tables = s.dev.ctl.tables := by cases src <;> rfl
  exact ⟨coreKept_onDev (emit o ∘ setLatch src l) s, tablesKept_onDev (f := emit o ∘ setLatch src l) htables,
    fun x _ => by cases src <;> cases x <;> rfl, pagesKept_onDev (f := emit o ∘ setLatch src l) [] hregs⟩

theorem latchOf_emit (src : Src) (o : Output) (d : Dev) : latchOf (emit o d) src = latchOf d src := by cases src <;> rfl

theorem latchOf_setLatch (src : Src) (l : Latch) (d : Dev) : latchOf (setLatch src l d) src = some l := by
  cases src <;> rfl

/-- Reading a low word latches its high word (R8). -/
theorem lowWord_latches {src : Src} {p : Page} {off : Nat} {s : State} (he : p.exists = true)
    (hpr : pagePresent s.dev p = true) (ha : pageAnswers s.dev p = true) (hu : unreachable' s.dev src = false)
    (hhi : off < 4096) (h4 : off % 4 = 0) (ho : off ≠ 0x00C) (hr : (p.regAt off).isSome = true) (hhalf : halfOf p off = 1)
    (hheld : latched s.dev src (p.base + off) = none) :
    ∃ t, exec (.lowWordRead src .bar0 (p.base + off) 4) s = .next t ∧
      t.dev.ctl.out = s.dev.ctl.out ++ [.readData src (p.base + off) (join (pageWord s p off) 0)] ∧
      latched t.dev src (p.base + off + 4) = some (pageWord s p (off + 4)) ∧
      CoreKept s t ∧ TablesKept s t ∧ PartsKept [] s t ∧ PagesKept [] s t := by
  have hexec := lowWordRead_page he hpr ha hu hhi h4 ho hr
  rw [hheld, Option.getD_none, hhalf, beq_self_eq_true, if_pos rfl] at hexec
  refine ⟨_, hexec, ?_, ?_, latch_emit_keeps src _ _ s⟩
  · show (setLatch src _ s.dev).ctl.out ++ _ = _
    cases src <;> rfl
  · simp only [latched, takeLatch, onDev_dev, latchOf_emit, latchOf_setLatch, if_true, shown, hpr]

/-- Reading the high word returns what the low word's read latched (R8). -/
theorem highWord_latched {src : Src} {p : Page} {off : Nat} {w : W32} {s : State} (he : p.exists = true)
    (hpr : pagePresent s.dev p = true) (ha : pageAnswers s.dev p = true) (hu : unreachable' s.dev src = false)
    (hhi : off < 4096) (h4 : off % 4 = 0) (ho : off ≠ 0x00C) (hr : (p.regAt off).isSome = true) (hhalf : halfOf p off = 2)
    (hheld : latched s.dev src (p.base + off) = some w) :
    ∃ t, exec (.lowWordRead src .bar0 (p.base + off) 4) s = .next t ∧
      t.dev.ctl.out = s.dev.ctl.out ++ [.readData src (p.base + off) (join w 0)] ∧
      latchOf t.dev src = latchOf s.dev src ∧ CoreKept s t ∧ TablesKept s t ∧ PartsKept [] s t ∧ PagesKept [] s t := by
  have hexec := lowWordRead_page he hpr ha hu hhi h4 ho hr
  rw [hheld, Option.getD_some, hhalf, if_neg (by decide)] at hexec
  exact ⟨_, hexec, rfl, by cases src <;> rfl, emit_keeps _ s⟩

theorem lowWordReadLatches : Claims.LowWordReadLatches :=
  ⟨fun _ _ _ _ he hpr ha hu hhi h4 ho hr hhalf hheld => lowWord_latches he hpr ha hu hhi h4 ho hr hhalf hheld,
    fun _ _ _ _ _ he hpr ha hu hhi h4 ho hr hhalf hheld => highWord_latched he hpr ha hu hhi h4 ho hr hhalf hheld⟩

/-- Settles O14: a write acts through the masks of its register's classes or is refused with NON_OWNER alone, and a read
changes the latch and the outputs alone. -/
theorem registerAccesses : Obligations.RegisterAccesses := ⟨registerWriteByClass, lowWordReadLatches⟩

end Sys2Proof.Machine

/-! ### Frames of device updates: the words a step may write, and the parts it leaves alone -/

namespace Sys2Proof.Machine

/-- The management stores a reset keeps or restores are the same: fuses, reset count, flash, and the sessions. -/
structure SameStores (m n : Mgt) : Prop where
  ownerKeys : n.ownerKeys = m.ownerKeys
  minSvn : n.minSvn = m.minSvn
  vendorDebugOff : n.vendorDebugOff = m.vendorDebugOff
  flash : n.flash = m.flash
  coldResets : n.coldResets = m.coldResets
  sessions : n.sessions = m.sessions

theorem SameStores.refl (m : Mgt) : SameStores m m := ⟨rfl, rfl, rfl, rfl, rfl, rfl⟩

theorem SameStores.trans {m n k : Mgt} (h : SameStores m n) (h' : SameStores n k) : SameStores m k :=
  ⟨h'.ownerKeys.trans h.ownerKeys, h'.minSvn.trans h.minSvn, h'.vendorDebugOff.trans h.vendorDebugOff,
    h'.flash.trans h.flash, h'.coldResets.trans h.coldResets, h'.sessions.trans h.sessions⟩

/-- `e` is `d` with register words changed among those of `W` alone, and with bypass, collective engine, Stockpot, time,
reset state and management stores as they were. -/
structure Frame (W : Page → Nat → Prop) (d e : Dev) : Prop where
  byp : e.byp = d.byp
  col : e.col = d.col
  stk : e.stk = d.stk
  tim : e.tim = d.tim
  rst : e.rst = d.rst
  stores : SameStores d.mgt e.mgt
  word : ∀ (q : Page) (a : Nat), q.inst < 4096 → a < 4096 → ¬W q a → rdWord e q a = rdWord d q a

theorem Frame.refl (W : Page → Nat → Prop) (d : Dev) : Frame W d d :=
  ⟨rfl, rfl, rfl, rfl, rfl, .refl _, fun _ _ _ _ _ => rfl⟩

variable {W : Page → Nat → Prop} {d e : Dev}

theorem Frame.trans {d' : Dev} (h : Frame W d d') (h' : Frame W d' e) : Frame W d e :=
  ⟨h'.byp.trans h.byp, h'.col.trans h.col, h'.stk.trans h.stk, h'.tim.trans h.tim, h'.rst.trans h.rst,
    h.stores.trans h'.stores, fun q a hq ha hw => (h'.word q a hq ha hw).trans (h.word q a hq ha hw)⟩

theorem Frame.mono {V : Page → Nat → Prop} (h : Frame V d e) (hVW : ∀ q a, V q a → W q a) : Frame W d e :=
  { h with word := fun q a hq ha hw => h.word q a hq ha fun hv => hw (hVW q a hv) }

/-- A relation of devices that chains holds across a fold whose passes keep it. -/
theorem forEach_chain {R : Dev → Dev → Prop} (hrefl : ∀ d, R d d) (htrans : ∀ {a b c}, R a b → R b c → R a c) {α : Type}
    (l : List α) (f : α → Dev → Dev) (h : ∀ a ∈ l, ∀ d, R d (f a d)) (d : Dev) : R d (forEach l f d) := by
  induction l generalizing d with
  | nil => exact hrefl d
  | cons a l ih =>
    exact htrans (h a (by simp) d) (ih (fun b hb => h b (by simp [hb])) (f a d))

/-- A write of a word among those of `W`. -/
theorem Frame.wrWord {p : Page} {off : Nat} (v : W32) (d : Dev) (hp : p.inst < 4096) (ho : off < 4096) (hw : W p off) :
    Frame W d (Machine.wrWord p off v d) := by
  refine ⟨rfl, rfl, rfl, rfl, rfl, .refl _, fun q a hq ha hna => ?_⟩
  rw [rdWord_wrWord, if_neg]
  rw [Page.addr_inj p q off a hp hq ho ha]
  rintro ⟨rfl, rfl⟩
  exact hna hw

/-- A write of a field of a word among those of `W`. -/
theorem Frame.wr {p : Page} {f : Fd} (v : Nat) (d : Dev) (hp : p.inst < 4096) (ho : f.off < 4096) (hw : W p f.off) :
    Frame W d (Machine.wr p f v d) := Frame.wrWord _ d hp ho hw

theorem Frame.wr64 {p : Page} {f : Fd} (v : Nat) (d : Dev) (hp : p.inst < 4096) (ho : f.off + 4 < 4096) (hw : W p f.off)
    (hw' : W p (f.off + 4)) : Frame W d (Machine.wr64 p f v d) :=
  (Frame.wrWord _ d hp (by omega) hw).trans (Frame.wrWord _ _ hp ho hw')

/-- An interrupt raised writes PAGE_IRQ (R46). -/
theorem Frame.raiseIrq {p : Page} (bit : Nat) (d : Dev) (hp : p.inst < 4096) (hw : W p 0x010) :
    Frame W d (Machine.raiseIrq p bit d) := by
  refine ⟨raiseIrq_byp .., raiseIrq_col .., raiseIrq_stk .., raiseIrq_tim .., raiseIrq_rst .., ?_, fun q a hq ha hna => ?_⟩
  · rw [raiseIrq_mgt]; exact .refl _
  · rw [rdWord_raiseIrq, if_neg]
    rw [Page.addr_inj p q _ a hp hq (by decide) ha]
    rintro ⟨rfl, rfl⟩
    exact hna hw

/-- A count writes its counter's two words and words of TEL (R465, R467). -/
theorem Frame.bumpN {p : Page} {base : Fd} {k : Nat} (n : Nat) (d : Dev) (hp : p.inst < 4096)
    (ho : base.off + 8 * k + 4 < 4096) (hw : ∀ a, W p a) (htel : ∀ a, W Page.tel a) :
    Frame W d (Machine.bumpN p base k n d) := by
  refine ⟨bumpN_byp .., bumpN_col .., bumpN_stk .., bumpN_tim .., bumpN_rst .., ?_, fun q a hq ha hna => ?_⟩
  · rw [bumpN_mgt]; exact .refl _
  · exact rdWord_bumpN_page base k n d (by rintro rfl; exact hna (htel a)) (by rintro rfl; exact hna (hw a)) hp hq ho ha

/-- A write of the active half changes the journal's halves alone. -/
theorem setActiveHalf_eq (h : Half) (d : Dev) : ∃ m, SameStores d.mgt m ∧ setActiveHalf h d = { d with mgt := m } := by
  unfold setActiveHalf
  split <;> refine ⟨_, ?_, rfl⟩ <;> exact ⟨rfl, rfl, rfl, rfl, rfl, rfl⟩

theorem Frame.setActiveHalf (h : Half) (d : Dev) : Frame W d (Machine.setActiveHalf h d) := by
  obtain ⟨m, hm, heq⟩ := setActiveHalf_eq h d
  rw [heq]
  exact ⟨rfl, rfl, rfl, rfl, rfl, hm, fun _ _ _ _ _ => rfl⟩

theorem Frame.journalStat (d : Dev) (hw : ∀ a, W Page.mgt a) : Frame W d (Machine.journalStat d) :=
  (Frame.wr _ d (by decide) (by decide) (hw _)).trans (Frame.wr _ _ (by decide) (by decide) (hw _))

end Sys2Proof.Machine

/-! ### Cold reset (R14, R441, R443): what the boot writes over the reset state -/

namespace Sys2Proof.Machine

/-! #### A count that no watch follows -/

/-- With no table entry listed there is no watch, and a count is its counter alone. -/
theorem bumpAt_unwatched (fuel : Nat) (p : Page) (off n : Nat) (d : Dev) (h : d.ctl.tables = []) :
    bumpAt (fuel + 1) p off n d = wr64 p ⟨off, 31, 0⟩ (counterSum p (rd64 d p ⟨off, 31, 0⟩ + n)) d := by
  have hl : tblListed (wr64 p ⟨off, 31, 0⟩ (counterSum p (rd64 d p ⟨off, 31, 0⟩ + n)) d) Page.tel 0 = [] := by
    show ((d.ctl.tables.filter _).map _) = []
    rw [h]; rfl
  simp [bumpAt, hl]

/-! #### What the boot keeps -/

/-- `e` is `d` as a step of the boot leaves it: a frame that also keeps cells, ports, tables and staged values. -/
structure Boots (W : Page → Nat → Prop) (d e : Dev) : Prop extends Frame W d e where
  sw : e.sw = d.sw
  ports : e.lnk.ports = d.lnk.ports
  tables : e.ctl.tables = d.ctl.tables
  staged : e.ctl.staged = d.ctl.staged

theorem Boots.refl (W : Page → Nat → Prop) (d : Dev) : Boots W d d := ⟨.refl W d, rfl, rfl, rfl, rfl⟩

variable {W : Page → Nat → Prop} {d e : Dev}

theorem Boots.trans {d' : Dev} (h : Boots W d d') (h' : Boots W d' e) : Boots W d e :=
  ⟨h.toFrame.trans h'.toFrame, h'.sw.trans h.sw, h'.ports.trans h.ports, h'.tables.trans h.tables, h'.staged.trans h.staged⟩

theorem Boots.forEach {α : Type} (l : List α) (f : α → Dev → Dev) (h : ∀ a ∈ l, ∀ d, Boots W d (f a d)) (d : Dev) :
    Boots W d (Machine.forEach l f d) := forEach_chain (Boots.refl W) Boots.trans l f h d

theorem Boots.doIf (c : Bool) {f : Dev → Dev} (d : Dev) (h : ∀ d, Boots W d (f d)) : Boots W d (Machine.doIf c f d) := by
  cases c
  · exact .refl W d
  · exact h d

theorem Boots.wr {p : Page} {f : Fd} (v : Nat) (d : Dev) (hp : p.inst < 4096) (ho : f.off < 4096) (hw : W p f.off) :
    Boots W d (Machine.wr p f v d) := ⟨.wr v d hp ho hw, rfl, rfl, rfl, rfl⟩

theorem Boots.raiseIrq {p : Page} (bit : Nat) (d : Dev) (hp : p.inst < 4096) (hw : W p 0x010) :
    Boots W d (Machine.raiseIrq p bit d) :=
  ⟨.raiseIrq bit d hp hw, raiseIrq_sw .., by rw [raiseIrq_lnk], raiseIrq_ctl_tables .., raiseIrq_ctl_staged ..⟩

theorem Boots.bumpN_unwatched {p : Page} {base : Fd} {k : Nat} (n : Nat) (d : Dev) (ht : d.ctl.tables = [])
    (hp : p.inst < 4096) (ho : base.off + 8 * k + 4 < 4096) (hw : ∀ a, W p a) : Boots W d (bumpN p base k n d) := by
  unfold bumpN
  split
  · exact .refl W d
  · rw [bumpAt_unwatched 255 p _ n d ht]
    exact ⟨.wr64 _ d hp ho (hw _) (hw _), rfl, rfl, rfl, rfl⟩

theorem Boots.setActiveHalf (h : Half) (d : Dev) : Boots W d (Machine.setActiveHalf h d) := by
  have hf : Frame W d (Machine.setActiveHalf h d) := .setActiveHalf h d
  obtain ⟨m, _, heq⟩ := setActiveHalf_eq h d
  rw [heq] at hf ⊢
  exact ⟨hf, rfl, rfl, rfl, rfl⟩

theorem Boots.journalStat (d : Dev) (hw : ∀ a, W Page.mgt a) : Boots W d (Machine.journalStat d) :=
  ⟨.journalStat d hw, rfl, rfl, rfl, rfl⟩

/-! #### The stores restored (R435, R443) -/

/-- The fuses, the flash and the journal's halves of `old`. -/
def withStores (old d : Dev) : Dev :=
  { d with mgt := { d.mgt with
    ownerKeys := old.mgt.ownerKeys, minSvn := old.mgt.minSvn, vendorDebugOff := old.mgt.vendorDebugOff,
    coldResets := old.mgt.coldResets, flash := old.mgt.flash, half0 := old.mgt.half0, half1 := old.mgt.half1,
    nextSeq := old.mgt.nextSeq } }

/-- Restoring stores of the same device keeps what the boot keeps. -/
theorem Boots.withStores (old : Dev) (h : Boots W d e) : Boots W (withStores old d) (withStores old e) :=
  ⟨⟨h.byp, h.col, h.stk, h.tim, h.rst, ⟨rfl, rfl, rfl, rfl, rfl, h.stores.sessions⟩, h.word⟩, h.sw, h.ports, h.tables,
    h.staged⟩

theorem syncFuses_boots (d : Dev) (hw : ∀ a, W Page.mgt a) : Boots W d (syncFuses d) :=
  ((Boots.wr _ d (by decide) (by decide) (hw _)).trans (Boots.wr _ _ (by decide) (by decide) (hw _))).trans
    (Boots.wr _ _ (by decide) (by decide) (hw _))

theorem replayJournal_boots (d : Dev) (ht : d.ctl.tables = []) (hw : ∀ a, W Page.mgt a) : Boots W d (replayJournal d) := by
  unfold replayJournal
  extract_lets m d1 h good lost fill h'
  have h1 : Boots W d d1 :=
    ⟨⟨rfl, rfl, rfl, rfl, rfl, ⟨rfl, rfl, rfl, rfl, rfl, rfl⟩, fun _ _ _ _ _ => rfl⟩, rfl, rfl, rfl, rfl⟩
  have h2 : Boots W d (setActiveHalf h' d1) := h1.trans (.setActiveHalf h' d1)
  exact (h2.trans (.bumpN_unwatched lost _ (h2.tables.trans ht) (by decide) (by decide) hw)).trans (.journalStat _ hw)

theorem restoreTrims_boots (d : Dev) (hw : ∀ a, W Page.pmc a) : Boots W d (restoreTrims d) := by
  refine .forEach _ _ (fun x hx d => ?_) d
  have hx : x < 10 := List.mem_range.1 hx
  split
  · exact (Boots.wr _ d (by decide) (by show 0x150 + 4 * x < 4096; omega) (hw _)).trans
      (.wr _ _ (by decide) (by show 0x150 + 4 * x < 4096; omega) (hw _))
  · exact .refl W d

/-- Restoring the stores leaves them as they were, and shows them on MGT and PMC. -/
theorem restoreStores_boots (old d : Dev) (ht : d.ctl.tables = []) (hm : ∀ a, W Page.mgt a) (hp : ∀ a, W Page.pmc a) :
    Boots W (withStores old d) (restoreStores old d) := by
  have h1 : Boots W (withStores old d) (syncFuses (withStores old d)) := syncFuses_boots _ hm
  have h2 := h1.trans (replayJournal_boots _ (h1.tables.trans ht) hm)
  exact h2.trans (restoreTrims_boots _ hp)

theorem showReference_boots (d : Dev) (hw : W Page.tim 0x10C) : Boots W d (showReference d) := by
  unfold showReference
  split
  · exact .wr _ d (by decide) (by decide) hw
  · exact .refl W d

theorem coldModule_boots (m : Nat) (d : Dev) (hm : m < 16) (hw : W (Page.laser m) 0x104) : Boots W d (coldModule m d) := by
  unfold coldModule
  split
  · exact .wr _ d (by show 8 + m < 4096; omega) (by decide) hw
  · exact .refl W d

/-! #### The whole reset -/

/-- The pages whose words the boot shows after a cold reset: MGT, TIM, PMC and the lasers. -/
def coldShown (p : Page) (_ : Nat) : Prop := p.blk = .mgt ∨ p.blk = .tim ∨ p.blk = .pmc ∨ (p.blk = .opt ∧ 8 ≤ p.inst)

/-- The reset state with the modules still in their cages: what a cold reset starts from. -/
def coldBare (old : Dev) : Dev :=
  let b := bareDev old
  { b with lnk := { b.lnk with laser := old.lnk.laser.map (fun e => (e.1, coldLaser e.2)) } }

/-- The bare state with the modules and the reference shown. -/
def coldSeen (old : Dev) : Dev := showReference (forEach (List.range 16) coldModule (coldBare old))

theorem coldSeen_boots (old : Dev) : Boots coldShown (coldBare old) (coldSeen old) :=
  (Boots.forEach _ _ (fun m hm d => coldModule_boots m d (List.mem_range.1 hm)
    (.inr (.inr (.inr ⟨rfl, Nat.le_add_right 8 m⟩)))) _).trans (showReference_boots _ (.inr (.inl rfl)))

/-- A cold reset counts itself over the restored stores. -/
theorem coldDev_eq (old : Dev) : coldDev old =
    { restoreStores old (coldSeen old) with mgt := { (restoreStores old (coldSeen old)).mgt with
      coldResets := (restoreStores old (coldSeen old)).mgt.coldResets + 1 } } := by
  unfold coldDev coldSeen coldBare
  with_reducible rfl

/-- The boot of a cold reset shows the restored stores over the bare reset state. -/
theorem coldRestored_boots (old : Dev) :
    Boots coldShown (withStores old (coldBare old)) (restoreStores old (coldSeen old)) :=
  ((coldSeen_boots old).withStores old).trans
    (restoreStores_boots old (coldSeen old) (coldSeen_boots old).tables (fun _ => .inl rfl) (fun _ => .inr (.inr (.inl rfl))))

/-- With no register listed, a word of a page reads its reset value. -/
theorem rdWord_unlisted {d : Dev} (p : Page) {off : Nat} (h : d.ctl.regs = []) (hp : p.inst < 4096) (ho : off < 4096) :
    rdWord d p off = p.resetWord off := (rdWord_congr (d' := Dev.reset) h p off).trans (rdWord_reset p hp ho)

theorem coldResetClears : Claims.ColdResetClears := by
  intro s
  have he := coldRestored_boots s.dev
  refine ⟨coldReset s, (exec_coldReset s).trans (effect_next _ _ _ rfl), rfl, rfl, rfl, ?_⟩
  simp only [coldReset, coldDev_eq]
  generalize restoreStores s.dev (coldSeen s.dev) = e at he
  refine ⟨he.tables, he.staged, he.sw, he.col, he.byp, he.stk, he.tim, he.ports, he.stores.ownerKeys, he.stores.minSvn,
    he.stores.vendorDebugOff, he.stores.flash, congrArg (· + 1) he.stores.coldResets, he.stores.sessions, ?_⟩
  intro p off hp ho hm ht hpm hl
  have hw : ¬coldShown p off := by
    rintro (h | h | h | h)
    · exact hm h
    · exact ht h
    · exact hpm h
    · exact hl h
  exact (he.word p off hp ho hw).trans (rdWord_unlisted p rfl hp ho)

end Sys2Proof.Machine

/-! ### The way to darkness (R442, R448): what a warm reset's start does while no port is UP or in departure -/

namespace Sys2Proof.Machine

/-! #### Entries of a sparse map -/

/-- An entry after a write is the one written or one that stood before. -/
theorem mem_sset {α : Type} [DecidableEq α] (d : Nat → α) {m : SMap α} {k : Nat} {v : α} {x : Nat × α}
    (h : x ∈ sset d m k v) : x = (k, v) ∨ x ∈ m := by
  induction m with
  | nil =>
    simp only [sset] at h
    split at h <;> simp_all
  | cons y m ih =>
    obtain ⟨a, w⟩ := y
    simp only [sset] at h
    split_ifs at h <;> simp only [List.mem_cons] at h ⊢ <;> tauto

/-- A read gives the default or the value of an entry. -/
theorem sget_default_or_mem {α : Type} (d : Nat → α) (m : SMap α) (k : Nat) : sget d m k = d k ∨ (k, sget d m k) ∈ m := by
  induction m with
  | nil => exact .inl rfl
  | cons y m ih =>
    obtain ⟨a, w⟩ := y
    simp only [sget]
    split
    · subst_vars; simp
    · simp only [List.mem_cons]; tauto

/-! #### The relation -/

/-- Words other than PAGE_IRQ of TIM and of the links. -/
def quiet (q : Page) (a : Nat) : Prop := ¬(q.blk = .tim ∨ q.blk = .lnk) ∨ a = 0x010

/-- Words other than PAGE_IRQ of TIM. -/
def timeless (q : Page) (a : Nat) : Prop := q.blk ≠ .tim ∨ a = 0x010

/-- `e` is `d` with ports taken out of service: TIM's words stand, no lane has come UP and no port has begun to depart. -/
structure Darkens (d e : Dev) : Prop extends Frame timeless d e where
  up : ∀ l, l < 1024 → portUp d l = false → portUp e l = false
  departing : anyDeparting d = false → anyDeparting e = false

theorem Darkens.refl (d : Dev) : Darkens d d := ⟨.refl _ d, fun _ _ h => h, id⟩

variable {d e : Dev}

theorem Darkens.trans {d' : Dev} (h : Darkens d d') (h' : Darkens d' e) : Darkens d e :=
  ⟨h.toFrame.trans h'.toFrame, fun l hl hu => h'.up l hl (h.up l hl hu), fun hn => h'.departing (h.departing hn)⟩

theorem Darkens.forEach {α : Type} (l : List α) (f : α → Dev → Dev) (h : ∀ a ∈ l, ∀ d, Darkens d (f a d)) (d : Dev) :
    Darkens d (Machine.forEach l f d) := forEach_chain Darkens.refl Darkens.trans l f h d

theorem portUp_congr {d e : Dev} (l : Nat) (h : rdWord e (Page.lnk l) 0x10C = rdWord d (Page.lnk l) 0x10C) :
    portUp e l = portUp d l := by
  show decide (bitsOf (rdWord e (Page.lnk l) 0x10C) 3 0 = lsUp) = decide (bitsOf (rdWord d (Page.lnk l) 0x10C) 3 0 = lsUp)
  rw [h]

/-- A step that leaves the ports and the words of TIM and the links alone. -/
theorem Darkens.of_frame (h : Frame quiet d e) (hp : e.lnk.ports = d.lnk.ports) : Darkens d e := by
  refine ⟨h.mono fun q a hq => hq.imp_left fun hn ht => hn (.inl ht), fun l hl hu => ?_, fun hn => ?_⟩
  · rw [portUp_congr l (h.word (Page.lnk l) 0x10C (by show l < 4096; omega) (by decide) ?_), hu]
    rintro (hq | hq)
    · exact hq (.inr rfl)
    · exact absurd hq (by decide)
  · rw [anyDeparting, hp]; exact hn

/-- A step on records alone: no register word and no port changes. -/
theorem Darkens.of_regs (hbyp : e.byp = d.byp) (hcol : e.col = d.col) (hstk : e.stk = d.stk) (htim : e.tim = d.tim)
    (hrst : e.rst = d.rst) (hmgt : SameStores d.mgt e.mgt) (hregs : e.ctl.regs = d.ctl.regs)
    (hp : e.lnk.ports = d.lnk.ports) : Darkens d e :=
  .of_frame ⟨hbyp, hcol, hstk, htim, hrst, hmgt, fun q a _ _ _ => rdWord_congr hregs q a⟩ hp

/-- A step on the switch core's record alone. -/
theorem Darkens.sw (x : Sw) (d : Dev) : Darkens d { d with sw := x } := .of_regs rfl rfl rfl rfl rfl (.refl _) rfl rfl

/-- A step on the forwarding record alone. -/
theorem Darkens.fwd (x : Fwd) (d : Dev) : Darkens d { d with fwd := x } := .of_regs rfl rfl rfl rfl rfl (.refl _) rfl rfl

/-- A step on the telemetry record alone. -/
theorem Darkens.tel (x : Tel) (d : Dev) : Darkens d { d with tel := x } := .of_regs rfl rfl rfl rfl rfl (.refl _) rfl rfl

theorem Darkens.tset (p : Page) (t i : Nat) (ws : List W32) (d : Dev) : Darkens d (Machine.tset p t i ws d) :=
  .of_regs rfl rfl rfl rfl rfl (.refl _) rfl rfl

theorem Darkens.emit (o : Output) (d : Dev) : Darkens d (Machine.emit o d) :=
  .of_regs rfl rfl rfl rfl rfl (.refl _) rfl rfl

theorem quiet_off {p : Page} (h : ¬(p.blk = .tim ∨ p.blk = .lnk)) (a : Nat) : quiet p a := .inl h

theorem quiet_tel (a : Nat) : quiet Page.tel a := quiet_off (by decide) a

/-- A write on a page other than TIM and the links. -/
theorem Darkens.wr {p : Page} {f : Fd} (v : Nat) (d : Dev) (hp : p.inst < 4096) (ho : f.off < 4096)
    (hb : ¬(p.blk = .tim ∨ p.blk = .lnk)) : Darkens d (Machine.wr p f v d) :=
  .of_frame (.wr v d hp ho (quiet_off hb _)) rfl

theorem Darkens.raiseIrq (p : Page) (bit : Nat) (d : Dev) (hp : p.inst < 4096) : Darkens d (Machine.raiseIrq p bit d) :=
  .of_frame (.raiseIrq bit d hp (.inr rfl)) (by rw [raiseIrq_lnk])

/-- A count on a page other than TIM and the links. -/
theorem Darkens.bumpN {p : Page} {base : Fd} {k : Nat} (n : Nat) (d : Dev) (hp : p.inst < 4096)
    (ho : base.off + 8 * k + 4 < 4096) (hb : ¬(p.blk = .tim ∨ p.blk = .lnk)) : Darkens d (Machine.bumpN p base k n d) :=
  .of_frame (.bumpN n d hp ho (quiet_off hb) quiet_tel) (by rw [bumpN_lnk])

theorem Darkens.bump {p : Page} {base : Fd} {k : Nat} (d : Dev) (hp : p.inst < 4096) (ho : base.off + 8 * k + 4 < 4096)
    (hb : ¬(p.blk = .tim ∨ p.blk = .lnk)) : Darkens d (Machine.bump p base k d) := .bumpN 1 d hp ho hb

/-- A record of a port that puts no port in departure. -/
theorem Darkens.updPort (lane : Nat) {f : Port → Port} (d : Dev)
    (hf : ∀ p : Port, p.departing = .no → (f p).departing = .no) : Darkens d (Machine.updPort lane f d) := by
  refine ⟨⟨rfl, rfl, rfl, rfl, rfl, .refl _, fun _ _ _ _ _ => rfl⟩, fun _ _ h => h, fun hn => ?_⟩
  have hno : ∀ x ∈ d.lnk.ports, x.2.departing = .no := by
    simpa [anyDeparting] using hn
  have hport : (d.port lane).departing = .no := by
    rcases sget_default_or_mem (konst Port.reset) d.lnk.ports lane with h | h
    · rw [Dev.port, h]; rfl
    · exact hno _ h
  simp only [anyDeparting, List.any_eq_false]
  intro x hx
  rcases mem_sset _ hx with rfl | hx
  · simpa using hf _ hport
  · simpa using hno x hx

/-- A write of LINK_STAT that leaves no lane UP. -/
theorem Darkens.linkStat {lane : Nat} {f : Fd} (v : Nat) (d : Dev) (hl : lane < 4096) (ho : f.off = 0x10C)
    (hf : f.good = true) (hs : f.apart Reg.LNK_LINK_STAT_STATE = true ∨ (f = Reg.LNK_LINK_STAT_STATE ∧ v % 16 ≠ lsUp)) :
    Darkens d (Machine.wr (Page.lnk lane) f v d) := by
  refine ⟨.wr v d hl (by rw [ho]; decide) (.inl (by simp [Page.lnk])), fun l _ hu => ?_, fun hn => hn⟩
  by_cases hll : lane = l
  · subst hll
    rcases hs with ha | ⟨rfl, hv⟩
    · have : linkState (Machine.wr (Page.lnk lane) f v d) lane = linkState d lane := rd_wr_apart _ v d hf (by decide) ha
      rw [portUp, this]; exact hu
    · have : linkState (Machine.wr (Page.lnk lane) Reg.LNK_LINK_STAT_STATE v d) lane = v % 16 := rd_wr_same _ _ v d hf
      rw [portUp, this]; exact decide_eq_false hv
  · rw [portUp_congr l (rdWord_wr_page f v 0x10C d (by simpa [Page.lnk] using hll) hl (by show l < 4096; omega)
      (by rw [ho]; decide) (by decide))]
    exact hu

theorem Darkens.setLinkState {lane st : Nat} (d : Dev) (hl : lane < 4096) (hs : st % 16 ≠ lsUp) :
    Darkens d (Machine.setLinkState lane st d) := .linkStat st d hl rfl (by decide) (.inr ⟨rfl, hs⟩)

end Sys2Proof.Machine

/-! ### The flush of a port and the end of its service, as steps to darkness -/

namespace Sys2Proof.Machine

/-! #### The journal's record of wear (R129, R434) -/

theorem journalAdd_darkens (type key : Nat) (delete good : Bool) (value : List Byte) (d : Dev) :
    Darkens d (journalAdd type key delete good value d) := by
  unfold journalAdd
  extract_lets r h d1
  have h1 : Darkens d d1 := .of_frame (.setActiveHalf _ d) (by
    obtain ⟨m, _, heq⟩ := setActiveHalf_eq { h with recs := h.recs ++ [r], fill := h.fill + recBytes r } d
    show (setActiveHalf _ d).lnk.ports = _
    rw [heq])
  have h2 : Darkens d { d1 with mgt := { d1.mgt with nextSeq := d1.mgt.nextSeq + 1 } } :=
    h1.trans (.of_regs rfl rfl rfl rfl rfl ⟨rfl, rfl, rfl, rfl, rfl, rfl⟩ rfl rfl)
  exact (h2.trans (.bump _ (by decide) (by decide) (by decide))).trans
    (.of_frame (.journalStat _ (quiet_off (by decide))) rfl)

/-! #### Cells that leave with a port (R139, R180 to R182) -/

theorem drainDec_darkens (c : Cell) (d : Dev) : Darkens d (drainDec (cEpoch c) d) := by
  have he : cEpoch c < 2 := Nat.mod_lt _ (by decide)
  have h : Darkens d (wr Page.fwd (Reg.FWD_DRAIN_CELLS.idx (cEpoch c)) (rd d Page.fwd (Reg.FWD_DRAIN_CELLS.idx (cEpoch c)) - 1) d) :=
    .wr _ d (by decide) (by show 0x110 + 4 * cEpoch c < 4096; omega) (by decide)
  unfold drainDec
  dsimp only
  split
  · exact h.trans (.fwd _ _)
  · exact h

theorem heldDec_darkens (flow : Option Nat) (d : Dev) : Darkens d (heldDec flow d) := by
  cases flow with
  | none => exact .refl d
  | some i => exact .tset _ _ _ _ d

theorem uncount_darkens (b : Box) (d : Dev) : Darkens d (uncount b d) := by
  unfold uncount
  split
  · exact (drainDec_darkens b.cell d).trans (heldDec_darkens _ _)
  · exact heldDec_darkens _ d

theorem pushRecord_darkens (die : Nat) (rec : List Byte) (d : Dev) : Darkens d (pushRecord die rec d) := by
  unfold pushRecord
  extract_lets buf
  split
  · split <;> exact .tel _ d
  · exact (Darkens.bump d (by decide) (by decide) (by decide)).trans (.raiseIrq _ _ _ (by decide))

theorem endLife_darkens (b : Box) (fate : Nat) (d : Dev) : Darkens d (endLife b fate d) := by
  unfold endLife
  split
  · exact .refl d
  · exact pushRecord_darkens _ _ d

theorem copyEnds_darkens (b : Box) (n fate : Nat) (d : Dev) : Darkens d (copyEnds b n fate d) := by
  unfold copyEnds
  extract_lets left x d1 tag y d2 fate'
  have h1 : Darkens d d1 := .sw _ d
  split
  · exact ((h1.trans (.sw _ d1)).trans (uncount_darkens b d2)).trans (endLife_darkens _ _ _)
  · exact h1

theorem skipCopies_darkens (b : Box) (n : Nat) (d : Dev) : Darkens d (skipCopies b n d) := by
  unfold skipCopies
  split
  · exact .refl d
  · exact (Darkens.bumpN n d (by decide) (by decide) (by decide)).trans (copyEnds_darkens _ _ _ _)

theorem unlink_darkens (die lane reason : Nat) (ingress notify : Bool) (key : Nat) (l : List Box) (d : Dev) :
    Darkens d (unlink die lane reason ingress notify key l d) := by
  unfold unlink setFlushList
  split <;> exact .sw _ d

theorem setVoq_darkens (k : Nat) (v : Voq) (d : Dev) : Darkens d (setVoq k v d) := .sw _ d

theorem setMcasts_darkens (k : Nat) (l : List Mcast) (d : Dev) : Darkens d (setMcasts k l d) := .sw _ d

theorem setRepls_darkens (k : Nat) (l : List Repl) (d : Dev) : Darkens d (setRepls k l d) := .sw _ d

theorem setStaged_darkens (egress tc : Nat) (l : List Box) (d : Dev) : Darkens d (setStaged egress tc l d) := .sw _ d

theorem unlinkVoqs_darkens (lane reason : Nat) (ingress : Bool) (d : Dev) : Darkens d (unlinkVoqs lane reason ingress d) := by
  refine .forEach _ _ (fun e _ d => ?_) d
  by_cases h : (if ingress then voqSource e.1 else voqEgress e.1) = lane
  · rw [if_pos h]
    exact ((unlink_darkens ..).trans (unlink_darkens ..)).trans (setVoq_darkens ..)
  · rw [if_neg h]
    exact .refl d

theorem unlinkStaging_darkens (lane reason : Nat) (d : Dev) : Darkens d (unlinkStaging lane reason d) :=
  .forEach _ _ (fun _ _ _ => (unlink_darkens ..).trans (setStaged_darkens ..)) d

theorem dropCopies_darkens (lane : Nat) (d : Dev) : Darkens d (dropCopies lane d) := by
  refine Darkens.trans (.forEach _ _ (fun e _ d => ?_) d) (.forEach _ _ (fun e _ d => ?_) _)
  · refine Darkens.trans (.forEach _ _ (fun m _ d => ?_) d) (setMcasts_darkens ..)
    cases m.copies with
    | none => exact .refl d
    | some l => exact skipCopies_darkens ..
  · exact (Darkens.forEach _ _ (fun r _ d => skipCopies_darkens ..) d).trans (setRepls_darkens ..)

theorem forgetCopies_darkens (lane : Nat) (d : Dev) : Darkens d (forgetCopies lane d) := by
  refine .forEach _ _ (fun tc _ d => .forEach _ _ (fun m _ d => ?_) d) d
  cases m.copies with
  | none => exact .refl d
  | some l =>
    dsimp only
    split
    · exact .refl d
    · exact copyEnds_darkens ..

theorem unlinkStored_darkens (lane reason : Nat) (d : Dev) : Darkens d (unlinkStored lane reason d) := by
  unfold unlinkStored
  extract_lets d1 mine d2 d3
  have h1 : Darkens d d1 := .forEach _ _ (fun _ _ _ => (unlink_darkens ..).trans (setMcasts_darkens ..)) d
  have h3 : Darkens d d3 := (h1.trans (unlink_darkens ..)).trans (unlink_darkens ..)
  exact h3.trans (.sw _ _)

theorem unlinkPipe_darkens (lane reason : Nat) (d : Dev) : Darkens d (unlinkPipe lane reason d) := by
  unfold unlinkPipe
  exact ((unlink_darkens ..).trans (.bumpN _ _ (by decide) (by decide) (by decide))).trans (.updPort lane _ fun _ h => h)

theorem flushFraming_darkens (lane : Nat) (d : Dev) : Darkens d (flushFraming lane d) := by
  unfold flushFraming
  exact (Darkens.bumpN _ d (by decide) (by decide) (by decide)).trans (.updPort lane _ fun _ h => h)

theorem startFlush_darkens (lane : Nat) (d : Dev) : Darkens d (startFlush lane d) := by
  unfold startFlush
  extract_lets d1 d2 x d3
  have h1 : Darkens d d1 := .wr _ d (by decide) (by decide) (by decide)
  have h2 : Darkens d d2 := (h1.trans (.wr _ _ (by decide) (by decide) (by decide))).trans
    (.wr _ _ (by decide) (by decide) (by decide))
  exact (h2.trans (.sw _ _)).trans (.updPort lane _ fun _ h => h)

/-- The flush of a port that goes down (R182). -/
theorem portDown_darkens (lane reason : Nat) (d : Dev) : Darkens d (portDown lane reason d) := by
  have h1 : Darkens d (flushEgress lane reason d) :=
    ((unlinkVoqs_darkens ..).trans (unlinkStaging_darkens ..)).trans (dropCopies_darkens ..)
  have h2 := (h1.trans (unlinkVoqs_darkens lane reason true _)).trans (forgetCopies_darkens lane _)
  exact (((h2.trans (unlinkStored_darkens lane reason _)).trans (unlinkPipe_darkens lane reason _)).trans
    (flushFraming_darkens lane _)).trans (startFlush_darkens lane _)

/-! #### A port that is not UP goes dark (R448) -/

theorem portWidth_le (d : Dev) (lane : Nat) : portWidth d lane ≤ 4 := by
  unfold portWidth lanesOf
  split <;> decide

theorem lanesOfPort_lt {d : Dev} {lane l : Nat} (hl : lane < 1024) (h : l ∈ lanesOfPort d lane) : l < 4096 := by
  obtain ⟨k, hk, rfl⟩ := List.mem_map.1 h
  have := portWidth_le d lane
  have := List.mem_range.1 hk
  omega

theorem spareOf_lt {lane : Nat} (hl : lane < 1024) : spareOf lane < 4096 := by unfold spareOf; omega

theorem setPortState_darkens {lane st : Nat} (d : Dev) (hl : lane < 1024) (hs : st % 16 ≠ lsUp) :
    Darkens d (setPortState lane st d) :=
  .forEach _ _ (fun _ h d => .setLinkState d (lanesOfPort_lt hl h) hs) d

theorem setReason_darkens {lane : Nat} (reason : Nat) (d : Dev) (hl : lane < 1024) : Darkens d (setReason lane reason d) :=
  .linkStat reason d (by omega) rfl (by decide) (.inl (by decide))

theorem clearExchange_darkens (lane : Nat) (d : Dev) : Darkens d (clearExchange lane d) := by
  unfold clearExchange
  exact (Darkens.tset _ _ _ _ d).trans (.updPort lane _ fun _ h => h)

/-- A port that is not UP is put in a state other than UP. -/
theorem takeTo_darkens {lane st : Nat} (now : W64) (reason : Nat) {d : Dev} (hl : lane < 1024) (hs : st % 16 ≠ lsUp)
    (hu : linkState d lane ≠ lsUp) : Darkens d (takeTo now lane st reason d) := by
  unfold takeTo
  extract_lets old wasUp rxOpen d0 d1 d2 d3 d4
  have hw : wasUp = false := decide_eq_false hu
  have h0 : Darkens d d0 := by simp only [d0, hw]; exact .refl d
  have h2 : Darkens d d2 := ((h0.trans (setReason_darkens reason _ hl)).trans (setPortState_darkens _ hl hs)).trans
    (.updPort lane _ fun _ h => h)
  have h3 : Darkens d d3 := by
    simp only [d3]
    split
    · exact (h2.trans (portDown_darkens ..)).trans (clearExchange_darkens ..)
    · exact h2
  have h4 : Darkens d d4 := by
    simp only [d4]
    split
    · exact h3.trans (.emit _ _)
    · exact h3
  exact h4.trans (.raiseIrq _ _ _ (by show lane < 4096; omega))

theorem restoreLanes_darkens {lane : Nat} (d : Dev) (hl : lane < 1024) : Darkens d (restoreLanes lane d) := by
  unfold restoreLanes
  extract_lets s serving d1
  have h1 : Darkens d d1 := by
    refine .forEach _ _ (fun _ _ d => ?_) d
    exact .of_regs rfl rfl rfl rfl rfl (.refl _) rfl rfl
  split
  · exact (h1.trans (.linkStat 0 _ (spareOf_lt hl) rfl (by decide) (.inl (by decide)))).trans
      (.setLinkState _ (spareOf_lt hl) (by decide))
  · exact h1

theorem goDark_darkens {lane : Nat} (now : W64) {d : Dev} (hl : lane < 1024) (hu : linkState d lane ≠ lsUp) :
    Darkens d (goDark now lane d) := by
  unfold goDark
  split
  · exact .refl d
  · extract_lets p lost d1
    have h0 : Darkens d (bumpN Page.pkg Reg.PKG_CNT 5 lost d) := .bumpN _ d (by decide) (by decide) (by decide)
    have hu0 : linkState (bumpN Page.pkg Reg.PKG_CNT 5 lost d) lane ≠ lsUp :=
      of_decide_eq_false (h0.up lane hl (decide_eq_false hu))
    have h1 : Darkens d d1 := (h0.trans (takeTo_darkens now _ hl (by decide) hu0)).trans (restoreLanes_darkens _ hl)
    exact (h1.trans (.updPort lane _ fun _ _ => rfl)).trans (.emit _ _)

theorem spareDark_darkens {lane : Nat} (d : Dev) (hl : lane < 1024) : Darkens d (spareDark lane d) := by
  unfold spareDark
  dsimp only
  split
  · exact .refl d
  · exact (Darkens.setLinkState d (spareOf_lt hl) (by decide)).trans (.emit _ _)

/-- A port that is not UP leaves service by going dark. -/
theorem leaveService_darkens {lane : Nat} (now : W64) {d : Dev} (hl : lane < 1024) (hu : portUp d lane = false) :
    Darkens d (leaveService now lane d) := by
  rw [leaveService, hu, if_neg Bool.false_ne_true]
  exact (goDark_darkens now hl (of_decide_eq_false hu)).trans (spareDark_darkens _ hl)

/-- With no lane UP, every port of a list leaves service by going dark. -/
theorem leaveAll_darkens (now : W64) (l : List Nat) (hl : ∀ x ∈ l, x < 1024) {d : Dev}
    (hu : ∀ x, x < 1024 → portUp d x = false) : Darkens d (forEach l (leaveService now) d) := by
  induction l generalizing d with
  | nil => exact .refl d
  | cons a l ih =>
    have ha : a < 1024 := hl a (by simp)
    have h := leaveService_darkens now ha (hu a ha)
    exact h.trans (ih (fun x hx => hl x (by simp [hx])) fun x hx => h.up x hx (hu x hx))

end Sys2Proof.Machine

/-! ### Warm reset (R441 to R443, R491) -/

namespace Sys2Proof.Machine

/-! #### The start: no port is UP or in departure -/

/-- What a warm reset's start does before the pin's record: wear is journalled, a running reset ends, ports go dark. -/
def warmDark (now : W64) (d : Dev) : Dev :=
  let d1 := forEach ((List.range 16).filter (wearKnown d)) writeWear d
  let d2 := if resetting d1 then setPhase 0 d1 else d1
  forEach (allPorts d2) (leaveService now) d2

/-- PERST_N recorded as asserted at a counter value, with the reset due. -/
def pinAsserted (now : W64) (d : Dev) : Dev :=
  { d with rst := { d.rst with perst := true, perstTick := now.toNat, warmDue := true } }

theorem warmStart_eq (now : W64) (d : Dev) : warmStart now d = pinAsserted now (warmDark now d) := by
  unfold warmStart pinAsserted warmDark
  with_reducible rfl

theorem allPorts_lt {d : Dev} {x : Nat} (h : x ∈ allPorts d) : x < 1024 :=
  List.mem_range.1 (List.mem_filter.1 h).1

/-- With no port UP the start of a warm reset only darkens. -/
theorem warmDark_darkens (now : W64) {d : Dev} (hu : ∀ l, l < 1024 → portUp d l = false) : Darkens d (warmDark now d) := by
  unfold warmDark
  extract_lets d1 d2
  have h1 : Darkens d d1 := .forEach _ _ (fun _ _ d => journalAdd_darkens ..) d
  have h2 : Darkens d d2 := by
    simp only [d2]
    split
    · exact h1.trans (.wr _ _ (by decide) (by decide) (by decide))
    · exact h1
  exact h2.trans (leaveAll_darkens now _ (fun _ hx => allPorts_lt hx) fun l hl => h2.up l hl (hu l hl))

/-! #### The reset itself -/

/-- What the boot after a warm reset may write before it counts itself: MGT, PMC, OPT and TIM_STAT. -/
def warmShown (p : Page) (a : Nat) : Prop := p.blk = .mgt ∨ p.blk = .pmc ∨ p.blk = .opt ∨ (p.blk = .tim ∧ a = 0x10C)

/-- The state a warm reset starts the boot from: the reset state with what it keeps (R443). -/
def warmBare (old : Dev) : Dev :=
  let b := bareDev old
  { b with
    ctl := { b.ctl with regs := old.ctl.regs.filter (fun e => warmKeeps e.1) },
    lnk := { b.lnk with laser := old.lnk.laser },
    stk := { b.stk with poisoned := old.stk.poisoned },
    tim := { b.tim with offset := old.tim.offset, anchor := old.tim.anchor },
    pmc := { b.pmc with thermTrip := old.pmc.thermTrip },
    rst := { b.rst with
      perstTick := old.rst.perstTick, warmHeld := old.rst.perst, pwrGood := old.rst.pwrGood, faultSeq := old.rst.faultSeq } }

/-- The kept state with the tiles and the reference shown. -/
def warmSeen (old : Dev) : Dev := showReference (forEach (List.range 8) showTile (warmBare old))

/-- The device before the reset counts itself: the stores restored, and the modules' wear. -/
def warmRestored (old : Dev) : Dev := forEach (List.range 16) restoreWear (restoreStores old (warmSeen old))

theorem warmDev_eq (old : Dev) : warmDev old =
    bump Page.pkg Reg.PKG_CNT 0 (wr Page.pkg Reg.PKG_RESET_STAT_LAST 1 (warmRestored old)) := by
  unfold warmDev warmRestored warmSeen warmBare
  with_reducible rfl

theorem syncTile_boots {W : Page → Nat → Prop} (t : Nat) (d : Dev) (ht : t < 8) (hw : ∀ p a, p.blk = .opt → W p a) :
    Boots W d (syncTile t d) := by
  have hp : (Page.tile t).inst < 4096 := by show t < 4096; omega
  unfold syncTile
  extract_lets p a b lit dim d1 d2
  have h1 : Boots W d d1 := (Boots.wr _ d hp (by decide) (hw _ _ rfl)).trans (.wr _ _ hp (by decide) (hw _ _ rfl))
  have hirq : ∀ bit e, Boots W e (raiseIrq p bit e) := fun bit e => .raiseIrq bit e hp (hw _ _ rfl)
  exact (h1.trans (.doIf _ _ (hirq 16))).trans (.doIf _ _ (hirq 17))

theorem Boots.wrWord {W : Page → Nat → Prop} {p : Page} {off : Nat} (v : W32) (d : Dev) (hp : p.inst < 4096)
    (ho : off < 4096) (hw : W p off) : Boots W d (Machine.wrWord p off v d) := ⟨.wrWord v d hp ho hw, rfl, rfl, rfl, rfl⟩

theorem showTile_boots {W : Page → Nat → Prop} (t : Nat) (d : Dev) (ht : t < 8) (hw : ∀ p a, p.blk = .opt → W p a) :
    Boots W d (showTile t d) :=
  (syncTile_boots t d ht hw).trans (.wrWord 0 _ (by show t < 4096; omega) (by decide) (hw _ _ rfl))

theorem restoreWear_boots {W : Page → Nat → Prop} (m : Nat) (d : Dev) (hm : m < 16) (hw : ∀ p a, p.blk = .opt → W p a) :
    Boots W d (restoreWear m d) := by
  unfold restoreWear
  split
  · extract_lets hours
    have h1 : Boots W d (Machine.wr (Page.laser m) Reg.LSR_WEAR_HOURS hours d) :=
      .wr _ d (by show 8 + m < 4096; omega) (by decide) (hw _ _ rfl)
    exact h1.trans ⟨⟨rfl, rfl, rfl, rfl, rfl, .refl _, fun _ _ _ _ _ => rfl⟩, rfl, rfl, rfl, rfl⟩
  · exact .refl W d

theorem warmSeen_boots (old : Dev) : Boots warmShown (warmBare old) (warmSeen old) :=
  (Boots.forEach _ _ (fun t ht d => showTile_boots t d (List.mem_range.1 ht) fun _ _ h => .inr (.inr (.inl h))) _).trans
    (showReference_boots _ (.inr (.inr (.inr ⟨rfl, rfl⟩))))

/-- The boot of a warm reset shows the restored stores over the state kept. -/
theorem warmRestored_boots (old : Dev) : Boots warmShown (withStores old (warmBare old)) (warmRestored old) :=
  (((warmSeen_boots old).withStores old).trans
    (restoreStores_boots old (warmSeen old) (warmSeen_boots old).tables (fun _ => .inl rfl) (fun _ => .inr (.inl rfl)))).trans
    (.forEach _ _ (fun m hm d => restoreWear_boots m d (List.mem_range.1 hm) fun _ _ h => .inr (.inr (.inl h))) _)

/-- A sparse map cut to some keys reads as before there, and as unlisted elsewhere. -/
theorem sget_filter {α : Type} (d : Nat → α) (P : Nat → Bool) (m : SMap α) (k : Nat) :
    sget d (m.filter (fun e => P e.1)) k = if P k then sget d m k else d k := by
  induction m with
  | nil => simp
  | cons x m ih =>
    obtain ⟨a, w⟩ := x
    rw [List.filter_cons]
    by_cases hP : P a = true
    · simp only [hP, if_true, sget, ih]
      split_ifs <;> simp_all
    · simp only [hP, Bool.false_eq_true, if_false, sget, ih]
      split_ifs <;> simp_all

/-- The registers a warm reset keeps read as before it, every other its reset value (R443). -/
theorem warmBare_word (old : Dev) (p : Page) {off : Nat} (hp : p.inst < 4096) (ho : off < 4096) :
    rdWord (withStores old (warmBare old)) p off =
      if warmKeeps (p.base + off) then rdWord old p off else p.resetWord off := by
  refine (sget_filter resetWordAt warmKeeps old.ctl.regs (p.base + off)).trans ?_
  rw [resetWordAt, pageOf_base p off hp ho]
  rfl

/-- What a warm reset may write in all: its function also counts the reset on PKG. -/
def warmWritten (p : Page) (a : Nat) : Prop := warmShown p a ∨ p.blk = .pkg

theorem warmDev_boots (old : Dev) : Boots warmWritten (withStores old (warmBare old)) (warmDev old) := by
  have h := warmRestored_boots old
  have h1 : Boots warmWritten (withStores old (warmBare old)) (warmRestored old) :=
    { h with toFrame := h.toFrame.mono fun _ _ => .inl }
  have h2 := h1.trans (.wr (f := Reg.PKG_RESET_STAT_LAST) 1 _ (by decide : Page.pkg.inst < 4096) (by decide) (.inr rfl))
  rw [warmDev_eq]
  exact h2.trans (.bumpN_unwatched 1 _ h2.tables (by decide) (by decide) fun _ => .inr rfl)

/-- Restarting the clocks writes their record alone. -/
theorem restartClocks_boots (W : Page → Nat → Prop) (now : W64) (d : Dev) : Boots W d (restartClocks now d) := by
  have hctl : (restartClocks now d).ctl = d.ctl := by simp only [restartClocks]
  have hmgt : (restartClocks now d).mgt = d.mgt := by simp only [restartClocks]
  refine ⟨⟨?_, ?_, ?_, ?_, ?_, by rw [hmgt]; exact .refl _, fun q a _ _ _ => rdWord_congr (congrArg Ctl.regs hctl) q a⟩, ?_, ?_,
    congrArg Ctl.tables hctl, congrArg Ctl.staged hctl⟩ <;> simp only [restartClocks]

/-- The device a warm reset leaves. -/
def warmed (now : W64) (old : Dev) : Dev := restartClocks now (warmDev old)

theorem warmed_boots (now : W64) (old : Dev) : Boots warmWritten (withStores old (warmBare old)) (warmed now old) :=
  (warmDev_boots old).trans (restartClocks_boots _ now _)

/-- The reset record after a warm reset: the pins, the fault log's sequence, and the hold of the boot (R441, R453). -/
theorem warmed_rst (now : W64) (old : Dev) : (warmed now old).rst =
    { Rst.reset with perst := old.rst.perst, perstTick := old.rst.perstTick, warmHeld := old.rst.perst,
                     pwrGood := old.rst.pwrGood, faultSeq := old.rst.faultSeq } := (warmed_boots now old).rst

/-- Stockpot's poison and the terms of fabric time are kept (R443). -/
theorem warmed_keeps (now : W64) (old : Dev) : (warmed now old).stk.poisoned = old.stk.poisoned ∧
    (warmed now old).tim.offset = old.tim.offset ∧ (warmed now old).tim.anchor = old.tim.anchor :=
  have h := warmed_boots now old
  ⟨(congrArg Stk.poisoned h.stk).trans rfl, (congrArg Tim.offset h.tim).trans rfl, (congrArg Tim.anchor h.tim).trans rfl⟩

/-- The fuses and the flash are kept (R443). -/
theorem warmed_stores (now : W64) (old : Dev) : (warmed now old).mgt.ownerKeys = old.mgt.ownerKeys ∧
    (warmed now old).mgt.minSvn = old.mgt.minSvn ∧ (warmed now old).mgt.flash = old.mgt.flash ∧
    (warmed now old).mgt.coldResets = old.mgt.coldResets :=
  have h := (warmed_boots now old).stores
  ⟨h.ownerKeys, h.minSvn, h.flash, h.coldResets⟩

/-- The words of a warm reset are those of its count. -/
theorem warmed_word (now : W64) (old : Dev) (p : Page) (a : Nat) : rdWord (warmed now old) p a = rdWord (warmDev old) p a :=
  rdWord_congr (congrArg Ctl.regs (show (restartClocks now (warmDev old)).ctl = _ by simp only [restartClocks])) p a

/-- RESET_STAT names the warm reset (R463). -/
theorem warmed_last (now : W64) (old : Dev) : rd (warmed now old) Page.pkg Reg.PKG_RESET_STAT_LAST = 1 := by
  rw [rd, warmed_word, ← rd, warmDev_eq,
    rd_bump_off _ _ _ _ (by decide) (by decide) (by decide) (by decide) (by decide) (by decide),
    rd_wr_fits _ _ _ _ (by decide) (by decide)]

/-- A register of PKG is not kept: before the reset counts itself it reads its reset value. -/
theorem warmRestored_pkg (old : Dev) {off : Nat} (ho : off < 4096) :
    rdWord (warmRestored old) Page.pkg off = Page.pkg.resetWord off := by
  have hw : ¬warmShown Page.pkg off := by
    rintro (h | h | h | ⟨h, -⟩) <;> cases h
  have hk : warmKeeps (Page.pkg.base + off) = false := by
    rw [warmKeeps, pageOf_base Page.pkg off (by decide) ho]; rfl
  rw [(warmRestored_boots old).word _ _ (by decide) ho hw, warmBare_word old _ (by decide) ho, hk, if_neg Bool.false_ne_true]

/-- PKG counts the warm reset, and it alone. -/
theorem warmed_count (now : W64) (old : Dev) : rd64 (warmed now old) Page.pkg Reg.PKG_CNT = 1 := by
  have hzero : rd64 (wr Page.pkg Reg.PKG_RESET_STAT_LAST 1 (warmRestored old)) Page.pkg ⟨Reg.PKG_CNT.off + 8 * 0, 31, 0⟩ = 0 := by
    rw [rd64, rdWord_wr_off _ _ _ _ _ (by decide), rdWord_wr_off _ _ _ _ _ (by decide), warmRestored_pkg old (by decide),
      warmRestored_pkg old (by decide)]
    decide
  rw [rd64, warmed_word, warmed_word, ← rd64, warmDev_eq]
  refine (rd64_bump Page.pkg Reg.PKG_CNT 0 _ (by decide) (by decide) (by decide)).trans ?_
  rw [hzero]
  decide

/-- RATE and JUMP_LIMIT keep their values (R443). -/
theorem warmed_tim (now : W64) (old : Dev) {off : Nat} (ho : off = 0x104 ∨ off = 0x108) :
    rdWord (warmed now old) Page.tim off = rdWord old Page.tim off := by
  have hlt : off < 4096 := by omega
  have hw : ¬warmWritten Page.tim off := by
    rintro ((h | h | h | ⟨-, h⟩) | h)
    case inl.inr.inr.inr => omega
    all_goals cases h
  have hk : warmKeeps (Page.tim.base + off) = true := by
    rw [warmKeeps, pageOf_base Page.tim off (by decide) hlt]
    exact decide_eq_true ho
  rw [(warmed_boots now old).word _ _ (by decide) hlt hw, warmBare_word old _ (by decide) hlt, if_pos hk]

/-- With no port to wait for and no accumulate accepted, a warm reset takes effect at its command. -/
theorem warmReset_now {s : State} {d : Dev} (hp : s.dev.rst.perst = false) (hg : s.dev.rst.pwrGood = true)
    (hd : warmStart s.now s.dev = pinAsserted s.now d) (hn : anyDeparting d = false) (ha : d.stk.accs = []) :
    warmReset s = onDev (fun _ => warmed s.now (pinAsserted s.now d)) s := by
  have hwrite : ∀ u : State, u.dev.stk.accs = [] → writeAccs u = u := fun u hu => by rw [writeAccs, hu]; rfl
  have hstart : onDev (warmStart s.now) s = onDev (fun _ => pinAsserted s.now d) s := by simp only [onDev, hd]
  have hdue : (pinAsserted s.now d).rst.warmDue = true := rfl
  have hdep : anyDeparting (pinAsserted s.now d) = false := hn
  simp only [warmReset, hp, hg, Bool.not_true, Bool.false_eq_true, if_false, hstart]
  rw [warmProceed, onDev_dev, hdep, hdue, Bool.not_false, Bool.and_self, if_pos rfl, warmApply, hwrite _ ha]
  simp only [onDev, warmed]

theorem warmReset_unpowered {s : State} (hp : s.dev.rst.perst = false) (hg : s.dev.rst.pwrGood = false) :
    warmReset s = onDev (fun d => { d with rst := { d.rst with perst := true } }) s := by
  simp [warmReset, hp, hg]

/-! #### The pin's release (R443, R491) -/

theorem perstReleased_held {s : State} (hw : s.dev.rst.warmDue = false) :
    perstReleased s =
      (let s2 := onDev (fun d => { d with rst := { d.rst with perst := false, warmHeld := false } }) s
       if s.dev.rst.warmHeld && !elapsed s.now s.dev.rst.perstTick 100000 then
         { s2 with mem := [], dev := { s2.dev with stk := { s2.dev.stk with poisoned := [] } } } else s2) := by
  simp only [perstReleased, hw, Bool.false_eq_true, if_false]

/-- A state whose chapters' records but the reset's and Stockpot's are the same. -/
theorem partsKept_but_rst_stk {s t : State}
    (h : (t.dev.lnk, t.dev.sw, t.dev.fwd, t.dev.byp, t.dev.col, t.dev.ldl) =
      (s.dev.lnk, s.dev.sw, s.dev.fwd, s.dev.byp, s.dev.col, s.dev.ldl))
    (h' : (t.dev.tim, t.dev.pmc, t.dev.mgt, t.dev.tel) = (s.dev.tim, s.dev.pmc, s.dev.mgt, s.dev.tel)) :
    PartsKept [.rst, .stk] s t := by
  simp only [Prod.mk.injEq] at h h'
  intro x hx
  cases x <;> simp_all [Part.same]

/-- Releasing the pin ends the hold; a pin asserted for less than 100 µs during a held boot loses Stockpot. -/
theorem perstNDeasserted_releases {s : State} (hp : s.dev.rst.perst = true) (hw : s.dev.rst.warmDue = false) :
    ∃ t, exec .perstNDeasserted s = .next t ∧ t.pending = s.pending ∧ t.now = s.now ∧ t.dev.rst.perst = false ∧
      t.dev.rst.warmHeld = false ∧ TablesKept s t ∧ PartsKept [.rst, .stk] s t ∧ PagesKept [] s t ∧
      (s.dev.rst.warmHeld = false ∨ elapsed s.now s.dev.rst.perstTick 100000 = true →
        t.mem = s.mem ∧ t.dev.stk = s.dev.stk) ∧
      (s.dev.rst.warmHeld = true → elapsed s.now s.dev.rst.perstTick 100000 = false →
        t.mem = [] ∧ t.dev.stk.poisoned = []) := by
  refine ⟨perstReleased s, ?_, ?_⟩
  · rw [exec_perstNDeasserted, effect_next _ _ _ rfl, hp, if_pos rfl]
  · rw [perstReleased_held hw]
    dsimp only
    split
    case isTrue hshort =>
      refine ⟨rfl, rfl, rfl, rfl, fun _ _ _ => rfl, partsKept_but_rst_stk rfl rfl, fun _ _ _ _ _ => rfl, fun h => ?_,
        fun _ _ => ⟨rfl, rfl⟩⟩
      · simp only [Bool.and_eq_true, Bool.not_eq_true'] at hshort
        rcases h with h | h <;> simp [h] at hshort
    case isFalse hlong =>
      refine ⟨rfl, rfl, rfl, rfl, fun _ _ _ => rfl, partsKept_but_rst_stk rfl rfl, fun _ _ _ _ _ => rfl, fun _ => ⟨rfl, rfl⟩,
        fun h h' => ?_⟩
      · simp [h, h'] at hlong

theorem warmResetKeeps : Claims.WarmResetKeeps := by
  refine ⟨fun s hp => ⟨fun hg hu hn ha => ?_, fun hg => ?_⟩, fun s hp hw => perstNDeasserted_releases hp hw⟩
  · have hd : Darkens s.dev (warmDark s.now s.dev) := warmDark_darkens s.now hu
    have hexec := warmReset_now hp hg (warmStart_eq s.now s.dev) (hd.departing hn) ((congrArg Stk.accs hd.stk).trans ha)
    rw [exec_warmReset, effect_next _ _ _ rfl, hexec]
    refine ⟨_, rfl, coreKept_onDev _ s, ?_⟩
    clear hexec
    generalize warmDark s.now s.dev = d at hd
    obtain ⟨hpoison, hoffset, hanchor⟩ := warmed_keeps s.now (pinAsserted s.now d)
    obtain ⟨hkeys, hsvn, hflash, hcold⟩ := warmed_stores s.now (pinAsserted s.now d)
    have hb := warmed_boots s.now (pinAsserted s.now d)
    have hrst := warmed_rst s.now (pinAsserted s.now d)
    have hlast := warmed_last s.now (pinAsserted s.now d)
    have hcount := warmed_count s.now (pinAsserted s.now d)
    have hrate := warmed_tim s.now (pinAsserted s.now d) (.inr rfl)
    have hjump := warmed_tim s.now (pinAsserted s.now d) (.inl rfl)
    have htim : ∀ a, a < 4096 → a ≠ 0x010 → rdWord d Page.tim a = rdWord s.dev Page.tim a := fun a ha hne =>
      hd.word _ _ (by decide) ha (by rintro (h | h); exacts [h rfl, hne h])
    generalize warmed s.now (pinAsserted s.now d) = t at *
    exact ⟨congrArg Rst.perst hrst, congrArg Rst.warmDue hrst, congrArg Rst.warmHeld hrst,
      congrArg Rst.perstTick hrst, hlast, hcount, hb.tables, hb.sw, hb.col, hb.byp,
      hpoison.trans (congrArg Stk.poisoned hd.stk), hoffset.trans (congrArg Tim.offset hd.tim),
      hanchor.trans (congrArg Tim.anchor hd.tim), hrate.trans (htim 0x108 (by decide) (by decide)),
      hjump.trans (htim 0x104 (by decide) (by decide)), hkeys.trans hd.stores.ownerKeys, hsvn.trans hd.stores.minSvn,
      hflash.trans hd.stores.flash, hcold.trans hd.stores.coldResets⟩
  · rw [exec_warmReset, effect_next _ _ _ rfl, warmReset_unpowered hp hg]

/-- Settles O53: a cold reset is the boot over the reset state, and a warm reset with every port dark the boot over the
state it keeps. -/
theorem coldAndWarm : Obligations.ColdAndWarm := ⟨coldResetClears, warmResetKeeps⟩

end Sys2Proof.Machine

/-! ### The dispatch as a whole (R17, R26, R38, R39) -/

namespace Sys2Proof.Machine

/-- In every state a command is one effect, guarded by the existence of the units it names and by nothing else. -/
theorem exec_eq_effect (s : State) : ∀ c : Instr, ∃ f, exec c s = effect c f s
  -- registers (R7 to R15)
  | .registerWrite .. => ⟨_, exec_registerWrite ..⟩
  | .lowWordRead .. => ⟨_, exec_lowWordRead ..⟩
  -- page control (ch. 2)
  | .enable .. => ⟨_, exec_enable ..⟩
  | .quiesceReq .. => ⟨_, exec_quiesceReq ..⟩
  | .quiesced .. => ⟨_, exec_quiesced ..⟩
  | .goIdle .. => ⟨_, exec_goIdle ..⟩
  | .abort .. => ⟨_, exec_abort ..⟩
  | .abortComplete .. => ⟨_, exec_abortComplete ..⟩
  | .abortDeadline .. => ⟨_, exec_abortDeadline ..⟩
  | .blockReset .. => ⟨_, exec_blockReset ..⟩
  | .blockResetComplete .. => ⟨_, exec_blockResetComplete ..⟩
  | .blockFail .. => ⟨_, exec_blockFail ..⟩
  | .commit .. => ⟨_, exec_commit ..⟩
  | .commitApply .. => ⟨_, exec_commitApply ..⟩
  | .pageOwnerWrite .. => ⟨_, exec_pageOwnerWrite ..⟩
  | .abortAll .. => ⟨_, exec_abortAll ..⟩
  | .abortAllWave => ⟨_, exec_abortAllWave s⟩
  | .ownerAll .. => ⟨_, exec_ownerAll ..⟩
  | .ownerAllDone => ⟨_, exec_ownerAllDone s⟩
  -- table port
  | .tblRead .. => ⟨_, exec_tblRead ..⟩
  | .tblWrite .. => ⟨_, exec_tblWrite ..⟩
  | .tblInsert .. => ⟨_, exec_tblInsert ..⟩
  | .tblDelete .. => ⟨_, exec_tblDelete ..⟩
  | .cmpwr .. => ⟨_, exec_cmpwr ..⟩
  | .tblCmdComplete .. => ⟨_, exec_tblCmdComplete ..⟩
  -- ingress and switch core
  | .cellReceive .. => ⟨_, exec_cellReceive ..⟩
  | .colanderIngress .. => ⟨_, exec_colanderIngress ..⟩
  | .escapeMove .. => ⟨_, exec_escapeMove ..⟩
  | .landingPromote .. => ⟨_, exec_landingPromote ..⟩
  | .thresholdRecompute => ⟨_, exec_thresholdRecompute s⟩
  | .crossbarMatch => ⟨_, exec_crossbarMatch s⟩
  | .a2aPhaseOpen .. => ⟨_, exec_a2aPhaseOpen ..⟩
  | .multicastReplicate .. => ⟨_, exec_multicastReplicate ..⟩
  | .egressReplicaWrite .. => ⟨_, exec_egressReplicaWrite ..⟩
  | .txCellSlot .. => ⟨_, exec_txCellSlot ..⟩
  | .wheelSlot .. => ⟨_, exec_wheelSlot ..⟩
  | .gateStart .. => ⟨_, exec_gateStart ..⟩
  | .gateEntry .. => ⟨_, exec_gateEntry ..⟩
  | .holdWrite .. => ⟨_, exec_holdWrite ..⟩
  | .flushDone .. => ⟨_, exec_flushDone ..⟩
  | .unitEccError .. => ⟨_, exec_unitEccError ..⟩
  | .loadWindow .. => ⟨_, exec_loadWindow ..⟩
  -- links
  | .adminUp .. => ⟨_, exec_adminUp ..⟩
  | .retrain .. => ⟨_, exec_retrain ..⟩
  | .lockAcquired .. => ⟨_, exec_lockAcquired ..⟩
  | .deskewDone .. => ⟨_, exec_deskewDone ..⟩
  | .linkTrainingTimeout .. => ⟨_, exec_linkTrainingTimeout ..⟩
  | .trainingFrame .. => ⟨_, exec_trainingFrame ..⟩
  | .landingReservationRetry .. => ⟨_, exec_landingReservationRetry ..⟩
  | .autoRetrain .. => ⟨_, exec_autoRetrain ..⟩
  | .codewordSend .. => ⟨_, exec_codewordSend ..⟩
  | .dataCodewordReceive .. => ⟨_, exec_dataCodewordReceive ..⟩
  | .uncorrectableCodeword .. => ⟨_, exec_uncorrectableCodeword ..⟩
  | .credit .. => ⟨_, exec_credit ..⟩
  | .ack .. => ⟨_, exec_ack ..⟩
  | .nak .. => ⟨_, exec_nak ..⟩
  | .ackTimeout .. => ⟨_, exec_ackTimeout ..⟩
  | .repairRequest .. => ⟨_, exec_repairRequest ..⟩
  | .repairAccept .. => ⟨_, exec_repairAccept ..⟩
  | .repairRefuse .. => ⟨_, exec_repairRefuse ..⟩
  | .repairAnswerTimeout .. => ⟨_, exec_repairAnswerTimeout ..⟩
  | .laneSwitch .. => ⟨_, exec_laneSwitch ..⟩
  | .spareDeskewDone .. => ⟨_, exec_spareDeskewDone ..⟩
  | .noLight .. => ⟨_, exec_noLight ..⟩
  | .lockLost .. => ⟨_, exec_lockLost ..⟩
  | .spareThreshExceeded .. => ⟨_, exec_spareThreshExceeded ..⟩
  | .depart .. => ⟨_, exec_depart ..⟩
  | .departedClose .. => ⟨_, exec_departedClose ..⟩
  | .flitCrcError .. => ⟨_, exec_flitCrcError ..⟩
  | .d2dWireRepair .. => ⟨_, exec_d2dWireRepair ..⟩
  | .d2dRepairDone .. => ⟨_, exec_d2dRepairDone ..⟩
  | .referenceLoss => ⟨_, exec_referenceLoss s⟩
  -- laser modules
  | .laserInsert .. => ⟨_, exec_laserInsert ..⟩
  | .laserVerify .. => ⟨_, exec_laserVerify ..⟩
  | .laserRampDone .. => ⟨_, exec_laserRampDone ..⟩
  | .laserPoll .. => ⟨_, exec_laserPoll ..⟩
  | .laserEvent .. => ⟨_, exec_laserEvent ..⟩
  | .laserChangeoverDone .. => ⟨_, exec_laserChangeoverDone ..⟩
  | .laserHoldoffEnd .. => ⟨_, exec_laserHoldoffEnd ..⟩
  | .laserRemove .. => ⟨_, exec_laserRemove ..⟩
  | .wearHour .. => ⟨_, exec_wearHour ..⟩
  | .release .. => ⟨_, exec_release ..⟩
  | .releaseDone .. => ⟨_, exec_releaseDone ..⟩
  | .resume .. => ⟨_, exec_resume ..⟩
  -- forwarding
  | .swap .. => ⟨_, exec_swap ..⟩
  | .arm .. => ⟨_, exec_arm ..⟩
  | .disarm .. => ⟨_, exec_disarm ..⟩
  | .bankDrained .. => ⟨_, exec_bankDrained ..⟩
  | .drainWarning => ⟨_, exec_drainWarning s⟩
  | .flowAgeSweep => ⟨_, exec_flowAgeSweep s⟩
  | .parityRepair .. => ⟨_, exec_parityRepair ..⟩
  | .digestWrite .. => ⟨_, exec_digestWrite ..⟩
  | .scrubPass .. => ⟨_, exec_scrubPass ..⟩
  -- optical bypass
  | .circSetup .. => ⟨_, exec_circSetup ..⟩
  | .circTeardown .. => ⟨_, exec_circTeardown ..⟩
  | .confirm .. => ⟨_, exec_confirm ..⟩
  | .circDrainStart .. => ⟨_, exec_circDrainStart ..⟩
  | .circuitFence .. => ⟨_, exec_circuitFence ..⟩
  | .circFlush .. => ⟨_, exec_circFlush ..⟩
  | .circReplayCut .. => ⟨_, exec_circReplayCut ..⟩
  | .circSwitch .. => ⟨_, exec_circSwitch ..⟩
  | .circuitUp .. => ⟨_, exec_circuitUp ..⟩
  | .circTriggerLate .. => ⟨_, exec_circTriggerLate ..⟩
  | .circLightReturn .. => ⟨_, exec_circLightReturn ..⟩
  | .confirmTimeout .. => ⟨_, exec_confirmTimeout ..⟩
  | .pathPowerLoss .. => ⟨_, exec_pathPowerLoss ..⟩
  | .matrixFault => ⟨_, exec_matrixFault s⟩
  | .candWindow => ⟨_, exec_candWindow s⟩
  | .planPhaseBoundary .. => ⟨_, exec_planPhaseBoundary ..⟩
  -- collectives
  | .cup => ⟨_, exec_cup s⟩
  | .ctailUp => ⟨_, exec_ctailUp s⟩
  | .missingCellsTimeout .. => ⟨_, exec_missingCellsTimeout ..⟩
  | .chunkTimeout .. => ⟨_, exec_chunkTimeout ..⟩
  | .resultsReady .. => ⟨_, exec_resultsReady ..⟩
  | .resultStream .. => ⟨_, exec_resultStream ..⟩
  | .pageOutDone .. => ⟨_, exec_pageOutDone ..⟩
  | .pageInDone .. => ⟨_, exec_pageInDone ..⟩
  | .resize .. => ⟨_, exec_resize ..⟩
  | .resizeDone .. => ⟨_, exec_resizeDone ..⟩
  | .genDrainDone .. => ⟨_, exec_genDrainDone ..⟩
  | .stragClear .. => ⟨_, exec_stragClear ..⟩
  -- Ladle array
  | .accumulateRun .. => ⟨_, exec_accumulateRun ..⟩
  | .finishRun .. => ⟨_, exec_finishRun ..⟩
  | .rebuildRun .. => ⟨_, exec_rebuildRun ..⟩
  | .load .. => ⟨_, exec_load ..⟩
  | .copy .. => ⟨_, exec_copy ..⟩
  | .recipeCmdDone => ⟨_, exec_recipeCmdDone s⟩
  | .retiringFreed .. => ⟨_, exec_retiringFreed ..⟩
  | .coreFail .. => ⟨_, exec_coreFail ..⟩
  | .scratchCorrected .. => ⟨_, exec_scratchCorrected ..⟩
  | .spareTakeover .. => ⟨_, exec_spareTakeover ..⟩
  | .rebuildDone .. => ⟨_, exec_rebuildDone ..⟩
  | .spareSelftest .. => ⟨_, exec_spareSelftest ..⟩
  -- Stockpot and the memory service
  | .memPut => ⟨_, exec_memPut s⟩
  | .memGet => ⟨_, exec_memGet s⟩
  | .memAcc => ⟨_, exec_memAcc s⟩
  | .memFence => ⟨_, exec_memFence s⟩
  | .verbAccept .. => ⟨_, exec_verbAccept ..⟩
  | .accRun .. => ⟨_, exec_accRun ..⟩
  | .fenceComplete .. => ⟨_, exec_fenceComplete ..⟩
  | .fenceTimeout .. => ⟨_, exec_fenceTimeout ..⟩
  | .linePoison .. => ⟨_, exec_linePoison ..⟩
  | .patrolScrub .. => ⟨_, exec_patrolScrub ..⟩
  | .hostWindowAccess .. => ⟨_, exec_hostWindowAccess ..⟩
  -- fabric time
  | .snap .. => ⟨_, exec_snap ..⟩
  | .stepRequest .. => ⟨_, exec_stepRequest ..⟩
  | .set .. => ⟨_, exec_set ..⟩
  | .servoRateChange .. => ⟨_, exec_servoRateChange ..⟩
  | .servoStep .. => ⟨_, exec_servoStep ..⟩
  | .timeCellSend .. => ⟨_, exec_timeCellSend ..⟩
  | .timeCellReceive .. => ⟨_, exec_timeCellReceive ..⟩
  | .locked => ⟨_, exec_locked s⟩
  | .holdoverEnter => ⟨_, exec_holdoverEnter s⟩
  | .triggerHandoff .. => ⟨_, exec_triggerHandoff ..⟩
  | .triggerFire .. => ⟨_, exec_triggerFire ..⟩
  | .ppsInEdge => ⟨_, exec_ppsInEdge s⟩
  | .ppsOutPulse => ⟨_, exec_ppsOutPulse s⟩
  -- power
  | .powerInterval .. => ⟨_, exec_powerInterval ..⟩
  | .allocationWatchdog => ⟨_, exec_allocationWatchdog s⟩
  | .pointChangeDone .. => ⟨_, exec_pointChangeDone ..⟩
  | .droopStart .. => ⟨_, exec_droopStart ..⟩
  | .droopEnd .. => ⟨_, exec_droopEnd ..⟩
  | .heldChangeResume .. => ⟨_, exec_heldChangeResume ..⟩
  | .thermalStep .. => ⟨_, exec_thermalStep ..⟩
  | .tempWarn .. => ⟨_, exec_tempWarn ..⟩
  | .thermTrip .. => ⟨_, exec_thermTrip ..⟩
  | .ageingCheck .. => ⟨_, exec_ageingCheck ..⟩
  -- management
  | .mbxTxHeadWrite .. => ⟨_, exec_mbxTxHeadWrite ..⟩
  | .relaySlotSend => ⟨_, exec_relaySlotSend s⟩
  | .relayRx => ⟨_, exec_relayRx s⟩
  | .hello => ⟨_, exec_hello s⟩
  | .auth => ⟨_, exec_auth s⟩
  | .authTimeout .. => ⟨_, exec_authTimeout ..⟩
  | .data => ⟨_, exec_data s⟩
  | .close => ⟨_, exec_close s⟩
  | .sessionIdleTimeout .. => ⟨_, exec_sessionIdleTimeout ..⟩
  | .event .. => ⟨_, exec_event ..⟩
  | .eventSessionWrite .. => ⟨_, exec_eventSessionWrite ..⟩
  -- security
  | .enroll .. => ⟨_, exec_enroll ..⟩
  | .svnCommit .. => ⟨_, exec_svnCommit ..⟩
  | .attest .. => ⟨_, exec_attest ..⟩
  | .unlock .. => ⟨_, exec_unlock ..⟩
  | .relock .. => ⟨_, exec_relock ..⟩
  | .extend .. => ⟨_, exec_extend ..⟩
  | .challenge .. => ⟨_, exec_challenge ..⟩
  | .update .. => ⟨_, exec_update ..⟩
  | .secCmdDone => ⟨_, exec_secCmdDone s⟩
  | .dbgRead .. => ⟨_, exec_dbgRead ..⟩
  | .dbgWrite .. => ⟨_, exec_dbgWrite ..⟩
  | .dbgCmdDone => ⟨_, exec_dbgCmdDone s⟩
  | .halt .. => ⟨_, exec_halt ..⟩
  | .bootVerify .. => ⟨_, exec_bootVerify ..⟩
  | .journalAppend .. => ⟨_, exec_journalAppend ..⟩
  | .compaction => ⟨_, exec_compaction s⟩
  -- resets and faults
  | .coldReset => ⟨_, exec_coldReset s⟩
  | .warmReset => ⟨_, exec_warmReset s⟩
  | .hot .. => ⟨_, exec_hot ..⟩
  | .drain .. => ⟨_, exec_drain ..⟩
  | .inbandResetDelay => ⟨_, exec_inbandResetDelay s⟩
  | .departDark .. => ⟨_, exec_departDark ..⟩
  | .drainDiscardPoint => ⟨_, exec_drainDiscardPoint s⟩
  | .hotResetDone .. => ⟨_, exec_hotResetDone ..⟩
  | .pcieHotReset => ⟨_, exec_pcieHotReset s⟩
  | .powerStateChange .. => ⟨_, exec_powerStateChange ..⟩
  | .regionFence .. => ⟨_, exec_regionFence ..⟩
  | .midFail .. => ⟨_, exec_midFail ..⟩
  | .lockstepMismatch .. => ⟨_, exec_lockstepMismatch ..⟩
  | .failStop .. => ⟨_, exec_failStop ..⟩
  | .railUndervoltage .. => ⟨_, exec_railUndervoltage ..⟩
  | .powerDown => ⟨_, exec_powerDown s⟩
  -- telemetry
  | .capture .. => ⟨_, exec_capture ..⟩
  | .captureDone => ⟨_, exec_captureDone s⟩
  | .recordWrite .. => ⟨_, exec_recordWrite ..⟩
  | .ringCfgWrite .. => ⟨_, exec_ringCfgWrite ..⟩
  -- events added to the table
  | .referenceRestored => ⟨_, exec_referenceRestored s⟩
  | .perstNDeasserted => ⟨_, exec_perstNDeasserted s⟩
  | .getReadDone .. => ⟨_, exec_getReadDone ..⟩
  | .bankGroupControllerFail .. => ⟨_, exec_bankGroupControllerFail ..⟩
  | .circuitTeardownDone .. => ⟨_, exec_circuitTeardownDone ..⟩

/-- Settles O3: every command is an effect, and an effect stops exactly where a unit the command names does not exist. -/
theorem existingUnitsNeverStop : Obligations.ExistingUnitsNeverStop := by
  intro c s
  obtain ⟨f, hf⟩ := exec_eq_effect s c
  rw [hf]
  exact ⟨fun hwf => ⟨f s, effect_next c f s hwf⟩, effect_fault c f s⟩

end Sys2Proof.Machine

/-! ### What a device update alters: register words, parts and table entries -/

namespace Sys2Proof.Machine

/-- `e` is `d` but for register words among those of `W`, the parts of `P`, and table entries at keys of `T`. -/
structure Alters (W : Page → Nat → Prop) (P : List Part) (T : Nat → Prop) (d e : Dev) : Prop where
  word : ∀ (q : Page) (a : Nat), q.inst < 4096 → a < 4096 → ¬W q a → rdWord e q a = rdWord d q a
  part : ∀ x : Part, x ∉ P → x.same d e
  entry : ∀ k : Nat, ¬T k → sget tblDefault e.ctl.tables k = sget tblDefault d.ctl.tables k

/-- The words of one page at the offsets given. -/
def At (p : Page) (offs : List Nat) (q : Page) (a : Nat) : Prop := q = p ∧ a ∈ offs

/-- Every word of one page. -/
def OnPage (p : Page) (q : Page) (_ : Nat) : Prop := q = p

/-- Words of the blocks' own registers, past the header and the table port (R41). -/
def OwnWords (_ : Page) (a : Nat) : Prop := 0x100 ≤ a

/-- No table entry. -/
def NoEntry (_ : Nat) : Prop := False

theorem Part.same_refl (x : Part) (d : Dev) : x.same d d := by cases x <;> rfl

theorem Part.same_trans {x : Part} {d e f : Dev} (h : x.same d e) (h' : x.same e f) : x.same d f := by
  cases x <;> exact h'.trans h

namespace Alters

variable {W : Page → Nat → Prop} {P : List Part} {T : Nat → Prop} {d e : Dev}

theorem refl (d : Dev) : Alters W P T d d := ⟨fun _ _ _ _ _ => rfl, fun x _ => x.same_refl d, fun _ _ => rfl⟩

theorem trans {d' : Dev} (h : Alters W P T d d') (h' : Alters W P T d' e) : Alters W P T d e :=
  ⟨fun q a hq ha hw => (h'.word q a hq ha hw).trans (h.word q a hq ha hw),
    fun x hx => Part.same_trans (h.part x hx) (h'.part x hx), fun k hk => (h'.entry k hk).trans (h.entry k hk)⟩

theorem mono {V : Page → Nat → Prop} {Q : List Part} {S : Nat → Prop} (h : Alters V Q S d e)
    (hw : ∀ q a, V q a → W q a) (hp : ∀ x ∈ Q, x ∈ P) (ht : ∀ k, S k → T k) : Alters W P T d e :=
  ⟨fun q a hq ha hn => h.word q a hq ha fun hv => hn (hw q a hv), fun x hx => h.part x fun hq => hx (hp x hq),
    fun k hk => h.entry k fun hs => hk (ht k hs)⟩

/-- The same with more words altered. -/
theorem words {V : Page → Nat → Prop} (h : Alters V P T d e) (hw : ∀ q a, V q a → W q a) : Alters W P T d e :=
  h.mono hw (fun _ => id) fun _ => id

theorem onPage {p : Page} {offs : List Nat} (h : Alters (At p offs) P T d e) : Alters (OnPage p) P T d e :=
  h.words fun _ _ hw => hw.1

theorem forEach {α : Type} (l : List α) (f : α → Dev → Dev) (h : ∀ a ∈ l, ∀ d, Alters W P T d (f a d)) (d : Dev) :
    Alters W P T d (Machine.forEach l f d) := forEach_chain refl trans l f h d

theorem doIf (c : Bool) {f : Dev → Dev} (d : Dev) (h : ∀ d, Alters W P T d (f d)) :
    Alters W P T d (Machine.doIf c f d) := by
  cases c
  · exact refl d
  · exact h d

/-! #### What an update keeps, read through its words -/

theorem rd_eq (h : Alters W P T d e) {q : Page} {f : Fd} (hq : q.inst < 4096) (hf : f.off < 4096) (hn : ¬W q f.off) :
    rd e q f = rd d q f := by simp only [rd, h.word q f.off hq hf hn]

theorem rdBit_eq (h : Alters W P T d e) {q : Page} {f : Fd} (hq : q.inst < 4096) (hf : f.off < 4096) (hn : ¬W q f.off) :
    rdBit e q f = rdBit d q f := by simp only [Machine.rdBit_eq, h.rd_eq hq hf hn]

/-! #### The named operations -/

/-- A change of the control state beyond its register words and tables. -/
theorem ofCtl {c : Ctl} (d : Dev) (hr : c.regs = d.ctl.regs) (ht : c.tables = d.ctl.tables) :
    Alters W P T d { d with ctl := c } :=
  ⟨fun q a _ _ _ => rdWord_congr hr q a, fun x _ => by cases x <;> rfl, fun k _ => by simp only [ht]⟩

theorem setAct (p : Page) (a : PageAct) (d : Dev) : Alters W P T d (Machine.setAct p a d) := ofCtl d rfl rfl

theorem wrWord {p : Page} {off : Nat} (v : W32) (d : Dev) (hp : p.inst < 4096) (ho : off < 4096) (hw : W p off) :
    Alters W P T d (Machine.wrWord p off v d) := by
  refine ⟨fun q a hq ha hn => ?_, fun x _ => by cases x <;> rfl, fun _ _ => rfl⟩
  rw [rdWord_wrWord, if_neg]
  rw [Page.addr_inj p q off a hp hq ho ha]
  rintro ⟨rfl, rfl⟩
  exact hn hw

theorem wr {p : Page} {f : Fd} (v : Nat) (d : Dev) (hp : p.inst < 4096) (ho : f.off < 4096) (hw : W p f.off) :
    Alters W P T d (Machine.wr p f v d) := wrWord _ d hp ho hw

theorem wrBit {p : Page} {f : Fd} (b : Bool) (d : Dev) (hp : p.inst < 4096) (ho : f.off < 4096) (hw : W p f.off) :
    Alters W P T d (Machine.wrBit p f b d) := wrWord _ d hp ho hw

/-- An update under `withIrq` alters what it alters, and the vectors' state (R417). -/
theorem withIrq {p : Page} {f : Dev → Dev} {d : Dev} (h : Alters W P T d (f d)) : Alters W P T d (Machine.withIrq p f d) := by
  refine ⟨fun q a hq ha hn => ?_, fun x hx => ?_, fun k hk => ?_⟩
  · rw [rdWord_congr (withIrq_ctl_regs p f d)]
    exact h.word q a hq ha hn
  · refine Part.same_trans (h.part x hx) ?_
    cases x <;> simp only [Part.same, withIrq_lnk, withIrq_sw, withIrq_fwd, withIrq_byp, withIrq_col, withIrq_ldl,
      withIrq_stk, withIrq_tim, withIrq_pmc, withIrq_mgt, withIrq_tel, withIrq_rst]
  · rw [withIrq_ctl_tables]
    exact h.entry k hk

theorem raiseIrq {p : Page} (bit : Nat) (d : Dev) (hp : p.inst < 4096) (hw : W p 0x010) :
    Alters W P T d (Machine.raiseIrq p bit d) := withIrq (wrWord _ d hp (by decide) hw)

/-- Errors are recorded in PAGE_IRQ, PAGE_ERR and PAGE_ERR_INFO (R46 to R49). -/
theorem setErrs {p : Page} (cs : List Nat) (src off detail : Nat) (d : Dev) (hp : p.inst < 4096)
    (hw : ∀ a ∈ [0x010, 0x018, 0x01C], W p a) : Alters W P T d (Machine.setErrs p cs src off detail d) := by
  refine ⟨fun q a hq ha hn => ?_, fun x _ => ?_, fun k _ => by rw [setErrs_ctl_tables]⟩
  · have apart : ∀ b ∈ [0x010, 0x018, 0x01C], b < 4096 → p.base + b ≠ q.base + a := by
      intro b hb hlt heq
      obtain ⟨rfl, rfl⟩ := (Page.addr_inj p q b a hp hq hlt ha).1 heq
      exact hn (hw b hb)
    exact rdWord_setErrs_ne p q cs src off detail d (apart _ (by simp) (by decide)) (apart _ (by simp) (by decide))
      (apart _ (by simp) (by decide))
  · cases x <;> simp only [Part.same, setErrs_lnk, setErrs_sw, setErrs_fwd, setErrs_byp, setErrs_col, setErrs_ldl,
      setErrs_stk, setErrs_tim, setErrs_pmc, setErrs_mgt, setErrs_tel, setErrs_rst]

/-! #### The frames of the statements -/

variable {f : Dev → Dev} {s : State}

theorem partsKept (h : Alters W P T s.dev (f s.dev)) : PartsKept P s (onDev f s) := h.part

theorem tablesKept (h : Alters W P NoEntry s.dev (f s.dev)) : TablesKept s (onDev f s) := fun _ _ _ => h.entry _ id

theorem pagesKept {ps : List Page} (h : Alters W P T s.dev (f s.dev)) (hw : ∀ q a, W q a → q ∈ ps) :
    PagesKept ps s (onDev f s) := fun q a hq ha hn => h.word q a hq ha fun hwq => hn (hw q a hwq)

/-- What an update of one page's words leaves alone: the core, the tables, every part and every other page. -/
theorem onPage_keeps {p : Page} (h : Alters (OnPage p) [] NoEntry s.dev (f s.dev)) :
    CoreKept s (onDev f s) ∧ TablesKept s (onDev f s) ∧ PartsKept [] s (onDev f s) ∧ PagesKept [p] s (onDev f s) :=
  ⟨coreKept_onDev f s, h.tablesKept, h.partsKept, h.pagesKept fun _ _ hq => List.mem_singleton.2 hq⟩

end Alters

end Sys2Proof.Machine

/-! ### The page header: the path of a write by the owner, staged values, BUSY and the end of a commit -/

namespace Sys2Proof.Machine

/-! #### Reads through an update of listed words of one page -/

theorem Alters.rd_off {p : Page} {offs : List Nat} {P : List Part} {T : Nat → Prop} {d e : Dev} {f : Fd}
    (h : Alters (At p offs) P T d e) (hp : p.inst < 4096) (hf : f.off < 4096) (hn : f.off ∉ offs) : rd e p f = rd d p f :=
  h.rd_eq hp hf fun hw => hn hw.2

theorem Alters.rdBit_off {p : Page} {offs : List Nat} {P : List Part} {T : Nat → Prop} {d e : Dev} {f : Fd}
    (h : Alters (At p offs) P T d e) (hp : p.inst < 4096) (hf : f.off < 4096) (hn : f.off ∉ offs) :
    rdBit e p f = rdBit d p f := h.rdBit_eq hp hf fun hw => hn hw.2

/-- A field of a listed word written. -/
theorem Alters.wrAt {p : Page} {offs : List Nat} {P : List Part} {T : Nat → Prop} {f : Fd} (v : Nat) (d : Dev)
    (hp : p.inst < 4096) (hf : f.off < 4096) (hm : f.off ∈ offs) : Alters (At p offs) P T d (Machine.wr p f v d) :=
  .wr v d hp hf ⟨rfl, hm⟩

theorem rdBit_wrBit_apart (p : Page) {f g : Fd} (b : Bool) (d : Dev) (hf : f.good = true) (hg : g.good = true)
    (h : f.apart g = true) : rdBit (wrBit p f b d) p g = rdBit d p g := by
  simp only [rdBit_eq, wrBit_eq, rd_wr_apart p _ d hf hg h]

/-! #### The path of a write (R7, R44, R55, R59, R62) -/

/-- A write of a header register by the page's owner acts on the register, where debug is open. -/
theorem write32_header {src : Src} {p : Page} {off : Nat} (v : Nat) (r : RegDef) {s : State} (h : Owns src p s)
    (hd : dbgLocked s.dev p off = false) (hr : RegMap.hdr.find? (fun r => r.covers off) = some r) (ho : off < 4096)
    (h4 : off % 4 = 0) (hn : off ≠ 0x020) (hv : v < 2 ^ 32) :
    write32 src p off v s = regWrite src p off (BitVec.ofNat 32 v) r s := by
  obtain ⟨_, _, hans, _, hown⟩ := id h
  rw [write32_page off v h ho h4 hv]
  simp [writePage, hans, hn, regAt_header p off r hr, hown, hd]

theorem portRegister_header {p : Page} {off : Nat} (h : off < 0x040) : portRegister p off = false := by
  simp only [portRegister, Bool.and_eq_false_iff, decide_eq_false_iff_not]
  omega

theorem regWrite_ctl (src : Src) (p : Page) (v : W32) (r : RegDef) (s : State) :
    regWrite src p 0x008 v r s = ctlWrite p v.toNat s := by
  simp [regWrite, portRegister_header (p := p) (off := 0x008) (by decide)]

theorem regWrite_commit (src : Src) (p : Page) (v : W32) (r : RegDef) (s : State) :
    regWrite src p 0x024 v r s = if v.getLsbD 0 then onDev (commitWrite src p (bitsOf v 31 24)) s else s := by
  simp [regWrite, portRegister_header (p := p) (off := 0x024) (by decide)]

/-- A write of ENABLE and QUIESCE_REQ alone (R44). -/
theorem ctlWrite_low (p : Page) (enable quiesce : Bool) (s : State) :
    ctlWrite p (bit enable + 2 * bit quiesce) s = writeEnable enable quiesce p s := by
  cases enable <;> cases quiesce <;> rfl

theorem rd_bit (d : Dev) (p : Page) {f : Fd} (h : f.hi = f.lo) : rd d p f = bit (rdBit d p f) := by
  have hlt : rd d p f < 2 := by
    simp only [rd, bitsOf, h, Nat.add_sub_cancel_left, pow_one]
    exact Nat.mod_lt _ (by decide)
  rw [rdBit_eq]
  interval_cases rd d p f <;> rfl

theorem write32_ctl {src : Src} {p : Page} {s : State} (enable quiesce : Bool) (h : Owns src p s)
    (hd : dbgLocked s.dev p 0x008 = false) :
    write32 src p 0x008 (bit enable + 2 * bit quiesce) s = writeEnable enable quiesce p s := by
  have hv : bit enable + 2 * bit quiesce < 2 ^ 32 := by cases enable <;> cases quiesce <;> decide
  rw [write32_header _ _ h hd rfl (by decide) (by decide) (by decide) hv, regWrite_ctl, BitVec.toNat_ofNat,
    Nat.mod_eq_of_lt hv, ctlWrite_low]

/-- ENABLE written by the owner, QUIESCE_REQ as it stands (R50). -/
theorem exec_enable_owned {src : Src} {p : Page} {s : State} (v : Bool) (h : Owns src p s)
    (hd : dbgLocked s.dev p 0x008 = false) :
    exec (.enable src p v) s = .next (writeEnable v (rdBit s.dev p Reg.PAGE_CTL_QUIESCE_REQ) p s) := by
  rw [exec_enable, effect_next (.enable src p v) _ _ h.1, rd_bit s.dev p rfl, write32_ctl v _ h hd]

/-- QUIESCE_REQ written by the owner, ENABLE as it stands (R50). -/
theorem exec_quiesceReq_owned {src : Src} {p : Page} {s : State} (v : Bool) (h : Owns src p s)
    (hd : dbgLocked s.dev p 0x008 = false) :
    exec (.quiesceReq src p v) s = .next (writeEnable (rdBit s.dev p Reg.PAGE_CTL_ENABLE) v p s) := by
  rw [exec_quiesceReq, effect_next (.quiesceReq src p v) _ _ h.1, rd_bit s.dev p rfl, write32_ctl _ v h hd]

/-- COMMIT written with GO 1 by the owner (R55). -/
theorem exec_commit_owned {src : Src} {p : Page} {s : State} {tag : Nat} (h : Owns src p s)
    (hd : dbgLocked s.dev p 0x024 = false) (ht : tag < 256) :
    exec (.commit src p tag) s = .next (onDev (commitWrite src p tag) s) := by
  have hv : tag % 256 * 2 ^ 24 + 1 < 2 ^ 32 := by omega
  have hgo : (BitVec.ofNat 32 (tag % 256 * 2 ^ 24 + 1)).getLsbD 0 = true := by
    simp only [BitVec.getLsbD_ofNat, Nat.testBit_zero]
    simp
    omega
  have htag : bitsOf (BitVec.ofNat 32 (tag % 256 * 2 ^ 24 + 1)) 31 24 = tag := by
    simp only [bitsOf, BitVec.toNat_ofNat, Nat.mod_eq_of_lt hv, Nat.shiftRight_eq_div_pow]
    omega
  rw [exec_commit, effect_next (.commit src p tag) _ _ h.1, write32_header _ _ h hd rfl (by decide) (by decide) (by decide) hv,
    regWrite_commit, if_pos hgo, htag]

/-! #### Staged values (R54) -/

theorem stagedOf_congr {d e : Dev} (h : e.ctl.staged = d.ctl.staged) (q : Page) : stagedOf e q = stagedOf d q := by
  simp only [stagedOf, h]

@[simp] theorem stagedOf_discardStaged_same (p : Page) (d : Dev) : stagedOf (discardStaged p d) p = [] := by
  simp only [stagedOf, discardStaged, List.filterMap_eq_nil_iff, List.mem_filter]
  rintro e ⟨-, he⟩
  rw [if_neg (by simpa using he)]

theorem page_eq_of_base {p q : Page} (hp : p.inst < 4096) (hq : q.inst < 4096) (h : p.base / 4096 = q.base / 4096) : p = q := by
  have hb : p.base = q.base := by
    have hdvd : ∀ r : Page, 4096 * (r.base / 4096) = r.base := fun r => Nat.mul_div_cancel' (by unfold Page.base; omega)
    rw [← hdvd p, h, hdvd q]
  exact ((Page.addr_inj p q 0 0 hp hq (by decide) (by decide)).1 (by rw [hb])).1

/-- The staged values of another page stay. -/
theorem stagedOf_discardStaged_ne {p q : Page} (d : Dev) (hp : p.inst < 4096) (hq : q.inst < 4096) (h : q ≠ p) :
    stagedOf (discardStaged p d) q = stagedOf d q := by
  simp only [stagedOf, discardStaged, List.filterMap_filter]
  refine List.filterMap_congr fun e _ => ?_
  by_cases he : e.1 / 4096 = q.base / 4096
  · have hne : e.1 / 4096 ≠ p.base / 4096 := fun hc => h (page_eq_of_base hq hp (he.symm.trans hc))
    simp [hne]
  · simp [he]

theorem discardStaged_alters {W : Page → Nat → Prop} {P : List Part} {T : Nat → Prop} (p : Page) (d : Dev) :
    Alters W P T d (discardStaged p d) := .ofCtl d rfl rfl

theorem setCommitSet_alters {W : Page → Nat → Prop} {P : List Part} {T : Nat → Prop} (p : Page) (l : List (Nat × W32))
    (d : Dev) : Alters W P T d (setCommitSet p l d) := .ofCtl d rfl rfl

@[simp] theorem rd_discardStaged (p q : Page) (f : Fd) (d : Dev) : rd (discardStaged p d) q f = rd d q f := rfl

@[simp] theorem rd_setCommitSet (p q : Page) (l : List (Nat × W32)) (f : Fd) (d : Dev) :
    rd (setCommitSet p l d) q f = rd d q f := rfl

@[simp] theorem rd_setAct (p q : Page) (a : PageAct) (f : Fd) (d : Dev) : rd (setAct p a d) q f = rd d q f := rfl

theorem commitSet_congr {d e : Dev} (h : e.ctl.commits = d.ctl.commits) (q : Page) : commitSet e q = commitSet d q := by
  simp only [commitSet, h]

@[simp] theorem commitSet_setCommitSet_same (p : Page) (l : List (Nat × W32)) (d : Dev) :
    commitSet (setCommitSet p l d) p = l := sget_sset_same _ _ _ _

/-! #### BUSY (R45) -/

theorem syncBusy_alters {W : Page → Nat → Prop} {P : List Part} {T : Nat → Prop} {p : Page} (d : Dev) (hp : p.inst < 4096)
    (hw : W p 0x00C) : Alters W P T d (syncBusy p d) := .wrBit _ d hp (by decide) hw

theorem rd_syncBusy (p : Page) {f : Fd} (d : Dev) (hf : f.good = true) (h : Reg.PAGE_STAT_BUSY.apart f = true) :
    rd (syncBusy p d) p f = rd d p f := rd_wr_apart p _ d rfl hf h

theorem busy_syncBusy (p : Page) (d : Dev) : rdBit (syncBusy p d) p Reg.PAGE_STAT_BUSY = busyNow d p :=
  rdBit_wrBit_same p _ _ d rfl

/-! #### The end of a commit (R55, R56) -/

theorem endCommit_alters {W : Page → Nat → Prop} {P : List Part} {T : Nat → Prop} {p : Page} (result : Nat) (d : Dev)
    (hp : p.inst < 4096) (hw : ∀ a ∈ [0x00C, 0x010, 0x028], W p a) : Alters W P T d (endCommit p result d) :=
  ((((Alters.wr _ d hp (by decide) (hw _ (by decide))).trans (setCommitSet_alters p [] _)).trans
    (.raiseIrq _ _ hp (hw _ (by decide)))).trans (syncBusy_alters _ hp (hw _ (by decide))))

/-- A header field other than BUSY, the interrupts and RESULT stands through the end of a commit. -/
theorem rd_endCommit (p : Page) (result : Nat) {f : Fd} (d : Dev) (hf : f.good = true) (hi : f.off ≠ 0x010)
    (hb : Reg.PAGE_STAT_BUSY.apart f = true) (hr : Reg.PAGE_COMMIT_STAT_RESULT.apart f = true) :
    rd (endCommit p result d) p f = rd d p f := by
  unfold endCommit
  rw [rd_syncBusy p _ hf hb, rd_raiseIrq_off p _ f _ hi,
    rd_setCommitSet, rd_wr_apart p _ d rfl hf hr]

theorem result_endCommit (p : Page) (d : Dev) {result : Nat} (h : result < 16) :
    rd (endCommit p result d) p Reg.PAGE_COMMIT_STAT_RESULT = result := by
  unfold endCommit
  rw [rd_syncBusy p _ rfl rfl, rd_raiseIrq_off p _ _ _ (by decide),
    rd_setCommitSet, rd_wr_fits p _ _ d rfl h]

theorem commitSet_endCommit (p : Page) (result : Nat) (d : Dev) : commitSet (endCommit p result d) p = [] :=
  (commitSet_congr (raiseIrq_ctl_commits ..) p).trans (commitSet_setCommitSet_same p [] _)

theorem commitDone_endCommit {p : Page} (result : Nat) (d : Dev) :
    (rdWord (endCommit p result d) p 0x010).getLsbD irqCommitDone = true := by
  unfold endCommit
  rw [show rdWord (syncBusy p _) p 0x010 = _ from rdWord_wr_off p _ _ _ _ (by decide)]
  exact raiseIrq_bit p _ _ (by decide)

@[simp] theorem endCommit_ctl_staged (p : Page) (result : Nat) (d : Dev) : (endCommit p result d).ctl.staged = d.ctl.staged :=
  raiseIrq_ctl_staged ..

/-! #### A commit discarded with the staged values (R55, R61) -/

theorem discardCommit_alters {W : Page → Nat → Prop} {P : List Part} {T : Nat → Prop} {p : Page} (d : Dev)
    (hp : p.inst < 4096) (hw : ∀ a ∈ [0x00C, 0x010, 0x028], W p a) : Alters W P T d (discardCommit p d) := by
  unfold discardCommit
  split
  · exact endCommit_alters 5 d hp hw
  · exact .refl d

theorem discardPending_alters {W : Page → Nat → Prop} {P : List Part} {T : Nat → Prop} {p : Page} (d : Dev)
    (hp : p.inst < 4096) (hw : ∀ a ∈ [0x00C, 0x010, 0x028], W p a) : Alters W P T d (discardPending p d) :=
  (discardCommit_alters d hp hw).trans (discardStaged_alters p _)

theorem rd_discardPending (p : Page) {f : Fd} (d : Dev) (hf : f.good = true) (hi : f.off ≠ 0x010)
    (hb : Reg.PAGE_STAT_BUSY.apart f = true) (hr : Reg.PAGE_COMMIT_STAT_RESULT.apart f = true) :
    rd (discardPending p d) p f = rd d p f := by
  unfold discardPending discardCommit
  rw [rd_discardStaged]
  split
  · exact rd_endCommit p 5 d hf hi hb hr
  · rfl

theorem commitPending_discardPending (p : Page) (d : Dev) : commitPending (discardPending p d) p = false := by
  unfold discardPending discardCommit
  rw [commitPending, rd_discardStaged]
  split
  · rw [result_endCommit p d (by decide)]
    decide
  next h => exact Bool.eq_false_iff.2 h

@[simp] theorem stagedOf_discardPending (p : Page) (d : Dev) : stagedOf (discardPending p d) p = [] :=
  stagedOf_discardStaged_same p _

end Sys2Proof.Machine

/-! ### Commits (R54 to R57): taken, refused and applied -/

namespace Sys2Proof.Machine

/-! #### The three answers to PAGE_COMMIT with GO 1 -/

theorem commitWrite_pending (src : Src) {p : Page} (tag : Nat) {d : Dev} (h : commitPending d p = true) :
    commitWrite src p tag d = setErr p errCommitReject src 0x024 0 d := if_pos h

theorem commitWrite_stopped (src : Src) {p : Page} (tag : Nat) {d : Dev} (h : commitPending d p = false)
    (hs : pageState d p = stAborting ∨ pageState d p = stFailed) :
    commitWrite src p tag d = endCommit p 5 (discardStaged p (wr p Reg.PAGE_COMMIT_STAT_TAG tag d)) := by
  rw [commitWrite, h, if_neg Bool.false_ne_true, if_pos hs]

theorem commitWrite_takes (src : Src) {p : Page} (tag : Nat) {d : Dev} (h : commitPending d p = false)
    (ha : pageState d p ≠ stAborting) (hf : pageState d p ≠ stFailed) : commitWrite src p tag d = takeCommit p tag d := by
  rw [commitWrite, h, if_neg Bool.false_ne_true, if_neg (not_or.2 ⟨ha, hf⟩)]

/-! #### A refused COMMIT (R57) -/

theorem setErr_alters {p : Page} (c : Nat) (src : Src) (off detail : Nat) (d : Dev) (hp : p.inst < 4096) :
    Alters (At p [0x010, 0x018, 0x01C]) [] NoEntry d (setErr p c src off detail d) :=
  .setErrs _ _ _ _ d hp fun _ ha => ⟨rfl, ha⟩

/-- An error recorded on a page changes nothing of the software's own state. -/
theorem setErr_softKept (p : Page) (c : Nat) (src : Src) (off detail : Nat) (s : State) :
    SoftKept s (onDev (setErr p c src off detail) s) :=
  ⟨setErr_ctl_staged .., setErr_ctl_commits .., setErr_ctl_latchHost .., setErr_ctl_latchInband .., setErr_ctl_tblPend ..,
    setErr_ctl_acts .., setErr_ctl_abortWave .., setErr_ctl_ownerAll ..⟩

theorem commit_whilePending {src : Src} {p : Page} {tag : Nat} {s : State} (ho : Owns src p s)
    (hd : dbgLocked s.dev p 0x024 = false) (ht : tag < 256) (hpend : commitPending s.dev p = true) :
    ∃ t, exec (.commit src p tag) s = .next t ∧ (rdWord t.dev p 0x018).getLsbD errCommitReject = true ∧
      WordsKept p [0x010, 0x018, 0x01C] s t ∧ Kept [] [] [p] s t := by
  have hp : p.inst < 4096 := Page.inst_lt ho.1
  have halt : Alters (At p [0x010, 0x018, 0x01C]) [] NoEntry s.dev (commitWrite src p tag s.dev) := by
    rw [commitWrite_pending src tag hpend]
    exact setErr_alters _ _ _ _ _ hp
  have hsoft : SoftKept s (onDev (commitWrite src p tag) s) := by
    have h := setErr_softKept p errCommitReject src 0x024 0 s
    rwa [SoftKept, onDev_dev, ← commitWrite_pending src tag hpend] at h
  refine ⟨_, exec_commit_owned ho hd ht, ?_, fun a ha hn => halt.word p a hp ha fun hw => hn hw.2,
    coreKept_onDev _ s, hsoft, halt.partsKept, fun _ _ _ _ _ _ _ => halt.entry _ id,
    halt.pagesKept fun _ _ hw => List.mem_singleton.2 hw.1⟩
  rw [onDev_dev, commitWrite_pending src tag hpend]
  exact setErrs_bit p errCommitReject _ _ _ _ (by decide)

/-- On a page aborting or failed: RESULT 5, and the page's staged values go, no other page's. -/
theorem commit_whileStopped {src : Src} {p : Page} {tag : Nat} {s : State} (ho : Owns src p s)
    (hd : dbgLocked s.dev p 0x024 = false) (ht : tag < 256) (hpend : commitPending s.dev p = false)
    (hs : pageState s.dev p = stAborting ∨ pageState s.dev p = stFailed) :
    ∃ t, exec (.commit src p tag) s = .next t ∧ rd t.dev p Reg.PAGE_COMMIT_STAT_RESULT = 5 ∧
      rd t.dev p Reg.PAGE_COMMIT_STAT_TAG = tag ∧ stagedOf t.dev p = [] ∧
      (∀ q, q.inst < 4096 → q ≠ p → stagedOf t.dev q = stagedOf s.dev q) ∧ CoreKept s t ∧ TablesKept s t ∧
      PartsKept [] s t ∧ PagesKept [p] s t := by
  have hp : p.inst < 4096 := Page.inst_lt ho.1
  have hdev := commitWrite_stopped src tag hpend hs
  have halt : Alters (OnPage p) [] NoEntry s.dev (commitWrite src p tag s.dev) := by
    rw [hdev]
    exact ((Alters.wr _ _ hp (by decide) rfl).trans (discardStaged_alters p _)).trans (endCommit_alters 5 _ hp fun _ _ => rfl)
  refine ⟨_, exec_commit_owned ho hd ht, ?_, ?_, ?_, fun q hq hne => ?_, halt.onPage_keeps⟩ <;> rw [onDev_dev, hdev]
  · exact result_endCommit p _ (by decide)
  · rw [rd_endCommit p 5 _ rfl (by decide) rfl rfl, rd_discardStaged, rd_wr_fits p _ _ _ rfl ht]
  · rw [stagedOf_congr (endCommit_ctl_staged ..), stagedOf_discardStaged_same]
  · rw [stagedOf_congr (endCommit_ctl_staged ..), stagedOf_discardStaged_ne _ hp hq hne]
    exact stagedOf_congr (wr_ctl_staged ..) q

/-- Settles O10: a pending commit makes the write an error record alone, a stopped page ends it with RESULT 5. -/
theorem commitRefused : Obligations.CommitRefused := fun _ _ _ _ ho hd ht =>
  ⟨commit_whilePending ho hd ht, commit_whileStopped ho hd ht⟩

/-! #### A COMMIT that takes the staged words (R55, R56) -/

theorem busyNow_of_commitPending {d : Dev} {p : Page} (h : commitPending d p = true) : busyNow d p = true := by
  simp [busyNow, h]

/-- The state takeCommit leaves before BUSY is brought up to date. -/
def taken (p : Page) (tag : Nat) (d : Dev) : Dev :=
  wr p Reg.PAGE_COMMIT_STAT_RESULT 1 (wr p Reg.PAGE_COMMIT_STAT_TAG tag (setCommitSet p (stagedOf d p) (discardStaged p d)))

theorem takeCommit_eq (p : Page) (tag : Nat) (d : Dev) : takeCommit p tag d = syncBusy p (taken p tag d) := rfl

theorem result_taken (p : Page) (tag : Nat) (d : Dev) : rd (taken p tag d) p Reg.PAGE_COMMIT_STAT_RESULT = 1 :=
  rd_wr_fits p _ _ _ rfl (by decide)

theorem tag_taken (p : Page) (d : Dev) {tag : Nat} (h : tag < 256) : rd (taken p tag d) p Reg.PAGE_COMMIT_STAT_TAG = tag := by
  rw [taken, rd_wr_apart p _ _ rfl rfl rfl, rd_wr_fits p _ _ _ rfl h]

theorem taken_alters {p : Page} (tag : Nat) (d : Dev) (hp : p.inst < 4096) :
    Alters (OnPage p) [] NoEntry d (taken p tag d) :=
  (((discardStaged_alters p d).trans (setCommitSet_alters p _ _)).trans (.wr _ _ hp (by decide) rfl)).trans
    (.wr _ _ hp (by decide) rfl)

theorem commitTakesStaged : Claims.CommitTakesStaged := by
  intro src p tag s ho hd ht hpend ha hf
  have hp : p.inst < 4096 := Page.inst_lt ho.1
  have hdev : commitWrite src p tag s.dev = syncBusy p (taken p tag s.dev) := commitWrite_takes src tag hpend ha hf
  have halt : Alters (OnPage p) [] NoEntry s.dev (commitWrite src p tag s.dev) := by
    rw [hdev]
    exact (taken_alters tag s.dev hp).trans (syncBusy_alters _ hp rfl)
  refine ⟨_, exec_commit_owned ho hd ht, ?_, ?_, ?_, ?_, ?_, halt.onPage_keeps⟩ <;> rw [onDev_dev, hdev]
  · exact commitSet_setCommitSet_same p (stagedOf s.dev p) (discardStaged p s.dev)
  · exact stagedOf_discardStaged_same p s.dev
  · rw [rd_syncBusy p _ rfl rfl, result_taken]
  · rw [rd_syncBusy p _ rfl rfl, tag_taken p s.dev ht]
  · rw [busy_syncBusy, busyNow_of_commitPending (decide_eq_true (result_taken p tag s.dev))]

/-! #### A commit applied (R56) -/

theorem commitApply_accepted (now : W64) {p : Page} {d : Dev} (hpend : commitPending d p = true)
    (hu : unlisted p (commitSet d p) = none) (hdis : disagrees p d (activate (commitSet d p) d) = none) :
    commitApply now p d = endCommit p 2 (comeIntoForce now p (commitSet d p) d) := by
  simp [commitApply, hpend, hu, hdis]

/-- The pages whose committed fields do nothing beyond taking their values. -/
theorem comeIntoForce_plain (now : W64) {p : Page} (l : List (Nat × W32)) (d : Dev)
    (h : ([.pkg, .mgt, .fwd, .xbs, .byp, .pmc, .col, .ldl, .stk, .tel, .dbg] : List Block).contains p.blk = true) :
    comeIntoForce now p l d = activate l d := by
  unfold comeIntoForce
  split
  case h_6 => rfl
  all_goals next hb => rw [hb] at h; exact absurd h (by decide)

/-- One taken word comes into force: its S fields are written. -/
theorem activate_word (p : Page) (off : Nat) (w : W32) (d : Dev) :
    activate [(p.base + off, w)] d = wrWord p off (merge (rdWord d p off) (maskAt .S (p.base + off)) w) d := rfl

theorem commitApplies : Claims.CommitApplies := by
  intro p s he hpend hu hdis
  have hp : p.inst < 4096 := Page.inst_lt he
  have hdev := commitApply_accepted s.now hpend hu hdis
  refine ⟨_, exec_commitApply p s ▸ effect_next (.commitApply p) _ s he, ?_, ?_, ?_, ?_⟩
  · rw [onDev_dev, hdev, result_endCommit p _ (by decide)]
  · rw [onDev_dev, hdev, commitSet_endCommit]
  · rw [onDev_dev, hdev, commitDone_endCommit]
  · intro off w hone hlo hhi hblk
    rw [comeIntoForce_plain s.now _ _ hblk, hone, activate_word] at hdev
    have hend := endCommit_alters (W := At p [0x00C, 0x010, 0x028]) (P := []) (T := NoEntry) 2
      (wrWord p off (merge (rdWord s.dev p off) (maskAt .S (p.base + off)) w) s.dev) hp fun _ ha => ⟨rfl, ha⟩
    have halt : Alters (OnPage p) [] NoEntry s.dev (commitApply s.now p s.dev) := by
      rw [hdev]
      exact (Alters.wrWord _ _ hp hhi rfl).trans hend.onPage
    refine ⟨?_, halt.onPage_keeps⟩
    have hword : off ∉ [0x00C, 0x010, 0x028] := by simp; omega
    rw [onDev_dev, hdev, hend.word p off hp hhi fun hw => hword hw.2, rdWord_wrWord_same]

/-- Settles O9: COMMIT moves the page's staged words to its pending commit, and COMMIT_APPLY writes them into the S fields. -/
theorem commitsRun : Obligations.CommitsRun := ⟨commitTakesStaged, commitApplies⟩

end Sys2Proof.Machine

/-! ### Ownership of pages (R58 to R61, R67) -/

namespace Sys2Proof.Machine

/-! #### PAGE_OWNER -/

theorem writePage_owner {src : Src} {p : Page} (v : W32) {s : State} (ha : pageAnswers s.dev p = true) :
    writePage src p 0x020 v s = onDev (ownerWrite src p (srcOfBit (bitsOf v 0 0)) (v.getLsbD 8)) s := by
  simp only [writePage, ha, Bool.not_true, Bool.false_eq_true, if_false, if_true]

/-- A write of PAGE_OWNER on a page present, by a source that reaches it, is judged by R59 alone. -/
theorem exec_pageOwnerWrite_present {src : Src} (owner : Src) {p : Page} (lock : Bool) {s : State} (he : p.exists = true)
    (hpr : pagePresent s.dev p = true) (ha : pageAnswers s.dev p = true) (hu : unreachable' s.dev src = false) :
    exec (.pageOwnerWrite src p owner lock) s = .next (onDev (ownerWrite src p owner lock) s) := by
  have hv : owner.bit + 256 * bit lock < 2 ^ 32 := by cases owner <;> cases lock <;> decide
  have howner : srcOfBit (bitsOf (BitVec.ofNat 32 (owner.bit + 256 * bit lock)) 0 0) = owner := by
    cases owner <;> cases lock <;> rfl
  have hlock : (BitVec.ofNat 32 (owner.bit + 256 * bit lock)).getLsbD 8 = lock := by cases owner <;> cases lock <;> rfl
  rw [exec_pageOwnerWrite, effect_next (.pageOwnerWrite src p owner lock) _ _ he, write32,
    access_page _ hu (bar0Page_base p 0x020 he (by decide) (by decide)) hpr, lo32_ofNat _ hv,
    writePage_owner _ ha, howner, hlock]

/-- OWNER and LOCK take the values written. -/
def setOwner (p : Page) (owner : Src) (lock : Bool) (d : Dev) : Dev :=
  withIrq p (fun d => wrBit p Reg.PAGE_OWNER_LOCK lock (wr p Reg.PAGE_OWNER_OWNER owner.bit d)) d

theorem setOwner_alters {p : Page} (owner : Src) (lock : Bool) (d : Dev) (hp : p.inst < 4096) :
    Alters (OnPage p) [] NoEntry d (setOwner p owner lock d) :=
  .withIrq ((Alters.wr _ d hp (by decide) rfl).trans (.wrBit _ _ hp (by decide) rfl))

/-- The page is the owner's, with LOCK as given. -/
def OwnedBy (p : Page) (owner : Src) (lock : Bool) (d : Dev) : Prop :=
  pageOwner d p = owner ∧ rdBit d p Reg.PAGE_OWNER_LOCK = lock

/-- Ownership stands where PAGE_OWNER's fields read the same. -/
theorem OwnedBy.congr {p : Page} {owner : Src} {lock : Bool} {d e : Dev} (h : OwnedBy p owner lock d)
    (ho : rd e p Reg.PAGE_OWNER_OWNER = rd d p Reg.PAGE_OWNER_OWNER)
    (hl : rd e p Reg.PAGE_OWNER_LOCK = rd d p Reg.PAGE_OWNER_LOCK) : OwnedBy p owner lock e := by
  simpa only [OwnedBy, pageOwner, rdBit_eq, ho, hl] using h

theorem setOwner_owned (p : Page) (owner : Src) (lock : Bool) (d : Dev) : OwnedBy p owner lock (setOwner p owner lock d) := by
  have hw : OwnedBy p owner lock (wrBit p Reg.PAGE_OWNER_LOCK lock (wr p Reg.PAGE_OWNER_OWNER owner.bit d)) := by
    refine ⟨?_, rdBit_wrBit_same p _ _ _ rfl⟩
    rw [pageOwner, wrBit_eq, rd_wr_apart p _ _ rfl rfl rfl, rd_wr_fits p _ _ _ rfl (by cases owner <;> decide)]
    cases owner <;> rfl
  exact hw.congr (rd_congr (withIrq_ctl_regs ..) p _) (rd_congr (withIrq_ctl_regs ..) p _)

theorem ownerWrite_refused {src owner : Src} {p : Page} (lock : Bool) {d : Dev} (h : ownerAllowed d src p owner = false) :
    ownerWrite src p owner lock d = setErr p errNonOwner src 0x020 0 d := by simp [ownerWrite, h]

theorem ownerWrite_same {src owner : Src} {p : Page} (lock : Bool) {d : Dev} (h : ownerAllowed d src p owner = true)
    (hsame : pageOwner d p = owner) : ownerWrite src p owner lock d = setOwner p owner lock d := by
  simp [ownerWrite, setOwner, h, hsame]

theorem ownerWrite_changed {src owner : Src} {p : Page} (lock : Bool) {d : Dev} (h : ownerAllowed d src p owner = true)
    (hne : pageOwner d p ≠ owner) :
    ownerWrite src p owner lock d = raiseIrq p irqOwnerChanged (discardPending p (setOwner p owner lock d)) := by
  simp [ownerWrite, setOwner, h, hne]

theorem ownerWrite_alters (src : Src) {p : Page} (owner : Src) (lock : Bool) (d : Dev) (hp : p.inst < 4096) :
    Alters (OnPage p) [] NoEntry d (ownerWrite src p owner lock d) := by
  cases h : ownerAllowed d src p owner
  · rw [ownerWrite_refused lock h]
    exact (setErr_alters _ _ _ _ d hp).onPage
  · by_cases hsame : pageOwner d p = owner
    · rw [ownerWrite_same lock h hsame]
      exact setOwner_alters owner lock d hp
    · rw [ownerWrite_changed lock h hsame]
      exact ((setOwner_alters owner lock d hp).trans (discardPending_alters _ hp fun _ _ => rfl)).trans
        (.raiseIrq _ _ hp rfl)

/-- A write that takes effect gives the page its owner and LOCK (R59). -/
theorem ownerWrite_owned {src owner : Src} {p : Page} (lock : Bool) {d : Dev} (h : ownerAllowed d src p owner = true) :
    OwnedBy p owner lock (ownerWrite src p owner lock d) := by
  by_cases hsame : pageOwner d p = owner
  · rw [ownerWrite_same lock h hsame]
    exact setOwner_owned p owner lock d
  · rw [ownerWrite_changed lock h hsame]
    refine (setOwner_owned p owner lock d).congr ?_ ?_ <;>
      rw [rd_raiseIrq_off p _ _ _ (by decide), rd_discardPending p _ rfl (by decide) rfl rfl]

theorem claims_ownerWrite : Claims.OwnerWrite := by
  intro src owner p lock s he hpr ha hu
  have hp : p.inst < 4096 := Page.inst_lt he
  obtain ⟨hcore, htables, hparts, hpages⟩ := (ownerWrite_alters src owner lock s.dev hp).onPage_keeps
  refine ⟨_, exec_pageOwnerWrite_present owner lock he hpr ha hu, hcore, htables, hparts, hpages,
    fun hok => ?_, fun hno => ?_⟩
  · obtain ⟨howner, hlock⟩ := ownerWrite_owned lock hok
    refine ⟨howner, hlock, fun hne => ?_⟩
    rw [onDev_dev, ownerWrite_changed lock hok hne]
    exact ⟨raiseIrq_bit p _ _ (by decide), (stagedOf_congr (raiseIrq_ctl_staged ..) p).trans (stagedOf_discardPending p _)⟩
  · rw [onDev_dev, ownerWrite_refused lock hno]
    exact ⟨rdWord_setErrs_off p _ _ _ _ _ (by decide), setErrs_bit p errNonOwner _ _ _ _ (by decide)⟩

/-! #### OWNER_ALL -/

/-- A field write alters words of its page alone. -/
theorem fieldWrite_alters (src : Src) {p : Page} {off : Nat} (v : W32) (r : RegDef) (d : Dev) (hp : p.inst < 4096)
    (ho : off < 4096) : Alters (OnPage p) [] NoEntry d (fieldWrite src p off v r d) := by
  unfold fieldWrite
  extract_lets closed quiet w w1c set d1 d2
  have h2 : Alters (OnPage p) [] NoEntry d d2 := by
    have h1 : Alters (OnPage p) [] NoEntry d d1 := .wrWord _ d hp ho rfl
    have hstage : Alters (OnPage p) [] NoEntry d1 (stageFields p off v r.flds d1) := by
      obtain ⟨hregs, htables, hparts⟩ := stageFields_keeps p off v r.flds d1
      exact ⟨fun q a _ _ _ => rdWord_congr hregs q a, fun x _ => hparts x, fun k _ => by rw [htables]⟩
    simp only [d2]
    split
    · exact h1
    · exact h1.trans hstage
  split
  · exact h2
  · split
    · exact h2
    · exact h2.trans (.setErrs _ _ _ _ d2 hp fun _ _ => rfl)

/-- The write of PKG's OWNER_ALL register, and the ownership writes it starts (R67). -/
theorem exec_ownerAll_owned {mask : Nat} (lock : Bool) {s : State} (ho : Owns .pcie Page.pkg s) (hm : mask < 65536) :
    ∃ f : Dev → Dev, Alters (OnPage Page.pkg) [] NoEntry s.dev (f s.dev) ∧
      exec (.ownerAll .pcie mask lock .pcie) s = .next (onDev (fun d => ownerAll .pcie mask lock .pcie (f d)) s) := by
  obtain ⟨v, hv⟩ : ∃ v, v = mask % 65536 * 65536 + 256 * bit lock + Src.pcie.bit := ⟨_, rfl⟩
  have hbit : bit lock ≤ 1 := by cases lock <;> decide
  have hlt : v < 2 ^ 32 := by simp only [Src.bit] at hv; omega
  have hmask : bitsOf (BitVec.ofNat 32 v) 31 16 = mask := by
    simp only [bitsOf, BitVec.toNat_ofNat, Nat.mod_eq_of_lt hlt, Nat.shiftRight_eq_div_pow]
    simp only [Src.bit] at hv
    omega
  have hlock : (BitVec.ofNat 32 v).getLsbD 8 = lock := by
    simp only [Src.bit] at hv
    have : v / 2 ^ 8 % 2 = bit lock := by omega
    simp only [BitVec.getLsbD_ofNat, Nat.testBit_eq_decide_div_mod_eq, this]
    cases lock <;> rfl
  have howner : srcOfBit (bitsOf (BitVec.ofNat 32 v) 0 0) = .pcie := by
    have h0 : bitsOf (BitVec.ofNat 32 v) 0 0 = 0 := by
      simp only [bitsOf, BitVec.toNat_ofNat, Nat.mod_eq_of_lt hlt, Nat.shiftRight_eq_div_pow]
      simp only [Src.bit] at hv
      omega
    rw [h0]; rfl
  obtain ⟨r, hr⟩ : ∃ r, Page.pkg.regAt 0x108 = some r := ⟨_, rfl⟩
  refine ⟨fieldWrite .pcie Page.pkg 0x108 (BitVec.ofNat 32 v) r, fieldWrite_alters _ _ _ _ (by decide) (by decide), ?_⟩
  rw [exec_ownerAll, effect_next (.ownerAll .pcie mask lock .pcie) _ _ rfl, ← hv,
    write32_reg v ho (by decide) (by decide) (by decide) hr (by decide) hlt, regWrite_block _ _ _ _ (by decide)]
  show Host.Outcome.next (onDev (ownerAll .pcie (bitsOf (BitVec.ofNat 32 v) 31 16) ((BitVec.ofNat 32 v).getLsbD 8)
    (srcOfBit (bitsOf (BitVec.ofNat 32 v) 0 0))) (onDev (fieldWrite .pcie Page.pkg 0x108 (BitVec.ofNat 32 v) r) s)) = _
  rw [hmask, hlock, howner]
  rfl

/-- Which pages are present does not hang on PKG's words: an ETM page follows its tile's port mode (R39, R99). -/
theorem pagePresent_of_pkg {P : List Part} {T : Nat → Prop} {d e : Dev} (h : Alters (OnPage Page.pkg) P T d e) (q : Page) :
    pagePresent e q = pagePresent d q := by
  have hmode : ∀ lane, lane < 1088 → portWidth e lane = portWidth d lane := by
    intro lane hl
    have hrd := h.rd_eq (q := Page.tile (lane / 128)) (f := Reg.OPT_PORT_MODE_MODE) (by show lane / 128 < 4096; omega)
      (by decide) (by simp [OnPage, Page.tile, Page.pkg])
    simp only [portWidth, widthCode, hrd]
  by_cases hl : q.inst < 1024
  · simp only [pagePresent, isPort, hmode q.inst (by omega)]
  · simp [pagePresent, isPort, hl]

theorem mem_pagesOfCode {d : Dev} {q : Page} (h : pagePresent d q = true) : q ∈ pagesOfCode d q.blk.code := by
  have he : q.inst < q.blk.instances := by
    simp only [pagePresent, Page.exists, Bool.and_eq_true, decide_eq_true_eq] at h
    exact h.1
  simp only [pagesOfCode, blockOfCode_code, List.mem_filter, List.mem_map, List.mem_range]
  exact ⟨⟨q.inst, he, rfl⟩, h⟩

theorem exists_of_mem_pagesOfCode {d : Dev} {c : Nat} {q : Page} (h : q ∈ pagesOfCode d c) : q.exists = true := by
  unfold pagesOfCode at h
  split at h
  · have hpr := (List.mem_filter.1 h).2
    simp only [pagePresent, Bool.and_eq_true] at hpr
    exact hpr.1
  · cases h

/-- What one pass of a fold establishes and every pass keeps holds at its end. -/
theorem forEach_establishes {α : Type} {Q : Dev → Prop} {f : α → Dev → Dev} {b : α} (l : List α) (hb : b ∈ l)
    (hest : ∀ d, Q (f b d)) (hkeep : ∀ a ∈ l, ∀ d, Q d → Q (f a d)) (d : Dev) : Q (forEach l f d) := by
  have hkeeps : ∀ (m : List α), (∀ a ∈ m, a ∈ l) → ∀ d, Q d → Q (forEach m f d) := by
    intro m
    induction m with
    | nil => exact fun _ d hd => hd
    | cons a m ih => exact fun hm d hd => ih (fun c hc => hm c (by simp [hc])) _ (hkeep a (hm a (by simp)) d hd)
  obtain ⟨m, n, rfl⟩ := List.append_of_mem hb
  rw [forEach, List.foldl_append, List.foldl_cons]
  exact hkeeps n (fun a ha => by simp [ha]) _ (hest _)

/-- The host's claim of every page of a list. -/
def claimAll (lock : Bool) (l : List Page) (d : Dev) : Dev := forEach l (fun q d => ownerWrite .pcie q .pcie lock d) d

theorem claimAll_owned {lock : Bool} {q : Page} {l : List Page} (hq : q ∈ l) (hl : ∀ r ∈ l, r.exists = true) (d : Dev) :
    OwnedBy q .pcie lock (claimAll lock l d) := by
  refine forEach_establishes l hq (fun d => ownerWrite_owned lock (by simp [ownerAllowed])) (fun r hr d hd => ?_) d
  by_cases hrq : r = q
  · rw [hrq]
    exact ownerWrite_owned lock (by simp [ownerAllowed])
  · have halt := ownerWrite_alters .pcie .pcie lock d (Page.inst_lt (hl r hr))
    have hqi : q.inst < 4096 := Page.inst_lt (hl q hq)
    exact hd.congr (halt.rd_eq hqi (by decide) fun h => hrq h.symm) (halt.rd_eq hqi (by decide) fun h => hrq h.symm)

theorem claimAll_alters (lock : Bool) {l : List Page} (hl : ∀ r ∈ l, r.exists = true) (d : Dev) :
    Alters (fun _ _ => True) [] NoEntry d (claimAll lock l d) :=
  .forEach l _ (fun r hr d => (ownerWrite_alters _ _ _ d (Page.inst_lt (hl r hr))).words fun _ _ _ => trivial) d

/-- The pages OWNER_ALL writes: those present of the block codes selected. -/
def selected (mask : Nat) (d : Dev) : List Page :=
  ((List.range 16).filter (fun c => decide (mask / 2 ^ c % 2 = 1))).flatMap (pagesOfCode d)

theorem mem_selected {mask : Nat} {d : Dev} {q : Page} (h : pagePresent d q = true) (hm : mask / 2 ^ q.blk.code % 2 = 1) :
    q ∈ selected mask d := by
  have hc : q.blk.code < 16 := by cases q.blk <;> decide
  simp only [selected, List.mem_flatMap, List.mem_filter, List.mem_range, decide_eq_true_eq]
  exact ⟨q.blk.code, ⟨hc, hm⟩, mem_pagesOfCode h⟩

theorem exists_of_mem_selected {mask : Nat} {d : Dev} {q : Page} (h : q ∈ selected mask d) : q.exists = true := by
  obtain ⟨c, -, hc⟩ := List.mem_flatMap.1 h
  exact exists_of_mem_pagesOfCode hc

/-- PKG's note that an OWNER_ALL runs. -/
def setOwnerAll (b : Bool) (d : Dev) : Dev := { d with ctl := { d.ctl with ownerAll := b } }

theorem ownerAll_eq (mask : Nat) (lock : Bool) (d : Dev) :
    ownerAll .pcie mask lock .pcie d = syncBusy Page.pkg (setOwnerAll true (claimAll lock (selected mask d) d)) := rfl

theorem ownerAll_starts {mask : Nat} {lock : Bool} {q : Page} {s : State} (ho : Owns .pcie Page.pkg s) (hm : mask < 65536)
    (hpr : pagePresent s.dev q = true) (hsel : mask / 2 ^ q.blk.code % 2 = 1) :
    ∃ t, exec (.ownerAll .pcie mask lock .pcie) s = .next t ∧ OwnedBy q .pcie lock t.dev ∧ t.dev.ctl.ownerAll = true ∧
      rdBit t.dev Page.pkg Reg.PAGE_STAT_BUSY = true ∧ CoreKept s t ∧ TablesKept s t ∧ PartsKept [] s t := by
  obtain ⟨f, hf, hexec⟩ := exec_ownerAll_owned lock ho hm
  have hl : ∀ r ∈ selected mask (f s.dev), r.exists = true := fun r hr => exists_of_mem_selected hr
  have hq : q ∈ selected mask (f s.dev) := mem_selected (by rw [pagePresent_of_pkg hf, hpr]) hsel
  obtain ⟨d, hd⟩ : ∃ d, d = setOwnerAll true (claimAll lock (selected mask (f s.dev)) (f s.dev)) := ⟨_, rfl⟩
  have hbusy : Alters (At Page.pkg [0x00C]) [] NoEntry d (syncBusy Page.pkg d) :=
    syncBusy_alters d (by decide) ⟨rfl, by simp⟩
  have halt : Alters (fun _ _ => True) [] NoEntry s.dev (ownerAll .pcie mask lock .pcie (f s.dev)) := by
    rw [ownerAll_eq, ← hd]
    refine Alters.trans ?_ (hbusy.words fun _ _ _ => trivial)
    rw [hd]
    exact ((hf.words fun _ _ _ => trivial).trans (claimAll_alters lock hl _)).trans (.ofCtl _ rfl rfl)
  refine ⟨_, hexec, ?_, rfl, ?_, coreKept_onDev _ s, halt.tablesKept, halt.partsKept⟩ <;>
    rw [onDev_dev, ownerAll_eq, ← hd]
  · have howned : OwnedBy q .pcie lock d := by
      rw [hd]
      exact (claimAll_owned hq hl (f s.dev)).congr rfl rfl
    have hqi : q.inst < 4096 := Page.inst_lt (hl q hq)
    exact howned.congr (hbusy.rd_eq hqi (by decide) fun h => absurd h.2 (by decide))
      (hbusy.rd_eq hqi (by decide) fun h => absurd h.2 (by decide))
  · rw [busy_syncBusy, hd]
    simp [busyNow, setOwnerAll]

theorem ownerAllDone_eq (d : Dev) : ownerAllDone d = syncBusy Page.pkg (setOwnerAll false d) := rfl

/-- Without an OWNER_ALL, BUSY shows the page's own work (R45). -/
theorem busyNow_ownerAllDone (p : Page) (d : Dev) : busyNow (setOwnerAll false d) p =
    (tblRunning d p || commitPending d p || decide (pageState d p = stAborting) || (d.act p).resetting ||
      (decide (p = Page.pkg) && false)) := rfl

/-- With no other work on PKG, BUSY clears when OWNER_ALL is done. -/
theorem ownerAll_done {s : State} (ht : tblRunning s.dev Page.pkg = false) (hc : commitPending s.dev Page.pkg = false)
    (ha : pageState s.dev Page.pkg ≠ stAborting) (hr : (s.dev.act Page.pkg).resetting = false) :
    ∃ t, exec .ownerAllDone s = .next t ∧ t.dev.ctl.ownerAll = false ∧
      rdBit t.dev Page.pkg Reg.PAGE_STAT_BUSY = false ∧ CoreKept s t ∧ TablesKept s t ∧ PartsKept [] s t ∧
      PagesKept [Page.pkg] s t := by
  have halt : Alters (OnPage Page.pkg) [] NoEntry s.dev (ownerAllDone s.dev) :=
    (Alters.ofCtl (c := (setOwnerAll false s.dev).ctl) s.dev rfl rfl).trans (syncBusy_alters _ (by decide) rfl)
  have hidle : busyNow (setOwnerAll false s.dev) Page.pkg = false := by simp [busyNow_ownerAllDone, ht, hc, ha, hr]
  refine ⟨_, (exec_ownerAllDone s).trans (effect_next .ownerAllDone _ s rfl), rfl, ?_, halt.onPage_keeps⟩
  rw [onDev_dev, ownerAllDone_eq, busy_syncBusy, hidle]

theorem claims_ownerAll : Claims.OwnerAll := by
  refine ⟨fun mask lock q s ho hm _ hpr hsel => ?_, fun s => ownerAll_done⟩
  obtain ⟨t, hexec, ⟨howner, hlock⟩, hall, hbusy, hkept⟩ := ownerAll_starts (lock := lock) ho hm hpr hsel
  exact ⟨t, hexec, howner, hlock, hall, hbusy, hkept⟩

/-- Settles O11: a write judged allowed sets OWNER and LOCK, and OWNER_ALL is that write on every page selected. -/
theorem pagesOwned : Obligations.PagesOwned := ⟨claims_ownerWrite, claims_ownerAll⟩

end Sys2Proof.Machine

/-! ### ENABLE, QUIESCE_REQ and settling (R44, R50, R51) -/

namespace Sys2Proof.Machine

/-! #### Settling -/

/-- A page settles by words of PAGE_STAT and PAGE_IRQ, and its own act. -/
theorem settle_alters {P : List Part} {T : Nat → Prop} {p : Page} (d : Dev) (hp : p.inst < 4096) :
    Alters (At p [0x00C, 0x010]) P T d (settle p d) := by
  unfold settle
  extract_lets st a
  split
  · exact .refl d
  · split
    · exact ((Alters.wrAt _ _ hp (by decide) (by decide)).trans (.wrAt _ _ hp (by decide) (by decide))).trans (.setAct p _ _)
    · split
      · exact ((Alters.wrAt _ _ hp (by decide) (by decide)).trans (.wrAt _ _ hp (by decide) (by decide))).trans
          (.raiseIrq _ _ hp ⟨rfl, by simp⟩)
      · exact .refl d

theorem settle_finishing {p : Page} {d : Dev} (hw : inFlight d p = false) (hs : pageState d p = stRunning)
    (hf : (d.act p).finishing = true) :
    settle p d = setAct p { d.act p with finishing := false } (setPageState p stIdle (wr p Reg.PAGE_STAT_QUIESCING 0 d)) := by
  simp [settle, hw, hs, hf]

theorem settle_quiescing {p : Page} {d : Dev} (hw : inFlight d p = false) (hs : pageState d p = stRunning)
    (hf : (d.act p).finishing = false) (hq : rdBit d p Reg.PAGE_STAT_QUIESCING = true) :
    settle p d = raiseIrq p irqQuiesced (setPageState p stQuiesced (wr p Reg.PAGE_STAT_QUIESCING 0 d)) := by
  simp [settle, hw, hs, hf, hq]

/-- A page that accepts work does not settle. -/
theorem settle_accepting {p : Page} {d : Dev} (h : accepting d p = true) : settle p d = d := by
  simp only [accepting, Bool.and_eq_true, decide_eq_true_eq, Bool.not_eq_true'] at h
  obtain ⟨⟨hs, hq⟩, hf⟩ := h
  simp [settle, hs, hq, hf]

theorem pageState_setPageState (p : Page) (d : Dev) {v : Nat} (h : v < 8) : pageState (setPageState p v d) p = v :=
  rd_wr_fits p _ _ d rfl h

theorem not_accepting_of_state {p : Page} {d : Dev} (h : pageState d p ≠ stRunning) : accepting d p = false := by
  simp [accepting, h]

/-- Settling starts no page. -/
theorem settle_notAccepting {p : Page} {d : Dev} (h : accepting d p = false) (hs : pageState d p = stRunning) :
    accepting (settle p d) p = false := by
  cases hw : inFlight d p
  · cases hf : (d.act p).finishing
    · have hq : rdBit d p Reg.PAGE_STAT_QUIESCING = true := by simpa [accepting, hs, hf] using h
      rw [settle_quiescing hw hs hf hq]
      apply not_accepting_of_state
      rw [pageState, rd_raiseIrq_off p _ _ _ (by decide)]
      exact ne_of_eq_of_ne (pageState_setPageState p _ (by decide)) (by decide)
    · rw [settle_finishing hw hs hf]
      exact not_accepting_of_state (ne_of_eq_of_ne (pageState_setPageState p _ (by decide)) (by decide))
  · simpa [settle, hw] using h

theorem pageSettles : Claims.PageSettles := by
  intro p s he hw hs
  have hp : p.inst < 4096 := Page.inst_lt he
  have halt : Alters (OnPage p) [] NoEntry s.dev (settle p s.dev) := (settle_alters s.dev hp).onPage
  have hquiet (v : Nat) :
      rdBit (setPageState p v (wr p Reg.PAGE_STAT_QUIESCING 0 s.dev)) p Reg.PAGE_STAT_QUIESCING = false := by
    rw [rdBit_eq, setPageState, rd_wr_apart p _ _ rfl rfl rfl, rd_wr_fits p _ _ _ rfl (by decide)]
    rfl
  constructor
  · intro hf hq
    have hdev := settle_quiescing hw hs hf hq
    have hexec : exec (.quiesced p) s = .next (onDev (settle p) s) := by
      rw [exec_quiesced, effect_next (.quiesced p) _ _ he]
      simp [onDev, quiesced, hf]
    refine ⟨_, hexec, ?_, ?_, ?_, halt.onPage_keeps⟩ <;> rw [onDev_dev, hdev]
    · rw [pageState, rd_raiseIrq_off p _ _ _ (by decide)]
      exact pageState_setPageState p _ (by decide)
    · rw [rdBit_eq, rd_raiseIrq_off p _ _ _ (by decide), ← rdBit_eq, hquiet]
    · exact raiseIrq_bit p _ _ (by decide)
  · intro hf
    have hdev := settle_finishing hw hs hf
    have hexec : exec (.goIdle p) s = .next (onDev (settle p) s) := by
      rw [exec_goIdle, effect_next (.goIdle p) _ _ he]
      simp [onDev, goIdle, hf]
    refine ⟨_, hexec, ?_, ?_, ?_, halt.onPage_keeps⟩ <;> rw [onDev_dev, hdev]
    · exact pageState_setPageState p _ (by decide)
    · exact hquiet stIdle
    · rw [act_setAct_same]

/-! #### The collective engine's part: contexts of held core blocks leave (R339) -/

/-- The device with another collective engine. -/
def withCol (d : Dev) (c : Col) : Dev := { d with col := c }

/-- The update changes the collective engine alone. -/
def ColOnly (d e : Dev) : Prop := ∃ c, e = withCol d c

theorem ColOnly.refl (d : Dev) : ColOnly d d := ⟨d.col, rfl⟩

theorem ColOnly.trans {a b c : Dev} (h : ColOnly a b) (h' : ColOnly b c) : ColOnly a c := by
  obtain ⟨x, rfl⟩ := h
  obtain ⟨y, rfl⟩ := h'
  exact ⟨y, rfl⟩

theorem updCtx_colOnly (k : Nat) (f : Context → Context) (d : Dev) : ColOnly d (updCtx k f d) := ⟨_, rfl⟩

theorem startPageOut_colOnly (ok : Context → Bool) (d : Dev) : ColOnly d (startPageOut ok d) := by
  unfold startPageOut
  split
  · exact updCtx_colOnly _ _ d
  · exact .refl d

theorem pumpOne_colOnly (k : Nat) (d : Dev) : ColOnly d (pumpOne k d) := by
  unfold pumpOne
  split
  · exact .refl d
  · split
    · exact .refl d
    · split
      · exact ⟨_, rfl⟩
      · extract_lets inRegion waiting leaving
        split
        · exact startPageOut_colOnly _ d
        · exact .refl d

theorem leaveQuiescing_colOnly (d : Dev) : ColOnly d (leaveQuiescing d) := by
  refine forEach_chain ColOnly.refl ColOnly.trans _ _ (fun e _ d => ?_) d
  split
  · exact ⟨_, rfl⟩
  · exact .refl d

/-- What changes the collective engine and words past the header leaves alone in the header and its page's act. -/
structure OwnWork (d e : Dev) : Prop where
  alters : Alters OwnWords [.col] NoEntry d e
  acts : e.ctl.acts = d.ctl.acts

theorem OwnWork.refl (d : Dev) : OwnWork d d := ⟨.refl d, rfl⟩

theorem OwnWork.trans {a b c : Dev} (h : OwnWork a b) (h' : OwnWork b c) : OwnWork a c :=
  ⟨h.alters.trans h'.alters, h'.acts.trans h.acts⟩

theorem ColOnly.ownWork {d e : Dev} (h : ColOnly d e) : OwnWork d e := by
  obtain ⟨c, rfl⟩ := h
  refine ⟨⟨fun _ _ _ _ _ => rfl, fun x hx => ?_, fun _ _ => rfl⟩, rfl⟩
  cases x
  case col => exact absurd (List.mem_singleton.2 rfl) hx
  all_goals rfl

theorem OwnWork.wr {p : Page} {f : Fd} (v : Nat) (d : Dev) (hp : p.inst < 4096) (hf : f.off < 4096) (h : 0x100 ≤ f.off) :
    OwnWork d (Machine.wr p f v d) := ⟨.wr v d hp hf h, wr_ctl_acts ..⟩

/-- The pump moves contexts, and shows the bound ones on the core blocks. -/
theorem pump_ownWork (d : Dev) : OwnWork d (pump d) := by
  have hpump := forEach_chain ColOnly.refl ColOnly.trans ((ctxList d).map Prod.fst) pumpOne
    (fun k _ d => pumpOne_colOnly k d) (leaveQuiescing d)
  refine ((leaveQuiescing_colOnly d).trans hpump).ownWork.trans ?_
  refine forEach_chain OwnWork.refl OwnWork.trans _ _ (fun b hb d => ?_) _
  have hb : b < 32 := List.mem_range.1 hb
  exact .wr _ d (by show 8 + b < 4096; omega) (by decide) (by decide)

/-! #### What PAGE_CTL and PAGE_STAT show -/

/-- The page's control bits, its state and whether it finishes, as they stand. -/
structure CtlShows (p : Page) (enable quiesce finishing : Bool) (st : Nat) (d : Dev) : Prop where
  enable : rdBit d p Reg.PAGE_CTL_ENABLE = enable
  request : rdBit d p Reg.PAGE_CTL_QUIESCE_REQ = quiesce
  state : pageState d p = st
  quiescing : rdBit d p Reg.PAGE_STAT_QUIESCING = quiesce
  finishing : (d.act p).finishing = finishing

section

variable {p : Page} {enable quiesce finishing : Bool} {st : Nat} {d e : Dev}

theorem CtlShows.keeps {W : Page → Nat → Prop} {P : List Part} {T : Nat → Prop}
    (h : CtlShows p enable quiesce finishing st d) (ha : Alters W P T d e) (hacts : e.ctl.acts = d.ctl.acts) (hp : p.inst < 4096) (hctl : ¬W p 0x008) (hstat : ¬W p 0x00C) :
    CtlShows p enable quiesce finishing st e :=
  ⟨(ha.rdBit_eq hp (by decide) hctl).trans h.enable, (ha.rdBit_eq hp (by decide) hctl).trans h.request,
    (ha.rd_eq hp (by decide) hstat).trans h.state, (ha.rdBit_eq hp (by decide) hstat).trans h.quiescing,
    by rw [Dev.act, hacts]; exact h.finishing⟩

theorem CtlShows.ownWork (h : CtlShows p enable quiesce finishing st d) (hw : OwnWork d e) (hp : p.inst < 4096) :
    CtlShows p enable quiesce finishing st e :=
  h.keeps hw.alters hw.acts hp (by simp [OwnWords]) (by simp [OwnWords])

theorem CtlShows.accepting_eq (h : CtlShows p enable quiesce finishing st d) :
    accepting d p = (decide (st = stRunning) && !quiesce && !finishing) := by
  rw [accepting, h.state, h.quiescing, h.finishing]

end

/-! #### The two stored bits acting on a page (R50) -/

/-- ENABLE and QUIESCE_REQ written. -/
def writeCtl (enable quiesce : Bool) (p : Page) (d : Dev) : Dev :=
  wrBit p Reg.PAGE_CTL_QUIESCE_REQ quiesce (wrBit p Reg.PAGE_CTL_ENABLE enable d)

theorem applyCtl_start (quiesce : Bool) {p : Page} {d : Dev} (hs : pageState d p = stIdle) :
    applyCtl true quiesce p d =
      wrBit p Reg.PAGE_STAT_QUIESCING quiesce (setPageState p stRunning (writeCtl true quiesce p d)) := by
  simp [applyCtl, writeCtl, hs]

theorem applyCtl_running (enable quiesce : Bool) {p : Page} {d : Dev} (hs : pageState d p = stRunning) :
    applyCtl enable quiesce p d = wrBit p Reg.PAGE_STAT_QUIESCING quiesce
      (setAct p { (writeCtl enable quiesce p d).act p with finishing := !enable } (writeCtl enable quiesce p d)) := by
  simp [applyCtl, writeCtl, hs, stRunning, stIdle, stQuiesced]

theorem enable_writeCtl (enable quiesce : Bool) (p : Page) (d : Dev) :
    rdBit (writeCtl enable quiesce p d) p Reg.PAGE_CTL_ENABLE = enable := by
  rw [writeCtl, rdBit_wrBit_apart p _ _ rfl rfl rfl, rdBit_wrBit_same p _ _ _ rfl]

theorem request_writeCtl (enable quiesce : Bool) (p : Page) (d : Dev) :
    rdBit (writeCtl enable quiesce p d) p Reg.PAGE_CTL_QUIESCE_REQ = quiesce := rdBit_wrBit_same p _ _ _ rfl

theorem pageState_writeCtl (enable quiesce : Bool) (p : Page) (d : Dev) :
    pageState (writeCtl enable quiesce p d) p = pageState d p := by
  rw [writeCtl, pageState, wrBit_eq, rd_wr_apart p _ _ rfl rfl rfl, wrBit_eq, rd_wr_apart p _ _ rfl rfl rfl, ← pageState]

/-- A running page takes the two bits: QUIESCING follows QUIESCE_REQ, and ENABLE 0 makes it finish. -/
theorem applyCtl_running_shows (enable quiesce : Bool) {p : Page} {d : Dev} (hs : pageState d p = stRunning) :
    CtlShows p enable quiesce (!enable) stRunning (applyCtl enable quiesce p d) := by
  rw [applyCtl_running enable quiesce hs]
  refine ⟨?_, ?_, ?_, rdBit_wrBit_same p _ _ _ rfl, ?_⟩
  · exact (rdBit_wrBit_apart p _ _ rfl rfl rfl).trans (enable_writeCtl ..)
  · exact (rdBit_wrBit_apart p _ _ rfl rfl rfl).trans (request_writeCtl ..)
  · rw [pageState, wrBit_eq, rd_wr_apart p _ _ rfl rfl rfl, rd_setAct, ← pageState, pageState_writeCtl, hs]
  · show ((setAct p _ _).act p).finishing = _
    rw [act_setAct_same]

/-- An idle page that ENABLE starts runs, and finishes only if it did before. -/
theorem applyCtl_start_shows (quiesce : Bool) {p : Page} {d : Dev} (hs : pageState d p = stIdle) :
    CtlShows p true quiesce (d.act p).finishing stRunning (applyCtl true quiesce p d) := by
  rw [applyCtl_start quiesce hs]
  refine ⟨?_, ?_, ?_, rdBit_wrBit_same p _ _ _ rfl, rfl⟩
  · rw [rdBit_wrBit_apart p _ _ rfl rfl rfl]
    exact (congrArg (· != 0) (rd_wr_apart p _ _ rfl rfl rfl)).trans (enable_writeCtl ..)
  · rw [rdBit_wrBit_apart p _ _ rfl rfl rfl]
    exact (congrArg (· != 0) (rd_wr_apart p _ _ rfl rfl rfl)).trans (request_writeCtl ..)
  · rw [pageState, wrBit_eq, rd_wr_apart p _ _ rfl rfl rfl]
    exact pageState_setPageState p _ (by decide)

theorem applyCtl_alters {P : List Part} {T : Nat → Prop} (enable quiesce : Bool) {p : Page} (d : Dev) (hp : p.inst < 4096) :
    Alters (At p [0x008, 0x00C]) P T d (applyCtl enable quiesce p d) := by
  have hctl : Alters (At p [0x008, 0x00C]) P T d (writeCtl enable quiesce p d) :=
    (Alters.wrBit _ d hp (by decide) ⟨rfl, by decide⟩).trans (.wrBit _ _ hp (by decide) ⟨rfl, by decide⟩)
  unfold applyCtl
  extract_lets d1 st act d2
  split
  · split
    · exact hctl.trans ((Alters.wrAt _ _ hp (by decide) (by decide)).trans (.wrAt _ _ hp (by decide) (by decide)))
    · exact hctl
  · have h2 : Alters (At p [0x008, 0x00C]) P T d d2 := hctl.trans (.setAct p _ _)
    split
    · split
      · exact h2
      · exact h2.trans (.wrAt _ _ hp (by decide) (by decide))
    · exact h2.trans (.wrAt _ _ hp (by decide) (by decide))

/-! #### Gate lists (R208) -/

theorem gateStop_alters {P : List Part} {T : Nat → Prop} {lane : Nat} (d : Dev) (hl : lane < 4096) (hP : .sw ∈ P) :
    Alters (At (Page.etm lane) [0x108, 0x10C]) P T d (gateStop lane d) := by
  have hwords := (Alters.wrAt (P := P) (T := T) (p := Page.etm lane) (offs := [0x108, 0x10C]) (f := Reg.ETM_GATE_STAT_RUNNING)
    0 d hl (by decide) (by decide)).trans (.wrAt (f := Reg.ETM_GATE_OPEN_OPEN) 0xFF _ hl (by decide) (by decide))
  refine hwords.trans ?_
  refine ⟨fun _ _ _ _ _ => rfl, fun x hx => ?_, fun _ _ => rfl⟩
  cases x
  case sw => exact absurd hP hx
  all_goals rfl

theorem gateOf_gateStop (lane : Nat) (d : Dev) : gateOf (gateStop lane d) lane = none := sget_sset_same _ _ _ _

theorem gatesAtEnable_none (enable : Bool) {p : Page} (was : Nat) (d : Dev) (h : p.blk ≠ .etm) :
    gatesAtEnable enable p was d = d := by
  unfold gatesAtEnable
  split
  · contradiction
  · rfl

theorem gatesAtEnable_etm (enable : Bool) {p : Page} (was : Nat) (d : Dev) (h : p.blk = .etm) :
    gatesAtEnable enable p was d = doIf (!enable || decide (was = stIdle)) (gateStop p.inst) d := by
  simp [gatesAtEnable, h]

/-- The gates of a page alter its gate words and the switch's part, and of no page but an ETM page that stops or starts. -/
theorem gatesAtEnable_alters {P : List Part} {T : Nat → Prop} {enable : Bool} {p : Page} {was : Nat} (d : Dev)
    (hp : p.inst < 4096) (h : .sw ∈ P ∨ p.blk ≠ .etm ∨ (enable = true ∧ was ≠ stIdle)) :
    Alters (At p [0x108, 0x10C]) P T d (gatesAtEnable enable p was d) := by
  by_cases hb : p.blk = .etm
  · have hpage : Page.etm p.inst = p := by rw [Page.etm, ← hb]
    rw [gatesAtEnable_etm enable was d hb]
    rcases h with hsw | hne | ⟨he, hwas⟩
    · refine .doIf _ d fun d => ?_
      have hstop := gateStop_alters (P := P) (T := T) d hp hsw
      rwa [hpage] at hstop
    · exact absurd hb hne
    · simp only [he, hwas, Bool.not_true, decide_false, Bool.or_self, doIf_false]
      exact .refl d
  · rw [gatesAtEnable_none enable was d hb]
    exact .refl d

theorem gatesAtEnable_acts (enable : Bool) (p : Page) (was : Nat) (d : Dev) :
    (gatesAtEnable enable p was d).ctl.acts = d.ctl.acts := by
  by_cases hb : p.blk = .etm
  · rw [gatesAtEnable_etm enable was d hb]
    exact doIf_keeps (fun d => d.ctl.acts) _ (gateStop p.inst) (fun _ => rfl) d
  · rw [gatesAtEnable_none enable was d hb]

/-- No gate list runs on an ETM page that stops or starts. -/
theorem gateOf_gatesAtEnable {enable : Bool} {p : Page} {was : Nat} (d : Dev) (hb : p.blk = .etm)
    (h : enable = false ∨ was = stIdle) : gateOf (gatesAtEnable enable p was d) p.inst = none := by
  have hstop : (!enable || decide (was = stIdle)) = true := by simpa using h
  rw [gatesAtEnable_etm enable was d hb, hstop, doIf_true, gateOf_gateStop]

/-! #### A page stops accepting work (R50, R51, R208, R339) -/

theorem blockHolds_ownWork (p : Page) (d : Dev) : OwnWork d (blockHolds p d) := by
  unfold blockHolds
  split
  · exact pump_ownWork d
  · exact .refl d

theorem blockHolds_none {p : Page} (d : Dev) (h : p.blk ≠ .ldl) : blockHolds p d = d := by
  unfold blockHolds
  split
  · contradiction
  · rfl

/-- The bits are written, the gates follow, and a block that was accepting work holds. -/
def stopped (enable quiesce : Bool) (p : Page) (d : Dev) : Dev :=
  doIf (accepting d p) (blockHolds p) (gatesAtEnable enable p stRunning (applyCtl enable quiesce p d))

section

variable {enable quiesce : Bool} {p : Page} {d : Dev}

theorem gates_shows (hp : p.inst < 4096) (hs : pageState d p = stRunning) :
    CtlShows p enable quiesce (!enable) stRunning (gatesAtEnable enable p stRunning (applyCtl enable quiesce p d)) :=
  (applyCtl_running_shows enable quiesce hs).keeps (gatesAtEnable_alters (P := [.sw]) (T := NoEntry) _ hp (.inl (by simp)))
    (gatesAtEnable_acts ..) hp (by simp [At]) (by simp [At])

theorem stopped_shows (hp : p.inst < 4096) (hs : pageState d p = stRunning) :
    CtlShows p enable quiesce (!enable) stRunning (stopped enable quiesce p d) := by
  unfold stopped
  cases accepting d p
  · exact gates_shows hp hs
  · exact (gates_shows hp hs).ownWork (blockHolds_ownWork p _) hp

theorem stopped_notAccepting (hp : p.inst < 4096) (hs : pageState d p = stRunning) (h : enable = false ∨ quiesce = true) :
    accepting (stopped enable quiesce p d) p = false := by
  rw [(stopped_shows hp hs).accepting_eq]
  rcases h with rfl | rfl <;> simp

/-- A running page that no longer accepts work: its block holds, and it settles. -/
theorem writeEnable_stops {s : State} (hp : p.inst < 4096) (hs : pageState s.dev p = stRunning)
    (h : enable = false ∨ quiesce = true) :
    writeEnable enable quiesce p s = onDev (fun d => settle p (stopped enable quiesce p d)) s := by
  have hopen : ¬(pageState s.dev p = stAborting ∨ pageState s.dev p = stFailed) := by rw [hs]; decide
  have his : accepting (gatesAtEnable enable p stRunning (applyCtl enable quiesce p s.dev)) p = false := by
    rw [(gates_shows hp hs).accepting_eq]
    rcases h with rfl | rfl <;> simp
  unfold writeEnable
  extract_lets st s1 was is s2
  rw [if_neg hopen]
  have hst : st = stRunning := hs
  have his : is = false := by simp only [is, s1, hst, onDev_dev, his]
  have hs2 : s2 = onDev (stopped enable quiesce p) s := by
    cases hwas : was <;> simp only [s2, s1, his, hwas, hst, Bool.false_and, Bool.not_false, Bool.and_true,
      Bool.false_eq_true, if_false, if_true, onDev, stopped, show accepting s.dev p = was from rfl, doIf_true, doIf_false]
  rw [hs2]
  rfl

/-- What a stop alters: the page, and, for a core-block or region page, the blocks' words and the collective engine. -/
theorem stopped_alters {W : Page → Nat → Prop} {P : List Part} (hp : p.inst < 4096) (hW : ∀ a, W p a)
    (hg : .sw ∈ P ∨ p.blk ≠ .etm ∨ enable = true) (hb : ((∀ q a, W q a) ∧ .col ∈ P) ∨ p.blk ≠ .ldl) :
    Alters W P NoEntry d (stopped enable quiesce p d) := by
  have hpage (offs : List Nat) : ∀ q a, At p offs q a → W q a := fun q a hq => hq.1 ▸ hW a
  have hg' : .sw ∈ P ∨ p.blk ≠ .etm ∨ (enable = true ∧ stRunning ≠ stIdle) :=
    hg.imp_right (Or.imp_right (⟨·, by decide⟩))
  refine (((applyCtl_alters enable quiesce d hp).words (hpage _)).trans
    ((gatesAtEnable_alters _ hp hg').words (hpage _))).trans (.doIf _ _ fun d => ?_)
  rcases hb with ⟨hall, hcol⟩ | hne
  · exact (blockHolds_ownWork p d).alters.mono (fun q a _ => hall q a) (fun x hx => List.mem_singleton.1 hx ▸ hcol)
      fun _ => id
  · rw [blockHolds_none d hne]
    exact .refl d

theorem stop_alters {W : Page → Nat → Prop} {P : List Part} (hp : p.inst < 4096) (hW : ∀ a, W p a)
    (hg : .sw ∈ P ∨ p.blk ≠ .etm ∨ enable = true) (hb : ((∀ q a, W q a) ∧ .col ∈ P) ∨ p.blk ≠ .ldl) :
    Alters W P NoEntry d (settle p (stopped enable quiesce p d)) :=
  (stopped_alters hp hW hg hb).trans ((settle_alters _ hp).words fun _ a hq => hq.1 ▸ hW a)

/-- What both ways of stopping a page leave: the bits as written, no work accepted, and the frame. -/
theorem stop_claims {s : State} (hp : p.inst < 4096) (hs : pageState s.dev p = stRunning)
    (h : enable = false ∨ quiesce = true) :
    let t := onDev (fun d => settle p (stopped enable quiesce p d)) s
    accepting t.dev p = false ∧ rdBit t.dev p Reg.PAGE_CTL_ENABLE = enable ∧
      rdBit t.dev p Reg.PAGE_CTL_QUIESCE_REQ = quiesce ∧ CoreKept s t ∧ TablesKept s t ∧ PartsKept [.col, .sw] s t ∧
      (p.blk ≠ .etm ∨ enable = true → t.dev.sw = s.dev.sw) ∧
      (p.blk ≠ .ldl → PagesKept [p] s t ∧ t.dev.col = s.dev.col) := by
  have hshows := stopped_shows (enable := enable) (quiesce := quiesce) hp hs
  have hsettle := settle_alters (P := []) (T := NoEntry) (stopped enable quiesce p s.dev) hp
  have hall : Alters (fun _ _ => True) [.col, .sw] NoEntry s.dev (settle p (stopped enable quiesce p s.dev)) :=
    stop_alters hp (fun _ => trivial) (.inl (by simp)) (.inl ⟨fun _ _ => trivial, by simp⟩)
  refine ⟨settle_notAccepting (stopped_notAccepting hp hs h) hshows.state,
    (hsettle.rdBit_off hp (by decide) (by decide)).trans hshows.enable,
    (hsettle.rdBit_off hp (by decide) (by decide)).trans hshows.request, coreKept_onDev _ s, hall.tablesKept, hall.partsKept,
    fun hg => ?_, fun hb => ?_⟩
  · have hsw : Alters (fun _ _ => True) [.col] NoEntry s.dev (settle p (stopped enable quiesce p s.dev)) :=
      stop_alters hp (fun _ => trivial) (.inr hg) (.inl ⟨fun _ _ => trivial, by simp⟩)
    exact hsw.part .sw (by simp)
  · have hcol : Alters (OnPage p) [.sw] NoEntry s.dev (settle p (stopped enable quiesce p s.dev)) :=
      stop_alters hp (fun _ => rfl) (.inl (by simp)) (.inr hb)
    exact ⟨hcol.pagesKept fun _ _ hq => List.mem_singleton.2 hq, hcol.part .col (by simp)⟩

/-- ENABLE 0 stops the gate list of an ETM page (R208). -/
theorem gateOf_stop (hp : p.inst < 4096) (hb : p.blk = .etm) : gateOf (settle p (stopped false quiesce p d)) p.inst = none := by
  have hsettle := (settle_alters (P := []) (T := NoEntry) (stopped false quiesce p d) hp).part .sw (by simp)
  have hheld : stopped false quiesce p d = gatesAtEnable false p stRunning (applyCtl false quiesce p d) := by
    unfold stopped
    cases accepting d p
    · rfl
    · rw [doIf_true, blockHolds_none _ (by rw [hb]; decide)]
  rw [gateOf, show (settle p _).sw = _ from hsettle, hheld]
  exact gateOf_gatesAtEnable _ hb (.inl rfl)

end

theorem pageStopsAccepting : Claims.PageStopsAccepting := by
  intro src p s ho hd hs
  have hp : p.inst < 4096 := Page.inst_lt ho.1
  constructor
  · obtain ⟨hacc, -, hreq, hcore, htables, hparts, hsw, hcol⟩ :=
      stop_claims (enable := rdBit s.dev p Reg.PAGE_CTL_ENABLE) (quiesce := true) hp hs (.inr rfl)
    exact ⟨_, (exec_quiesceReq_owned true ho hd).trans (congrArg _ (writeEnable_stops hp hs (.inr rfl))), hacc, hreq, hcore,
      htables, hparts, hsw, hcol⟩
  · obtain ⟨hacc, hen, -, hcore, htables, hparts, hsw, hcol⟩ :=
      stop_claims (enable := false) (quiesce := rdBit s.dev p Reg.PAGE_CTL_QUIESCE_REQ) hp hs (.inl rfl)
    exact ⟨_, (exec_enable_owned false ho hd).trans (congrArg _ (writeEnable_stops hp hs (.inl rfl))), hacc, hen, hcore,
      htables, hparts, gateOf_stop hp, fun hb => hsw (.inl hb), hcol⟩

/-! #### An idle page starts (R50, R208) -/

/-- A link whose ADMIN_UP is 0 starts no search (R497). -/
theorem tryLeaveDisabled_down (now : W64) {lane : Nat} {d : Dev}
    (h : rdBit d (Page.lnk lane) Reg.LNK_LNK_CTL_ADMIN_UP = false) :
    tryLeaveDisabled now lane d = d := by simp [tryLeaveDisabled, h]

theorem unparkReady_none {s : State} (h : s.dev.sw.parkA = [] ∧ s.dev.sw.parkB = []) : unparkReady s = s := by
  simp [unparkReady, parked, h.1, h.2, sortBy]

/-- A block that starts with no search and no parked cell does work of its own alone. -/
theorem blockRuns_ownWork {p : Page} {s : State}
    (hl : p.blk = .lnk → rdBit s.dev p Reg.LNK_LNK_CTL_ADMIN_UP = false)
    (hc : p.blk = .col → s.dev.sw.parkA = [] ∧ s.dev.sw.parkB = []) :
    ∃ g : Dev → Dev, OwnWork s.dev (g s.dev) ∧ blockRuns p s = onDev g s := by
  unfold blockRuns
  split
  next hb =>
    have hpage : Page.lnk p.inst = p := by rw [Page.lnk, ← hb]
    split
    · refine ⟨_, ?_, rfl⟩
      rw [tryLeaveDisabled_down s.now (by rw [hpage]; exact hl hb)]
      exact .refl _
    · exact ⟨id, .refl _, rfl⟩
  next =>
    refine ⟨_, ?_, rfl⟩
    split
    · exact .refl _
    · exact .wr _ _ (by decide) (by decide) (by decide)
  next hb => exact ⟨id, .refl _, unparkReady_none (hc hb)⟩
  next => exact ⟨_, pump_ownWork _, rfl⟩
  next => exact ⟨id, .refl _, rfl⟩

/-- The bits and the gates of an idle page that ENABLE starts. -/
def started (p : Page) (d : Dev) : Dev := gatesAtEnable true p stIdle (applyCtl true false p d)

theorem started_alters {P : List Part} {T : Nat → Prop} {p : Page} (d : Dev) (hp : p.inst < 4096)
    (h : .sw ∈ P ∨ p.blk ≠ .etm) : Alters (At p [0x008, 0x00C, 0x108, 0x10C]) P T d (started p d) :=
  ((applyCtl_alters true false d hp).words fun _ a hq => ⟨hq.1, by have := hq.2; simp at this ⊢; tauto⟩).trans
    ((gatesAtEnable_alters _ hp (h.imp_right .inl)).words fun _ a hq => ⟨hq.1, by have := hq.2; simp at this ⊢; tauto⟩)

theorem started_shows {p : Page} {d : Dev} (hp : p.inst < 4096) (hs : pageState d p = stIdle)
    (hf : (d.act p).finishing = false) : CtlShows p true false false stRunning (started p d) := by
  have h := applyCtl_start_shows false hs
  rw [hf] at h
  exact h.keeps (gatesAtEnable_alters (P := [.sw]) (T := NoEntry) _ hp (.inl (by simp))) (gatesAtEnable_acts ..) hp
    (by simp [At]) (by simp [At])

/-- An idle page that starts: the bits, the gates, and its block's work; it has nothing to settle. -/
theorem writeEnable_starts {p : Page} {s : State} (hp : p.inst < 4096) (hs : pageState s.dev p = stIdle)
    (hf : (s.dev.act p).finishing = false) :
    writeEnable true false p s = onDev (settle p) (blockRuns p (onDev (started p) s)) := by
  have hopen : ¬(pageState s.dev p = stAborting ∨ pageState s.dev p = stFailed) := by rw [hs]; decide
  have hwas : accepting s.dev p = false := not_accepting_of_state (by rw [hs]; decide)
  have his : accepting (started p s.dev) p = true := (started_shows hp hs hf).accepting_eq
  unfold writeEnable
  extract_lets st s1 was is s2
  rw [if_neg hopen]
  have hst : st = stIdle := hs
  have hs1 : s1 = onDev (started p) s := by simp only [s1, hst]; rfl
  have hs2 : s2 = blockRuns p s1 := by
    have h1 : is = true := by rw [← his]; simp only [is, hs1, onDev_dev]
    have h2 : was = false := hwas
    simp only [s2, h1, h2, Bool.not_false, Bool.and_self, if_true]
  rw [hs2, hs1]

theorem enableStartsIdlePage : Claims.EnableStartsIdlePage := by
  intro src p s ho hd hs hf hq hl hc
  have hp : p.inst < 4096 := Page.inst_lt ho.1
  have hsw (hb : p.blk ≠ .etm) : Alters (At p [0x008, 0x00C, 0x108, 0x10C]) [] NoEntry s.dev (started p s.dev) :=
    started_alters s.dev hp (.inr hb)
  obtain ⟨g, hg, hruns⟩ := blockRuns_ownWork (p := p) (s := onDev (started p) s)
    (fun hb => ((hsw (by rw [hb]; decide)).rdBit_off hp (by decide) (by decide)).trans (hl hb))
    (fun hb => by
      have hkept : (started p s.dev).sw = s.dev.sw := (hsw (by rw [hb]; decide)).part .sw (by simp)
      rw [onDev_dev, hkept]
      exact hc hb)
  have hshows : CtlShows p true false false stRunning (g (started p s.dev)) := (started_shows hp hs hf).ownWork hg hp
  have hacc : accepting (g (started p s.dev)) p = true := hshows.accepting_eq
  have hexec : exec (.enable src p true) s = .next (onDev (fun d => g (started p d)) s) := by
    rw [exec_enable_owned true ho hd, hq, writeEnable_starts hp hs hf, hruns]
    simp only [onDev, settle_accepting hacc]
  have halt : Alters (fun _ _ => True) [.col, .sw] NoEntry s.dev (g (started p s.dev)) :=
    ((started_alters s.dev hp (.inl (by simp))).words fun _ _ _ => trivial).trans
      (hg.alters.mono (fun _ _ _ => trivial) (fun x hx => by simp_all) fun _ => id)
  refine ⟨_, hexec, hshows.state, hacc, hshows.enable, coreKept_onDev _ s, halt.tablesKept, halt.partsKept, fun hb => ?_,
    fun hb => (hg.alters.part .sw (by simp)).trans ((hsw hb).part .sw (by simp))⟩
  rw [onDev_dev, gateOf, show (g (started p s.dev)).sw = (started p s.dev).sw from hg.alters.part .sw (by simp)]
  exact gateOf_gatesAtEnable _ hb (.inr rfl)

/-- Settles O7: the bits written decide what the page accepts, and with nothing in flight it settles. -/
theorem pagesStartAndStop : Obligations.PagesStartAndStop := ⟨pageStopsAccepting, enableStartsIdlePage, pageSettles⟩

end Sys2Proof.Machine

/-! ### Failure of a page, and the fault log (R50, R453, R464) -/

namespace Sys2Proof.Machine

/-! #### Table keys -/

/-- Keys of entries of the tables listed, each by its page and number. -/
def InTables (ts : List (Page × Nat)) (k : Nat) : Prop := ∃ x ∈ ts, ∃ i < 2 ^ 32, k = tblKey x.1 x.2 i

theorem page_eq_of_num {p q : Page} (hp : p.inst < 4096) (hq : q.inst < 4096) (h : p.num = q.num) : p = q := by
  refine ((Page.addr_inj p q 0 0 hp hq (by decide) (by decide)).1 ?_).1
  unfold Page.num at h
  have hc : p.blk.code = q.blk.code := by omega
  have hi : p.inst = q.inst := by omega
  simp only [Page.base, hc, hi]

/-- Entries of two tables lie at different keys (R69). -/
theorem tblKey_table {p q : Page} {t u i j : Nat} (hp : p.inst < 4096) (hq : q.inst < 4096) (ht : t < 16) (hu : u < 16)
    (hi : i < 2 ^ 32) (hj : j < 2 ^ 32) (h : tblKey p t i = tblKey q u j) : (p, t) = (q, u) := by
  unfold tblKey at h
  have hpt : p.num * 16 + t = q.num * 16 + u := by omega
  have hnum : p.num = q.num := by omega
  rw [page_eq_of_num hp hq hnum, show t = u by omega]

/-- A table not listed has no entry among the keys. -/
theorem not_inTables {ts : List (Page × Nat)} (hts : ∀ x ∈ ts, x.1.inst < 4096 ∧ x.2 < 16) {p : Page} {t i : Nat}
    (hp : p.inst < 4096) (ht : t < 16) (hi : i < 2 ^ 32) (h : (p, t) ∉ ts) : ¬InTables ts (tblKey p t i) := by
  rintro ⟨x, hx, j, hj, heq⟩
  exact h (tblKey_table hp (hts x hx).1 ht (hts x hx).2 hi hj heq ▸ hx)

theorem Alters.entriesKept {W : Page → Nat → Prop} {P : List Part} {ts : List (Page × Nat)} {f : Dev → Dev} {s : State}
    (h : Alters W P (InTables ts) s.dev (f s.dev)) (hts : ∀ x ∈ ts, x.1.inst < 4096 ∧ x.2 < 16) :
    EntriesKept ts s (onDev f s) := fun _ _ _ hp ht hi hn => h.entry _ (not_inTables hts hp ht hi hn)

theorem Alters.tset {W : Page → Nat → Prop} {P : List Part} {ts : List (Page × Nat)} {p : Page} {t i : Nat} (ws : List W32)
    (d : Dev) (h : (p, t) ∈ ts) (hi : i < 2 ^ 32) : Alters W P (InTables ts) d (Machine.tset p t i ws d) := by
  refine ⟨fun _ _ _ _ _ => rfl, fun x _ => by cases x <;> rfl, fun k hk => sget_sset_ne _ _ _ ?_⟩
  rintro rfl
  exact hk ⟨(p, t), h, i, hi, rfl⟩

/-! #### A count, with the watches that follow it (R465, R467) -/

/-- TEL's watch table. -/
def watchTable : List (Page × Nat) := [(Page.tel, 0)]

/-- A watch alters its own entry, and words of TEL. -/
theorem watchStep_alters {P : List Part} (a n i : Nat) (r : Dev × Nat) :
    Alters (OnPage Page.tel) P (InTables watchTable) r.1 (watchStep a n i r).1 := by
  simp only [watchStep]
  split_ifs with hw hcarry hpend
  · simp only [Bool.and_eq_true, decide_eq_true_eq] at hw
    have hi : i < 256 := hw.1.1
    exact ((Alters.tset _ _ (by simp [watchTable]) (by omega)).trans (.wrWord _ _ (by decide) (by omega) rfl)).trans
      (.raiseIrq _ _ (by decide) rfl)
  · simp only [Bool.and_eq_true, decide_eq_true_eq] at hw
    exact .tset _ _ (by simp [watchTable]) (by have := hw.1.1; omega)
  · simp only [Bool.and_eq_true, decide_eq_true_eq] at hw
    exact .tset _ _ (by simp [watchTable]) (by have := hw.1.1; omega)
  · exact .refl _

theorem watchFold_alters {P : List Part} (l : List Nat) (a n : Nat) (r : Dev × Nat) :
    Alters (OnPage Page.tel) P (InTables watchTable) r.1 (l.foldl (fun r i => watchStep a n i r) r).1 := by
  induction l generalizing r with
  | nil => exact .refl _
  | cons i l ih => exact (watchStep_alters a n i r).trans (ih _)

/-- A count alters words of its page and of TEL, and TEL's watches. -/
theorem bumpAt_alters {P : List Part} (fuel : Nat) {p : Page} {off : Nat} (n : Nat) (d : Dev) (hp : p.inst < 4096)
    (ho : off + 4 < 4096) : Alters (fun q _ => q = p ∨ q = Page.tel) P (InTables watchTable) d (bumpAt fuel p off n d) := by
  induction fuel generalizing p off n d with
  | zero => exact .refl d
  | succ fuel ih =>
    unfold bumpAt
    extract_lets d1 watches r
    have hcount : Alters (fun q _ => q = p ∨ q = Page.tel) P (InTables watchTable) d d1 :=
      (Alters.wrWord _ d hp (by show off < 4096; omega) (.inl rfl)).trans (.wrWord _ _ hp ho (.inl rfl))
    have hwatch : Alters (fun q _ => q = p ∨ q = Page.tel) P (InTables watchTable) d1 r.1 :=
      (watchFold_alters watches (p.base + off) n (d1, 0)).words fun _ _ hq => .inr hq
    split
    · exact hcount.trans hwatch
    · exact (hcount.trans hwatch).trans ((ih r.2 r.1 (by decide) (by decide)).words fun _ _ hq => .inr (hq.elim id id))

theorem bump_alters {P : List Part} {p : Page} {base : Fd} {k : Nat} (d : Dev) (hp : p.inst < 4096)
    (ho : base.off + 8 * k + 4 < 4096) :
    Alters (fun q _ => q = p ∨ q = Page.tel) P (InTables watchTable) d (bump p base k d) := by
  rw [bump, bumpN, if_neg (by decide)]
  exact bumpAt_alters 256 1 d hp ho

/-! #### The journal (R434) -/

/-- The device with other management stores. -/
def withMgt (d : Dev) (m : Mgt) : Dev := { d with mgt := m }

theorem withMgt_alters {W : Page → Nat → Prop} {P : List Part} {T : Nat → Prop} (d : Dev) (m : Mgt) (h : .mgt ∈ P) :
    Alters W P T d (withMgt d m) := by
  refine ⟨fun _ _ _ _ _ => rfl, fun x hx => ?_, fun _ _ => rfl⟩
  cases x
  case mgt => exact absurd h hx
  all_goals rfl

/-- A record appended: the management stores, a count of MGT, and what JOURNAL_STAT shows. -/
theorem journalAdd_eq (type key : Nat) (delete good : Bool) (value : List Byte) (d : Dev) :
    ∃ m, journalAdd type key delete good value d = journalStat (bump Page.mgt Reg.MGT_CNT 10 (withMgt d m)) := by
  unfold journalAdd
  extract_lets r h d1
  obtain ⟨m, -, heq⟩ := setActiveHalf_eq { h with recs := h.recs ++ [r], fill := h.fill + recBytes r } d
  have hd1 : { d1 with mgt := { d1.mgt with nextSeq := d1.mgt.nextSeq + 1 } } =
      withMgt d { m with nextSeq := m.nextSeq + 1 } := by
    simp only [d1, heq, withMgt]
  exact ⟨_, congrArg (fun e => journalStat (bump Page.mgt Reg.MGT_CNT 10 e)) hd1⟩

theorem journalAdd_alters (type key : Nat) (delete good : Bool) (value : List Byte) (d : Dev) :
    Alters (fun q _ => q = Page.mgt ∨ q = Page.tel) [.mgt] (InTables watchTable) d
      (journalAdd type key delete good value d) := by
  obtain ⟨m, heq⟩ := journalAdd_eq type key delete good value d
  rw [heq]
  exact ((withMgt_alters d m (by simp)).trans (bump_alters _ (by decide) (by decide))).trans
    ((Alters.wr _ _ (by decide) (by decide) (.inl rfl)).trans (.wr _ _ (by decide) (by decide) (.inl rfl)))

theorem journalAdd_ctl_staged (type key : Nat) (delete good : Bool) (value : List Byte) (d : Dev) :
    (journalAdd type key delete good value d).ctl.staged = d.ctl.staged := by
  obtain ⟨m, heq⟩ := journalAdd_eq type key delete good value d
  rw [heq]
  exact bump_ctl_staged _ _ _ (withMgt d m)

/-! #### The fault log (R453, R464) -/

/-- The log's table, and the watches its counts move. -/
def logTables : List (Page × Nat) := [(Page.pkg, 0), (Page.tel, 0)]

/-- The entry written at FAULT_HEAD.NEXT, the head moved on, and the unit's latest entry noted. -/
def entryWritten (now : W64) (f : FaultRec) (d : Dev) : Dev :=
  let i := rd d Page.pkg Reg.PKG_FAULT_HEAD_NEXT
  let d3 := doIf (decide (i = 255)) (wr Page.pkg Reg.PKG_FAULT_HEAD_WRAPPED 1)
    (wr Page.pkg Reg.PKG_FAULT_HEAD_NEXT ((i + 1) % 256) (tset Page.pkg 0 i (faultWords f (fabricNs d now) d.rst.faultSeq) d))
  { d3 with rst := { d3.rst with
    faultSeq := d.rst.faultSeq + 1,
    faultLast := sset (konst (0, 256)) d3.rst.faultLast (faultKey f) (now.toNat, i) } }

theorem faultEntry_eq (now : W64) (f : FaultRec) (d : Dev) : faultEntry now f d =
    journalAdd 3 (faultKey f) false true ((faultWords f (fabricNs d now) d.rst.faultSeq).flatMap fun w => bytesLE 4 w.toNat)
      (bump Page.pkg Reg.PKG_CNT (6 + f.level) (entryWritten now f d)) := rfl

/-- A unit with no entry in the log gets one (R453). -/
theorem faultLog_fresh {now : W64} {f : FaultRec} {d : Dev}
    (h : sget (konst (0, 256)) d.rst.faultLast (faultKey f) = (0, 256)) :
    faultLog now f d = raiseIrq Page.pkg 17 (faultEntry now f d) := by simp [faultLog, h]

theorem faultNext_lt (d : Dev) : rd d Page.pkg Reg.PKG_FAULT_HEAD_NEXT < 256 := Nat.mod_lt _ (by decide)

theorem entryWritten_alters {P : List Part} (now : W64) (f : FaultRec) (d : Dev) (hP : .rst ∈ P) :
    Alters (OnPage Page.pkg) P (InTables logTables) d (entryWritten now f d) := by
  have hi := faultNext_lt d
  have hregs : Alters (OnPage Page.pkg) P (InTables logTables) d (doIf (decide (rd d Page.pkg Reg.PKG_FAULT_HEAD_NEXT = 255))
      (wr Page.pkg Reg.PKG_FAULT_HEAD_WRAPPED 1) (wr Page.pkg Reg.PKG_FAULT_HEAD_NEXT
        ((rd d Page.pkg Reg.PKG_FAULT_HEAD_NEXT + 1) % 256) (tset Page.pkg 0 (rd d Page.pkg Reg.PKG_FAULT_HEAD_NEXT)
          (faultWords f (fabricNs d now) d.rst.faultSeq) d))) :=
    ((Alters.tset _ d (by simp [logTables]) (by omega)).trans (.wr _ _ (by decide) (by decide) rfl)).trans
      (.doIf _ _ fun d => .wr _ d (by decide) (by decide) rfl)
  refine hregs.trans ⟨fun _ _ _ _ _ => rfl, fun x hx => ?_, fun _ _ => rfl⟩
  cases x
  case rst => exact absurd hP hx
  all_goals rfl

theorem faultNext_entryWritten (now : W64) (f : FaultRec) (d : Dev) :
    rd (entryWritten now f d) Page.pkg Reg.PKG_FAULT_HEAD_NEXT =
    (rd d Page.pkg Reg.PKG_FAULT_HEAD_NEXT + 1) % 256 := by
  have hnext (ws : List W32) : rd (wr Page.pkg Reg.PKG_FAULT_HEAD_NEXT ((rd d Page.pkg Reg.PKG_FAULT_HEAD_NEXT + 1) % 256)
      (tset Page.pkg 0 (rd d Page.pkg Reg.PKG_FAULT_HEAD_NEXT) ws d)) Page.pkg Reg.PKG_FAULT_HEAD_NEXT =
      (rd d Page.pkg Reg.PKG_FAULT_HEAD_NEXT + 1) % 256 := rd_wr_fits _ _ _ _ rfl (Nat.mod_lt _ (by decide))
  refine Eq.trans ?_ (hnext (faultWords f (fabricNs d now) d.rst.faultSeq))
  exact doIf_keeps (fun d => rd d Page.pkg Reg.PKG_FAULT_HEAD_NEXT) _ (wr Page.pkg Reg.PKG_FAULT_HEAD_WRAPPED 1)
    (fun d => rd_wr_apart _ _ d rfl rfl rfl) _

theorem tget_entryWritten (now : W64) (f : FaultRec) (d : Dev) :
    tget (entryWritten now f d) Page.pkg 0 (rd d Page.pkg Reg.PKG_FAULT_HEAD_NEXT) =
      faultWords f (fabricNs d now) d.rst.faultSeq := by
  refine Eq.trans ?_ (tget_tset_same Page.pkg 0 (rd d Page.pkg Reg.PKG_FAULT_HEAD_NEXT)
    (faultWords f (fabricNs d now) d.rst.faultSeq) d)
  exact doIf_keeps (fun d' => tget d' Page.pkg 0 (rd d Page.pkg Reg.PKG_FAULT_HEAD_NEXT)) _
    (wr Page.pkg Reg.PKG_FAULT_HEAD_WRAPPED 1) (fun _ => rfl) _

theorem staged_entryWritten (now : W64) (f : FaultRec) (d : Dev) : (entryWritten now f d).ctl.staged = d.ctl.staged :=
  doIf_keeps (fun d => d.ctl.staged) _ (wr Page.pkg Reg.PKG_FAULT_HEAD_WRAPPED 1) (fun _ => rfl) _

/-- What follows the entry: the counts, the journal record and the interrupt. -/
structure Reported (d e : Dev) : Prop where
  alters : Alters (fun q _ => q = Page.pkg ∨ q = Page.mgt ∨ q = Page.tel) [.mgt] (InTables watchTable) d e
  next : rd e Page.pkg Reg.PKG_FAULT_HEAD_NEXT = rd d Page.pkg Reg.PKG_FAULT_HEAD_NEXT
  irq : (rdWord e Page.pkg 0x010).getLsbD 17 = true
  staged : e.ctl.staged = d.ctl.staged

theorem faultLog_reported {now : W64} {f : FaultRec} {d : Dev} (hl : f.level < 4)
    (h : sget (konst (0, 256)) d.rst.faultLast (faultKey f) = (0, 256)) :
    Reported (entryWritten now f d) (faultLog now f d) := by
  rw [faultLog_fresh h, faultEntry_eq]
  have hbump : Alters (fun q _ => q = Page.pkg ∨ q = Page.tel) [.mgt] (InTables watchTable) (entryWritten now f d)
      (bump Page.pkg Reg.PKG_CNT (6 + f.level) (entryWritten now f d)) :=
    bump_alters _ (by decide) (by show 0x180 + 8 * (6 + f.level) + 4 < 4096; omega)
  refine ⟨((hbump.words fun q _ hq => hq.imp_right .inr).trans ((journalAdd_alters ..).words fun q _ hq => .inr hq)).trans
      (.raiseIrq 17 _ (by decide) (.inl rfl)), ?_, raiseIrq_bit _ _ _ (by decide), ?_⟩
  · rw [rd_raiseIrq_off _ _ _ _ (by decide), (journalAdd_alters ..).rd_eq (by decide) (by decide) (by decide),
      rd_bump_off _ _ _ _ (by decide) (by decide) (by decide)
        (.inl (by show 0x128 < 0x180 + 8 * (6 + f.level); omega)) (by decide) (by decide)]
  · rw [raiseIrq_ctl_staged, journalAdd_ctl_staged, bump_ctl_staged]

/-- What a unit's first event leaves: its entry at FAULT_HEAD.NEXT, the head and SEQ moved on, and PKG's interrupt. -/
structure Logged (now : W64) (f : FaultRec) (d e : Dev) : Prop where
  alters : Alters (fun q _ => q = Page.pkg ∨ q = Page.mgt ∨ q = Page.tel) [.mgt, .rst] (InTables logTables) d e
  entry : tget e Page.pkg 0 (rd d Page.pkg Reg.PKG_FAULT_HEAD_NEXT) = faultWords f (fabricNs d now) d.rst.faultSeq
  next : rd e Page.pkg Reg.PKG_FAULT_HEAD_NEXT = (rd d Page.pkg Reg.PKG_FAULT_HEAD_NEXT + 1) % 256
  seq : e.rst.faultSeq = d.rst.faultSeq + 1
  irq : (rdWord e Page.pkg 0x010).getLsbD 17 = true
  staged : e.ctl.staged = d.ctl.staged

theorem faultLog_logged {now : W64} {f : FaultRec} {d : Dev} (hl : f.level < 4)
    (h : sget (konst (0, 256)) d.rst.faultLast (faultKey f) = (0, 256)) : Logged now f d (faultLog now f d) := by
  have hrep : Reported (entryWritten now f d) (faultLog now f d) := faultLog_reported hl h
  have hrst : (faultLog now f d).rst = (entryWritten now f d).rst := hrep.alters.part .rst (by simp)
  refine ⟨?_, ?_, by rw [hrep.next, faultNext_entryWritten], by rw [hrst]; rfl, hrep.irq,
    hrep.staged.trans (staged_entryWritten now f d)⟩
  · exact ((entryWritten_alters now f d (by simp)).words fun _ _ hq => .inl hq).trans
      (hrep.alters.mono (fun _ _ => id) (by simp) fun k ⟨x, hx, hk⟩ => ⟨x, by simp_all [watchTable, logTables], hk⟩)
  · have hi := faultNext_lt d
    rw [← tget_entryWritten now f d]
    exact hrep.alters.entry _ (not_inTables (by decide) (by decide) (by decide) (by omega) (by decide))

/-! #### The page itself (R48, R50, R55) -/

/-- STATE failed, nothing quiescing or finishing. -/
def failedState (p : Page) (d : Dev) : Dev :=
  let d1 := wr p Reg.PAGE_STAT_QUIESCING 0 (setPageState p stFailed d)
  setAct p { d1.act p with finishing := false } d1

theorem pageFail_eq {p : Page} (detail : Nat) {d : Dev} (h : pageState d p ≠ stAborting) :
    pageFail p detail d = hwErr p errUncorrectable detail (discardPending p (failedState p d)) := if_neg h

theorem pageFail_alters {p : Page} (detail : Nat) {d : Dev} (hp : p.inst < 4096) (h : pageState d p ≠ stAborting) :
    Alters (At p [0x00C, 0x010, 0x018, 0x01C, 0x028]) [] NoEntry d (pageFail p detail d) := by
  rw [pageFail_eq detail h]
  have hstate : Alters (At p [0x00C, 0x010, 0x018, 0x01C, 0x028]) [] NoEntry d (failedState p d) :=
    ((Alters.wrAt _ d hp (by decide) (by decide)).trans (.wrAt _ _ hp (by decide) (by decide))).trans (.setAct p _ _)
  exact (hstate.trans (discardPending_alters _ hp fun a ha => ⟨rfl, by simp at ha ⊢; tauto⟩)).trans
    (.setErrs _ _ _ _ _ hp fun a ha => ⟨rfl, by simp at ha ⊢; tauto⟩)

theorem pageState_pageFail {p : Page} (detail : Nat) {d : Dev} (h : pageState d p ≠ stAborting) :
    pageState (pageFail p detail d) p = stFailed := by
  rw [pageFail_eq detail h, pageState, hwErr, rd_setErrs_off p _ _ _ _ _ _ (by decide),
    rd_discardPending p _ rfl (by decide) rfl rfl, failedState, rd_setAct, rd_wr_apart p _ _ rfl rfl rfl]
  exact pageState_setPageState p d (by decide)

theorem commitPending_pageFail {p : Page} (detail : Nat) {d : Dev} (h : pageState d p ≠ stAborting) :
    commitPending (pageFail p detail d) p = false := by
  rw [pageFail_eq detail h, commitPending, hwErr, rd_setErrs_off p _ _ _ _ _ _ (by decide), ← commitPending,
    commitPending_discardPending]

theorem stagedOf_pageFail {p : Page} (detail : Nat) {d : Dev} (h : pageState d p ≠ stAborting) :
    stagedOf (pageFail p detail d) p = [] := by
  rw [pageFail_eq detail h, stagedOf_congr (hwErr_ctl_staged ..), stagedOf_discardPending]

theorem uncorrectable_pageFail {p : Page} (detail : Nat) {d : Dev} (h : pageState d p ≠ stAborting) :
    (rdWord (pageFail p detail d) p 0x018).getLsbD errUncorrectable = true := by
  rw [pageFail_eq detail h]
  exact setErrs_bit p errUncorrectable _ _ _ _ (by decide)

/-- Fabric time does not hang on a page's header (R365). -/
theorem fabricNs_of_header {p : Page} {offs : List Nat} {T : Nat → Prop} {d e : Dev} (h : Alters (At p offs) [] T d e)
    (hn : Reg.TIM_RATE_RATE.off ∉ offs) (now : W64) : fabricNs e now = fabricNs d now := by
  have htim : e.tim = d.tim := h.part .tim (by simp)
  simp only [fabricNs, fabricAt, rateOf, htim, h.rd_eq (q := Page.tim) (by decide) (by decide) fun hw => hn hw.2]

/-- The event of a page's failure, at block level. -/
def pageFault (p : Page) (unit detail : Nat) : FaultRec :=
  { level := lvBlock, action := acPageFailed, page := p, unit := unit, cls := errUncorrectable, detail := detail, recover := 0 }

theorem pageFailLogged_eq (now : W64) {p : Page} (unit detail : Nat) {d : Dev} (h : pageState d p ≠ stAborting) :
    pageFailLogged now p unit detail d = faultLog now (pageFault p unit detail) (pageFail p detail d) := if_neg h

/-- Settles O8: the failure clears the page's own values, and its log entry is the one at FAULT_HEAD.NEXT. -/
theorem pageFails : Obligations.PageFails := by
  intro p unit detail s he hpkg hmgt htel hab hlast
  have hp : p.inst < 4096 := Page.inst_lt he
  obtain ⟨f, hf⟩ : ∃ f, f = pageFault p unit detail := ⟨_, rfl⟩
  obtain ⟨d, hd⟩ : ∃ d, d = pageFail p detail s.dev := ⟨_, rfl⟩
  have hexec : exec (.blockFail p unit detail) s = .next (onDev (pageFailLogged s.now p unit detail) s) := by
    rw [exec_blockFail, effect_next (.blockFail p unit detail) _ _ he]
  have hdev : pageFailLogged s.now p unit detail s.dev = faultLog s.now f d := by
    rw [pageFailLogged_eq _ _ _ hab, hf, hd]
  have hfail : Alters (At p [0x00C, 0x010, 0x018, 0x01C, 0x028]) [] NoEntry s.dev d := hd ▸ pageFail_alters detail hp hab
  have hrst : d.rst = s.dev.rst := hfail.part .rst (by simp)
  have hlog : Logged s.now f d (faultLog s.now f d) :=
    faultLog_logged (by rw [hf]; exact (by decide : lvBlock < 4)) (by rw [hrst, hf]; exact hlast)
  have hne (q : Page) (hq : p.blk ≠ q.blk) : p ≠ q := fun h => hq (h ▸ rfl)
  have hown : ¬(p = Page.pkg ∨ p = Page.mgt ∨ p = Page.tel) := by
    simp [hne Page.pkg hpkg, hne Page.mgt hmgt, hne Page.tel htel]
  have hnext : rd d Page.pkg Reg.PKG_FAULT_HEAD_NEXT = rd s.dev Page.pkg Reg.PKG_FAULT_HEAD_NEXT :=
    hfail.rd_eq (by decide) (by decide) fun hw => hne Page.pkg hpkg hw.1.symm
  have hall : Alters (fun q _ => q ∈ [p, Page.pkg, Page.mgt, Page.tel]) [.mgt, .rst] (InTables logTables) s.dev
      (pageFailLogged s.now p unit detail s.dev) := by
    rw [hdev]
    exact (hfail.mono (fun q _ hq => by simp [hq.1]) (by simp) fun _ h => h.elim).trans
      (hlog.alters.words fun q _ hq => by simpa using .inr hq)
  refine ⟨_, hexec, ?_, ?_, ?_, ?_, ?_, ?_, ?_, ?_, coreKept_onDev _ s, hall.partsKept, hall.entriesKept (by decide),
    hall.pagesKept fun _ _ hq => hq⟩ <;> rw [onDev_dev, hdev]
  · rw [pageState, hlog.alters.rd_eq hp (by decide) hown, hd]
    exact pageState_pageFail detail hab
  · rw [hlog.alters.word p 0x018 hp (by decide) hown, hd]
    exact uncorrectable_pageFail detail hab
  · rw [stagedOf_congr hlog.staged, hd, stagedOf_pageFail detail hab]
  · rw [commitPending, hlog.alters.rd_eq hp (by decide) hown, hd]
    exact commitPending_pageFail detail hab
  · exact hlog.irq
  · rw [← hnext, hlog.entry, fabricNs_of_header hfail (by decide), hrst, hf, pageFault]
  · rw [hlog.next, hnext]
  · rw [hlog.seq, hrst]

end Sys2Proof.Machine

/-! ### Cells in the switch: frames of an update that leaves the software's own state alone -/

namespace Sys2Proof.Machine

/-- The software's own state is the same in both: staged values, commits, latches, table commands, pages' and chip-wide
actions. -/
structure SoftSame (d e : Dev) : Prop where
  staged : e.ctl.staged = d.ctl.staged
  commits : e.ctl.commits = d.ctl.commits
  latchHost : e.ctl.latchHost = d.ctl.latchHost
  latchInband : e.ctl.latchInband = d.ctl.latchInband
  tblPend : e.ctl.tblPend = d.ctl.tblPend
  acts : e.ctl.acts = d.ctl.acts
  abortWave : e.ctl.abortWave = d.ctl.abortWave
  ownerAll : e.ctl.ownerAll = d.ctl.ownerAll

namespace SoftSame

variable {d e : Dev}

theorem refl (d : Dev) : SoftSame d d := ⟨rfl, rfl, rfl, rfl, rfl, rfl, rfl, rfl⟩

theorem trans {d' : Dev} (h : SoftSame d d') (h' : SoftSame d' e) : SoftSame d e :=
  ⟨h'.staged.trans h.staged, h'.commits.trans h.commits, h'.latchHost.trans h.latchHost,
    h'.latchInband.trans h.latchInband, h'.tblPend.trans h.tblPend, h'.acts.trans h.acts,
    h'.abortWave.trans h.abortWave, h'.ownerAll.trans h.ownerAll⟩

theorem ofCtl (h : e.ctl = d.ctl) : SoftSame d e := by constructor <;> rw [h]

theorem wr (p : Page) (f : Fd) (v : Nat) (d : Dev) : SoftSame d (Machine.wr p f v d) :=
  ⟨rfl, rfl, rfl, rfl, rfl, rfl, rfl, rfl⟩

theorem raiseIrq (p : Page) (bit : Nat) (d : Dev) : SoftSame d (Machine.raiseIrq p bit d) :=
  ⟨raiseIrq_ctl_staged .., raiseIrq_ctl_commits .., raiseIrq_ctl_latchHost .., raiseIrq_ctl_latchInband ..,
    raiseIrq_ctl_tblPend .., raiseIrq_ctl_acts .., raiseIrq_ctl_abortWave .., raiseIrq_ctl_ownerAll ..⟩

theorem bump (p : Page) (base : Fd) (k : Nat) (d : Dev) : SoftSame d (Machine.bump p base k d) :=
  ⟨bump_ctl_staged .., bump_ctl_commits .., bump_ctl_latchHost .., bump_ctl_latchInband .., bump_ctl_tblPend ..,
    bump_ctl_acts .., bump_ctl_abortWave .., bump_ctl_ownerAll ..⟩

end SoftSame

/-- An update that alters what is named, and nothing of the software's own state. -/
structure SoftAlters (W : Page → Nat → Prop) (P : List Part) (T : Nat → Prop) (d e : Dev) : Prop extends
    Alters W P T d e where
  soft : SoftSame d e

namespace SoftAlters

variable {W : Page → Nat → Prop} {P : List Part} {T : Nat → Prop} {d e : Dev}

theorem refl (d : Dev) : SoftAlters W P T d d := ⟨.refl d, .refl d⟩

theorem trans {d' : Dev} (h : SoftAlters W P T d d') (h' : SoftAlters W P T d' e) : SoftAlters W P T d e :=
  ⟨h.toAlters.trans h'.toAlters, h.soft.trans h'.soft⟩

theorem mono {V : Page → Nat → Prop} {Q : List Part} {S : Nat → Prop} (h : SoftAlters V Q S d e)
    (hw : ∀ q a, V q a → W q a) (hp : ∀ x ∈ Q, x ∈ P) (ht : ∀ k, S k → T k) : SoftAlters W P T d e :=
  ⟨h.toAlters.mono hw hp ht, h.soft⟩

/-- The same with more words altered. -/
theorem words {V : Page → Nat → Prop} (h : SoftAlters V P T d e) (hw : ∀ q a, V q a → W q a) :
    SoftAlters W P T d e :=
  ⟨h.toAlters.words hw, h.soft⟩

theorem doIf (c : Bool) {f : Dev → Dev} (d : Dev) (h : ∀ d, SoftAlters W P T d (f d)) :
    SoftAlters W P T d (Machine.doIf c f d) := by
  cases c
  · exact refl d
  · exact h d

/-- What the frames of the statements ask of a command. -/
theorem kept {ts : List (Page × Nat)} {ps : List Page} {f : Dev → Dev} {s : State}
    (h : SoftAlters W P (InTables ts) s.dev (f s.dev)) (hw : ∀ q a, W q a → q ∈ ps)
    (hts : ∀ x ∈ ts, x.1.inst < 4096 ∧ x.2 < 16) : Kept P ts ps s (onDev f s) :=
  ⟨coreKept_onDev f s,
    ⟨h.soft.staged, h.soft.commits, h.soft.latchHost, h.soft.latchInband, h.soft.tblPend, h.soft.acts, h.soft.abortWave,
      h.soft.ownerAll⟩,
    h.toAlters.partsKept, h.toAlters.entriesKept hts, h.toAlters.pagesKept hw⟩

/-! #### Updates of one chapter's record -/

theorem lnk (x : Lnk) (d : Dev) (h : .lnk ∈ P) : SoftAlters W P T d { d with lnk := x } :=
  ⟨⟨fun _ _ _ _ _ => rfl, fun y hy => by cases y <;> simp_all [Part.same], fun _ _ => rfl⟩, .ofCtl rfl⟩

theorem sw (x : Sw) (d : Dev) (h : .sw ∈ P) : SoftAlters W P T d { d with sw := x } :=
  ⟨⟨fun _ _ _ _ _ => rfl, fun y hy => by cases y <;> simp_all [Part.same], fun _ _ => rfl⟩, .ofCtl rfl⟩

theorem col (x : Col) (d : Dev) (h : .col ∈ P) : SoftAlters W P T d { d with col := x } :=
  ⟨⟨fun _ _ _ _ _ => rfl, fun y hy => by cases y <;> simp_all [Part.same], fun _ _ => rfl⟩, .ofCtl rfl⟩

theorem stk (x : Stk) (d : Dev) (h : .stk ∈ P) : SoftAlters W P T d { d with stk := x } :=
  ⟨⟨fun _ _ _ _ _ => rfl, fun y hy => by cases y <;> simp_all [Part.same], fun _ _ => rfl⟩, .ofCtl rfl⟩

theorem mgt (x : Mgt) (d : Dev) (h : .mgt ∈ P) : SoftAlters W P T d { d with mgt := x } :=
  ⟨⟨fun _ _ _ _ _ => rfl, fun y hy => by cases y <;> simp_all [Part.same], fun _ _ => rfl⟩, .ofCtl rfl⟩

/-! #### Registers and counters -/

theorem wr {p : Page} {f : Fd} (v : Nat) (d : Dev) (hp : p.inst < 4096) (ho : f.off < 4096) (hw : W p f.off) :
    SoftAlters W P T d (Machine.wr p f v d) := ⟨.wr v d hp ho hw, .wr p f v d⟩

theorem raiseIrq {p : Page} (bit : Nat) (d : Dev) (hp : p.inst < 4096) (hw : W p 0x010) :
    SoftAlters W P T d (Machine.raiseIrq p bit d) := ⟨.raiseIrq bit d hp hw, .raiseIrq p bit d⟩

/-- A count alters words of its page and of TEL, and TEL's watches (R467). -/
theorem bump {p : Page} {base : Fd} {k : Nat} (d : Dev) (hp : p.inst < 4096) (ho : base.off + 8 * k + 4 < 4096)
    (hw : ∀ a, W p a) (htel : ∀ a, W Page.tel a) :
    SoftAlters W P (InTables watchTable) d (Machine.bump p base k d) :=
  ⟨(bump_alters d hp ho).words fun _ a hq => hq.elim (· ▸ hw a) (· ▸ htel a), .bump p base k d⟩

end SoftAlters

/-- A counter outside TEL and the regions has gone up by one (R465). -/
theorem rd64_bump_counts (p : Page) (base : Fd) (k : Nat) (d : Dev) (hp : p ≠ Page.tel) (hpi : p.inst < 4096)
    (hb : base.off + 8 * k + 4 < 4096) (hl : p.blk ≠ .ldl) :
    rd64 (bump p base k d) p ⟨base.off + 8 * k, 31, 0⟩ = (rd64 d p ⟨base.off + 8 * k, 31, 0⟩ + 1) % 2 ^ 64 := by
  rw [rd64_bump p base k d hp hpi hb, counterSum, if_neg fun h => hl h.1]

theorem rd64_congr {d e : Dev} (h : e.ctl = d.ctl) (p : Page) (f : Fd) : rd64 e p f = rd64 d p f := by
  simp only [rd64, rdWord, h]

/-! #### Credits and accounts (R113, R168) -/

section

variable {W : Page → Nat → Prop} {P : List Part} {T : Nat → Prop}

theorem returnCredit_alters (lane vc : Nat) (d : Dev) (h : .lnk ∈ P) : SoftAlters W P T d (returnCredit lane vc d) :=
  .lnk _ d h

/-- A credit returned shows in the port's record alone. -/
theorem returnCredit_returned (lane : Nat) {vc : Nat} (d : Dev) (h : vc < (d.port lane).returned.length) :
    ((returnCredit lane vc d).port lane).returned.getD vc 0 = ((d.port lane).returned.getD vc 0 + 1) % 2048 := by
  rw [returnCredit, port_updPort_same]
  simp [h]

theorem endCharge_alters (b : Box) (d : Dev) (hl : .lnk ∈ P) (hs : .sw ∈ P) : SoftAlters W P T d (endCharge b d) := by
  have h : SoftAlters W P T d (updUnits b.source (cTc b.cell) (fun u => u.take b.acct) d) := .sw _ d hs
  unfold endCharge
  dsimp only
  split
  · exact h.trans (returnCredit_alters _ _ _ hl)
  · exact h

theorem recharge_alters (b : Box) (a : Acct) (d : Dev) (hl : .lnk ∈ P) (hs : .sw ∈ P) :
    SoftAlters W P T d (recharge b a d).2 := (endCharge_alters b d hl hs).trans (.sw _ _ hs)

/-- Admission counts on VOQ, and moves a charge within the accounts. -/
theorem admitCharge_alters (b : Box) (d : Dev) (hl : .lnk ∈ P) (hs : .sw ∈ P) (hw : ∀ a, W Page.voq a)
    (htel : ∀ a, W Page.tel a) : SoftAlters W P (InTables watchTable) d (admitCharge b d).2 := by
  unfold admitCharge
  split
  · exact (recharge_alters b _ d hl hs).trans (.bump _ (by decide) (by decide) hw htel)
  · exact (recharge_alters b _ d hl hs).trans (.bump _ (by decide) (by decide) hw htel)
  · exact .bump d (by decide) (by decide) hw htel

/-! #### The queues themselves: charges and credits leave them alone -/

theorem voq_of_voqs {d e : Dev} (h : e.sw.voqs = d.sw.voqs) (k : Nat) : e.voq k = d.voq k := by rw [Dev.voq, h, Dev.voq]

theorem endCharge_voqs (b : Box) (d : Dev) : (endCharge b d).sw.voqs = d.sw.voqs := by
  unfold endCharge
  dsimp only
  split <;> rfl

theorem admitCharge_voqs (b : Box) (d : Dev) : (admitCharge b d).2.sw.voqs = d.sw.voqs := by
  unfold admitCharge
  split
  · exact (congrArg Sw.voqs (bump_sw ..)).trans (endCharge_voqs b d)
  · exact (congrArg Sw.voqs (bump_sw ..)).trans (endCharge_voqs b d)
  · exact congrArg Sw.voqs (bump_sw ..)

/-- Admission changes the account a unit is charged to, and nothing else of it. -/
theorem admitCharge_box (b : Box) (d : Dev) : ∃ a, (admitCharge b d).1 = { b with acct := a } := by
  unfold admitCharge
  split
  · exact ⟨_, rfl⟩
  · exact ⟨_, rfl⟩
  · exact ⟨b.acct, rfl⟩

theorem voqAppend_alters (now : W64) (k : Nat) (esc : Bool) (b : Box) (d : Dev) (hs : .sw ∈ P) :
    SoftAlters W P T d (voqAppend now k esc b d) := .sw _ d hs

/-- A unit put on an escape list is its last cell. -/
theorem voqAppend_esc (now : W64) (k : Nat) (b : Box) (d : Dev) :
    ((voqAppend now k true b d).voq k).esc.map Box.cell = (d.voq k).esc.map Box.cell ++ [b.cell] := by
  rw [voqAppend, voq_setVoq_same]
  simp [tagSet]

end

/-! #### What lookups read: the registers, the tables and the suspect marks alone -/

section

variable {d e : Dev}

theorem missOf_congr (h : e.ctl = d.ctl) (hf : e.fwd = d.fwd) (die bank i : Nat) (esc : Bool) :
    missOf e die bank i esc = missOf d die bank i esc := by
  cases d; cases e; subst h; subst hf; rfl

theorem escMember_congr (h : e.ctl = d.ctl) (ws : List W32) (i : Nat) : escMember e ws i = escMember d ws i := by
  cases d; cases e; subst h; rfl

theorem destEntry_congr (h : e.ctl = d.ctl) (bank i : Nat) : destEntry e bank i = destEntry d bank i := by
  rw [destEntry, tget, h, destEntry, tget]

theorem rd_of_ctl (h : e.ctl = d.ctl) (p : Page) (f : Fd) : rd e p f = rd d p f := rd_congr (congrArg Ctl.regs h) p f

theorem forSelf_congr (h : e.ctl = d.ctl) (dst : Nat) : forSelf e dst = forSelf d dst := by
  have hself : selfCoord e = selfCoord d := by simp only [selfCoord, rd_of_ctl h]
  rw [forSelf, hself, forSelf]

theorem resetting_congr (h : e.ctl = d.ctl) : resetting e = resetting d := by simp only [resetting, rd_of_ctl h]

end

end Sys2Proof.Machine

/-! ### Queued cells: escape moves, landing charges and the free counts (R95, R150, R168, R171) -/

namespace Sys2Proof.Machine

/-! #### A move to the escape list (R95, R150) -/

/-- The queues once a normal list's head has moved to the escape list of another VOQ, or of its own. -/
def headEscaped (now : W64) (k k' : Nat) (b : Box) (bs : List Box) (d : Dev) : Dev :=
  let d1 := setVoq k { d.voq k with norm := rehead now bs } d
  setVoq k' { d1.voq k' with
    esc := (d1.voq k').esc ++ [{ b with cell := setHb b.cell 92 92 1, headTick := now.toNat }] } d1

/-- A head whose entry offers an escape member moves there, and FWD counts it. -/
theorem moveEscape_head (now : W64) {k m : Nat} {b : Box} {bs : List Box} {d : Dev} (hn : (d.voq k).norm = b :: bs)
    (hr : escapeRoute d b = .inl m) :
    moveEscape now k b d = bump Page.fwd Reg.FWD_CNT 5 (headEscaped now k
      (voqKey b.source (deMember (destEntry d (cEpoch b.cell) (coEntry (cDst b.cell))) m) (cTc b.cell)) b bs d) := by
  simp [moveEscape, hr, hn, headEscaped]

theorem rehead_cells (now : W64) (l : List Box) : (rehead now l).map Box.cell = l.map Box.cell := by cases l <;> rfl

section

variable (now : W64) (k k' : Nat) (b : Box) (bs : List Box) (d : Dev)

theorem headEscaped_norm : ((headEscaped now k k' b bs d).voq k).norm.map Box.cell = bs.map Box.cell := by
  unfold headEscaped
  by_cases h : k' = k
  · subst h
    simp [rehead_cells]
  · simp [voq_setVoq_ne _ _ h, rehead_cells]

theorem headEscaped_esc : ((headEscaped now k k' b bs d).voq k').esc.map Box.cell =
    (d.voq k').esc.map Box.cell ++ [setHb b.cell 92 92 1] := by
  unfold headEscaped
  by_cases h : k = k'
  · subst h
    simp
  · simp [voq_setVoq_ne _ _ h]

end

/-- ESCAPE_MOVE of a class not pinned, past the timeout and with the port in no circuit, moves the head alone. -/
theorem escapeMove_head {now : W64} {source egress tc ineligible : Nat} {b : Box} {bs : List Box} {d : Dev}
    (hp : pinnedTc tc = false) (hn : (d.voq (voqKey source egress tc)).norm = b :: bs)
    (ht : (rd d Page.fwd Reg.FWD_ESC_TIMEOUT_T * 10 + ineligible) * 8 < ticksSince now b.headTick * 5)
    (hc : inCircuit d egress = false) :
    escapeMove now source egress tc ineligible d = moveEscape now (voqKey source egress tc) b d := by
  have hlate : ¬ticksSince now b.headTick * 5 ≤ (rd d Page.fwd Reg.FWD_ESC_TIMEOUT_T * 10 + ineligible) * 8 := by omega
  simp [escapeMove, hn, hc, hlate, hp]

/-- A cell whose entry does not miss and has an escape member goes that way (R149, R150). -/
theorem escapeRoute_member {d : Dev} {b : Box} {m : Nat}
    (hm : missOf d (dieOfSource b.source) (cEpoch b.cell) (coEntry (cDst b.cell)) true = none)
    (he : escMember d (destEntry d (cEpoch b.cell) (coEntry (cDst b.cell))) (coEntry (cDst b.cell)) = some m) :
    escapeRoute d b = .inl m := by
  simp [escapeRoute, hm, he]

/-! #### Landing charges (R168) -/

/-- The oldest landing unit is charged to landing. -/
theorem oldestLanding_acct {d : Dev} {source tc : Nat} {b : Box} (h : oldestLanding d source tc = some b) :
    b.acct = .landing := by
  refine List.foldlRecOn (motive := fun o => ∀ c, o = some c → c.acct = .landing) (landingBoxes d source tc) _
    (fun _ hc => by cases hc) (fun best hbest x _ c hc => ?_) b h
  by_cases hx : x.acct = .landing
  · rw [if_pos hx] at hc
    cases best with
    | none => exact Option.some.inj hc ▸ hx
    | some y =>
      dsimp only at hc
      split at hc
      · exact Option.some.inj hc ▸ hx
      · exact hbest c hc
  · rw [if_neg hx] at hc
    exact hbest c hc

theorem setAcctOf_units (num : Nat) (a : Acct) (d : Dev) (source tc : Nat) :
    (setAcctOf num a d).units source tc = d.units source tc := rfl

/-- LANDING_PROMOTE with room moves the oldest landing unit's charge. -/
theorem landingPromote_eq {d : Dev} {source tc : Nat} {a : Acct} {b : Box} (hr : roomIn d source tc = some a)
    (ho : oldestLanding d source tc = some b) :
    landingPromote source tc d = (recharge b a (setAcctOf b.num a d)).2 := by
  simp [landingPromote, hr, ho]

/-- The charge of a landing unit moved: its credit returns, and its source's accounts follow. -/
theorem recharge_landing {b : Box} (a : Acct) (d : Dev) (h : b.acct = .landing) :
    (recharge b a d).2 = updUnits b.source (cTc b.cell) (fun u => u.add a)
      (returnCredit b.source b.vcIn (updUnits b.source (cTc b.cell) (fun u => u.take .landing) d)) := by
  simp [recharge, endCharge, h]

theorem units_returnCredit (lane vc : Nat) (d : Dev) (source tc : Nat) :
    (returnCredit lane vc d).units source tc = d.units source tc := rfl

theorem port_updUnits (source tc : Nat) (f : Units → Units) (d : Dev) (lane : Nat) :
    (updUnits source tc f d).port lane = d.port lane := rfl

/-! #### The free counts (R171) -/

/-- One die's free count shown, with the interrupt of a fall below LOW_WATER. -/
def recomputeDie (die : Nat) (d : Dev) : Dev :=
  let f := freeUnits d die
  let low := rd d Page.voq Reg.VOQ_LOW_WATER_UNITS
  let was := rd d Page.voq (freeFd die)
  doIf (decide (low ≤ was ∧ f < low)) (raiseIrq Page.voq 16) (wr Page.voq (freeFd die) f d)

theorem recomputeFree_eq (d : Dev) : recomputeFree d = recomputeDie 1 (recomputeDie 0 d) := rfl

theorem freeFd_off (die : Nat) : (freeFd die).off = 0x104 ∨ (freeFd die).off = 0x108 := by
  unfold freeFd
  split
  · exact .inl rfl
  · exact .inr rfl

/-- The words a free count alters: PAGE_IRQ and the count itself. -/
def freeOffs (die : Nat) : List Nat := [0x010, (freeFd die).off]

theorem not_mem_freeOffs (die : Nat) {off : Nat} (hirq : off ≠ 0x010) (h : off < 0x104 ∨ 0x108 < off) :
    off ∉ freeOffs die := by
  rcases freeFd_off die with hf | hf <;> simp [freeOffs, hf] <;> omega

theorem recomputeDie_alters (die : Nat) (d : Dev) :
    SoftAlters (At Page.voq (freeOffs die)) [] (InTables []) d (recomputeDie die d) := by
  have hoff : (freeFd die).off < 4096 := by rcases freeFd_off die with h | h <;> rw [h] <;> decide
  exact (SoftAlters.wr _ d (by decide) hoff ⟨rfl, by simp [freeOffs]⟩).trans
    (.doIf _ _ fun d => .raiseIrq 16 d (by decide) ⟨rfl, by simp [freeOffs]⟩)

/-- The free units of a die are counted from registers other than the free counts, and the records of ports and queues. -/
theorem freeUnits_of_alters {die x : Nat} {T : Nat → Prop} {d e : Dev}
    (h : Alters (At Page.voq (freeOffs die)) [] T d e) (hx : x < 2) : freeUnits e x = freeUnits d x := by
  have hlnk : e.lnk = d.lnk := h.part .lnk (by simp)
  have hsw : e.sw = d.sw := h.part .sw (by simp)
  have hcarve : rd e Page.voq Reg.VOQ_CARVE_SIZE = rd d Page.voq Reg.VOQ_CARVE_SIZE :=
    h.rd_off (by decide) (by decide) (not_mem_freeOffs die (by decide) (by decide))
  have hrmin : (List.range 8).map (rmin e) = (List.range 8).map (rmin d) := by
    refine List.map_congr_left fun tc htc => ?_
    have htc : tc < 8 := List.mem_range.1 htc
    have hoff : (Reg.VOQ_CLASS_CFG_RMIN.idx tc).off = 0x120 + 4 * tc := rfl
    exact h.rd_off (by decide) (by omega) (not_mem_freeOffs die (by omega) (by omega))
  have hports : portsOnDie e x = portsOnDie d x := by
    refine congrArg List.sum (List.map_congr_left fun b hb => ?_)
    have hb : b < 32 := List.mem_range.1 hb
    have hmode := h.rd_eq (q := Page.tile ((32 * x + b) * 16 / 128)) (f := Reg.OPT_PORT_MODE_MODE)
      (by show (32 * x + b) * 16 / 128 < 4096; omega) (by decide) (by simp [At, Page.tile, Page.voq])
    simp only [portWidth, widthCode, hmode]
  simp only [freeUnits, switchingUnits, minReserve, landingReserve, sharedUnits, hlnk, hsw, hcarve, hrmin, hports]

/-- A die's free units fit the 32 bits they are shown in. -/
theorem freeUnits_lt (d : Dev) (die : Nat) : freeUnits d die < 2 ^ 32 := by
  unfold freeUnits switchingUnits
  omega

theorem free_recomputeDie (die : Nat) (d : Dev) : rd (recomputeDie die d) Page.voq (freeFd die) = freeUnits d die := by
  have hgood : (freeFd die).good = true := by unfold freeFd; split <;> rfl
  have hwide : 2 ^ ((freeFd die).hi + 1 - (freeFd die).lo) = 2 ^ 32 := by unfold freeFd; split <;> rfl
  have hirq : (freeFd die).off ≠ 0x010 := by rcases freeFd_off die with h | h <;> rw [h] <;> decide
  refine (doIf_keeps (rd · Page.voq (freeFd die)) _ _ (fun d => rd_raiseIrq_off Page.voq 16 _ d hirq) _).trans ?_
  exact rd_wr_fits _ _ _ d hgood (hwide ▸ freeUnits_lt d die)

/-- THRESHOLD_RECOMPUTE shows what is free on each die before it, and alters VOQ's words alone. -/
theorem recomputeFree_shows (d : Dev) : rd (recomputeFree d) Page.voq (freeFd 0) = freeUnits d 0 ∧
    rd (recomputeFree d) Page.voq (freeFd 1) = freeUnits d 1 ∧
    SoftAlters (OnPage Page.voq) [] (InTables []) d (recomputeFree d) := by
  have h0 := recomputeDie_alters 0 d
  have h1 := recomputeDie_alters 1 (recomputeDie 0 d)
  rw [recomputeFree_eq]
  refine ⟨?_, ?_, (h0.words fun _ _ h => h.1).trans (h1.words fun _ _ h => h.1)⟩
  · rw [h1.toAlters.rd_off (by decide) (by decide) (by decide), free_recomputeDie]
  · rw [free_recomputeDie, freeUnits_of_alters h0.toAlters (by decide)]

/-! #### The statement -/

/-- The head's move as one update: the two queues, then FWD's count. -/
theorem escapeMove_moves {now : W64} {b : Box} {bs : List Box} {egress ineligible k : Nat} {d : Dev}
    (hp : pinnedTc (cTc b.cell) = false) (hn : (d.voq (voqKey b.source egress (cTc b.cell))).norm = b :: bs)
    (ht : (rd d Page.fwd Reg.FWD_ESC_TIMEOUT_T * 10 + ineligible) * 8 < ticksSince now b.headTick * 5)
    (hc : inCircuit d egress = false)
    (hm : missOf d (dieOfSource b.source) (cEpoch b.cell) (coEntry (cDst b.cell)) true = none)
    (hk : escMember d (destEntry d (cEpoch b.cell) (coEntry (cDst b.cell))) (coEntry (cDst b.cell)) = some k) :
    escapeMove now b.source egress (cTc b.cell) ineligible d = bump Page.fwd Reg.FWD_CNT 5
      (headEscaped now (voqKey b.source egress (cTc b.cell))
        (voqKey b.source (deMember (destEntry d (cEpoch b.cell) (coEntry (cDst b.cell))) k) (cTc b.cell)) b bs d) :=
  (escapeMove_head hp hn ht hc).trans (moveEscape_head now hn (escapeRoute_member hm hk))

theorem headEscaped_alters (now : W64) (k k' : Nat) (b : Box) (bs : List Box) (d : Dev) :
    SoftAlters (fun q _ => q = Page.fwd ∨ q = Page.tel) [.sw] (InTables watchTable) d
      (bump Page.fwd Reg.FWD_CNT 5 (headEscaped now k k' b bs d)) :=
  (SoftAlters.sw _ d (by simp)).trans (.bump _ (by decide) (by decide) (fun _ => .inl rfl) fun _ => .inr rfl)

theorem landingPromote_claim {source tc : Nat} {a : Acct} {b : Box} {s : State} (hs : source < 1032) (htc : tc < 8)
    (hr : roomIn s.dev source tc = some a) (ho : oldestLanding s.dev source tc = some b) (hsrc : b.source = source)
    (hbt : cTc b.cell = tc) :
    ∃ t, exec (.landingPromote source tc) s = .next t ∧
      t.dev.units source tc = ((s.dev.units source tc).take .landing).add a ∧
      (b.vcIn < (s.dev.port source).returned.length →
        (t.dev.port source).returned.getD b.vcIn 0 = ((s.dev.port source).returned.getD b.vcIn 0 + 1) % 2048) ∧
      Kept [.lnk, .sw] [] [] s t := by
  have hwf : (Instr.landingPromote source tc).wf = true :=
    Bool.and_eq_true_iff.2 ⟨decide_eq_true hs, decide_eq_true htc⟩
  have hdev := landingPromote_eq hr ho
  have halt : SoftAlters (fun _ _ => False) [.lnk, .sw] (InTables []) s.dev (landingPromote source tc s.dev) := by
    rw [hdev]
    exact (SoftAlters.sw _ s.dev (by simp)).trans (recharge_alters b a _ (by simp) (by simp))
  refine ⟨_, (exec_landingPromote ..).trans (effect_next _ _ _ hwf), ?_, fun hv => ?_,
    halt.kept (fun _ _ hq => hq.elim) (by simp)⟩ <;>
    rw [onDev_dev, hdev, recharge_landing a _ (oldestLanding_acct ho), hsrc, hbt]
  · rw [units_updUnits_same, units_returnCredit, units_updUnits_same, setAcctOf_units]
  · rw [port_updUnits]
    exact returnCredit_returned source _ hv

/-- Settles O16: the head's move is one count over two queues' change, a promotion returns the credit of the landing charge
it ends, and neither free count hangs on the other. -/
theorem queuedCellsMove : Obligations.QueuedCellsMove := by
  refine ⟨?_, fun _ _ _ _ _ hs htc hr ho hsrc hbt => landingPromote_claim hs htc hr ho hsrc hbt, fun s => ?_⟩
  · rintro _ egress _ ineligible k b bs s hs he htc hp hn rfl rfl ht hc ws hm hk
    have hwf : (Instr.escapeMove b.source egress (cTc b.cell) ineligible).wf = true :=
      Bool.and_eq_true_iff.2 ⟨Bool.and_eq_true_iff.2 ⟨decide_eq_true hs, decide_eq_true he⟩, decide_eq_true htc⟩
    have hdev := escapeMove_moves hp hn ht hc hm hk
    refine ⟨_, (exec_escapeMove ..).trans (effect_next _ _ _ hwf), ?_, ?_, ?_,
      SoftAlters.kept (hdev ▸ headEscaped_alters ..) (fun q _ hq => by simpa using hq) (by decide)⟩
    · rw [onDev_dev, hdev, voq_of_voqs (congrArg Sw.voqs (bump_sw ..)), headEscaped_norm]
    · rw [onDev_dev, hdev, voq_of_voqs (congrArg Sw.voqs (bump_sw ..)), headEscaped_esc]
    · rw [Counted, onDev_dev, hdev]
      exact rd64_bump_counts _ _ _ _ (by decide) (by decide) (by decide) (by decide)
  · obtain ⟨hA, hB, halt⟩ := recomputeFree_shows s.dev
    exact ⟨_, (exec_thresholdRecompute s).trans (effect_next _ _ _ rfl), hA, hB,
      halt.kept (f := recomputeFree) (fun _ _ hq => List.mem_singleton.2 hq) (by simp)⟩

end Sys2Proof.Machine

/-! ### The pipelines of the ports (R132): what the Colander does leaves them alone -/

namespace Sys2Proof.Machine

/-- Every port's pipeline holds the same cells in both. -/
structure PipesKept (d e : Dev) : Prop where
  pipe : ∀ lane, (e.port lane).pipe = (d.port lane).pipe

theorem PipesKept.refl (d : Dev) : PipesKept d d := ⟨fun _ => rfl⟩

theorem PipesKept.trans {d d' e : Dev} (h : PipesKept d d') (h' : PipesKept d' e) : PipesKept d e :=
  ⟨fun lane => (h'.pipe lane).trans (h.pipe lane)⟩

theorem PipesKept.of_ports {d e : Dev} (h : e.lnk.ports = d.lnk.ports) : PipesKept d e :=
  ⟨fun lane => by simp only [Dev.port, h]⟩

theorem PipesKept.of_lnk {d e : Dev} (h : e.lnk = d.lnk) : PipesKept d e := .of_ports (congrArg Lnk.ports h)

theorem PipesKept.updPort (lane : Nat) {f : Port → Port} (d : Dev) (hf : ∀ p, (f p).pipe = p.pipe) :
    PipesKept d (Machine.updPort lane f d) := by
  refine ⟨fun l => ?_⟩
  by_cases h : lane = l
  · subst h
    rw [port_updPort_same, hf]
  · rw [port_updPort_ne _ _ h]

theorem PipesKept.doIf (c : Bool) {f : Dev → Dev} (d : Dev) (h : ∀ d, PipesKept d (f d)) :
    PipesKept d (Machine.doIf c f d) := by
  cases c
  · exact .refl d
  · exact h d

theorem PipesKept.sw (x : Sw) (d : Dev) : PipesKept d { d with sw := x } := .of_lnk rfl

theorem PipesKept.tset (p : Page) (t i : Nat) (ws : List W32) (d : Dev) :
    PipesKept d (Machine.tset p t i ws d) := .of_lnk rfl

theorem PipesKept.bump (p : Page) (base : Fd) (k : Nat) (d : Dev) : PipesKept d (Machine.bump p base k d) :=
  .of_lnk (bump_lnk ..)

/-! #### Charges, counts and the end of a cell's life -/

theorem returnCredit_pipes (lane vc : Nat) (d : Dev) : PipesKept d (returnCredit lane vc d) := by
  unfold returnCredit
  exact .updPort lane d fun _ => rfl

theorem updUnits_pipes (source tc : Nat) (f : Units → Units) (d : Dev) : PipesKept d (updUnits source tc f d) := .sw _ d

theorem endCharge_pipes (b : Box) (d : Dev) : PipesKept d (endCharge b d) := by
  unfold endCharge
  dsimp only
  split
  · exact (updUnits_pipes ..).trans (returnCredit_pipes ..)
  · exact updUnits_pipes ..

theorem recharge_pipes (b : Box) (a : Acct) (d : Dev) : PipesKept d (recharge b a d).2 :=
  (endCharge_pipes b d).trans (updUnits_pipes ..)

theorem admitCharge_pipes (b : Box) (d : Dev) : PipesKept d (admitCharge b d).2 := by
  unfold admitCharge
  split
  · exact (recharge_pipes b _ d).trans (.bump ..)
  · exact (recharge_pipes b _ d).trans (.bump ..)
  · exact .bump ..

theorem heldDec_pipes (flow : Option Nat) (d : Dev) : PipesKept d (heldDec flow d) := by
  cases flow with
  | none => exact .refl d
  | some i => exact .of_lnk rfl

theorem drainInc_pipes (e : Nat) (d : Dev) : PipesKept d (drainInc e d) := .of_lnk rfl

theorem drainDec_pipes (e : Nat) (d : Dev) : PipesKept d (drainDec e d) := by
  unfold drainDec
  dsimp only
  split <;> exact .of_lnk rfl

theorem uncount_pipes (b : Box) (d : Dev) : PipesKept d (uncount b d) := by
  unfold uncount
  split
  · exact (drainDec_pipes _ d).trans (heldDec_pipes _ _)
  · exact heldDec_pipes _ d

theorem pushRecord_pipes (die : Nat) (rec : List Byte) (d : Dev) : PipesKept d (pushRecord die rec d) := by
  unfold pushRecord
  extract_lets buf
  split
  · split <;> exact .of_lnk rfl
  · exact .trans (.bump ..) (.of_lnk (raiseIrq_lnk ..))

theorem endLife_pipes (b : Box) (fate : Nat) (d : Dev) : PipesKept d (endLife b fate d) := by
  unfold endLife
  split
  · exact .refl d
  · exact pushRecord_pipes _ _ d

theorem copyEnds_pipes (b : Box) (n fate : Nat) (d : Dev) : PipesKept d (copyEnds b n fate d) := by
  unfold copyEnds
  extract_lets left x d1 tag y d2 fate'
  have h1 : PipesKept d d1 := .sw _ d
  have h2 : PipesKept d1 d2 := .sw _ d1
  split
  · exact ((h1.trans h2).trans (uncount_pipes b d2)).trans (endLife_pipes ..)
  · exact h1

theorem dropBox_pipes (b : Box) (fate : Nat) (d : Dev) : PipesKept d (dropBox b fate d) := by
  unfold dropBox
  dsimp only
  split
  · exact (endCharge_pipes b d).trans (copyEnds_pipes ..)
  · exact (endCharge_pipes b d).trans ((uncount_pipes b _).trans (endLife_pipes ..))

/-! #### Flows and the choice of a member -/

theorem reportParity_pipes (table die i : Nat) (d : Dev) : PipesKept d (reportParity table die i d) := by
  unfold reportParity
  dsimp only
  split <;> exact .of_lnk (raiseIrq_lnk ..)

theorem scrubSet_pipes (die : Nat) (is : List Nat) (d : Dev) : PipesKept d (scrubSet die is d) := by
  refine forEach_chain .refl .trans is _ (fun i _ d => ?_) d
  split
  · exact (reportParity_pipes 2 die i d).trans (.of_lnk (setErrs_lnk ..))
  · exact .refl d

theorem sprayMember_pipes (source tc : Nat) (ws : List W32) (d : Dev) : PipesKept d (sprayMember source tc ws d).2 := by
  unfold sprayMember
  dsimp only
  split
  · dsimp only
    exact .updPort source d fun _ => rfl
  · exact .refl d

theorem pinnedTracked_pipes (now : W64) (source tc i h : Nat) (ws : List W32) (d : Dev) :
    PipesKept d (pinnedTracked now source tc i h ws d).2 := by
  have hspray := sprayMember_pipes source tc ws d
  unfold pinnedTracked
  extract_lets fe old r
  split
  · split
    · exact (hspray.trans (.tset ..)).trans (.doIf _ _ fun d => .bump ..)
    · exact hspray
  · split
    · exact .refl d
    · split
      · exact .tset ..
      · exact .refl d

theorem trackFlow_pipes (now : W64) (die dst src tc h : Nat) (ws : List W32) (d : Dev) :
    PipesKept d (trackFlow now die dst src tc h ws d).2.2 := by
  have hscrub := scrubSet_pipes die (flowSet die h) d
  unfold trackFlow
  extract_lets is d1
  split
  · exact hscrub
  · split <;> dsimp only
    · exact (hscrub.trans (.tset ..)).trans (.bump ..)
    · exact hscrub.trans (.bump ..)

theorem lookFlow_pipes (now : W64) (die : Nat) (c : Cell) (ingress : Option Nat) (ws : List W32) (d : Dev) :
    PipesKept d (lookFlow now die c ingress ws d).2.2 := by
  unfold lookFlow
  extract_lets tc src
  split
  · exact trackFlow_pipes ..
  · exact .refl d

theorem noteFlow_pipes (now : W64) (flow : Option Nat) (fresh : Bool) (d : Dev) :
    PipesKept d (noteFlow now flow fresh d) := by
  unfold noteFlow
  split
  · split
    · exact .refl d
    · exact .tset ..
  · exact .refl d

theorem chooseMember_pipes (now : W64) (die source : Nat) (c : Cell) (ingress : Option Nat) (ws : List W32) (d : Dev) :
    PipesKept d (chooseMember now die source c ingress ws d).2 := by
  have hlook := lookFlow_pipes now die c ingress ws d
  unfold chooseMember
  extract_lets tc h t d1 pick
  have hpick : PipesKept d1 pick.2 := by
    simp only [pick]
    split
    · exact .refl d1
    · split
      · split
        · split
          · exact .refl d1
          · exact pinnedTracked_pipes ..
        · exact .refl d1
      · exact sprayMember_pipes ..
  exact (hlook.trans hpick).trans (noteFlow_pipes ..)

/-! #### Cells the device originates, and misses -/

theorem voqAppend_pipes (now : W64) (k : Nat) (esc : Bool) (b : Box) (d : Dev) : PipesKept d (voqAppend now k esc b d) :=
  .sw _ d

theorem chargeService_pipes (b : Box) (a : Acct) (d : Dev) : PipesKept d (chargeService b a d).2 :=
  (updUnits_pipes b.source (cTc b.cell) (fun u => u.add a) d).trans (.bump ..)

theorem serviceBox_pipes (now : W64) (source : Nat) (c : Cell) (d : Dev) :
    PipesKept d (serviceBox now source c d).2 := .sw _ d

theorem originateIn_pipes (now : W64) (source : Nat) (c : Cell) (a : Acct) (d : Dev) :
    PipesKept d (originateIn now source c a d) := by
  rw [originateIn]
  -- `cases`, not `split`: the kernel would evaluate the discriminants to check what `split` leaves
  cases missOf d (dieOfSource source) (cEpoch (stamp d c)) (coEntry (cDst (stamp d c))) (decide (cEsc (stamp d c) = 1)) with
  | some detail => exact .bump ..
  | none =>
    extract_lets +onlyGivenNames ws r follow member
    have hr : PipesKept d r.2 := chooseMember_pipes ..
    clear_value member follow r
    cases member with
    | none => exact (hr.trans (.bump ..)).trans (heldDec_pipes ..)
    | some k =>
      exact hr.trans ((drainInc_pipes ..).trans ((serviceBox_pipes ..).trans
        ((chargeService_pipes ..).trans (voqAppend_pipes ..))))

theorem sendNotify_pipes (now : W64) (die : Nat) (c : Cell) (d : Dev) : PipesKept d (sendNotify now die c d) := by
  unfold sendNotify originate
  split
  · exact .refl d
  · split
    · exact originateIn_pipes ..
    · exact .refl d

theorem unreachable_pipes (now : W64) (lane : Nat) (c : Cell) (detail : Nat) (info : List Byte) (d : Dev) :
    PipesKept d (unreachable now lane c detail info d) := by
  unfold unreachable
  extract_lets gap blocked note d1
  have h1 : PipesKept d d1 := .doIf _ _ fun _ => .updPort _ _ fun _ => rfl
  split
  · exact .bump ..
  · exact h1.trans ((sendNotify_pipes ..).trans (.doIf _ _ fun _ => .bump ..))

theorem missCell_pipes (now : W64) (lane : Nat) (b : Box) (e i detail : Nat) (d : Dev) :
    PipesKept d (missCell now lane b e i detail d) := by
  have h : PipesKept d (dropBox b fateMiss (bump Page.fwd Reg.FWD_CNT (detail - 1) d)) :=
    .trans (.bump ..) (dropBox_pipes ..)
  unfold missCell
  dsimp only
  split
  · exact h.trans (unreachable_pipes ..)
  · exact h

/-! #### The Colander -/

theorem toService_pipes (lane : Nat) (b : Box) (d : Dev) : PipesKept d (toService lane b d) := by
  have hdrop : ∀ reason, PipesKept d (dropService lane reason b d) := fun reason =>
    .trans (d' := countDrop lane reason d) (.of_ports rfl) ((endCharge_pipes b _).trans (endLife_pipes ..))
  unfold toService
  dsimp only
  split
  · exact .of_lnk rfl
  · split
    · exact hdrop 8
    · split
      · exact .of_lnk rfl
      · split
        · exact .of_lnk rfl
        · exact hdrop 7

theorem mcastAppend_pipes (now : W64) (k : Nat) (b : Box) (copies : Option (List Copy)) (d : Dev) :
    PipesKept d (mcastAppend now k b copies d) := .of_lnk rfl

theorem toMulticast_pipes (now : W64) (lane e : Nat) (b : Box) (d : Dev) : PipesKept d (toMulticast now lane e b d) := by
  unfold toMulticast
  extract_lets t r
  have ht : PipesKept d t.2.2 := lookFlow_pipes ..
  have hr : PipesKept d r.2 :=
    ((ht.trans (noteFlow_pipes ..)).trans (drainInc_pipes e _)).trans (admitCharge_pipes ..)
  exact hr.trans (mcastAppend_pipes ..)

theorem toVoq_pipes (now : W64) (lane egress : Nat) (esc : Bool) (b : Box) (d : Dev) :
    PipesKept d (toVoq now lane egress esc b d) := (admitCharge_pipes b d).trans (voqAppend_pipes ..)

theorem toEgress_pipes (now : W64) (lane e : Nat) (b : Box) (d : Dev) : PipesKept d (toEgress now lane e b d) := by
  unfold toEgress
  extract_lets c ws r follow member c1
  have hr : PipesKept d r.2 := chooseMember_pipes now (dieOf lane) lane c (some lane) ws d
  clear_value member r c1
  split
  · exact (hr.trans (drainInc_pipes e r.2)).trans (toVoq_pipes ..)
  · exact hr.trans (missCell_pipes ..)

theorem colander_pipes (now : W64) (lane : Nat) (b : Box) (d : Dev) : PipesKept d (colander now lane b d) := by
  unfold colander
  extract_lets e b' c i
  split
  · exact toService_pipes ..
  · split
    · exact toMulticast_pipes ..
    · split
      · exact .trans (.doIf _ _ fun _ => reportParity_pipes ..) (missCell_pipes ..)
      · exact toEgress_pipes ..

end Sys2Proof.Machine

/-! ### Cells received from a link (R76, R168) -/

namespace Sys2Proof.Machine

/-! #### Header fields -/

/-- A field written with what it reads changes nothing. -/
theorem withBits_bitsOf {w : Nat} (x : BitVec w) (hi lo : Nat) (h : lo ≤ hi) (hw : hi < w) :
    withBits x hi lo (bitsOf x hi lo) = x := by
  refine BitVec.eq_of_toNat_eq ?_
  rw [withBits_toNat x hi lo _ h hw, bitsOf, Nat.mod_mod, Nat.shiftRight_eq_div_pow]
  exact (split_field x.toNat hi lo h).symm

/-- The header's field of a cell that has another field set. -/
theorem hb_setHb_ne (c : Cell) {hi lo hi' lo' : Nat} (v : Nat) (h : lo ≤ hi) (hw : hi < 128) (h' : lo' ≤ hi')
    (hd : hi' < lo ∨ hi < lo') : hb (setHb c hi lo v) hi' lo' = hb c hi' lo' :=
  bitsOf_withBits_ne c.hdr hi lo hi' lo' v h hw h' hd

/-- The colour of a cell that keeps its colour. -/
theorem setHb_cColour (c : Cell) : setHb c 91 90 (cColour c) = c := by
  rw [setHb, cColour, hb, withBits_bitsOf c.hdr 91 90 (by decide) (by decide)]

/-! #### What CELL_RECEIVE does with the cell it takes -/

/-- The port's link receive buffers without the cell taken. -/
def unframed (lane : Nat) (f : Framed) (d : Dev) : Dev :=
  updPort lane (fun p => { p with framed := (d.port lane).framed.erase f }) d

theorem unframed_port (lane : Nat) (f : Framed) (d : Dev) :
    (unframed lane f d).port lane = { d.port lane with framed := (d.port lane).framed.erase f } := port_updPort_same ..

theorem cellCheck_congr {d e : Dev} (h : e.ctl = d.ctl) (c : Cell) : cellCheck e c = cellCheck d c := by
  cases d; cases e; subst h; rfl

theorem policerOf_congr {d e : Dev} (h : e.ctl = d.ctl) (lane tc : Nat) : policerOf e lane tc = policerOf d lane tc := by
  cases d; cases e; subst h; rfl

section

variable {now : W64} {lane : Nat} {f : Framed} {s : State}

/-- The cell taken is dropped or admitted by its check (R76). -/
def checked (now : W64) (lane : Nat) (f : Framed) (d : Dev) : Option Nat → Dev
  | some k => dropChecked now lane k f.cell d
  | none => admitCell now lane f d

theorem cellReceive_eq (h : NextFramed lane f s) :
    cellReceive now lane s.dev = checked now lane f (unframed lane f s.dev) (cellCheck s.dev f.cell) := by
  obtain ⟨-, hfwd, hlnk, hfind⟩ := h
  have hcheck : ∀ g, cellCheck (updPort lane g s.dev) f.cell = cellCheck s.dev f.cell := fun _ => cellCheck_congr rfl _
  simp only [cellReceive, hfwd, hlnk, hfind, hcheck]
  cases cellCheck s.dev f.cell <;> rfl

/-- The device with the cell dropped under check `k`: counted, its credit returned. -/
def dropped (lane k : Nat) (f : Framed) (d : Dev) : Dev := refuseCell lane f.cell (countDrop lane k (unframed lane f d))

theorem cellReceive_dropped {k : Nat} (h : NextFramed lane f s) (hk : cellCheck s.dev f.cell = some k) (hlt : k < 5) :
    cellReceive now lane s.dev = dropped lane k f s.dev := by
  rw [cellReceive_eq h, hk]
  exact if_pos hlt

theorem dropped_alters (k : Nat) (d : Dev) : SoftAlters (fun _ _ => False) [.lnk] (InTables []) d (dropped lane k f d) :=
  .lnk _ d (by simp)

theorem port_countDrop (lane k l : Nat) (d : Dev) : (countDrop lane k d).port l = d.port l := rfl

theorem dropped_framed (k : Nat) (d : Dev) : ((dropped lane k f d).port lane).framed = (d.port lane).framed.erase f := by
  rw [dropped, refuseCell, returnCredit, port_updPort_same, port_countDrop, unframed_port]

theorem dropped_returned {k vc : Nat} {d : Dev} (hvc : vc = vcOf (cTc f.cell) (cEsc f.cell))
    (h : vc < (d.port lane).returned.length) :
    ((dropped lane k f d).port lane).returned.getD vc 0 = ((d.port lane).returned.getD vc 0 + 1) % 2048 := by
  have hport : ((countDrop lane k (unframed lane f d)).port lane).returned = (d.port lane).returned := by
    rw [port_countDrop, unframed_port]
  rw [dropped, refuseCell, ← hvc, returnCredit_returned lane _ (hport ▸ h), hport]

theorem dropped_drops (k : Nat) (d : Dev) :
    sget (konst 0) (dropped lane k f d).lnk.drops (lane * 16 + k) = sget (konst 0) d.lnk.drops (lane * 16 + k) + 1 :=
  sget_supd_same ..

/-- The unit a cell neither policed nor sampled becomes. -/
def admitted (lane : Nat) (f : Framed) (d : Dev) : Box :=
  { mkBox f.cell lane d.sw.numNext f.rxNs f.rxTick (vcOf (cTc f.cell) (cEsc f.cell)) with acct := .landing }

/-- The device with the cell in the pipeline, charged to landing. -/
def landed (lane : Nat) (f : Framed) (d : Dev) : Dev :=
  updPort lane (fun p => { p with pipe := p.pipe ++ [admitted lane f d] })
    (countMoved (regionOf lane) (updUnits lane (cTc f.cell) (fun u => u.add .landing) (nextNum (unframed lane f d)).2))

theorem drawTag_off (c : Cell) {d : Dev} (h : rdBit d Page.tel Reg.TEL_SAMPLE_CFG_EN = false) :
    drawTag c d = (none, d) := by
  simp [drawTag, h]

theorem policeCell_none (now : W64) {c : Cell} {d : Dev} (hc : cColour c < 2) (hp : policerOf d lane (cTc c) = none) :
    policeCell now lane c d = (cColour c, d) := by
  simp [policeCell, hp, show cColour c ≠ 2 by omega]

theorem admitCell_landed {d : Dev} (hc : cColour f.cell < 2) (hp : policerOf d lane (cTc f.cell) = none)
    (ht : rdBit d Page.tel Reg.TEL_SAMPLE_CFG_EN = false) :
    admitCell now lane f (unframed lane f d) = landed lane f d := by
  have htag : drawTag f.cell (unframed lane f d) = (none, unframed lane f d) := drawTag_off _ ht
  have hpol : policeCell now lane f.cell (unframed lane f d) = (cColour f.cell, unframed lane f d) :=
    policeCell_none now hc ((policerOf_congr rfl lane _).trans hp)
  have hcell : (if cColour f.cell = 1 then setHb f.cell 91 90 1 else f.cell) = f.cell := by
    split
    · next h => rw [← h, setHb_cColour]
    · rfl
  simp only [admitCell, htag, hpol, hcell]
  exact if_neg (by omega)

theorem cellReceive_landed (h : NextFramed lane f s) (hk : cellCheck s.dev f.cell = none) (hc : cColour f.cell < 2)
    (hp : policerOf s.dev lane (cTc f.cell) = none) (ht : rdBit s.dev Page.tel Reg.TEL_SAMPLE_CFG_EN = false) :
    cellReceive now lane s.dev = landed lane f s.dev := by
  rw [cellReceive_eq h, hk]
  exact admitCell_landed hc hp ht

theorem landed_alters (d : Dev) : SoftAlters (fun _ _ => False) [.lnk, .sw] (InTables []) d (landed lane f d) :=
  (SoftAlters.lnk _ d (by simp) : SoftAlters _ _ _ d (unframed lane f d)).trans
    ((SoftAlters.sw _ _ (by simp)).trans (.lnk _ _ (by simp)))

theorem landed_port (d : Dev) : (landed lane f d).port lane =
    { d.port lane with
      framed := (d.port lane).framed.erase f
      pipe := (d.port lane).pipe ++ [admitted lane f d] } := by
  have hsame : ∀ x : Sw, ({ unframed lane f d with sw := x } : Dev).port lane = (unframed lane f d).port lane :=
    fun _ => rfl
  exact (port_updPort_same ..).trans (by rw [countMoved, updUnits, nextNum, hsame, unframed_port])

theorem landed_units (d : Dev) : (landed lane f d).units lane (cTc f.cell) = (d.units lane (cTc f.cell)).add .landing :=
  units_updUnits_same lane (cTc f.cell) (fun u => u.add .landing) (nextNum (unframed lane f d)).2

theorem receive_next {s : State} (hl : lane < 1024) :
    exec (.cellReceive lane) s = .next (onDev (cellReceive s.now lane) s) :=
  (exec_cellReceive ..).trans (effect_next _ _ _ (decide_eq_true hl))

end

theorem cellReceived : Claims.CellReceived := by
  refine ⟨fun lane k f s h hk hlt => ?_, fun lane f s h hk hc hp ht => ?_⟩
  · have hdev : cellReceive s.now lane s.dev = dropped lane k f s.dev := cellReceive_dropped h hk hlt
    refine ⟨_, receive_next h.1, ?_, ?_, fun vc hvc hl => ?_,
      (hdev ▸ dropped_alters k s.dev).kept (fun _ _ h => h.elim) (by simp)⟩ <;> rw [onDev_dev, hdev]
    · exact dropped_framed k s.dev
    · exact dropped_drops k s.dev
    · exact dropped_returned hvc hl
  · have hdev : cellReceive s.now lane s.dev = landed lane f s.dev := cellReceive_landed h hk hc hp ht
    refine ⟨_, admitted lane f s.dev, receive_next h.1, ?_, ?_, rfl, rfl, rfl, rfl, ?_,
      (hdev ▸ landed_alters s.dev).kept (fun _ _ h => h.elim) (by simp)⟩ <;>
      rw [onDev_dev, hdev]
    · rw [landed_port]
    · rw [landed_port]
    · rw [landed_units]; rfl

end Sys2Proof.Machine

/-! ### Cells the Colander places (R132, R155, R95, R149) -/

namespace Sys2Proof.Machine

/-! #### The cell as the Colander takes it -/

section

variable (d : Dev) (c : Cell)

@[simp] theorem cDst_stamped : cDst (stamped d c) = cDst c :=
  hb_setHb_ne c _ (by decide) (by decide) (by decide) (by decide)

@[simp] theorem cTc_stamped : cTc (stamped d c) = cTc c :=
  hb_setHb_ne c _ (by decide) (by decide) (by decide) (by decide)

@[simp] theorem cEsc_stamped : cEsc (stamped d c) = cEsc c :=
  hb_setHb_ne c _ (by decide) (by decide) (by decide) (by decide)

@[simp] theorem cOp_stamped : cOp (stamped d c) = cOp c :=
  hb_setHb_ne c _ (by decide) (by decide) (by decide) (by decide)

@[simp] theorem notifiable_stamped : notifiable (stamped d c) = notifiable c := by simp [notifiable]

end

/-- The unit the Colander looks up: stamped, its tag holding the time (R470). -/
def lookedUp (now : W64) (b : Box) (d : Dev) : Box :=
  tagSet (fun t => { t with lookup := deltaNow now b }) { b with cell := stamped d b.cell }

@[simp] theorem lookedUp_cell (now : W64) (b : Box) (d : Dev) : (lookedUp now b d).cell = stamped d b.cell := rfl

/-- The lookup leaves alone what a unit is counted in. -/
theorem lookedUp_counts (now : W64) (b : Box) (d : Dev) : (lookedUp now b d).multi = b.multi ∧
    (lookedUp now b d).counted = b.counted ∧ (lookedUp now b d).flow = b.flow := by
  cases b
  exact ⟨rfl, rfl, rfl⟩

theorem lookedUp_untagged (now : W64) {b : Box} (d : Dev) (h : b.tag = none) : (lookedUp now b d).tag = none := by
  rw [lookedUp, tagSet, h]; rfl

/-- The head leaves the pipeline, before its lookup. -/
def unpiped (lane : Nat) (rest : List Box) (d : Dev) : Dev := updPort lane (fun p => { p with pipe := rest }) d

/-- The device the lookup finds: the pipeline without its head, an exchange's round started, stale escape marks gone. -/
def handed (lane : Nat) (b : Box) (rest : List Box) (d : Dev) : Dev :=
  pruneEscFlows (exchangeArrival b (unpiped lane rest d))

/-- An exchange's first cell may start a round; nothing but the collective engine changes. -/
theorem exchangeArrival_colOnly (b : Box) (d : Dev) : ColOnly d (exchangeArrival b d) := by
  unfold exchangeArrival
  split
  · split
    · exact .refl d
    · exact ⟨_, rfl⟩
  · exact .refl d

/-- A cell of another opcode than those of an exchange starts no round. -/
theorem exchangeArrival_other {b : Box} (d : Dev) (ha : cOp b.cell ≠ ocA2A) (ht : cOp b.cell ≠ ocDTAIL) :
    exchangeArrival b d = d := by
  simp [exchangeArrival, exchangeGroup, ha, ht]

section

variable {W : Page → Nat → Prop} {P : List Part} {T : Nat → Prop} (lane : Nat) (b : Box) (rest : List Box) (d : Dev)

theorem handed_ctl : (handed lane b rest d).ctl = d.ctl := by
  obtain ⟨c, hc⟩ := exchangeArrival_colOnly b (unpiped lane rest d)
  rw [handed, hc]; rfl

theorem handed_fwd : (handed lane b rest d).fwd = d.fwd := by
  obtain ⟨c, hc⟩ := exchangeArrival_colOnly b (unpiped lane rest d)
  rw [handed, hc]; rfl

theorem handed_voqs : (handed lane b rest d).sw.voqs = d.sw.voqs := by
  obtain ⟨c, hc⟩ := exchangeArrival_colOnly b (unpiped lane rest d)
  rw [handed, hc]; rfl

theorem handed_pipe : ((handed lane b rest d).port lane).pipe = rest := by
  obtain ⟨c, hc⟩ := exchangeArrival_colOnly b (unpiped lane rest d)
  have hport : (handed lane b rest d).port lane = (unpiped lane rest d).port lane := by rw [handed, hc]; rfl
  rw [hport, unpiped, port_updPort_same]

theorem handed_alters (hl : .lnk ∈ P) (hs : .sw ∈ P) (hc : .col ∈ P) : SoftAlters W P T d (handed lane b rest d) := by
  obtain ⟨c, he⟩ := exchangeArrival_colOnly b (unpiped lane rest d)
  rw [handed, he]
  exact ((SoftAlters.lnk _ d hl : SoftAlters W P T d (unpiped lane rest d)).trans (.col c _ hc)).trans (.sw _ _ hs)

variable {b}

/-- Without an exchange, the lookup finds every chapter but the links' and the switch's as it was. -/
theorem handed_other (ha : cOp b.cell ≠ ocA2A) (ht : cOp b.cell ≠ ocDTAIL) :
    handed lane b rest d = pruneEscFlows (unpiped lane rest d) := by
  rw [handed, exchangeArrival_other _ ha ht]

theorem handed_alters_other (ha : cOp b.cell ≠ ocA2A) (ht : cOp b.cell ≠ ocDTAIL) (hl : .lnk ∈ P) (hs : .sw ∈ P) :
    SoftAlters W P T d (handed lane b rest d) := by
  rw [handed_other lane rest d ha ht]
  exact (SoftAlters.lnk _ d hl : SoftAlters W P T d (unpiped lane rest d)).trans (.sw _ _ hs)

end

theorem stamped_congr {d e : Dev} (h : e.ctl = d.ctl) (c : Cell) : stamped e c = stamped d c := by
  rw [stamped, rd_of_ctl h, stamped]

/-! #### The branches of the lookup -/

section

variable {now : W64} {lane : Nat} {b : Box} {d : Dev}

/-- A cell for this device goes to a service. -/
theorem colander_self (h : forSelf d (cDst b.cell) = true) : colander now lane b d = toService lane (lookedUp now b d) d :=
  if_pos ((congrArg (forSelf d) (cDst_stamped d b.cell)).trans h)

/-- What makes a cell a unicast one for another device, in the active bank's entry `i`. -/
structure Abroad (d : Dev) (b : Box) (e i : Nat) : Prop where
  bank : rd d Page.fwd Reg.FWD_EPOCH_STAT_ACTIVE = e
  entry : coEntry (cDst b.cell) = i
  other : forSelf d (cDst b.cell) = false
  notRow : cOp b.cell ≠ ocMROW
  notCol : cOp b.cell ≠ ocMCOL

variable {e i : Nat}

/-- Such a cell goes the way its lookup says: dropped as a miss, or to a member's queue (R132). -/
def lookedFor (now : W64) (lane e i : Nat) (b : Box) (d : Dev) : Option Nat → Dev
  | some detail => missCell now lane b e i detail (doIf (decide (detail = 2)) (reportParity e (dieOf lane) i) d)
  | none => toEgress now lane e b d

theorem lookedFor_invalid (now : W64) (lane e i : Nat) (b : Box) (d : Dev) :
    lookedFor now lane e i b d (some 1) = missCell now lane b e i 1 d := rfl

theorem colander_abroad (h : Abroad d b e i) : colander now lane b d =
    lookedFor now lane e i (lookedUp now b d) d (missOf d (dieOf lane) e i (cEsc b.cell = 1)) := by
  obtain ⟨he, hi, hself, hr, hc⟩ := h
  unfold colander
  extract_lets e' b' c' i'
  have hdst : cDst c' = cDst b.cell := cDst_stamped d b.cell
  have hop : cOp c' = cOp b.cell := cOp_stamped d b.cell
  have hesc : cEsc c' = cEsc b.cell := cEsc_stamped d b.cell
  have hb : b' = lookedUp now b d := rfl
  have hi' : i' = i := (congrArg coEntry hdst).trans hi
  have he' : e' = e := he
  clear_value i' b' c' e'
  subst hi' he' hb
  rw [hdst, hop, hesc, if_neg (by simp [hself]), if_neg (not_or.2 ⟨hr, hc⟩)]
  cases missOf d (dieOf lane) e' i' (cEsc b.cell = 1) <;> rfl

/-- A miss no notification is sent about, of a unit counted nowhere else, counts and ends its charge. -/
theorem missCell_quiet {detail : Nat} (hn : notifiable b.cell = false) (hm : b.multi = false) (hc : b.counted = false)
    (hf : b.flow = none) (ht : b.tag = none) :
    missCell now lane b e i detail d = endCharge b (bump Page.fwd Reg.FWD_CNT (detail - 1) d) := by
  simp [missCell, dropBox, uncount, heldDec, endLife, hn, hm, hc, hf, ht]

theorem missOf_invalid (die : Nat) (esc : Bool) (h : deValid (destEntry d e i) = false) :
    missOf d die e i esc = some 1 := by
  simp [missOf, h]

/-- An escape cell of an untracked class takes its entry's escape member (R95, R149). -/
theorem chooseMember_escape {die source k : Nat} {c : Cell} {ws : List W32} (hesc : cEsc c = 1)
    (ht : rd d Page.fwd Reg.FWD_FLOW_CFG_TRACK_TC / 2 ^ cTc c % 2 = 0)
    (hk : escMember d ws (coEntry (cDst c)) = some k) :
    chooseMember now die source c (some lane) ws d = (⟨some k, none⟩, d) := by
  simp [chooseMember, lookFlow, noteFlow, hesc, ht, hk]

theorem toEgress_escape {k : Nat} {ws : List W32} (hi : coEntry (cDst b.cell) = i) (hws : destEntry d e i = ws)
    (hesc : cEsc b.cell = 1) (ht : rd d Page.fwd Reg.FWD_FLOW_CFG_TRACK_TC / 2 ^ cTc b.cell % 2 = 0)
    (hk : escMember d ws i = some k) :
    toEgress now lane e b d =
      toVoq now lane (deMember ws k) true { b with counted := true, flow := none } (drainInc e d) := by
  subst hi hws
  simp [toEgress, chooseMember_escape hesc ht hk, hesc]

theorem toVoq_esc {egress tc : Nat} (ht : cTc b.cell = tc) :
    ((toVoq now lane egress true b d).voq (voqKey lane egress tc)).esc.map Box.cell =
      (d.voq (voqKey lane egress tc)).esc.map Box.cell ++ [b.cell] := by
  obtain ⟨a, ha⟩ := admitCharge_box b d
  rw [toVoq, ht, voqAppend_esc, voq_of_voqs (admitCharge_voqs b d), ha]

variable {W : Page → Nat → Prop} {P : List Part}

theorem toVoq_alters (egress : Nat) (esc : Bool) (b : Box) (d : Dev) (hl : .lnk ∈ P) (hs : .sw ∈ P)
    (hw : ∀ a, W Page.voq a) (htel : ∀ a, W Page.tel a) :
    SoftAlters W P (InTables watchTable) d (toVoq now lane egress esc b d) :=
  (admitCharge_alters b d hl hs hw htel).trans (voqAppend_alters _ _ _ _ _ hs)

theorem drainInc_alters {T : Nat → Prop} (d : Dev) (he : e < 2) (hw : ∀ a, W Page.fwd a) :
    SoftAlters W P T d (drainInc e d) := by
  have hoff : (Reg.FWD_DRAIN_CELLS.idx e).off = 0x110 + 4 * e := rfl
  exact .wr _ d (by decide) (by omega) (hw _)

end

/-! #### Cells for this device (R132) -/

section

variable {now : W64} {lane : Nat} {b : Box} {d : Dev}

theorem toService_mgmt (h : cOp b.cell = ocMGMT) :
    toService lane b d = { d with mgt := { d.mgt with inbox := d.mgt.inbox ++ [b] } } := if_pos h

theorem toService_collective (h : cOp b.cell = ocCUP ∨ cOp b.cell = ocCTAIL_UP) (hr : resetting d = false) :
    toService lane b d = { d with col := { d.col with inbox := d.col.inbox ++ [b] } } := by
  have hm : cOp b.cell ≠ ocMGMT := by rcases h with h | h <;> rw [h] <;> decide
  simp [toService, hm, hr, h]

/-- The memory verbs (R78). -/
def IsMemVerb (op : Nat) : Prop := op = ocMEM_PUT ∨ op = ocMEM_GET ∨ op = ocMEM_ACC ∨ op = ocMEM_FENCE

theorem IsMemVerb.ne_mgmt {op : Nat} (h : IsMemVerb op) : op ≠ ocMGMT := by
  rcases h with h | h | h | h <;> rw [h] <;> decide

theorem IsMemVerb.not_contribution {op : Nat} (h : IsMemVerb op) : ¬(op = ocCUP ∨ op = ocCTAIL_UP) := by
  rcases h with h | h | h | h <;> rw [h] <;> decide

theorem IsMemVerb.contains {op : Nat} (h : IsMemVerb op) :
    [ocMEM_PUT, ocMEM_GET, ocMEM_ACC, ocMEM_FENCE].contains op = true := by
  rcases h with h | h | h | h <;> rw [h] <;> decide

theorem IsMemVerb.not_exchange {op : Nat} (h : IsMemVerb op) : op ≠ ocA2A ∧ op ≠ ocDTAIL := by
  rcases h with h | h | h | h <;> rw [h] <;> decide

theorem toService_memory (h : IsMemVerb (cOp b.cell)) (hr : resetting d = false) :
    toService lane b d = { d with stk := { d.stk with inbox := d.stk.inbox ++ [b] } } :=
  (if_neg h.ne_mgmt).trans ((if_neg (by simp [hr])).trans ((if_neg h.not_contribution).trans (if_pos h.contains)))

end

/-! #### The statement -/

section

variable {now : W64} {lane : Nat} {b : Box} {rest : List Box} {s : State}

theorem colanderIngress_eq (h : NextLooked lane b rest s) :
    colanderIngress now lane s.dev = colander now lane b (handed lane b rest s.dev) := by
  obtain ⟨-, hfwd, hpipe, hvoq⟩ := h
  have hgo : (forSelf s.dev (cDst b.cell) || accepting s.dev Page.voq) = true := by
    cases hself : forSelf s.dev (cDst b.cell) with
    | true => rfl
    | false => exact hvoq hself
  rw [colanderIngress, hpipe]
  exact if_neg (by rw [hfwd, hgo]; decide)

theorem ingress_next (h : NextLooked lane b rest s) :
    exec (.colanderIngress lane) s = .next (onDev (fun d => colander s.now lane b (handed lane b rest d)) s) := by
  rw [exec_colanderIngress, effect_next (.colanderIngress lane) _ _ (decide_eq_true h.1), onDev,
    colanderIngress_eq h, onDev]

theorem ingress_pipe (now : W64) (lane : Nat) (b : Box) (rest : List Box) (d : Dev) :
    ((colander now lane b (handed lane b rest d)).port lane).pipe = rest :=
  ((colander_pipes ..).pipe lane).trans (handed_pipe ..)

/-- The cell is abroad for the lookup as it is for the device before it. -/
theorem abroad_handed (rest : List Box) {d : Dev} (ho : forSelf d (cDst b.cell) = false) (hr : cOp b.cell ≠ ocMROW)
    (hc : cOp b.cell ≠ ocMCOL) :
    Abroad (handed lane b rest d) b (rd d Page.fwd Reg.FWD_EPOCH_STAT_ACTIVE) (coEntry (cDst b.cell)) :=
  ⟨rd_of_ctl (handed_ctl ..) .., rfl, (forSelf_congr (handed_ctl ..) _).trans ho, hr, hc⟩

/-- The state once the cell has gone to a service. -/
def served (lane : Nat) (b : Box) (rest : List Box) (s : State) : State :=
  onDev (fun d => toService lane (lookedUp s.now b (handed lane b rest d)) (handed lane b rest d)) s

theorem ingress_self (h : NextLooked lane b rest s) (ho : forSelf s.dev (cDst b.cell) = true) :
    exec (.colanderIngress lane) s = .next (served lane b rest s) := by
  rw [ingress_next h, onDev, colander_self ((forSelf_congr (handed_ctl ..) _).trans ho), served, onDev]

theorem served_dev (lane : Nat) (b : Box) (rest : List Box) (s : State) : (served lane b rest s).dev =
    toService lane (lookedUp s.now b (handed lane b rest s.dev)) (handed lane b rest s.dev) := rfl

theorem lookedUp_handed (now : W64) (b : Box) (rest : List Box) (d : Dev) :
    (lookedUp now b (handed lane b rest d)).cell = stamped d b.cell :=
  stamped_congr (handed_ctl ..) _

/-- A service whose inbox gains the unit looked up: the stamped cell is its last, and no other chapter changes. -/
theorem served_gains {e : Dev} {inbox inbox' : List Box} {x : Part} (ha : cOp b.cell ≠ ocA2A)
    (ht : cOp b.cell ≠ ocDTAIL) (hserved : (served lane b rest s).dev = e)
    (he : SoftAlters (fun _ _ => False) [.lnk, .sw, x] (InTables []) (handed lane b rest s.dev) e)
    (hin : inbox' = inbox ++ [lookedUp s.now b (handed lane b rest s.dev)]) :
    inbox'.map Box.cell = inbox.map Box.cell ++ [stamped s.dev b.cell] ∧
      Kept [.lnk, .sw, x] [] [] s (served lane b rest s) := by
  have halt : SoftAlters (fun _ _ => False) [.lnk, .sw, x] (InTables []) s.dev (served lane b rest s).dev :=
    hserved ▸ (handed_alters_other lane rest s.dev ha ht (by simp) (by simp)).trans he
  refine ⟨?_, halt.kept (fun _ _ h => h.elim) (by simp)⟩
  rw [hin, List.map_append, List.map_singleton, lookedUp_handed]

/-- A lookup without an exchange finds the services' inboxes as they were. -/
theorem handed_inboxes (lane : Nat) (rest : List Box) (d : Dev) (ha : cOp b.cell ≠ ocA2A) (ht : cOp b.cell ≠ ocDTAIL) :
    (handed lane b rest d).col.inbox = d.col.inbox ∧ (handed lane b rest d).stk.inbox = d.stk.inbox ∧
      (handed lane b rest d).mgt.inbox = d.mgt.inbox := by
  rw [handed_other lane rest d ha ht]
  exact ⟨rfl, rfl, rfl⟩

theorem served_contribution (hop : cOp b.cell = ocCUP ∨ cOp b.cell = ocCTAIL_UP) (hr : resetting s.dev = false) :
    (served lane b rest s).dev.col.inbox.map Box.cell = s.dev.col.inbox.map Box.cell ++ [stamped s.dev b.cell] ∧
      Kept [.lnk, .sw, .col] [] [] s (served lane b rest s) := by
  have ha : cOp b.cell ≠ ocA2A := by rcases hop with h | h <;> rw [h] <;> decide
  have ht : cOp b.cell ≠ ocDTAIL := by rcases hop with h | h <;> rw [h] <;> decide
  have hdev := (served_dev lane b rest s).trans
    (toService_collective (by rwa [lookedUp_cell, cOp_stamped]) ((resetting_congr (handed_ctl ..)).trans hr))
  refine served_gains ha ht hdev (.col _ _ (by simp)) ?_
  rw [hdev, (handed_inboxes lane rest s.dev ha ht).1]

theorem served_memory (hop : IsMemVerb (cOp b.cell)) (hr : resetting s.dev = false) :
    (served lane b rest s).dev.stk.inbox.map Box.cell = s.dev.stk.inbox.map Box.cell ++ [stamped s.dev b.cell] ∧
      Kept [.lnk, .sw, .stk] [] [] s (served lane b rest s) := by
  obtain ⟨ha, ht⟩ := hop.not_exchange
  have hdev := (served_dev lane b rest s).trans
    (toService_memory (by rwa [lookedUp_cell, cOp_stamped]) ((resetting_congr (handed_ctl ..)).trans hr))
  refine served_gains ha ht hdev (.stk _ _ (by simp)) ?_
  rw [hdev, (handed_inboxes lane rest s.dev ha ht).2.1]

theorem served_management (hop : cOp b.cell = ocMGMT) :
    (served lane b rest s).dev.mgt.inbox.map Box.cell = s.dev.mgt.inbox.map Box.cell ++ [stamped s.dev b.cell] ∧
      Kept [.lnk, .sw, .mgt] [] [] s (served lane b rest s) := by
  have ha : cOp b.cell ≠ ocA2A := by rw [hop]; decide
  have ht : cOp b.cell ≠ ocDTAIL := by rw [hop]; decide
  have hdev := (served_dev lane b rest s).trans (toService_mgmt (by rwa [lookedUp_cell, cOp_stamped]))
  refine served_gains ha ht hdev (.mgt _ _ (by simp)) ?_
  rw [hdev, (handed_inboxes lane rest s.dev ha ht).2.2]

section

variable (ho : forSelf s.dev (cDst b.cell) = false) (hrow : cOp b.cell ≠ ocMROW) (hcol : cOp b.cell ≠ ocMCOL)
include ho hrow hcol

/-- A lookup of an entry that is not valid counts the miss and ends the unit's charge, where that is all it ends. -/
theorem colander_invalid (hn : notifiable b.cell = false) (hm : b.multi = false) (hc : b.counted = false)
    (hf : b.flow = none) (ht : b.tag = none)
    (hv : deValid (destEntry s.dev (rd s.dev Page.fwd Reg.FWD_EPOCH_STAT_ACTIVE) (coEntry (cDst b.cell))) = false) :
    colander now lane b (handed lane b rest s.dev) =
      endCharge (lookedUp now b (handed lane b rest s.dev)) (bump Page.fwd Reg.FWD_CNT 0 (handed lane b rest s.dev)) := by
  have hmiss := missOf_invalid (d := handed lane b rest s.dev) (dieOf lane) (cEsc b.cell = 1)
    ((congrArg deValid (destEntry_congr (handed_ctl ..) ..)).trans hv)
  obtain ⟨hm', hc', hf'⟩ := lookedUp_counts now b (handed lane b rest s.dev)
  rw [colander_abroad (abroad_handed rest ho hrow hcol), hmiss, lookedFor_invalid]
  exact missCell_quiet ((notifiable_stamped ..).trans hn) (hm'.trans hm) (hc'.trans hc) (hf'.trans hf)
    (lookedUp_untagged _ _ ht)

/-- A lookup that finds an escape member queues the unit there, counted in DRAIN and in no flow. -/
theorem colander_escape {k e i : Nat} {ws : List W32} (he : rd s.dev Page.fwd Reg.FWD_EPOCH_STAT_ACTIVE = e)
    (hi : coEntry (cDst b.cell) = i) (hws : destEntry s.dev e i = ws) (hesc : cEsc b.cell = 1)
    (ht : rd s.dev Page.fwd Reg.FWD_FLOW_CFG_TRACK_TC / 2 ^ cTc b.cell % 2 = 0)
    (hm : missOf s.dev (dieOf lane) e i true = none) (hk : escMember s.dev ws i = some k) :
    colander now lane b (handed lane b rest s.dev) = toVoq now lane (deMember ws k) true
      { lookedUp now b (handed lane b rest s.dev) with counted := true, flow := none }
      (drainInc e (handed lane b rest s.dev)) := by
  have hctl := handed_ctl lane b rest s.dev
  have hmiss : missOf (handed lane b rest s.dev) (dieOf lane) e i (cEsc b.cell = 1) = none := by
    rw [missOf_congr hctl (handed_fwd ..), hesc]
    exact hm
  rw [colander_abroad (abroad_handed rest ho hrow hcol), he, hi, hmiss]
  exact toEgress_escape (by rw [lookedUp_cell, cDst_stamped, hi]) ((destEntry_congr hctl ..).trans hws)
    (by rw [lookedUp_cell, cEsc_stamped, hesc]) (by rw [lookedUp_cell, cTc_stamped, rd_of_ctl hctl, ht])
    (by rw [escMember_congr hctl, hk])

end

end

theorem endCharge_ctl (b : Box) (d : Dev) : (endCharge b d).ctl = d.ctl := by
  unfold endCharge
  dsimp only
  split <;> rfl

theorem active_lt (d : Dev) : rd d Page.fwd Reg.FWD_EPOCH_STAT_ACTIVE < 2 := Nat.mod_lt _ (by decide)

theorem drainInc_voqs (e : Nat) (d : Dev) : (drainInc e d).sw.voqs = d.sw.voqs := rfl

theorem invalid_alters (x : Box) (d : Dev) :
    SoftAlters (fun q _ => q ∈ [Page.fwd, Page.tel]) [.lnk, .sw, .col] (InTables watchTable) d
      (endCharge x (bump Page.fwd Reg.FWD_CNT 0 d)) :=
  (SoftAlters.bump d (by decide) (by decide) (fun _ => by simp) fun _ => by simp).trans
    (endCharge_alters x _ (by simp) (by simp))

theorem invalid_counts (x : Box) {d d' : Dev} (h : d'.ctl = d.ctl) :
    rd64 (endCharge x (bump Page.fwd Reg.FWD_CNT 0 d')) Page.fwd ⟨Reg.FWD_CNT.off + 8 * 0, 31, 0⟩ =
      (rd64 d Page.fwd ⟨Reg.FWD_CNT.off + 8 * 0, 31, 0⟩ + 1) % 2 ^ 64 := by
  rw [rd64_congr (endCharge_ctl ..), rd64_bump_counts _ _ _ _ (by decide) (by decide) (by decide) (by decide), rd64_congr h]

theorem escape_alters (now : W64) (lane egress : Nat) (x : Box) {e : Nat} (d : Dev) (he : e < 2) :
    SoftAlters (fun q _ => q ∈ [Page.fwd, Page.voq, Page.tel]) [.lnk, .sw, .col] (InTables watchTable) d
      (toVoq now lane egress true x (drainInc e d)) :=
  (drainInc_alters d he fun _ => by simp).trans
    (toVoq_alters _ _ _ _ (by simp) (by simp) (fun _ => by simp) fun _ => by simp)

theorem colanderPlacesCell : Claims.ColanderPlacesCell := by
  refine ⟨fun lane b rest s h => ⟨_, ingress_next h, ingress_pipe .., coreKept_onDev ..⟩,
    fun lane b rest s h hself hr => ⟨_, ingress_self h hself, fun hop => served_contribution hop hr,
      fun hop => served_memory hop hr, served_management⟩,
    fun lane b rest s h ho hrow hcol hn hm hc hf ht hv => ?_,
    fun lane k b rest s h ho hrow hcol hesc ht => ?_⟩
  · have hdev := colander_invalid (now := s.now) (lane := lane) (rest := rest) ho hrow hcol hn hm hc hf ht hv
    have halt := (handed_alters lane b rest s.dev (by simp) (by simp) (by simp)).trans
      (invalid_alters (lookedUp s.now b (handed lane b rest s.dev)) (handed lane b rest s.dev))
    refine ⟨_, ingress_next h, ingress_pipe .., ?_, (hdev ▸ halt).kept (fun _ _ hq => hq) (by decide)⟩
    rw [Counted, onDev_dev, hdev]
    exact invalid_counts _ (handed_ctl ..)
  · intro e i ws hm hk
    have hdev := colander_escape (now := s.now) (lane := lane) (rest := rest) ho hrow hcol rfl rfl rfl hesc ht hm hk
    have halt := (handed_alters lane b rest s.dev (by simp) (by simp) (by simp)).trans
      (escape_alters s.now lane (deMember ws k)
        { lookedUp s.now b (handed lane b rest s.dev) with counted := true, flow := none } _ (active_lt s.dev))
    refine ⟨_, ingress_next h, ingress_pipe .., ?_, (hdev ▸ halt).kept (fun _ _ hq => hq) (by decide)⟩
    rw [onDev_dev, hdev, toVoq_esc (by rw [lookedUp_cell, cTc_stamped]),
      voq_of_voqs ((drainInc_voqs ..).trans (handed_voqs ..)), lookedUp_handed]

/-- Settles O15: the checks decide what a received cell becomes, and the lookup's branches are taken one at a time. -/
theorem cellsEnter : Obligations.CellsEnter := ⟨cellReceived, colanderPlacesCell⟩

end Sys2Proof.Machine

/-! ### Frames of the links: further updates, and the flush of a port (R181 to R184) -/

namespace Sys2Proof.Machine

/-! #### Further updates under the frames -/

theorem SoftSame.bumpN (p : Page) (base : Fd) (k n : Nat) (d : Dev) : SoftSame d (Machine.bumpN p base k n d) :=
  ⟨bumpN_ctl_staged .., bumpN_ctl_commits .., bumpN_ctl_latchHost .., bumpN_ctl_latchInband .., bumpN_ctl_tblPend ..,
    bumpN_ctl_acts .., bumpN_ctl_abortWave .., bumpN_ctl_ownerAll ..⟩

theorem SoftSame.setErrs (p : Page) (cs : List Nat) (src off detail : Nat) (d : Dev) :
    SoftSame d (Machine.setErrs p cs src off detail d) :=
  ⟨setErrs_ctl_staged .., setErrs_ctl_commits .., setErrs_ctl_latchHost .., setErrs_ctl_latchInband ..,
    setErrs_ctl_tblPend .., setErrs_ctl_acts .., setErrs_ctl_abortWave .., setErrs_ctl_ownerAll ..⟩

/-- Every table entry. -/
def AnyEntry (_ : Nat) : Prop := True

namespace SoftAlters

variable {W : Page → Nat → Prop} {P : List Part} {T : Nat → Prop}

theorem forEach {α : Type} (l : List α) (f : α → Dev → Dev) (h : ∀ a ∈ l, ∀ d, SoftAlters W P T d (f a d)) (d : Dev) :
    SoftAlters W P T d (Machine.forEach l f d) := forEach_chain refl trans l f h d

theorem wrBit {p : Page} {f : Fd} (b : Bool) (d : Dev) (hp : p.inst < 4096) (ho : f.off < 4096) (hw : W p f.off) :
    SoftAlters W P T d (Machine.wrBit p f b d) := .wr _ d hp ho hw

theorem wr64 {p : Page} {f : Fd} (v : Nat) (d : Dev) (hp : p.inst < 4096) (ho : f.off + 4 < 4096) (hw : W p f.off)
    (hw' : W p (f.off + 4)) : SoftAlters W P T d (Machine.wr64 p f v d) :=
  ⟨.trans (.wrWord _ d hp (by omega) hw) (.wrWord _ _ hp ho hw'), ⟨rfl, rfl, rfl, rfl, rfl, rfl, rfl, rfl⟩⟩

theorem setErrs {p : Page} (cs : List Nat) (src off detail : Nat) (d : Dev) (hp : p.inst < 4096)
    (hw : ∀ a ∈ [0x010, 0x018, 0x01C], W p a) : SoftAlters W P T d (Machine.setErrs p cs src off detail d) :=
  ⟨.setErrs cs src off detail d hp hw, .setErrs ..⟩

/-- A count of `n` alters words of its page and of TEL, and TEL's watches (R467). -/
theorem bumpN {p : Page} {base : Fd} {k : Nat} (n : Nat) (d : Dev) (hp : p.inst < 4096) (ho : base.off + 8 * k + 4 < 4096)
    (hw : ∀ a, W p a) (htel : ∀ a, W Page.tel a) (ht : ∀ i, InTables watchTable i → T i) :
    SoftAlters W P T d (Machine.bumpN p base k n d) := by
  refine ⟨?_, .bumpN ..⟩
  unfold Machine.bumpN
  split
  · exact .refl d
  · exact (bumpAt_alters 256 n d hp ho).mono (fun _ a hq => hq.elim (· ▸ hw a) (· ▸ htel a)) (fun _ => id) ht

/-- An output leaves. -/
theorem emit (o : Output) (d : Dev) : SoftAlters W P T d (Machine.emit o d) :=
  ⟨.ofCtl d rfl rfl, ⟨rfl, rfl, rfl, rfl, rfl, rfl, rfl, rfl⟩⟩

theorem tset (p : Page) (t i : Nat) (ws : List W32) (d : Dev) : SoftAlters W P AnyEntry d (Machine.tset p t i ws d) :=
  ⟨⟨fun _ _ _ _ _ => rfl, fun x _ => by cases x <;> rfl, fun _ hk => absurd trivial hk⟩,
    ⟨rfl, rfl, rfl, rfl, rfl, rfl, rfl, rfl⟩⟩

theorem updPort (lane : Nat) (f : Port → Port) (d : Dev) (h : .lnk ∈ P) : SoftAlters W P T d (Machine.updPort lane f d) :=
  .lnk _ d h

theorem setPort (lane : Nat) (p : Port) (d : Dev) (h : .lnk ∈ P) : SoftAlters W P T d (Machine.setPort lane p d) :=
  .lnk _ d h

theorem fwd (x : Fwd) (d : Dev) (h : .fwd ∈ P) : SoftAlters W P T d { d with fwd := x } :=
  ⟨⟨fun _ _ _ _ _ => rfl, fun y hy => by cases y <;> simp_all [Part.same], fun _ _ => rfl⟩, .ofCtl rfl⟩

theorem tel (x : Tel) (d : Dev) (h : .tel ∈ P) : SoftAlters W P T d { d with tel := x } :=
  ⟨⟨fun _ _ _ _ _ => rfl, fun y hy => by cases y <;> simp_all [Part.same], fun _ _ => rfl⟩, .ofCtl rfl⟩

theorem pmc (x : Pmc) (d : Dev) (h : .pmc ∈ P) : SoftAlters W P T d { d with pmc := x } :=
  ⟨⟨fun _ _ _ _ _ => rfl, fun y hy => by cases y <;> simp_all [Part.same], fun _ _ => rfl⟩, .ofCtl rfl⟩

end SoftAlters

/-! #### Cells unlinked from the queues -/

/-- Words of the pages that a port's flush counts on (R139, R182, R470). -/
def FlushWords (q : Page) (_ : Nat) : Prop := q ∈ [Page.fwd, Page.voq, Page.tel]

/-- Cells leave the queues: the links stand as they are. -/
abbrev Unqueues (d e : Dev) : Prop := SoftAlters FlushWords [.sw, .fwd, .tel] AnyEntry d e

theorem flushWords_fwd (a : Nat) : FlushWords Page.fwd a := by simp [FlushWords]

theorem flushWords_voq (a : Nat) : FlushWords Page.voq a := by simp [FlushWords]

theorem flushWords_tel (a : Nat) : FlushWords Page.tel a := by simp [FlushWords]

/-- A change of the switch core's record. -/
theorem sw_unqueues (x : Sw) (d : Dev) : Unqueues d { d with sw := x } := .sw x d (by simp)

theorem drainDec_unqueues (c : Cell) (d : Dev) : Unqueues d (drainDec (cEpoch c) d) := by
  have he : cEpoch c < 2 := Nat.mod_lt _ (by decide)
  have h : Unqueues d (wr Page.fwd (Reg.FWD_DRAIN_CELLS.idx (cEpoch c))
      (rd d Page.fwd (Reg.FWD_DRAIN_CELLS.idx (cEpoch c)) - 1) d) :=
    .wr _ d (by decide) (by show 0x110 + 4 * cEpoch c < 4096; omega) (flushWords_fwd _)
  unfold drainDec
  dsimp only
  split
  · exact h.trans (.fwd _ _ (by simp))
  · exact h

theorem heldDec_unqueues (flow : Option Nat) (d : Dev) : Unqueues d (heldDec flow d) := by
  cases flow with
  | none => exact .refl d
  | some i => exact .tset ..

theorem uncount_unqueues (b : Box) (d : Dev) : Unqueues d (uncount b d) := by
  unfold uncount
  split
  · exact (drainDec_unqueues b.cell d).trans (heldDec_unqueues ..)
  · exact heldDec_unqueues ..

theorem pushRecord_unqueues (die : Nat) (rec : List Byte) (d : Dev) : Unqueues d (pushRecord die rec d) := by
  unfold pushRecord
  extract_lets buf
  split
  · split <;> exact .tel _ d (by simp)
  · exact (SoftAlters.bumpN 1 d (by decide) (by decide) flushWords_tel flushWords_tel fun _ _ => trivial).trans
      (.raiseIrq _ _ (by decide) (flushWords_tel _))

theorem endLife_unqueues (b : Box) (fate : Nat) (d : Dev) : Unqueues d (endLife b fate d) := by
  unfold endLife
  split
  · exact .refl d
  · exact pushRecord_unqueues ..

theorem copyEnds_unqueues (b : Box) (n fate : Nat) (d : Dev) : Unqueues d (copyEnds b n fate d) := by
  unfold copyEnds
  extract_lets left x d1 tag y d2 fate'
  have h1 : Unqueues d d1 := sw_unqueues ..
  have h2 : Unqueues d1 d2 := sw_unqueues ..
  split
  · exact ((h1.trans h2).trans (uncount_unqueues b d2)).trans (endLife_unqueues ..)
  · exact h1

theorem skipCopies_unqueues (b : Box) (n : Nat) (d : Dev) : Unqueues d (skipCopies b n d) := by
  unfold skipCopies
  split
  · exact .refl d
  · exact (SoftAlters.bumpN n d (by decide) (by decide) flushWords_fwd flushWords_tel fun _ _ => trivial).trans
      (copyEnds_unqueues ..)

theorem unlink_unqueues (die lane reason : Nat) (ingress notify : Bool) (key : Nat) (l : List Box) (d : Dev) :
    Unqueues d (unlink die lane reason ingress notify key l d) := by
  unfold unlink setFlushList
  split <;> exact sw_unqueues ..

theorem unlinkVoqs_unqueues (lane reason : Nat) (ingress : Bool) (d : Dev) :
    Unqueues d (unlinkVoqs lane reason ingress d) := by
  refine .forEach _ _ (fun e _ d => ?_) d
  by_cases h : (if ingress then voqSource e.1 else voqEgress e.1) = lane
  · rw [if_pos h]
    exact ((unlink_unqueues ..).trans (unlink_unqueues ..)).trans (sw_unqueues ..)
  · rw [if_neg h]
    exact .refl d

theorem unlinkStaging_unqueues (lane reason : Nat) (d : Dev) : Unqueues d (unlinkStaging lane reason d) :=
  .forEach _ _ (fun _ _ _ => (unlink_unqueues ..).trans (sw_unqueues ..)) d

theorem dropCopies_unqueues (lane : Nat) (d : Dev) : Unqueues d (dropCopies lane d) := by
  refine SoftAlters.trans (.forEach _ _ (fun e _ d => ?_) d) (.forEach _ _ (fun e _ d => ?_) _)
  · refine SoftAlters.trans (.forEach _ _ (fun m _ d => ?_) d) (sw_unqueues ..)
    cases m.copies with
    | none => exact .refl d
    | some l => exact skipCopies_unqueues ..
  · exact (SoftAlters.forEach _ _ (fun r _ d => skipCopies_unqueues ..) d).trans (sw_unqueues ..)

theorem forgetCopies_unqueues (lane : Nat) (d : Dev) : Unqueues d (forgetCopies lane d) := by
  refine .forEach _ _ (fun tc _ d => .forEach _ _ (fun m _ d => ?_) d) d
  cases m.copies with
  | none => exact .refl d
  | some l =>
    dsimp only
    split
    · exact .refl d
    · exact copyEnds_unqueues ..

theorem unlinkStored_unqueues (lane reason : Nat) (d : Dev) : Unqueues d (unlinkStored lane reason d) := by
  unfold unlinkStored
  extract_lets d1 mine d2 d3
  have h1 : Unqueues d d1 := .forEach _ _ (fun _ _ _ => (unlink_unqueues ..).trans (sw_unqueues ..)) d
  have h3 : Unqueues d d3 := (h1.trans (unlink_unqueues ..)).trans (unlink_unqueues ..)
  exact h3.trans (sw_unqueues ..)

theorem flushEgress_unqueues (lane reason : Nat) (d : Dev) : Unqueues d (flushEgress lane reason d) :=
  ((unlinkVoqs_unqueues ..).trans (unlinkStaging_unqueues ..)).trans (dropCopies_unqueues ..)

/-! #### The whole flush -/

/-- A port is flushed: cells leave the queues, and its record changes. -/
abbrev Flushes (d e : Dev) : Prop := SoftAlters FlushWords [.lnk, .sw, .fwd, .tel] AnyEntry d e

theorem Unqueues.flushes {d e : Dev} (h : Unqueues d e) : Flushes d e := h.mono (fun _ _ => id) (by simp) fun _ => id

theorem unlinkPipe_flushes (lane reason : Nat) (d : Dev) : Flushes d (unlinkPipe lane reason d) := by
  unfold unlinkPipe
  exact ((unlink_unqueues ..).flushes.trans
    (.bumpN _ _ (by decide) (by decide) flushWords_voq flushWords_tel fun _ _ => trivial)).trans (.updPort _ _ _ (by simp))

theorem flushFraming_flushes (lane : Nat) (d : Dev) : Flushes d (flushFraming lane d) := by
  unfold flushFraming
  exact SoftAlters.trans (.bumpN _ d (by decide) (by decide) flushWords_voq flushWords_tel fun _ _ => trivial)
    (.updPort _ _ _ (by simp))

theorem startFlush_flushes (lane : Nat) (d : Dev) : Flushes d (startFlush lane d) := by
  unfold startFlush
  extract_lets d1 d2 x d3
  have h1 : Flushes d d1 := .wr _ d (by decide) (by decide) (flushWords_voq _)
  have h2 : Flushes d d2 := (h1.trans (.wr _ _ (by decide) (by decide) (flushWords_voq _))).trans
    (.wr _ _ (by decide) (by decide) (flushWords_voq _))
  exact (h2.trans (.sw _ _ (by simp))).trans (.updPort _ _ _ (by simp))

/-- The flush of a port that goes down (R182). -/
theorem portDown_flushes (lane reason : Nat) (d : Dev) : Flushes d (portDown lane reason d) := by
  have h1 := (flushEgress_unqueues lane reason d).trans (unlinkVoqs_unqueues lane reason true _)
  have h2 := (h1.trans (forgetCopies_unqueues lane _)).trans (unlinkStored_unqueues lane reason _)
  exact (((Unqueues.flushes h2).trans (unlinkPipe_flushes lane reason _)).trans (flushFraming_flushes lane _)).trans
    (startFlush_flushes lane _)

end Sys2Proof.Machine

/-! ### What LINK_STAT shows (R108, R496): states and reasons through the steps of a port -/

namespace Sys2Proof.Machine

/-! #### Fields of any page, and the lanes of a port -/

/-- A field that shares no bit with the one written stands, on every page. -/
theorem rd_wr_apart_any {p q : Page} {f g : Fd} (v : Nat) (d : Dev) (hp : p.inst < 4096) (hq : q.inst < 4096)
    (hf : f.good = true) (hg : g.good = true) (h : f.apart g = true) : rd (wr p f v d) q g = rd d q g := by
  by_cases hpq : p = q
  · subst hpq
    exact rd_wr_apart p v d hf hg h
  · exact rd_wr_page f g v d hpq hp hq hf hg

theorem portWidth_pos (d : Dev) (lane : Nat) : 0 < portWidth d lane := by
  unfold portWidth lanesOf
  split <;> decide

theorem lane_mem_lanesOfPort (d : Dev) (lane : Nat) : lane ∈ lanesOfPort d lane :=
  List.mem_map.2 ⟨0, List.mem_range.2 (portWidth_pos d lane), rfl⟩

theorem lnk_ne {l m : Nat} (h : l ≠ m) : Page.lnk l ≠ Page.lnk m := fun he => h (congrArg Page.inst he)

theorem spareOf_ne {lane : Nat} (hl : lane < 1024) : Page.lnk lane ≠ Page.lnk (spareOf lane) :=
  lnk_ne (by unfold spareOf; omega)

/-! #### STATE and DOWN_REASON -/

section

variable {l m st : Nat} (d : Dev)

theorem linkState_setLinkState_same (hs : st < 16) : linkState (setLinkState l st d) l = st :=
  rd_wr_fits _ _ _ _ rfl hs

theorem linkState_setLinkState_ne (h : l ≠ m) (hl : l < 4096) (hm : m < 4096) :
    linkState (setLinkState l st d) m = linkState d m := rd_wr_page _ _ _ _ (lnk_ne h) hl hm rfl rfl

theorem linkState_setReason (reason : Nat) (hl : l < 4096) (hm : m < 4096) :
    linkState (setReason l reason d) m = linkState d m := rd_wr_apart_any _ _ hl hm rfl rfl rfl

theorem downReason_setReason {reason : Nat} (hr : reason < 256) : downReason (setReason l reason d) l = reason :=
  rd_wr_fits _ _ _ _ rfl hr

/-- A field apart from STATE stands when lanes are put in a state. -/
theorem rd_setStates {g : Fd} {q : Page} {L : List Nat} (hL : ∀ l ∈ L, l < 4096) (hq : q.inst < 4096) (hg : g.good = true)
    (h : Reg.LNK_LINK_STAT_STATE.apart g = true) :
    rd (forEach L (fun l d => setLinkState l st d) d) q g = rd d q g :=
  forEach_chain (R := fun d e => rd e q g = rd d q g) (fun _ => rfl) (fun h h' => h'.trans h) L _
    (fun l hl d => rd_wr_apart_any _ d (hL l hl) hq rfl hg h) d

/-- Each lane of the list is put in the state. -/
theorem linkState_setStates {L : List Nat} (hL : ∀ l ∈ L, l < 4096) (hs : st < 16) (hl : l ∈ L) :
    linkState (forEach L (fun l d => setLinkState l st d) d) l = st := by
  induction L generalizing d with
  | nil => cases hl
  | cons x L ih =>
    by_cases hx : l ∈ L
    · exact ih _ (fun y hy => hL y (.tail _ hy)) hx
    · obtain rfl : l = x := (List.mem_cons.1 hl).resolve_right hx
      have hlater : linkState (forEach L (fun l d => setLinkState l st d) (setLinkState l st d)) l =
          linkState (setLinkState l st d) l :=
        forEach_chain (R := fun d e => linkState e l = linkState d l) (fun _ => rfl) (fun h h' => h'.trans h) L _
          (fun y hy d => linkState_setLinkState_ne d (fun e => hx (e ▸ hy)) (hL y (.tail _ hy)) (hL l hl)) _
      exact hlater.trans (linkState_setLinkState_same d hs)

theorem linkState_setPortState (hl : l < 1024) (hs : st < 16) : linkState (setPortState l st d) l = st :=
  linkState_setStates d (fun _ => lanesOfPort_lt hl) hs (lane_mem_lanesOfPort d l)

theorem rd_setPortState {g : Fd} {q : Page} (hl : l < 1024) (hq : q.inst < 4096) (hg : g.good = true)
    (h : Reg.LNK_LINK_STAT_STATE.apart g = true) : rd (setPortState l st d) q g = rd d q g :=
  rd_setStates d (fun _ => lanesOfPort_lt hl) hq hg h

end

/-! #### The pages of a training unit -/

/-- Words of the lanes of a port: its lowest lane's page first. -/
def UnitWords (d : Dev) (lane : Nat) (q : Page) (_ : Nat) : Prop := q ∈ Page.lnk lane :: (lanesOfPort d lane).map Page.lnk

theorem unitWords_own (d : Dev) (lane a : Nat) : UnitWords d lane (Page.lnk lane) a := by simp [UnitWords]

theorem lanesOfPort_congr {d e : Dev} {lane : Nat} (h : portWidth e lane = portWidth d lane) :
    lanesOfPort e lane = lanesOfPort d lane := by simp only [lanesOfPort, h]

theorem unitWords_congr {d e : Dev} {lane : Nat} (h : portWidth e lane = portWidth d lane) :
    UnitWords e lane = UnitWords d lane := by
  funext q a
  simp only [UnitWords, lanesOfPort_congr h]

/-- The width of a port hangs on its tile's page alone. -/
theorem portWidth_alters {W : Page → Nat → Prop} {P : List Part} {T : Nat → Prop} {d e : Dev} {lane : Nat}
    (h : Alters W P T d e) (hl : lane < 1024) (hw : ¬W (Page.tile (lane / 128)) Reg.OPT_PORT_MODE_MODE.off) :
    portWidth e lane = portWidth d lane := by
  have hinst : (Page.tile (lane / 128)).inst < 4096 := by show lane / 128 < 4096; omega
  simp only [portWidth, widthCode, h.rd_eq hinst (by decide) hw]

section

variable {P : List Part} {T : Nat → Prop}

theorem setReason_alters {lane : Nat} (reason : Nat) (d : Dev) (hl : lane < 4096) :
    SoftAlters (At (Page.lnk lane) [0x10C]) P T d (setReason lane reason d) :=
  .wr _ d hl (by decide) ⟨rfl, by decide⟩

theorem setLinkState_alters {lane : Nat} (st : Nat) (d : Dev) (hl : lane < 4096) :
    SoftAlters (At (Page.lnk lane) [0x10C]) P T d (setLinkState lane st d) :=
  .wr _ d hl (by decide) ⟨rfl, by decide⟩

theorem setPortState_alters {lane : Nat} (st : Nat) (d : Dev) (hl : lane < 1024) :
    SoftAlters (UnitWords d lane) P T d (setPortState lane st d) :=
  .forEach _ _ (fun l hm d' => (setLinkState_alters st d' (lanesOfPort_lt hl hm)).words fun q _ hq => by
    obtain ⟨rfl, -⟩ := hq
    exact .tail _ (List.mem_map.2 ⟨l, hm, rfl⟩)) d

end

/-! #### Steps that leave the links' words alone -/

/-- Words other than the links', and PAGE_IRQ. -/
def OffLinkWords (q : Page) (a : Nat) : Prop := q.blk ≠ .lnk ∨ a = 0x010

/-- The links' words stand but for PAGE_IRQ. -/
abbrev OffLinks (d e : Dev) : Prop := Alters OffLinkWords [.lnk, .sw, .fwd, .byp, .tel] AnyEntry d e

theorem offLinkWords_blk {q : Page} (h : q.blk ≠ .lnk) (a : Nat) : OffLinkWords q a := .inl h

theorem OffLinks.word_lnk {d e : Dev} (h : OffLinks d e) {l a : Nat} (hl : l < 4096) (ha : a < 4096) (hn : a ≠ 0x010) :
    rdWord e (Page.lnk l) a = rdWord d (Page.lnk l) a :=
  h.word _ _ hl ha (by simp [OffLinkWords, Page.lnk, hn])

theorem OffLinks.rd_lnk {d e : Dev} (h : OffLinks d e) {l : Nat} {f : Fd} (hl : l < 4096) (ha : f.off < 4096)
    (hn : f.off ≠ 0x010) : rd e (Page.lnk l) f = rd d (Page.lnk l) f := by
  rw [rd, h.word_lnk hl ha hn, rd]

theorem Flushes.offLinks {d e : Dev} (h : Flushes d e) : OffLinks d e :=
  h.toAlters.mono (fun q a hq => offLinkWords_blk (by
    simp only [FlushWords, List.mem_cons, List.not_mem_nil, or_false] at hq
    rcases hq with rfl | rfl | rfl <;> decide) a) (by simp) fun _ => id

theorem updPort_offLinks (lane : Nat) (f : Port → Port) (d : Dev) : OffLinks d (updPort lane f d) :=
  (SoftAlters.updPort lane f d (by simp)).toAlters

theorem emit_offLinks (o : Output) (d : Dev) : OffLinks d (emit o d) := (SoftAlters.emit o d).toAlters

theorem raiseIrq_offLinks {lane : Nat} (bit : Nat) (d : Dev) (hl : lane < 4096) :
    OffLinks d (raiseIrq (Page.lnk lane) bit d) := .raiseIrq bit d hl (.inr rfl)

theorem clearExchange_offLinks (lane : Nat) (d : Dev) : OffLinks d (clearExchange lane d) := by
  unfold clearExchange
  exact (SoftAlters.tset ..).toAlters.trans (updPort_offLinks ..)

theorem setCircWords_offLinks (i : Nat) (ws : List W32) (d : Dev) : OffLinks d (setCircWords i ws d) :=
  (SoftAlters.tset ..).toAlters

theorem setCirc_offLinks (i : Nat) (c : Circ) (d : Dev) : OffLinks d (setCirc i c d) :=
  ⟨fun _ _ _ _ _ => rfl, fun y hy => by cases y <;> simp_all [Part.same, setCirc], fun _ _ => rfl⟩

/-- A circuit fails: its entry, words of BYP and TEL (R228). -/
theorem circFail_offLinks (i reason : Nat) (d : Dev) : OffLinks d (circFail i reason d) := by
  unfold circFail
  extract_lets d1
  have h1 : OffLinks d d1 := (((setCircWords_offLinks i _ d).trans (setCircWords_offLinks i _ _)).trans
    (setCircWords_offLinks i _ _)).trans (setCirc_offLinks i Circ.idle _)
  have h2 : OffLinks d1 (bump Page.byp Reg.BYP_CNT 3 d1) := (SoftAlters.bumpN 1 d1 (by decide) (by decide)
    (offLinkWords_blk (by decide)) (offLinkWords_blk (by decide)) fun _ _ => trivial).toAlters
  exact (h1.trans h2).trans (.raiseIrq _ _ (by decide) (.inr rfl))

/-- The circuit of a port that is lost fails, and its ports resume (R232). -/
theorem circPortLost_offLinks (lane : Nat) (d : Dev) : OffLinks d (circPortLost lane d) := by
  unfold circPortLost
  split
  next i _ =>
    have hresume : OffLinks d (resumePorts i d) := .forEach _ _ (fun _ _ _ => updPort_offLinks ..) d
    exact hresume.trans (circFail_offLinks i 7 _)
  next => exact .refl d

/-! #### A port is put in a state (R108, R496) -/

/-- The record of a port that changes its state. -/
def restarted (now : W64) (p : Port) : Port :=
  { p with sinceTick := now.toNat, rxOpen := false, matched := false, fence := false, suspended := false }

/-- Around its writes of LINK_STAT, a change of state leaves the links' words alone. -/
theorem takeTo_steps (now : W64) {lane : Nat} (st reason : Nat) (d : Dev) (hl : lane < 4096) :
    ∃ e, OffLinks d e ∧ OffLinks (setPortState lane st (setReason lane reason e)) (takeTo now lane st reason d) := by
  unfold takeTo
  extract_lets old wasUp rxOpen d0 d1 d2 d3 d4
  have h0 : OffLinks d d0 := by
    simp only [d0]
    split
    · exact circPortLost_offLinks lane d
    · exact .refl d
  have h3 : OffLinks d2 d3 := by
    simp only [d3]
    split
    · exact (Flushes.offLinks (portDown_flushes ..)).trans (clearExchange_offLinks ..)
    · exact .refl d2
  have h4 : OffLinks d3 d4 := by
    simp only [d4]
    split
    · exact emit_offLinks ..
    · exact .refl d3
  exact ⟨d0, h0, (((updPort_offLinks lane (restarted now) d1).trans h3).trans h4).trans (raiseIrq_offLinks 16 d4 hl)⟩

section

variable (now : W64) {lane st reason : Nat} (d : Dev)

theorem linkState_takeTo (hl : lane < 1024) (hs : st < 16) : linkState (takeTo now lane st reason d) lane = st := by
  obtain ⟨e, -, h⟩ := takeTo_steps now st reason d (by omega : lane < 4096)
  rw [linkState, h.rd_lnk (by omega) (by decide) (by decide)]
  exact linkState_setPortState _ hl hs

theorem downReason_takeTo (hl : lane < 1024) (hr : reason < 256) : downReason (takeTo now lane st reason d) lane = reason := by
  obtain ⟨e, -, h⟩ := takeTo_steps now st reason d (by omega : lane < 4096)
  rw [downReason, h.rd_lnk (by omega) (by decide) (by decide),
    rd_setPortState _ hl (by show lane < 4096; omega) (by decide) (by decide)]
  exact downReason_setReason e hr

/-- The other words of the port's page stand, but for PAGE_IRQ. -/
theorem rdWord_takeTo {a : Nat} (hl : lane < 1024) (ha : a < 4096) (hi : a ≠ 0x010) (hs : a ≠ 0x10C) :
    rdWord (takeTo now lane st reason d) (Page.lnk lane) a = rdWord d (Page.lnk lane) a := by
  obtain ⟨e, h, h'⟩ := takeTo_steps now st reason d (by omega : lane < 4096)
  have hstate : rdWord (setPortState lane st (setReason lane reason e)) (Page.lnk lane) a =
      rdWord (setReason lane reason e) (Page.lnk lane) a :=
    forEach_chain (R := fun d e => rdWord e (Page.lnk lane) a = rdWord d (Page.lnk lane) a) (fun _ => rfl)
      (fun h h' => h'.trans h) _ _ (fun l hm d => (setLinkState_alters st d (lanesOfPort_lt hl hm) (P := []) (T := NoEntry)).word
        _ _ (by show lane < 4096; omega) ha fun hw => hs (List.mem_singleton.1 hw.2)) _
  have hreason : rdWord (setReason lane reason e) (Page.lnk lane) a = rdWord e (Page.lnk lane) a :=
    rdWord_wr_off _ _ _ _ _ (Ne.symm hs)
  rw [h'.word_lnk (by omega) ha hi, hstate, hreason, h.word_lnk (by omega) ha hi]

theorem departedOpen_of_ne (h : linkState d lane ≠ lsDeparted) : departedOpen d lane = false := by
  simp [departedOpen, h]

variable {d}

/-- A port out of service changes its state with no flush (R182, R449). -/
theorem takeTo_idle (hu : linkState d lane ≠ lsUp) (ho : departedOpen d lane = false) :
    takeTo now lane st reason d = raiseIrq (Page.lnk lane) 16
      (doIf (lit (linkState d lane) != lit st && !(d.port lane).dark) (emit (.light lane (lit st)))
        (updPort lane (restarted now) (setPortState lane st (setReason lane reason d)))) := by
  unfold takeTo
  simp only [hu, ho, decide_false, Bool.false_or, if_false, Bool.false_eq_true]
  rfl

theorem takeTo_alters {P : List Part} {T : Nat → Prop} (hP : .lnk ∈ P) (hl : lane < 1024) (hu : linkState d lane ≠ lsUp)
    (ho : departedOpen d lane = false) : SoftAlters (UnitWords d lane) P T d (takeTo now lane st reason d) := by
  have hown := unitWords_own d lane
  have hreason : SoftAlters (UnitWords d lane) P T d (setReason lane reason d) :=
    (setReason_alters reason d (by omega)).words fun q a hq => hq.1 ▸ hown a
  have hwidth : portWidth (setReason lane reason d) lane = portWidth d lane :=
    portWidth_alters (setReason_alters (P := []) (T := NoEntry) reason d (by omega)).toAlters hl fun hw => by
      cases hw.1
  have hstate : SoftAlters (UnitWords d lane) P T d (setPortState lane st (setReason lane reason d)) :=
    hreason.trans (unitWords_congr hwidth ▸ setPortState_alters st _ hl)
  rw [takeTo_idle now hu ho]
  exact ((hstate.trans (.updPort _ _ _ hP)).trans (.doIf _ _ fun d => .emit _ d)).trans
    (.raiseIrq _ _ (by show lane < 4096; omega) (hown _))

theorem port_takeTo (hu : linkState d lane ≠ lsUp) (ho : departedOpen d lane = false) :
    (takeTo now lane st reason d).port lane = restarted now ((setPortState lane st (setReason lane reason d)).port lane) := by
  rw [takeTo_idle now hu ho, Dev.port, raiseIrq_lnk]
  exact (doIf_keeps (fun e => e.port lane) _ (emit (.light lane (lit st))) (fun _ => rfl) _).trans (port_updPort_same ..)

end

end Sys2Proof.Machine

/-! ### Ports train and come UP (R108 to R110, R170, R497) -/

namespace Sys2Proof.Machine

/-! #### Training moves on (R108, R497) -/

/-- A training unit's lanes put in a state: a port's, or a spare's own. -/
def setUnitState (lane st : Nat) (d : Dev) : Dev := if lane < 1024 then setPortState lane st d else setLinkState lane st d

theorem linkState_setUnitState {lane st : Nat} (d : Dev) (hs : st < 16) :
    linkState (setUnitState lane st d) lane = st := by
  unfold setUnitState
  split
  next hl => exact linkState_setPortState d hl hs
  next => exact linkState_setLinkState_same d hs

theorem setUnitState_alters {P : List Part} {T : Nat → Prop} {lane : Nat} (st : Nat) (d : Dev) (hl : lane < 1088) :
    SoftAlters (UnitWords d lane) P T d (setUnitState lane st d) := by
  unfold setUnitState
  split
  next hp => exact setPortState_alters st d hp
  next => exact (setLinkState_alters st d (by omega)).words fun q a hq => hq.1 ▸ unitWords_own d lane a

/-- The time of the state a unit enters starts. -/
def sinceNow (now : W64) (p : Port) : Port := { p with sinceTick := now.toNat }

/-- A unit that enters a state: its lanes show it, its time starts, and the state-change interrupt is set (R108). -/
def entered (now : W64) (lane st : Nat) (d : Dev) : Dev :=
  raiseIrq (Page.lnk lane) 16 (updPort lane (sinceNow now) (setUnitState lane st d))

/-- What every entry into a state shows. -/
structure Entered (now : W64) (lane st : Nat) (e : Dev) : Prop where
  state : linkState e lane = st
  since : (e.port lane).sinceTick = now.toNat
  irq : (rdWord e (Page.lnk lane) 0x010).getLsbD 16 = true

theorem entered_shows (now : W64) {lane st : Nat} (d : Dev) (hs : st < 16) : Entered now lane st (entered now lane st d) := by
  refine ⟨?_, ?_, raiseIrq_bit _ _ _ (by decide)⟩
  · exact (rd_raiseIrq_off _ _ _ _ (by decide)).trans (linkState_setUnitState d hs)
  · rw [entered, Dev.port, raiseIrq_lnk, ← Dev.port, port_updPort_same, sinceNow]

theorem entered_alters {P : List Part} {T : Nat → Prop} (now : W64) {lane : Nat} (st : Nat) (d : Dev) (hP : .lnk ∈ P)
    (hl : lane < 1088) : SoftAlters (UnitWords d lane) P T d (entered now lane st d) :=
  ((setUnitState_alters st d hl).trans (.updPort _ _ _ hP)).trans
    (.raiseIrq _ _ (by show lane < 4096; omega) (unitWords_own ..))

theorem trainStep_eq {now : W64} {lane st to' : Nat} {d : Dev} (hu : trainUnit d lane = true) (hs : linkState d lane = st) :
    trainStep now lane st to' d = entered now lane to' d := by
  simp only [trainStep, hu, hs, decide_true, Bool.and_self, if_true]
  rfl

/-- A training step of a unit in the state it starts from. -/
theorem trainStep_moves {lane st to' : Nat} {s : State} (hl : lane < 1088) (ht : to' < 16)
    (hu : trainUnit s.dev lane = true) (hs : linkState s.dev lane = st) :
    Entered s.now lane to' (trainStep s.now lane st to' s.dev) ∧
      Kept [.lnk] [] (unitPages lane s) s (onDev (trainStep s.now lane st to') s) := by
  have halt : SoftAlters (UnitWords s.dev lane) [.lnk] (InTables []) s.dev (trainStep s.now lane st to' s.dev) := by
    rw [trainStep_eq hu hs]
    exact entered_alters s.now to' s.dev (by simp) hl
  refine ⟨?_, halt.kept (fun _ _ hq => hq) (by simp)⟩
  rw [trainStep_eq hu hs]
  exact entered_shows s.now s.dev ht

/-- The states with a timeout. -/
theorem trainTimeout_some {st ns : Nat} (h : trainTimeout st = some ns) : st = lsSearch ∨ st = lsTrain ∨ st = lsIdentify := by
  unfold trainTimeout at h
  split_ifs at h <;> simp_all

/-- A port that trains is out of service. -/
theorem timed_idle {lane ns : Nat} {d : Dev} (h : trainTimeout (linkState d lane) = some ns) :
    linkState d lane ≠ lsUp ∧ departedOpen d lane = false := by
  rcases trainTimeout_some h with hs | hs | hs <;>
    exact ⟨by rw [hs]; decide, departedOpen_of_ne d (by rw [hs]; decide)⟩

/-- What the timeout of a training state leaves. -/
theorem trainingTimeout_searches {now : W64} {lane ns : Nat} {d : Dev} (hl : lane < 1088) (hu : trainUnit d lane = true)
    (hn : trainTimeout (linkState d lane) = some ns) (he : elapsed now (d.port lane).sinceTick ns = true) :
    Entered now lane lsSearch (trainingTimeout now lane d) ∧ downReason (trainingTimeout now lane d) lane = 4 ∧
      SoftAlters (UnitWords d lane) [.lnk] (InTables []) d (trainingTimeout now lane d) := by
  obtain ⟨hup, hopen⟩ := timed_idle hn
  have heq : trainingTimeout now lane d =
      if lane < 1024 then takeTo now lane lsSearch 4 d else entered now lane lsSearch (setReason lane 4 d) := by
    simp only [trainingTimeout, hn, hu, he, Bool.and_self, if_true]
    split
    · rfl
    next h => simp only [entered, setUnitState, if_neg h]; rfl
  rw [heq]
  split
  next hp =>
    refine ⟨⟨linkState_takeTo now d hp (by decide), ?_, raiseIrq_bit _ _ _ (by decide)⟩,
      downReason_takeTo now d hp (by decide), takeTo_alters now (by simp) hp hup hopen⟩
    rw [port_takeTo now hup hopen, restarted]
  next hp =>
    have hreason : SoftAlters (UnitWords d lane) [.lnk] (InTables []) d (setReason lane 4 d) :=
      (setReason_alters 4 d (by omega)).words fun q a hq => hq.1 ▸ unitWords_own d lane a
    have hwords : UnitWords (setReason lane 4 d) lane = UnitWords d lane := by
      have hmode : rd (setReason lane 4 d) (Page.tile (lane / 128)) Reg.OPT_PORT_MODE_MODE =
          rd d (Page.tile (lane / 128)) Reg.OPT_PORT_MODE_MODE :=
        rd_wr_apart_any _ d (by show lane < 4096; omega) (by show lane / 128 < 4096; omega) rfl rfl rfl
      exact unitWords_congr (by simp only [portWidth, widthCode, hmode])
    refine ⟨entered_shows now _ (by decide), ?_, hreason.trans (hwords ▸ entered_alters now lsSearch _ (by simp) hl)⟩
    refine (rd_raiseIrq_off _ _ _ _ (by decide)).trans ?_
    rw [setUnitState, if_neg hp]
    exact (rd_wr_apart _ _ _ rfl rfl rfl).trans (downReason_setReason d (by decide))

theorem trainingMovesOn : Claims.TrainingMovesOn := by
  intro lane s hl hu
  refine ⟨fun hs => ?_, fun hs => ?_, fun ns hn he => ?_⟩
  · obtain ⟨hent, hkept⟩ := trainStep_moves (to' := lsTrain) hl (by decide) hu hs
    exact ⟨_, (exec_lockAcquired lane s).trans (effect_next _ _ _ (decide_eq_true hl)), hent.state, hent.since, hent.irq, hkept⟩
  · obtain ⟨hent, hkept⟩ := trainStep_moves (to' := lsIdentify) hl (by decide) hu hs
    exact ⟨_, (exec_deskewDone lane s).trans (effect_next _ _ _ (decide_eq_true hl)), hent.state, hent.since, hent.irq, hkept⟩
  · obtain ⟨hent, hreason, halt⟩ := trainingTimeout_searches hl hu hn he
    exact ⟨_, (exec_linkTrainingTimeout lane s).trans (effect_next _ _ _ (decide_eq_true hl)), hent.state, hreason, hent.since,
      hent.irq, halt.kept (f := trainingTimeout s.now lane) (fun _ _ hq => hq) (by simp)⟩

/-! #### A port comes UP (R109, R110, R170) -/

/-- What a frame says of the neighbour, noted on the port's page (R109). -/
def peerNoted (lane : Nat) (f : List Byte) (d : Dev) : Dev :=
  wr (Page.lnk lane) Reg.LNK_PEER_COORD_COORD (frCoord f) (wr (Page.lnk lane) Reg.LNK_PEER_PORT_PORT (frPort f) d)

theorem peerNoted_alters {P : List Part} {T : Nat → Prop} {lane : Nat} (f : List Byte) (d : Dev) (hl : lane < 4096) :
    SoftAlters (At (Page.lnk lane) [0x110, 0x114]) P T d (peerNoted lane f d) :=
  SoftAlters.trans (.wr _ _ hl (by decide) ⟨rfl, by decide⟩) (.wr _ _ hl (by decide) ⟨rfl, by decide⟩)

/-- A field of the port's page other than what is noted. -/
theorem rd_peerNoted {lane : Nat} (f : List Byte) (d : Dev) {g : Fd} (hl : lane < 4096) (ha : g.off < 4096)
    (hg : g.off ≠ 0x110 ∧ g.off ≠ 0x114) : rd (peerNoted lane f d) (Page.lnk lane) g = rd d (Page.lnk lane) g :=
  (peerNoted_alters (P := []) (T := NoEntry) f d hl).toAlters.rd_off hl ha (by simp [hg])

theorem natOfBE_lt (l : List Byte) : natOfBE l < 256 ^ l.length := by
  induction l with
  | nil => decide
  | cons b l ih =>
    have hb : b.toNat + 1 ≤ 256 := b.isLt
    calc natOfBE (b :: l) < b.toNat * 256 ^ l.length + 256 ^ l.length := Nat.add_lt_add_left ih _
      _ = (b.toNat + 1) * 256 ^ l.length := by ring
      _ ≤ 256 * 256 ^ l.length := Nat.mul_le_mul_right _ hb
      _ = 256 ^ (b :: l).length := by rw [List.length_cons, pow_succ, mul_comm]

theorem frCoord_lt (f : List Byte) : frCoord f < 2 ^ 32 := by
  refine (natOfBE_lt _).trans_le ((Nat.pow_le_pow_right (by decide) ?_ : _ ≤ 256 ^ 4).trans (by decide))
  simp

theorem peerCoord_peerNoted {lane : Nat} (f : List Byte) (d : Dev) :
    rd (peerNoted lane f d) (Page.lnk lane) Reg.LNK_PEER_COORD_COORD = frCoord f :=
  rd_wr_fits _ _ _ _ rfl (frCoord_lt f)

/-- The reasons of a mismatch fit DOWN_REASON (R110, R496). -/
theorem frameMismatch_lt {d : Dev} {lane : Nat} {f : List Byte} {bs : List Nat} {r : Nat}
    (h : frameMismatch d lane f bs = some r) : r < 256 := by
  unfold frameMismatch at h
  dsimp only at h
  split_ifs at h
  all_goals exact Option.some.inj h ▸ by decide

/-- The units a port reserves hang on its CREDIT_CFG alone (R112, R170). -/
theorem landingUnits_congr {d e : Dev} {lane : Nat} (h : rdWord e (Page.lnk lane) 0x118 = rdWord d (Page.lnk lane) 0x118) :
    landingUnits e lane = landingUnits d lane := by
  have hfd (g : Fd) (hg : g.off = 0x118) : rd e (Page.lnk lane) g = rd d (Page.lnk lane) g := by
    rw [rd, hg, h, rd, hg]
  have hadv : advertised e lane = advertised d lane := by
    funext vc
    simp only [advertised, hfd Reg.LNK_CREDIT_CFG_MGMT rfl, hfd Reg.LNK_CREDIT_CFG_ESC rfl, hfd Reg.LNK_CREDIT_CFG_NORM rfl]
  rw [landingUnits, hadv, landingUnits]

/-- A die's free units do not hang on a link page's words. -/
theorem freeUnits_of_linkWords {x lane : Nat} {offs : List Nat} {T : Nat → Prop} {d e : Dev}
    (h : Alters (At (Page.lnk lane) offs) [] T d e) (hx : x < 2) : freeUnits e x = freeUnits d x := by
  have hoff {q : Page} (hq : q.blk ≠ .lnk) (a : Nat) : ¬At (Page.lnk lane) offs q a := fun hw => hq (hw.1 ▸ rfl)
  have hlnk : e.lnk = d.lnk := h.part .lnk (by simp)
  have hsw : e.sw = d.sw := h.part .sw (by simp)
  have hcarve : rd e Page.voq Reg.VOQ_CARVE_SIZE = rd d Page.voq Reg.VOQ_CARVE_SIZE :=
    h.rd_eq (by decide) (by decide) (hoff (by decide) _)
  have hrmin : (List.range 8).map (rmin e) = (List.range 8).map (rmin d) := by
    refine List.map_congr_left fun tc htc => ?_
    have htc : tc < 8 := List.mem_range.1 htc
    exact h.rd_eq (by decide) (by show 0x120 + 4 * tc < 4096; omega) (hoff (by decide) _)
  have hports : portsOnDie e x = portsOnDie d x := by
    refine congrArg List.sum (List.map_congr_left fun b hb => ?_)
    have hb : b < 32 := List.mem_range.1 hb
    rw [portWidth_alters h (by omega) (hoff (by simp [Page.tile]) _)]
  simp only [freeUnits, switchingUnits, minReserve, landingReserve, sharedUnits, hlnk, hsw, hcarve, hrmin, hports]

/-- A port enters UP: its lanes show it, its link starts afresh, and its landing reservation is held (R104, R113, R170). -/
def broughtUp (now : W64) (lane : Nat) (d : Dev) : Dev :=
  updPort lane (freshLink now (landingUnits d lane)) (setReason lane 0 (setPortState lane lsUp d))

/-- A matched port whose reservation is covered comes UP (R170). -/
theorem tryUp_up {now : W64} {lane : Nat} (report : Bool) {d : Dev} (hm : (d.port lane).matched = true)
    (hs : linkState d lane = lsIdentify) (hf : (d.port lane).flushing = false)
    (hfree : landingUnits d lane ≤ freeUnits d (dieOf lane)) :
    tryUp now lane report d = recomputeFree (raiseIrq (Page.lnk lane) 16 (broughtUp now lane d)) := by
  simp only [tryUp, hm, hs, hf, hfree, decide_true, Bool.and_self, Bool.not_true, Bool.or_self, Bool.false_eq_true, if_false,
    if_true]
  rfl

theorem broughtUp_alters {P : List Part} {T : Nat → Prop} (now : W64) {lane : Nat} (d : Dev) (hP : .lnk ∈ P)
    (hl : lane < 1024) : SoftAlters (UnitWords d lane) P T d (broughtUp now lane d) :=
  ((setPortState_alters lsUp d hl).trans ((setReason_alters 0 _ (by omega)).words fun q a hq => hq.1 ▸ unitWords_own d lane a)).trans
    (.updPort _ _ _ hP)

/-- What a port that has come UP shows, and what its coming UP alters. -/
structure CameUp (now : W64) (lane : Nat) (d e : Dev) : Prop where
  state : linkState e lane = lsUp
  reason : downReason e lane = 0
  port : e.port lane = freshLink now (landingUnits d lane) (d.port lane)
  alters : SoftAlters (fun q a => q = Page.voq ∨ UnitWords d lane q a) [.lnk] (InTables []) d e

theorem cameUp (now : W64) {lane : Nat} (d : Dev) (hl : lane < 1024) :
    CameUp now lane d (recomputeFree (raiseIrq (Page.lnk lane) 16 (broughtUp now lane d))) := by
  obtain ⟨-, -, hfree⟩ := recomputeFree_shows (raiseIrq (Page.lnk lane) 16 (broughtUp now lane d))
  have hlane : (Page.lnk lane).inst < 4096 := by show lane < 4096; omega
  have hrd {g : Fd} (hg : g.off < 4096) (hi : g.off ≠ 0x010) :
      rd (recomputeFree (raiseIrq (Page.lnk lane) 16 (broughtUp now lane d))) (Page.lnk lane) g =
        rd (broughtUp now lane d) (Page.lnk lane) g :=
    (hfree.rd_eq hlane hg (by simp [OnPage, Page.lnk, Page.voq])).trans (rd_raiseIrq_off _ _ _ _ hi)
  refine ⟨?_, ?_, ?_, ?_⟩
  · rw [linkState, hrd (by decide) (by decide)]
    exact (linkState_setReason (setPortState lane lsUp d) 0 hlane hlane).trans (linkState_setPortState d hl (by decide))
  · rw [downReason, hrd (by decide) (by decide)]
    exact downReason_setReason _ (by decide)
  · have hlnk := hfree.part .lnk (by simp)
    have hstate : (setPortState lane lsUp d).lnk = d.lnk :=
      (setPortState_alters (P := []) (T := NoEntry) lsUp d hl).part .lnk (by simp)
    have hport : (setReason lane 0 (setPortState lane lsUp d)).port lane = d.port lane := by
      rw [Dev.port, setReason, wr_lnk, hstate, Dev.port]
    rw [Dev.port, hlnk, raiseIrq_lnk, ← Dev.port, broughtUp, port_updPort_same, hport]
  · have hup : SoftAlters (fun q a => q = Page.voq ∨ UnitWords d lane q a) [.lnk] (InTables []) d (broughtUp now lane d) :=
      (broughtUp_alters now d (by simp) hl).words fun _ _ => .inr
    exact (hup.trans (.raiseIrq _ _ hlane (.inr (unitWords_own ..)))).trans
      (hfree.mono (fun _ _ hq => .inl hq) (by simp) fun _ => id)

/-- A training frame that does not match holds the port (R110). -/
theorem trainingFrame_mismatch {now : W64} {lane r : Nat} {f : List Byte} {bs : List Nat} {d : Dev} (hl : lane < 1024)
    (hu : trainUnit d lane = true) (hs : linkState d lane = lsIdentify) (hg : frGood f = true)
    (hm : (d.port lane).matched = false) (hr : frameMismatch d lane f bs = some r) :
    trainingFrame now lane f bs d = raiseIrq (Page.lnk lane) 17 (takeTo now lane lsHeld r (peerNoted lane f d)) := by
  simp only [trainingFrame, hu, hs, hg, hm, hr, hl, decide_true, Bool.and_self, Bool.not_true, Bool.or_self,
    Bool.false_eq_true, if_false, if_true, holdPort]
  rfl

/-- A training frame that matches is noted, and the port tries to come UP (R109, R170). -/
theorem trainingFrame_match {now : W64} {lane : Nat} {f : List Byte} {bs : List Nat} {d : Dev} (hl : lane < 1024)
    (hu : trainUnit d lane = true) (hs : linkState d lane = lsIdentify) (hg : frGood f = true)
    (hm : (d.port lane).matched = false) (hr : frameMismatch d lane f bs = none) :
    trainingFrame now lane f bs d = tryUp now lane true (peerNoted lane f (matchNoted lane f d)) := by
  simp only [trainingFrame, hu, hs, hg, hm, hr, hl, decide_true, Bool.and_self, Bool.not_true, Bool.or_self,
    Bool.false_eq_true, if_false, if_true]
  rfl

theorem held_shows {lane r : Nat} {f : List Byte} {s : State} (hl : lane < 1024)
    (hs : linkState s.dev lane = lsIdentify) (hr : r < 256) :
    let e := raiseIrq (Page.lnk lane) 17 (takeTo s.now lane lsHeld r (peerNoted lane f s.dev))
    linkState e lane = lsHeld ∧ downReason e lane = r ∧ (rdWord e (Page.lnk lane) 0x010).getLsbD 17 = true ∧
      rd e (Page.lnk lane) Reg.LNK_PEER_COORD_COORD = frCoord f ∧
      SoftAlters (UnitWords s.dev lane) [.lnk] (InTables []) s.dev e := by
  have hlane : lane < 4096 := by omega
  have hnoted := peerNoted_alters (P := [.lnk]) (T := InTables []) f s.dev hlane
  have hstate : linkState (peerNoted lane f s.dev) lane = lsIdentify :=
    (rd_peerNoted f s.dev hlane (by decide) (by decide)).trans hs
  have hwords : UnitWords (peerNoted lane f s.dev) lane = UnitWords s.dev lane :=
    unitWords_congr (portWidth_alters hnoted.toAlters hl fun hw => by cases hw.1)
  refine ⟨?_, ?_, raiseIrq_bit _ _ _ (by decide), ?_, ?_⟩
  · exact (rd_raiseIrq_off _ _ _ _ (by decide)).trans (linkState_takeTo s.now _ hl (by decide))
  · exact (rd_raiseIrq_off _ _ _ _ (by decide)).trans (downReason_takeTo s.now _ hl hr)
  · rw [rd_raiseIrq_off _ _ _ _ (by decide), ← peerCoord_peerNoted (lane := lane) f s.dev, rd, rd,
      rdWord_takeTo s.now _ hl (by decide) (by decide) (by decide)]
  · have htake := takeTo_alters (st := lsHeld) (reason := r) (P := [.lnk]) (T := InTables []) s.now (by simp) hl
      (by rw [hstate]; decide) (departedOpen_of_ne _ (by rw [hstate]; decide))
    exact ((hnoted.words fun q a hq => hq.1 ▸ unitWords_own s.dev lane a).trans (hwords ▸ htake)).trans
      (.raiseIrq _ _ hlane (unitWords_own ..))

theorem cameUp_kept {lane : Nat} {f : Dev → Dev} {s : State}
    (h : SoftAlters (fun q a => q = Page.voq ∨ UnitWords s.dev lane q a) [.lnk] (InTables []) s.dev (f s.dev)) :
    Kept [.lnk] [] (Page.voq :: unitPages lane s) s (onDev f s) :=
  h.kept (fun _ _ hq => List.mem_cons.2 hq) (by simp)

theorem dieOf_lt {lane : Nat} (hl : lane < 1024) : dieOf lane < 2 := by unfold dieOf; omega

/-- A frame that matches, its reservation covered: the port as it was noted comes UP. -/
theorem trainingFrame_up {lane : Nat} {f : List Byte} {bs : List Nat} {s : State} (hl : lane < 1024)
    (hu : trainUnit s.dev lane = true) (hs : linkState s.dev lane = lsIdentify) (hg : frGood f = true)
    (hm : (s.dev.port lane).matched = false) (hr : frameMismatch s.dev lane f bs = none)
    (hf : (s.dev.port lane).flushing = false)
    (hfree : landingUnits s.dev lane ≤ freeUnits (matchNoted lane f s.dev) (dieOf lane)) :
    ∃ e, trainingFrame s.now lane f bs s.dev = e ∧ linkState e lane = lsUp ∧ downReason e lane = 0 ∧
      e.port lane = freshLink s.now (landingUnits s.dev lane) ((matchNoted lane f s.dev).port lane) ∧
      SoftAlters (fun q a => q = Page.voq ∨ UnitWords s.dev lane q a) [.lnk] (InTables []) s.dev e := by
  have hlane : lane < 4096 := by omega
  have hnoted := peerNoted_alters (P := []) (T := NoEntry) f (matchNoted lane f s.dev) hlane
  obtain ⟨d, hd⟩ : ∃ d, d = peerNoted lane f (matchNoted lane f s.dev) := ⟨_, rfl⟩
  rw [← hd] at hnoted
  have hport : d.port lane = (matchNoted lane f s.dev).port lane := by rw [hd]; rfl
  have hmatch : (matchNoted lane f s.dev).port lane = _ := port_updPort_same ..
  have hland : landingUnits d lane = landingUnits s.dev lane := landingUnits_congr <|
    hnoted.word (Page.lnk lane) 0x118 hlane (by decide) (by simp [At])
  have hstate : linkState d lane = lsIdentify := (hnoted.toAlters.rd_off hlane (by decide) (by decide)).trans hs
  have hup := tryUp_up (now := s.now) true (by rw [hport, hmatch]) hstate (by rw [hport, hmatch]; exact hf)
    (by rw [hland, freeUnits_of_linkWords hnoted.toAlters (dieOf_lt hl)]; exact hfree)
  have hcame := cameUp s.now d hl
  have hwidth : portWidth d lane = portWidth (matchNoted lane f s.dev) lane :=
    portWidth_alters hnoted.toAlters hl fun hw => by cases hw.1
  have hwords : UnitWords d lane = UnitWords s.dev lane := unitWords_congr hwidth
  have hpre : SoftAlters (fun q a => q = Page.voq ∨ UnitWords s.dev lane q a) [.lnk] (InTables []) s.dev d :=
    SoftAlters.trans (.updPort lane _ s.dev (by simp))
      (hd ▸ (peerNoted_alters f _ hlane).words fun q a hq => Or.inr (hq.1 ▸ unitWords_own s.dev lane a))
  refine ⟨_, (trainingFrame_match hl hu hs hg hm hr).trans (hd ▸ hup), hcame.state, hcame.reason, ?_, ?_⟩
  · rw [hcame.port, hland, hport]
  · exact hpre.trans (hwords ▸ hcame.alters)

theorem portComesUp : Claims.PortComesUp := by
  refine ⟨fun lane f bs s hl hu hs hg hm => ⟨fun r hr => ?_, fun hr hf hfree => ?_⟩, fun lane s hl hm hs hf hfree => ?_⟩
  · have heq := trainingFrame_mismatch (now := s.now) hl hu hs hg hm hr
    obtain ⟨hstate, hreason, hirq, hpeer, halt⟩ := held_shows (f := f) hl hs (frameMismatch_lt hr)
    rw [← heq] at hstate hreason hirq hpeer halt
    exact ⟨_, (exec_trainingFrame lane f bs s).trans (effect_next _ _ _ (decide_eq_true (by omega))), hstate, hreason, hirq,
      hpeer, halt.kept (f := trainingFrame s.now lane f bs) (fun _ _ hq => hq) (by simp)⟩
  · obtain ⟨e, rfl, hstate, hreason, hport, halt⟩ := trainingFrame_up hl hu hs hg hm hr hf hfree
    refine ⟨_, (exec_trainingFrame lane f bs s).trans (effect_next _ _ _ (decide_eq_true (by omega))), hstate, hreason,
      ?_, ?_, ?_, ?_, cameUp_kept (f := trainingFrame s.now lane f bs) halt⟩ <;>
      rw [onDev_dev, hport, matchNoted, port_updPort_same] <;> rfl
  · have hcame := cameUp s.now s.dev hl
    rw [← tryUp_up (now := s.now) false hm hs hf hfree] at hcame
    exact ⟨_, (exec_landingReservationRetry lane s).trans (effect_next _ _ _ (decide_eq_true (by omega))), hcame.state,
      (congrArg Port.landing hcame.port :), (congrArg Port.allow hcame.port :),
      cameUp_kept (f := landingRetry s.now lane) hcame.alters⟩

/-- Settles O22: training moves a unit by one step and its timeout takes it back, and a frame that matches brings the port
UP once its landing reservation is covered. -/
theorem portsTrain : Obligations.PortsTrain := ⟨trainingMovesOn, portComesUp⟩

end Sys2Proof.Machine

/-! ### Ports leave UP and search again (R108, R112, R121, R497), and their neighbours depart (R449) -/

namespace Sys2Proof.Machine

/-! #### SEARCH starts (R108, R111, R121) -/

section

variable {P : List Part} {T : Nat → Prop} {lane : Nat} (d : Dev)

theorem restoreLanes_alters (hP : .lnk ∈ P) (hl : lane < 1024) :
    SoftAlters (At (Page.lnk (spareOf lane)) [0x10C]) P T d (restoreLanes lane d) := by
  unfold restoreLanes
  extract_lets s serving d1
  have h1 : SoftAlters (At (Page.lnk s) [0x10C]) P T d d1 := .forEach _ _ (fun _ _ d => .lnk _ d hP) d
  split
  · exact (h1.trans (.wr 0 _ (spareOf_lt hl) (by decide) ⟨rfl, by decide⟩)).trans (setLinkState_alters _ _ (spareOf_lt hl))
  · exact h1

theorem spareSearch_alters (now : W64) (hP : .lnk ∈ P) (hl : lane < 1024) :
    SoftAlters (At (Page.lnk (spareOf lane)) [0x10C]) P T d (spareSearch now lane d) := by
  unfold spareSearch
  dsimp only
  split
  · exact ((setLinkState_alters _ d (spareOf_lt hl)).trans (.emit _ _)).trans (.updPort _ _ _ hP)
  · exact .refl d

/-- After its change of state, a port's search touches the spare's LINK_STAT alone. -/
theorem spareFollows_alters (now : W64) (hP : .lnk ∈ P) (hl : lane < 1024) :
    SoftAlters (At (Page.lnk (spareOf lane)) [0x10C]) P T d (spareSearch now lane (restoreLanes lane d)) :=
  (restoreLanes_alters d hP hl).trans (spareSearch_alters _ now hP hl)

/-- What touches the spare's page alone leaves the lane's words alone. -/
theorem rdWord_of_spare {offs : List Nat} {d e : Dev} (h : SoftAlters (At (Page.lnk (spareOf lane)) offs) P T d e)
    (hl : lane < 1024) {a : Nat} (ha : a < 4096) : rdWord e (Page.lnk lane) a = rdWord d (Page.lnk lane) a :=
  h.word _ _ (by show lane < 4096; omega) ha fun hw => spareOf_ne hl hw.1

theorem rdWord_startSearch (now : W64) (reason : Nat) (hl : lane < 1024) {a : Nat} (ha : a < 4096) :
    rdWord (startSearch now lane reason d) (Page.lnk lane) a =
      rdWord (takeTo now lane lsSearch reason d) (Page.lnk lane) a :=
  rdWord_of_spare (spareFollows_alters (P := [.lnk]) (T := NoEntry) _ now (by simp) hl) hl ha

theorem linkState_startSearch (now : W64) (reason : Nat) (hl : lane < 1024) :
    linkState (startSearch now lane reason d) lane = lsSearch := by
  have htake := linkState_takeTo (st := lsSearch) (reason := reason) now d hl (by decide)
  rw [linkState, rd, rdWord_startSearch d now reason hl (by decide), ← rd, ← linkState, htake]

theorem downReason_startSearch (now : W64) {reason : Nat} (hl : lane < 1024) (hr : reason < 256) :
    downReason (startSearch now lane reason d) lane = reason := by
  have htake := downReason_takeTo (st := lsSearch) now d hl hr
  rw [downReason, rd, rdWord_startSearch d now reason hl (by decide), ← rd, ← downReason, htake]

variable {d}

/-- A port out of service that searches: its lanes and its block's spare. -/
theorem startSearch_alters (now : W64) (reason : Nat) (hP : .lnk ∈ P) (hl : lane < 1024) (hu : linkState d lane ≠ lsUp)
    (ho : departedOpen d lane = false) :
    SoftAlters (fun q a => q = Page.lnk (spareOf lane) ∨ UnitWords d lane q a) P T d (startSearch now lane reason d) :=
  ((takeTo_alters now hP hl hu ho).words fun _ _ => .inr).trans
    ((spareFollows_alters _ now hP hl).words fun _ _ hq => .inl hq.1)

end

theorem downReason_lt (d : Dev) (lane : Nat) : downReason d lane < 256 := Nat.mod_lt _ (by decide)

theorem isPort_lt {d : Dev} {lane : Nat} (h : isPort d lane = true) : lane < 1024 := by
  simp only [isPort, Bool.and_eq_true, decide_eq_true_eq] at h
  exact h.1

/-! #### LNK_CTL (R112) -/

/-- Every link page maps LNK_CTL. -/
theorem regAt_lnkCtl (lane : Nat) : (Page.lnk lane).regAt 0x100 = (Page.lnk 1).regAt 0x100 := by
  cases lane <;> rfl

/-- A write of LNK_CTL by the page's owner. -/
theorem write32_lnkCtl {src : Src} {lane : Nat} {s : State} (v : Nat) (h : Owns src (Page.lnk lane) s) (hv : v < 2 ^ 32) :
    write32 src (Page.lnk lane) 0x100 v s = onDev (lnkCtl s.now lane (BitVec.ofNat 32 v)) s := by
  obtain ⟨r, hr⟩ : ∃ r, (Page.lnk lane).regAt 0x100 = some r := ⟨_, regAt_lnkCtl lane⟩
  rw [write32_reg v h (by decide) (by decide) (by decide) hr (by simp [Page.lnk, Page.dbg]) hv]
  simp [regWrite, portRegister, blockWrite, Page.lnk]

/-- ADMIN_UP and SPARE_AUTO as written. -/
def ctlWritten (lane : Nat) (admin auto : Bool) (d : Dev) : Dev :=
  wrBit (Page.lnk lane) Reg.LNK_LNK_CTL_ADMIN_UP admin (wrBit (Page.lnk lane) Reg.LNK_LNK_CTL_SPARE_AUTO auto d)

section

variable {P : List Part} {T : Nat → Prop} {lane : Nat}

theorem autoWritten_alters (auto : Bool) (d : Dev) (hl : lane < 4096) :
    SoftAlters (At (Page.lnk lane) [0x100]) P T d (wrBit (Page.lnk lane) Reg.LNK_LNK_CTL_SPARE_AUTO auto d) :=
  .wrBit auto d hl (by decide) ⟨rfl, by decide⟩

theorem ctlWritten_alters (admin auto : Bool) (d : Dev) (hl : lane < 4096) :
    SoftAlters (At (Page.lnk lane) [0x100]) P T d (ctlWritten lane admin auto d) :=
  (autoWritten_alters auto d hl).trans (.wrBit admin _ hl (by decide) ⟨rfl, by decide⟩)

/-- What a write of a link page's control word leaves of the port: its width, its state and its reason. -/
theorem port_of_ctl {d e : Dev} (h : SoftAlters (At (Page.lnk lane) [0x100]) P T d e) (hl : lane < 1024) :
    portWidth e lane = portWidth d lane ∧ linkState e lane = linkState d lane ∧ downReason e lane = downReason d lane ∧
      pageState e (Page.lnk lane) = pageState d (Page.lnk lane) := by
  have hlane : (Page.lnk lane).inst < 4096 := by show lane < 4096; omega
  exact ⟨portWidth_alters h.toAlters hl fun hw => (by cases hw.1), h.toAlters.rd_off hlane (by decide) (by decide),
    h.toAlters.rd_off hlane (by decide) (by decide), h.toAlters.rd_off hlane (by decide) (by decide)⟩

end

theorem isPort_congr {d e : Dev} {lane : Nat} (h : portWidth e lane = portWidth d lane) : isPort e lane = isPort d lane := by
  simp only [isPort, h]

/-- ADMIN_UP changed, with no RETRAIN, acts on the port (R112). -/
theorem lnkCtl_admin {now : W64} {lane : Nat} {v : W32} {d : Dev} (hp : isPort d lane = true)
    (ha : rdBit d (Page.lnk lane) Reg.LNK_LNK_CTL_ADMIN_UP ≠ v.getLsbD 0) (hr : v.getLsbD 2 = false) :
    lnkCtl now lane v d = adminUp now lane (v.getLsbD 0) (wrBit (Page.lnk lane) Reg.LNK_LNK_CTL_SPARE_AUTO (v.getLsbD 1) d) := by
  have hkeep := rdBit_wrBit_apart (Page.lnk lane) (f := Reg.LNK_LNK_CTL_SPARE_AUTO) (g := Reg.LNK_LNK_CTL_ADMIN_UP)
    (v.getLsbD 1) d rfl rfl rfl
  simp only [lnkCtl, hp, Bool.not_true, Bool.false_eq_true, if_false, if_neg (hkeep.trans_ne ha), hr, doIf_false]

/-- RETRAIN with ADMIN_UP as it stands retrains the port (R112). -/
theorem lnkCtl_retrain {now : W64} {lane : Nat} {v : W32} {d : Dev} (hp : isPort d lane = true)
    (ha : rdBit d (Page.lnk lane) Reg.LNK_LNK_CTL_ADMIN_UP = v.getLsbD 0) (hr : v.getLsbD 2 = true) :
    lnkCtl now lane v d = retrain now lane (wrBit (Page.lnk lane) Reg.LNK_LNK_CTL_SPARE_AUTO (v.getLsbD 1) d) := by
  have hkeep := rdBit_wrBit_apart (Page.lnk lane) (f := Reg.LNK_LNK_CTL_SPARE_AUTO) (g := Reg.LNK_LNK_CTL_ADMIN_UP)
    (v.getLsbD 1) d rfl rfl rfl
  simp only [lnkCtl, hp, Bool.not_true, Bool.false_eq_true, if_false, if_pos (hkeep.trans ha), hr, doIf_true]

theorem spareAuto_lt (d : Dev) (p : Page) : rd d p Reg.LNK_LNK_CTL_SPARE_AUTO < 2 := Nat.mod_lt _ (by decide)

/-- The word ADMIN_UP is written with. -/
theorem adminWord_bits (b : Bool) {auto : Nat} (h : auto < 2) : bit b + 2 * auto < 2 ^ 32 ∧
    (BitVec.ofNat 32 (bit b + 2 * auto)).getLsbD 0 = b ∧ (BitVec.ofNat 32 (bit b + 2 * auto)).getLsbD 2 = false := by
  interval_cases auto <;> cases b <;> decide

/-- The word RETRAIN is written with. -/
theorem retrainWord_bits (w : Nat) : 4 + w % 4 < 2 ^ 32 ∧ (BitVec.ofNat 32 (4 + w % 4)).getLsbD 0 = decide (w % 2 = 1) ∧
    (BitVec.ofNat 32 (4 + w % 4)).getLsbD 2 = true := by
  have h4 : w % 4 < 4 := Nat.mod_lt _ (by decide)
  have h2 : w % 2 = w % 4 % 2 := by omega
  rw [h2]
  interval_cases w % 4 <;> decide

theorem exec_adminUp_owned {src : Src} {lane : Nat} {s : State} (b : Bool) (h : Owns src (Page.lnk lane) s)
    (hl : lane < 1024) : exec (.adminUp src lane b) s =
      .next (onDev (lnkCtl s.now lane (BitVec.ofNat 32 (bit b + 2 * rd s.dev (Page.lnk lane) Reg.LNK_LNK_CTL_SPARE_AUTO))) s) := by
  rw [exec_adminUp, effect_next (.adminUp src lane b) _ _ (decide_eq_true hl)]
  exact congrArg _ (write32_lnkCtl _ h (adminWord_bits b (spareAuto_lt ..)).1)

theorem exec_retrain_owned {src : Src} {lane : Nat} {s : State} (h : Owns src (Page.lnk lane) s) (hl : lane < 1024) :
    exec (.retrain src lane) s =
      .next (onDev (lnkCtl s.now lane (BitVec.ofNat 32 (4 + (rdWord s.dev (Page.lnk lane) 0x100).toNat % 4))) s) := by
  rw [exec_retrain, effect_next (.retrain src lane) _ _ (decide_eq_true hl)]
  exact congrArg _ (write32_lnkCtl _ h (retrainWord_bits _).1)

/-! #### ADMIN_UP (R112, R497) -/

/-- ADMIN_UP 1 starts the search of a disabled port whose page runs. -/
theorem adminUp_searches {now : W64} {lane : Nat} (auto : Bool) {d : Dev} (hp : isPort d lane = true)
    (hs : linkState d lane = lsDisabled) (hr : lnkRunning d lane = true) :
    adminUp now lane true (wrBit (Page.lnk lane) Reg.LNK_LNK_CTL_SPARE_AUTO auto d) =
      startSearch now lane (downReason d lane) (ctlWritten lane true auto d) := by
  have hl := isPort_lt hp
  obtain ⟨hwidth, -, -, -⟩ := port_of_ctl (autoWritten_alters (P := []) (T := NoEntry) auto d (by omega)) hl
  obtain ⟨hwidth', hstate, hreason, hpage⟩ := port_of_ctl (ctlWritten_alters (P := []) (T := NoEntry) true auto d (by omega)) hl
  have hup : rdBit (ctlWritten lane true auto d) (Page.lnk lane) Reg.LNK_LNK_CTL_ADMIN_UP = true :=
    rdBit_wrBit_same _ _ _ _ rfl
  have hrun : lnkRunning (ctlWritten lane true auto d) lane = true := by rw [lnkRunning, hpage]; exact hr
  have hcond : linkState (ctlWritten lane true auto d) lane = lsDisabled ∧ lnkRunning (ctlWritten lane true auto d) lane = true ∧
      rdBit (ctlWritten lane true auto d) (Page.lnk lane) Reg.LNK_LNK_CTL_ADMIN_UP = true ∧
      isPort (ctlWritten lane true auto d) lane = true :=
    ⟨hstate.trans hs, hrun, hup, (isPort_congr hwidth').trans hp⟩
  simp only [adminUp, isPort_congr hwidth, hp, Bool.not_true, Bool.false_eq_true, if_false, if_true]
  exact (if_pos hcond).trans (congrArg (startSearch now lane · (ctlWritten lane true auto d)) hreason)

/-- The spare of a disabled port's block, with the port that holds its lane 0 (R111). -/
def spareOff (lane : Nat) (d : Dev) : Dev :=
  if lane % 16 = 0 then
    if linkState d (spareOf lane) = lsDisabled then d
    else emit (.light (spareOf lane) false) (setLinkState (spareOf lane) lsDisabled d)
  else d

theorem spareOff_alters {P : List Part} {T : Nat → Prop} {lane : Nat} (d : Dev) (hl : lane < 1024) :
    SoftAlters (At (Page.lnk (spareOf lane)) [0x10C]) P T d (spareOff lane d) := by
  unfold spareOff
  split
  · split
    · exact .refl d
    · exact (setLinkState_alters _ d (spareOf_lt hl)).trans (.emit _ _)
  · exact .refl d

/-- ADMIN_UP 0 disables a port that is not disabled. -/
theorem adminUp_disables {now : W64} {lane : Nat} (auto : Bool) {d : Dev} (hp : isPort d lane = true)
    (hs : linkState d lane ≠ lsDisabled) :
    adminUp now lane false (wrBit (Page.lnk lane) Reg.LNK_LNK_CTL_SPARE_AUTO auto d) =
      spareOff lane (restoreLanes lane (takeTo now lane lsDisabled 1 (ctlWritten lane false auto d))) := by
  have hl := isPort_lt hp
  obtain ⟨hwidth, hstate, -, -⟩ := port_of_ctl (autoWritten_alters (P := []) (T := NoEntry) auto d (by omega)) hl
  simp only [adminUp, isPort_congr hwidth, hp, Bool.not_true, Bool.false_eq_true, if_false]
  exact if_neg (hstate.trans_ne hs)

/-- What a port that ADMIN_UP 0 disables shows. -/
theorem disabled_shows (now : W64) {lane : Nat} (auto : Bool) (d : Dev) (hl : lane < 1024) :
    let e := spareOff lane (restoreLanes lane (takeTo now lane lsDisabled 1 (ctlWritten lane false auto d)))
    linkState e lane = lsDisabled ∧ downReason e lane = 1 ∧ rdBit e (Page.lnk lane) Reg.LNK_LNK_CTL_ADMIN_UP = false := by
  intro e
  have hspare : SoftAlters (At (Page.lnk (spareOf lane)) [0x10C]) [.lnk] NoEntry
      (takeTo now lane lsDisabled 1 (ctlWritten lane false auto d)) e :=
    (restoreLanes_alters _ (by simp) hl).trans (spareOff_alters _ hl)
  have hword {a : Nat} (ha : a < 4096) := rdWord_of_spare hspare hl ha
  refine ⟨?_, ?_, ?_⟩
  · rw [linkState, rd, hword (by decide), ← rd, ← linkState, linkState_takeTo now _ hl (by decide)]
  · rw [downReason, rd, hword (by decide), ← rd, ← downReason, downReason_takeTo now _ hl (by decide)]
  · rw [rdBit, rd, hword (by decide), rdWord_takeTo now _ hl (by decide) (by decide) (by decide), ← rd, ← rdBit]
    exact rdBit_wrBit_same _ _ _ _ rfl

theorem exists_unitWords {lane : Nat} {s : State} {q : Page} {a : Nat}
    (h : q = Page.lnk (spareOf lane) ∨ UnitWords s.dev lane q a) : q ∈ Page.lnk (spareOf lane) :: unitPages lane s :=
  List.mem_cons.2 h

theorem adminUpSearches {src : Src} {lane : Nat} {s : State} (h : Owns src (Page.lnk lane) s) (hp : isPort s.dev lane = true)
    (hs : linkState s.dev lane = lsDisabled) (hr : lnkRunning s.dev lane = true)
    (ha : rdBit s.dev (Page.lnk lane) Reg.LNK_LNK_CTL_ADMIN_UP = false) :
    ∃ t, exec (.adminUp src lane true) s = .next t ∧ linkState t.dev lane = lsSearch ∧
      rdBit t.dev (Page.lnk lane) Reg.LNK_LNK_CTL_ADMIN_UP = true ∧ downReason t.dev lane = downReason s.dev lane ∧
      Kept [.lnk] [] (Page.lnk (spareOf lane) :: unitPages lane s) s t := by
  have hl := isPort_lt hp
  obtain ⟨v, hv⟩ : ∃ v, v = BitVec.ofNat 32 (bit true + 2 * rd s.dev (Page.lnk lane) Reg.LNK_LNK_CTL_SPARE_AUTO) := ⟨_, rfl⟩
  obtain ⟨-, h0, h2⟩ := adminWord_bits true (spareAuto_lt s.dev (Page.lnk lane))
  rw [← hv] at h0 h2
  have heq : lnkCtl s.now lane v s.dev =
      startSearch s.now lane (downReason s.dev lane) (ctlWritten lane true (v.getLsbD 1) s.dev) := by
    rw [lnkCtl_admin hp (by rw [ha, h0]; decide) h2, h0, adminUp_searches _ hp hs hr]
  have hctl := ctlWritten_alters (P := [.lnk]) (T := InTables []) true (v.getLsbD 1) s.dev (by omega : lane < 4096)
  obtain ⟨hwidth, hstate, -, -⟩ := port_of_ctl hctl hl
  rw [hs] at hstate
  have halt : SoftAlters (fun q a => q = Page.lnk (spareOf lane) ∨ UnitWords s.dev lane q a) [.lnk] (InTables []) s.dev
      (lnkCtl s.now lane v s.dev) := by
    rw [heq]
    exact (hctl.words fun q a hq => .inr (hq.1 ▸ unitWords_own s.dev lane a)).trans
      (unitWords_congr hwidth ▸ startSearch_alters s.now _ (by simp) hl (by rw [hstate]; decide)
        (departedOpen_of_ne _ (by rw [hstate]; decide)))
  refine ⟨_, hv ▸ exec_adminUp_owned true h hl, ?_, ?_, ?_, halt.kept (f := lnkCtl s.now lane v) (fun _ _ => exists_unitWords)
    (by simp)⟩ <;> rw [onDev_dev, heq]
  · exact linkState_startSearch _ _ _ hl
  · rw [rdBit, rd, rdWord_startSearch _ _ _ hl (by decide), rdWord_takeTo _ _ hl (by decide) (by decide) (by decide), ← rd,
      ← rdBit]
    exact rdBit_wrBit_same _ _ _ _ rfl
  · exact downReason_startSearch _ _ hl (downReason_lt ..)

theorem adminUpDisables {src : Src} {lane : Nat} {s : State} (h : Owns src (Page.lnk lane) s) (hp : isPort s.dev lane = true)
    (hs : linkState s.dev lane ≠ lsDisabled) (ha : rdBit s.dev (Page.lnk lane) Reg.LNK_LNK_CTL_ADMIN_UP = true) :
    ∃ t, exec (.adminUp src lane false) s = .next t ∧ linkState t.dev lane = lsDisabled ∧ downReason t.dev lane = 1 ∧
      rdBit t.dev (Page.lnk lane) Reg.LNK_LNK_CTL_ADMIN_UP = false ∧ CoreKept s t := by
  obtain ⟨-, h0, h2⟩ := adminWord_bits false (spareAuto_lt s.dev (Page.lnk lane))
  refine ⟨_, exec_adminUp_owned false h (isPort_lt hp), ?_⟩
  rw [onDev_dev, lnkCtl_admin hp (by rw [ha, h0]; decide) h2, h0, adminUp_disables _ hp hs]
  obtain ⟨hstate, hreason, hbit⟩ := disabled_shows s.now _ s.dev (isPort_lt hp)
  exact ⟨hstate, hreason, hbit, coreKept_onDev ..⟩

theorem retrainSearches {src : Src} {lane : Nat} {s : State} (h : Owns src (Page.lnk lane) s) (hp : isPort s.dev lane = true)
    (hs : linkState s.dev lane ≠ lsDisabled) :
    ∃ t, exec (.retrain src lane) s = .next t ∧ linkState t.dev lane = lsSearch ∧ downReason t.dev lane = 9 ∧
      CoreKept s t := by
  have hl := isPort_lt hp
  obtain ⟨v, hv⟩ : ∃ v, v = BitVec.ofNat 32 (4 + (rdWord s.dev (Page.lnk lane) 0x100).toNat % 4) := ⟨_, rfl⟩
  obtain ⟨-, h0, h2⟩ := retrainWord_bits (rdWord s.dev (Page.lnk lane) 0x100).toNat
  rw [← hv] at h0 h2
  have hbit : rdBit s.dev (Page.lnk lane) Reg.LNK_LNK_CTL_ADMIN_UP = v.getLsbD 0 := by
    rw [h0]
    show ((rdWord s.dev (Page.lnk lane) 0x100).toNat >>> 0 % 2 ^ 1 != 0) = _
    rcases Nat.mod_two_eq_zero_or_one (rdWord s.dev (Page.lnk lane) 0x100).toNat with h | h <;> simp [h]
  obtain ⟨hwidth, hstate, -, -⟩ :=
    port_of_ctl (autoWritten_alters (P := []) (T := NoEntry) (v.getLsbD 1) s.dev (by omega)) hl
  have heq : lnkCtl s.now lane v s.dev =
      startSearch s.now lane 9 (wrBit (Page.lnk lane) Reg.LNK_LNK_CTL_SPARE_AUTO (v.getLsbD 1) s.dev) := by
    rw [lnkCtl_retrain hp hbit h2, retrain, isPort_congr hwidth, hp, hstate, decide_eq_false hs]
    rfl
  refine ⟨_, hv ▸ exec_retrain_owned h hl, ?_, ?_, coreKept_onDev ..⟩ <;> rw [onDev_dev, heq]
  · exact linkState_startSearch _ _ _ hl
  · exact downReason_startSearch _ _ hl (by decide)

/-- A FAILED port searches again once its time has passed, its reason kept (R108). -/
theorem autoRetrain_eq {now : W64} {lane : Nat} {d : Dev} (hl : lane < 1024) (hu : trainUnit d lane = true)
    (hs : linkState d lane = lsFailed) (he : elapsed now (d.port lane).sinceTick 100000000 = true) :
    autoRetrain now lane d = startSearch now lane (downReason d lane) d := by
  simp [autoRetrain, hl, hu, hs, he]

theorem portsSearch : Claims.PortsSearch := by
  refine ⟨fun src lane s h hp => ⟨fun hs hr _ ha => adminUpSearches h hp hs hr ha, fun hs ha => adminUpDisables h hp hs ha,
    fun hs => retrainSearches h hp hs⟩, fun lane s hl hu hs he => ?_⟩
  have heq := autoRetrain_eq hl hu hs he
  have halt : SoftAlters (fun q a => q = Page.lnk (spareOf lane) ∨ UnitWords s.dev lane q a) [.lnk] (InTables []) s.dev
      (autoRetrain s.now lane s.dev) :=
    heq ▸ startSearch_alters s.now _ (by simp) hl (by rw [hs]; decide) (departedOpen_of_ne _ (by rw [hs]; decide))
  refine ⟨_, (exec_autoRetrain lane s).trans (effect_next _ _ _ (decide_eq_true hl)), ?_, ?_,
    halt.kept (f := autoRetrain s.now lane) (fun _ _ => exists_unitWords) (by simp)⟩ <;> rw [onDev_dev, heq]
  · exact linkState_startSearch _ _ _ hl
  · exact downReason_startSearch _ _ hl (downReason_lt ..)

/-! #### The neighbour departs (R449) -/

/-- The flush of a departure's egress side, and the end of its exchange, after the port shows DEPARTED. -/
def departFlushed (now : W64) (lane : Nat) (d : Dev) : Dev :=
  clearExchange lane (startFlush lane (flushEgress lane 0x0E (flushFraming lane
    (updPort lane (fun p => { p with departTick := now.toNat, rxOpen := true, txStream := [] }) d))))

theorem departReceived_eq {now : W64} {lane : Nat} {d : Dev} (hp : isPort d lane = true) (hu : portUp d lane = true) :
    departReceived now lane d = raiseIrq (Page.lnk lane) 19 (raiseIrq (Page.lnk lane) 16 (departFlushed now lane
      (setPortState lane lsDeparted (setReason lane 0x0E (circPortLost lane d))))) := by
  simp only [departReceived, hp, hu, Bool.and_self, Bool.not_true, Bool.false_eq_true, if_false]
  rfl

theorem departFlushed_offLinks (now : W64) (lane : Nat) (d : Dev) : OffLinks d (departFlushed now lane d) :=
  ((((updPort_offLinks ..).trans (Flushes.offLinks (flushFraming_flushes ..))).trans
    (Flushes.offLinks (Unqueues.flushes (flushEgress_unqueues ..)))).trans (Flushes.offLinks (startFlush_flushes ..))).trans
    (clearExchange_offLinks ..)

/-- The receive side stays open through the flush of the egress side. -/
theorem rxOpen_departFlushed (now : W64) (lane : Nat) (d : Dev) : ((departFlushed now lane d).port lane).rxOpen = true := by
  have hclear (d : Dev) : ((clearExchange lane d).port lane).rxOpen = (d.port lane).rxOpen := by
    rw [clearExchange, port_updPort_same]; rfl
  have hstart (d : Dev) : ((startFlush lane d).port lane).rxOpen = (d.port lane).rxOpen := by
    rw [startFlush, port_updPort_same]; rfl
  have hframing (d : Dev) : ((flushFraming lane d).port lane).rxOpen = (d.port lane).rxOpen := by
    rw [flushFraming, port_updPort_same, Dev.port, bumpN_lnk, Dev.port]
  have hegress (d : Dev) : (flushEgress lane 0x0E d).port lane = d.port lane := by
    rw [Dev.port, (flushEgress_unqueues lane 0x0E d).part .lnk (by simp), Dev.port]
  rw [departFlushed, hclear, hstart, hegress, hframing, port_updPort_same]

theorem port_raiseIrq (p : Page) (b l : Nat) (d : Dev) : (raiseIrq p b d).port l = d.port l := by
  rw [Dev.port, raiseIrq_lnk, Dev.port]

theorem closeReceive_offLinks (now : W64) (lane : Nat) (d : Dev) : OffLinks d (closeReceive now lane d) := by
  rw [closeReceive]
  exact (Flushes.offLinks (portDown_flushes lane 0x0E d)).trans (updPort_offLinks ..)

theorem linkState_closeReceive (now : W64) {lane : Nat} (hl : lane < 4096) (d : Dev) :
    linkState (closeReceive now lane d) lane = linkState d lane :=
  (closeReceive_offLinks now lane d).rd_lnk hl (by decide) (by decide)

theorem rxOpen_departReceived {now : W64} {lane : Nat} {d : Dev} (hp : isPort d lane = true) (hu : portUp d lane = true) :
    ((departReceived now lane d).port lane).rxOpen = true := by
  rw [departReceived_eq hp hu, port_raiseIrq, port_raiseIrq]
  exact rxOpen_departFlushed now lane _

theorem neighbourDeparts : Claims.NeighbourDeparts := by
  intro lane s hl
  have hlane : lane < 4096 := by omega
  refine ⟨fun hp hu => ?_, fun ho => ?_⟩
  · have hoff : OffLinks (setPortState lane lsDeparted (setReason lane 0x0E (circPortLost lane s.dev)))
        (departReceived s.now lane s.dev) := by
      rw [departReceived_eq hp hu]
      exact ((departFlushed_offLinks ..).trans (raiseIrq_offLinks 16 _ hlane)).trans (raiseIrq_offLinks 19 _ hlane)
    refine ⟨_, (exec_depart lane s).trans (effect_next _ _ _ (decide_eq_true hl)), ?_, ?_, ?_, ?_, coreKept_onDev ..⟩ <;>
      rw [onDev_dev]
    · rw [linkState, hoff.rd_lnk hlane (by decide) (by decide)]
      exact linkState_setPortState _ hl (by decide)
    · rw [downReason, hoff.rd_lnk hlane (by decide) (by decide), rd_setPortState _ hl hlane (by decide) (by decide)]
      exact downReason_setReason _ (by decide)
    · exact rxOpen_departReceived hp hu
    · rw [departReceived_eq hp hu]
      exact raiseIrq_bit _ _ _ (by decide)
  · have heq : departedClose s.now lane true s.dev = closeReceive s.now lane s.dev := by simp [departedClose, ho]
    have hstate := linkState_closeReceive s.now hlane s.dev
    have hrx : ((closeReceive s.now lane s.dev).port lane).rxOpen = false := by rw [closeReceive, port_updPort_same]
    have hdep : linkState s.dev lane = lsDeparted := by
      simp only [departedOpen, Bool.and_eq_true, decide_eq_true_eq] at ho
      exact ho.1
    refine ⟨_, (exec_departedClose lane true s).trans (effect_next _ _ _ (decide_eq_true hl)), ?_, ?_, ?_, coreKept_onDev ..⟩ <;>
      rw [onDev_dev, heq]
    · exact hstate.trans hdep
    · exact hrx
    · simp [departedOpen, hrx]

/-- Settles O25: each of the commands is one change of state, which leaves the port's words but LINK_STAT alone; the
departure's flush takes the egress side and leaves the receive side open. -/
theorem portsLeave : Obligations.PortsLeave := ⟨portsSearch, neighbourDeparts⟩

end Sys2Proof.Machine

/-! ### Codewords and control items (R103 to R107, R114, R116, R117) -/

namespace Sys2Proof.Machine

/-! #### Counts of a lane (R124) -/

/-- No word. -/
def NoWords (_ : Page) (_ : Nat) : Prop := False

/-- Words of one page, and of TEL. -/
def CountWords (p : Page) (q : Page) (_ : Nat) : Prop := q ∈ [p, Page.tel]

section

variable {lane k : Nat} (n : Nat) (d : Dev)

theorem lnkCount_alters {P : List Part} (hl : lane < 4096) (hk : k < 8) :
    SoftAlters (CountWords (Page.lnk lane)) P (InTables watchTable) d (lnkCount lane k n d) := by
  have hoff : Reg.LNK_CNT.off + 8 * k + 4 < 4096 := by show 0x180 + 8 * k + 4 < 4096; omega
  unfold lnkCount
  split
  · exact .refl d
  · exact .bumpN n d hl hoff (by simp [CountWords]) (by simp [CountWords]) fun _ => id

@[simp] theorem port_lnkCount (l : Nat) : (lnkCount lane k n d).port l = d.port l := by
  unfold lnkCount
  split
  · rfl
  · rw [Dev.port, bumpN_lnk, Dev.port]

theorem lnkCount_zero : lnkCount lane k 0 d = d := by
  unfold lnkCount
  split <;> rfl

/-- The counters advance on a lane whose port is in no circuit (R221). -/
theorem lnkCount_one (h : lane < 1024 → inCircuit d (lowestLane d lane) = false) :
    lnkCount lane k 1 d = bump (Page.lnk lane) Reg.LNK_CNT k d := by
  rw [lnkCount, if_neg fun hc => by simp [h hc.1] at hc, bump]

end

/-! #### A codeword is sent (R103, R104, R107, R116) -/

/-- The codewords still to send and those sent are the same in both. -/
structure SameData (p q : Port) : Prop where
  replay : q.replay = p.replay
  replayAt : q.replayAt = p.replayAt
  txStream : q.txStream = p.txStream
  txSeq : q.txSeq = p.txSeq
  nullPeriod : q.nullPeriod = p.nullPeriod

theorem SameData.refl (p : Port) : SameData p p := ⟨rfl, rfl, rfl, rfl, rfl⟩

/-- A control item other than a NAK, and a port with the same data. -/
def ItemOnly (p : Port) (item : Nat × Nat × Port) : Prop := item.1 ≠ 3 ∧ SameData p item.2.2

theorem takeCredit_itemOnly (vc : Nat) (p : Port) : ItemOnly p (takeCredit vc p) :=
  ⟨by simp [takeCredit], rfl, rfl, rfl, rfl, rfl⟩

theorem takeAck_itemOnly (p : Port) : ItemOnly p (takeAck p) := ⟨by simp [takeAck], rfl, rfl, rfl, rfl, rfl⟩

/-- A port with no NAK to send sends a CREDIT, an ACK or IDLE, and the item leaves its data alone. -/
theorem chooseItem_itemOnly {p : Port} (hd : p.departing = .no) (hn : p.nakOwed = false) :
    ItemOnly p (chooseItem false p) := by
  unfold chooseItem
  extract_lets noAck p1
  rw [if_neg (by simp [hd]), if_neg (by simp [hn])]
  have h : ∀ item, ItemOnly p1 item → ItemOnly p item := fun _ h => ⟨h.1, h.2.replay, h.2.replayAt, h.2.txStream, h.2.txSeq,
    h.2.nullPeriod⟩
  split_ifs
  · exact h _ (takeCredit_itemOnly ..)
  · exact h _ (takeAck_itemOnly ..)
  · split
    · exact h _ (takeCredit_itemOnly ..)
    · exact h _ (takeAck_itemOnly ..)
  · split
    · exact h _ (takeCredit_itemOnly ..)
    · exact h _ ⟨by simp, .refl p1⟩

theorem advanceTurn_same (w : Nat) (data : Bool) (p : Port) : SameData p (advanceTurn w data p) := by
  unfold advanceTurn
  split <;> exact ⟨rfl, rfl, rfl, rfl, rfl⟩

/-- The port after the next 640 bytes of its stream are sent. -/
def dataSent (now : W64) (p : Port) : Port :=
  { p with
    txStream := (padStream p.txStream).drop 640
    replay := p.replay ++ [{ seq := p.txSeq, body := (padStream p.txStream).take 640 }]
    ackTick := if p.replay.isEmpty then now.toNat else p.ackTick
    txSeq := (p.txSeq + 1) % 32768 }

theorem nextData_fresh {now : W64} {p : Port} (h : p.replayAt = none) :
    nextData now p = (((padStream p.txStream).take 640).map TxByte.b, false, dataSent now p) := by
  unfold nextData
  split
  next k hk => simp [h] at hk
  next => simp only [sentBody, Bool.false_and, Bool.false_eq_true, if_false, dataSent]

/-- What a port that sends fresh data leaves: the codeword out, and the port one codeword on. -/
structure DataSent (low : Nat) (d e : Dev) : Prop where
  out : ∃ kind value, e.ctl.out = d.ctl.out ++ [.codeword (carrier d low)
    { null := false, kind := kind, value := value, body := ((padStream (d.port low).txStream).take 640).map TxByte.b }]
  replay : (e.port low).replay = (d.port low).replay ++
    [{ seq := (d.port low).txSeq, body := (padStream (d.port low).txStream).take 640 }]
  stream : (e.port low).txStream = (padStream (d.port low).txStream).drop 640
  seq : (e.port low).txSeq = ((d.port low).txSeq + 1) % 32768
  alters : SoftAlters NoWords [.lnk] (InTables []) d e

@[simp] theorem port_emit (o : Output) (d : Dev) (l : Nat) : (emit o d).port l = d.port l := rfl

/-- A data period of an UP port on its first lane, with no replay and no NAK to send. -/
theorem sendUp_data {now : W64} {low : Nat} {d : Dev} (hdep : (d.port low).departing = .no)
    (hrep : (d.port low).replayAt = none) (hnak : (d.port low).nakOwed = false) (hlane : (d.port low).txLane = 0)
    (hroom : (d.port low).replay.length + portWidth d low ≤ replayRoom d low) (hs : (d.port low).txStream ≠ []) :
    DataSent low d (sendUp now low false d) := by
  unfold sendUp
  extract_lets w p0 out p1 owed item p2 d0 d1 r d2
  have hp0 : p0 = d.port low := by simp [p0, departTurn, hdep]
  have hp1 : SameData { d.port low with nullPeriod := false } p1 ∧ p1.departing = .no ∧ p1.nakOwed = false := by
    have hnull : periodIsNull d low (d.port low) = false := by simp [periodIsNull, hrep, hs, Nat.not_lt.2 hroom]
    simp only [p1, hp0, hlane, if_true, hnull, Bool.false_or]
    exact ⟨.refl _, hdep, hnak⟩
  obtain ⟨hkind, hp2⟩ : item.1 ≠ 3 ∧ SameData p1 p2 := by
    simp only [p2, item]
    split
    · exact chooseItem_itemOnly hp1.2.1 hp1.2.2
    · exact ⟨by simp, .refl _⟩
  have hout : out = carrier d low := by simp only [out, hp0, hlane, Nat.add_zero]
  have hd1 : d1 = d0 := if_neg hkind
  have hnull : p2.nullPeriod = false := hp2.nullPeriod.trans hp1.1.nullPeriod
  have hr : r = (((padStream p2.txStream).take 640).map TxByte.b, false, dataSent now p2) :=
    nextData_fresh ((hp2.replayAt.trans hp1.1.replayAt).trans hrep)
  have hstream : p2.txStream = (d.port low).txStream := hp2.txStream.trans hp1.1.txStream
  have hsent : SameData (dataSent now p2) (advanceTurn w true (dataSent now p2)) := advanceTurn_same ..
  have hd0 : SoftAlters NoWords [.lnk] (InTables []) d d0 := .doIf _ d fun d => .lnk _ d (by simp)
  have hctl : d0.ctl = d.ctl := doIf_keeps Dev.ctl (decide (owed ≠ 0))
    (fun d => { d with lnk := { d.lnk with repairItem := sset (konst 0) d.lnk.repairItem (out - 1024) 0 } }) (fun _ => rfl) d
  have hd2 : d2 = d0 := by simp only [d2, hr, hd1, Bool.false_eq_true, if_false]
  simp only [hnull, Bool.false_eq_true, if_false, hr, Bool.not_false, hd2, hout]
  refine ⟨⟨item.1, item.2.1, ?_⟩, ?_, ?_, ?_, (hd0.trans (.setPort _ _ _ (by simp))).trans (.emit _ _)⟩
  · rw [← hstream, ← hctl]
    rfl
  · rw [port_emit, port_setPort_same, hsent.replay, dataSent, hstream, hp2.replay, hp1.1.replay, hp2.txSeq, hp1.1.txSeq]
  · rw [port_emit, port_setPort_same, hsent.txStream, dataSent, hstream]
  · rw [port_emit, port_setPort_same, hsent.txSeq, dataSent, hp2.txSeq, hp1.1.txSeq]

theorem codewordsSent : Claims.CodewordsSent := by
  refine ⟨fun lane s hl hu hs => ?_, fun lane s hl hu hs hq hsus hdep hrep hnak hlane hroom hstr => ?_⟩
  · have hwf : (Instr.codewordSend lane).wf = true := decide_eq_true (by omega)
    rw [exec_codewordSend, effect_next _ _ _ hwf]
    simp only [onDev, codewordSend, hu, hs, sendNull, hl, if_true]
    rfl
  · have heq : codewordSend s.now lane s.dev = sendUp s.now lane false s.dev := by
      simp only [codewordSend, hu, hs, hl, hsus, hq, Bool.not_true, Bool.false_or, if_true, Bool.false_eq_true, if_false]
      rfl
    have h := sendUp_data (now := s.now) hdep hrep hnak hlane hroom hstr
    rw [← heq] at h
    obtain ⟨kind, value, hout⟩ := h.out
    have hwf : (Instr.codewordSend lane).wf = true := decide_eq_true (by omega)
    exact ⟨_, kind, value, (exec_codewordSend lane s).trans (effect_next _ _ _ hwf), hout, h.replay,
      h.stream, h.seq, h.alters.kept (f := codewordSend s.now lane) (fun _ _ hq => hq.elim) (by simp)⟩

/-! #### Codewords received (R103, R104, R117) -/

/-- With nothing corrected and no reserved item, a data codeword in sequence is delivered, and another changes nothing. -/
theorem dataCodeword_clean {now : W64} {lane seq : Nat} {cw : Codeword} {d : Dev} (hn : cw.null = false) (hk : cw.kind < 7)
    (hc : carries d lane = true) (hr : receiving d (portOfLane d lane) = true) :
    dataCodeword now lane cw seq 0 d =
      if seq = (d.port (portOfLane d lane)).rxSeq then deliver now (portOfLane d lane) cw.body d else d := by
  simp only [dataCodeword, lnkCount_zero, if_true, if_neg (Nat.not_le.2 hk), hn, hc, hr, Bool.not_false, Bool.true_and,
    decide_eq_true_eq]

/-- The cells of the whole slots that a body completes. -/
def cellsIn (now : W64) (low : Nat) (body : List Byte) (d : Dev) : List Framed :=
  (cutSlots 12 ((d.port low).rxStream ++ (body ++ List.replicate 640 0).take 640)).1.map
    (fun bs => { cell := cellOfBytes bs, rxNs := fabricNs d now, rxTick := now.toNat })

/-- The port after a body is delivered. -/
def bodyTaken (now : W64) (low : Nat) (body : List Byte) (d : Dev) : Port :=
  { d.port low with
    rxStream := (cutSlots 12 ((d.port low).rxStream ++ (body ++ List.replicate 640 0).take 640)).2
    framed := (d.port low).framed ++ cellsIn now low body d
    rxSeq := ((d.port low).rxSeq + 1) % 32768
    rxNaks := 0
    nakOwed := false
    sinceAck := (d.port low).sinceAck + 1
    ackDirty := true }

theorem deliver_eq (now : W64) (low : Nat) (body : List Byte) (d : Dev) :
    deliver now low body d = lnkCount low 5 ((cellsIn now low body d).filter (fun f => !isTime f.cell)).length
      (countCells (cellsIn now low body d).length (setPort low (bodyTaken now low body d) d)) := rfl

theorem port_deliver (now : W64) (low : Nat) (body : List Byte) (d : Dev) :
    (deliver now low body d).port low = bodyTaken now low body d := by
  rw [deliver_eq, port_lnkCount]
  exact port_setPort_same low (bodyTaken now low body d) d

theorem deliver_alters (now : W64) {low : Nat} (body : List Byte) (d : Dev) (hl : low < 4096) :
    SoftAlters (CountWords (Page.lnk low)) [.lnk, .pmc] (InTables watchTable) d (deliver now low body d) := by
  rw [deliver_eq]
  exact ((SoftAlters.setPort _ _ d (by simp)).trans (.pmc _ _ (by simp))).trans (lnkCount_alters _ _ hl (by decide))

/-- The words of the lanes but for the one lane's own counters. -/
theorem rd_linkStat_count {lane l : Nat} {g : Fd} (d : Dev) (hl : lane < 4096) (hm : l < 4096) (hg : g.off = 0x10C) :
    rd (bump (Page.lnk lane) Reg.LNK_CNT 2 d) (Page.lnk l) g = rd d (Page.lnk l) g := by
  have htel : Page.lnk l ≠ Page.tel := fun h => by cases congrArg Page.blk h
  have hbase : Reg.LNK_CNT.off = 0x180 := rfl
  by_cases h : lane = l
  · subst h
    exact rd_bump_off _ _ _ d htel hl (by omega) (by omega) (by omega) (by omega)
  · exact rd_bump_page _ _ _ d htel (lnk_ne h) hl hm (by omega) (by omega)

/-- A count on a lane leaves what the link layer acts on: the port's service, and the lane's place in the stream. -/
theorem serves_count {lane low : Nat} (d : Dev) (hl : lane < 1088) (hlow : low < 1024) :
    carries (bump (Page.lnk lane) Reg.LNK_CNT 2 d) lane = carries d lane ∧
      receiving (bump (Page.lnk lane) Reg.LNK_CNT 2 d) low = receiving d low := by
  have hport : (bump (Page.lnk lane) Reg.LNK_CNT 2 d).port low = d.port low := by rw [Dev.port, bump, bumpN_lnk, Dev.port]
  have hstate (l : Nat) (hm : l < 4096) : linkState (bump (Page.lnk lane) Reg.LNK_CNT 2 d) l = linkState d l :=
    rd_linkStat_count d (by omega) hm rfl
  have hfor (h : lane < 1024) : rd (bump (Page.lnk lane) Reg.LNK_CNT 2 d) (Page.lnk (spareOf lane)) Reg.LNK_LINK_STAT_SPARE_FOR =
      rd d (Page.lnk (spareOf lane)) Reg.LNK_LINK_STAT_SPARE_FOR := rd_linkStat_count d (by omega) (spareOf_lt h) rfl
  constructor
  · unfold carries
    split
    next h => simp only [carrier, hstate _ (spareOf_lt h), hfor h]
    next => rw [hstate _ (by omega)]
  · simp only [receiving, portUp, departedOpen, hstate low (by omega), hport]

/-- A port that owes a NAK for the codeword it waits for, once more uncorrectable. -/
def nakOwing (p : Port) : Port := { p with nakOwed := true, nakTurn := false, rxNaks := p.rxNaks + 1 }

/-- An uncorrectable codeword below the retry limit is counted, and its NAK is owed. -/
theorem uncorrectable_eq {now : W64} {lane low : Nat} {d : Dev} (hl : lane < 1088) (hp : portOfLane d lane = low)
    (hlow : low < 1024) (hc : carries d lane = true) (hr : receiving d low = true) (hn : (d.port low).rxNaks < 7)
    (hi : inCircuit d low = false) :
    uncorrectable now lane d = setPort low (nakOwing (d.port low)) (bump (Page.lnk lane) Reg.LNK_CNT 2 d) := by
  have hcount : lnkCount lane 2 1 d = bump (Page.lnk lane) Reg.LNK_CNT 2 d := by
    refine lnkCount_one d fun h => ?_
    rw [portOfLane, if_pos h] at hp
    rw [hp, hi]
  obtain ⟨hc', hr'⟩ := serves_count d hl hlow
  have hport : (bump (Page.lnk lane) Reg.LNK_CNT 2 d).port low = d.port low := by rw [Dev.port, bump, bumpN_lnk, Dev.port]
  simp only [uncorrectable, hcount, hp, hc', hc, hr', hr, hport, Bool.and_self, Bool.not_true, Bool.false_eq_true, if_false]
  rw [if_neg (by omega)]
  rfl

theorem codewordsReceived : Claims.CodewordsReceived := by
  intro lane low s hl hp hlow hc hr
  refine ⟨fun cw seq hn hk => ⟨fun hseq => ?_, fun hseq => ?_⟩, fun hn hi => ?_⟩
  · have heq : dataCodeword s.now lane cw seq 0 s.dev = deliver s.now low cw.body s.dev := by
      rw [dataCodeword_clean hn hk hc (hp ▸ hr), hp, if_pos hseq]
    refine ⟨_, (exec_dataCodewordReceive lane cw seq 0 s).trans (effect_next _ _ _ (decide_eq_true hl)), ?_, ?_, ?_, ?_,
      SoftAlters.kept (f := dataCodeword s.now lane cw seq 0) (heq ▸ deliver_alters s.now cw.body s.dev (by omega))
        (fun _ _ hq => hq) (by decide)⟩ <;>
      rw [onDev_dev, heq, port_deliver, bodyTaken]
    · rw [List.map_append, cellsIn, List.map_map]
      rfl
    · rw [hseq]
  · have heq : dataCodeword s.now lane cw seq 0 s.dev = s.dev := by
      rw [dataCodeword_clean hn hk hc (hp ▸ hr), hp, if_neg hseq]
    rw [exec_dataCodewordReceive, effect_next (.dataCodewordReceive lane cw seq 0) _ _ (decide_eq_true hl), onDev, heq]
  · have heq : uncorrectable s.now lane s.dev =
        setPort low (nakOwing (s.dev.port low)) (bump (Page.lnk lane) Reg.LNK_CNT 2 s.dev) :=
      uncorrectable_eq hl hp hlow hc hr hn hi
    have halt : SoftAlters (CountWords (Page.lnk lane)) [.lnk] (InTables watchTable) s.dev (uncorrectable s.now lane s.dev) := by
      rw [heq]
      exact (SoftAlters.bump s.dev (by show lane < 4096; omega) (by decide) (by simp [CountWords]) (by simp [CountWords])).trans
        (.setPort _ _ _ (by simp))
    refine ⟨_, (exec_uncorrectableCodeword lane s).trans (effect_next _ _ _ (decide_eq_true hl)), ?_, ?_, ?_, ?_,
      halt.kept (f := uncorrectable s.now lane) (fun _ _ hq => hq) (by decide)⟩
    · rw [onDev_dev, heq, port_setPort_same, nakOwing]
    · rw [onDev_dev, heq, port_setPort_same, nakOwing]
    · rw [onDev_dev, heq, port_setPort_same, nakOwing]
    · rw [Counted, onDev_dev, heq]
      exact rd64_bump_counts _ _ _ s.dev (fun h => by cases congrArg Page.blk h) (by show lane < 4096; omega) (by decide)
        nofun

/-! #### Control items received (R106, R114, R116, R117) -/

/-- A CREDIT whose count has advanced. -/
theorem creditItem_advances {low value : Nat} {d : Dev} (ha : linkActive d low = true)
    (h1 : 1 ≤ (value % 2048 + 2048 - (d.port low).lastCredit.getD (value / 2048 % 16) 0) % 2048)
    (h2 : (value % 2048 + 2048 - (d.port low).lastCredit.getD (value / 2048 % 16) 0) % 2048 ≤ 1023) :
    creditItem low value d = setPort low { d.port low with
      allow := (d.port low).allow.set (value / 2048 % 16) ((d.port low).allow.getD (value / 2048 % 16) 0 +
        (value % 2048 + 2048 - (d.port low).lastCredit.getD (value / 2048 % 16) 0) % 2048)
      lastCredit := (d.port low).lastCredit.set (value / 2048 % 16) (value % 2048) } d := by
  simp only [creditItem, ha, Bool.not_true, Bool.false_eq_true, if_false]
  exact if_pos ⟨h1, h2⟩

/-- An ACK of outstanding codewords. -/
theorem ackItem_frees {now : W64} {low value n : Nat} {d : Dev} (ha : linkActive d low = true)
    (hn : n = (value + 1 + 32768 - (d.port low).ackNext) % 32768) (h1 : 1 ≤ n) (h2 : n ≤ (d.port low).replay.length) :
    ackItem now low value d = setPort low { ackTo (portWidth d low) n (d.port low) with ackTick := now.toNat } d := by
  subst hn
  simp only [ackItem, ha, Bool.not_true, Bool.false_eq_true, if_false]
  exact if_pos ⟨h1, h2⟩

/-- The port after a NAK: its replay starts with the period that holds the number, for the `count`th time. -/
def nakTaken (w value k count : Nat) (p : Port) : Port :=
  { p with replayAt := some (p.ackHeld.length + k - value % w), nakSeq := value, nakCount := count, txLane := 0 }

/-- A NAK below the retry limit, with no replay under way. -/
theorem nakItem_starts {now : W64} {low value k : Nat} {d : Dev} (ha : linkActive d low = true)
    (hk : (d.port low).replay.findIdx? (fun cw => cw.seq == value) = some k) (hr : (d.port low).replayAt = none)
    (hc : (d.port low).nakSeq = value → (d.port low).nakCount < 7) :
    ∃ count, nakItem now low value d = setPort low (nakTaken (portWidth d low) value k count (d.port low)) d := by
  have hlimit : (if (d.port low).nakSeq = value ∧ 0 < (d.port low).nakCount then (d.port low).nakCount + 1 else 1) < 8 := by
    split
    next h => have := hc h.1; omega
    next => decide
  simp only [nakItem, ha, hk, hr, Bool.not_true, Bool.false_eq_true, if_false]
  rw [if_neg fun h => absurd h.1 (Nat.not_le.2 hlimit)]
  exact ⟨_, rfl⟩

/-- What a port's time without an ACK leaves (R117). -/
theorem ackTimeout_searches {now : W64} {low : Nat} {d : Dev} (hp : isPort d low = true) (hu : portUp d low = true)
    (hi : inCircuit d low = false) (hr : (d.port low).replay ≠ []) (he : elapsed now (d.port low).ackTick 16000 = true) :
    ackTimeout now low d = startSearch now low 0x0C (hwErr (Page.lnk low) 16 0x0C d) := by
  simp only [ackTimeout, hp, hu, hi, he, Bool.not_false, Bool.and_self, List.isEmpty_eq_false_iff.2 hr, if_true,
    retryLimit]

theorem controlItems : Claims.ControlItems := by
  intro lane low s hl hp hlow hc ha
  have hcarry (f : Nat → Dev → Dev) : doIf (carries s.dev lane) (f (portOfLane s.dev lane)) s.dev = f low s.dev := by
    rw [hc, hp, doIf_true]
  refine ⟨fun value vc diff hvc hallow hlast hdiff h1 h2 => ?_, fun value n hn h1 h2 => ?_,
    fun value k hk hr hcount => ?_, fun hu hi hr he => ?_⟩
  · subst hvc hdiff
    have heq := (hcarry fun low => creditItem low value).trans (creditItem_advances ha h1 h2)
    refine ⟨_, (exec_credit lane value s).trans (effect_next _ _ _ (decide_eq_true hl)), ?_, fun v hv => ?_, ?_,
      SoftAlters.kept (W := NoWords) (f := fun d => doIf (carries d lane) (creditItem (portOfLane d lane) value) d)
        (heq ▸ .setPort _ _ _ (by simp)) (fun _ _ hq => hq.elim) (by simp)⟩ <;>
      rw [onDev_dev, heq, port_setPort_same]
    · simp [hallow]
    · simp [List.getD_eq_getElem?_getD, List.getElem?_set_ne (Ne.symm hv)]
    · simp [hlast]
  · have heq := (hcarry fun low => ackItem s.now low value).trans (ackItem_frees ha hn h1 h2)
    refine ⟨_, (exec_ack lane value s).trans (effect_next _ _ _ (decide_eq_true hl)), ?_, ?_, ?_,
      SoftAlters.kept (W := NoWords) (f := fun d => doIf (carries d lane) (ackItem s.now (portOfLane d lane) value) d)
        (heq ▸ .setPort _ _ _ (by simp)) (fun _ _ hq => hq.elim) (by simp)⟩ <;>
      rw [onDev_dev, heq, port_setPort_same]
    · rfl
    · show ((s.dev.port low).ackNext + n) % 32768 = (value + 1) % 32768
      omega
  · obtain ⟨count, hnak⟩ := nakItem_starts (now := s.now) ha hk hr hcount
    have heq := (hcarry fun low => nakItem s.now low value).trans hnak
    refine ⟨_, (exec_nak lane value s).trans (effect_next _ _ _ (decide_eq_true hl)), ?_, ?_, ?_,
      SoftAlters.kept (W := NoWords) (f := fun d => doIf (carries d lane) (nakItem s.now (portOfLane d lane) value) d)
        (heq ▸ .setPort _ _ _ (by simp)) (fun _ _ hq => hq.elim) (by simp)⟩ <;>
      rw [onDev_dev, heq, port_setPort_same, nakTaken]
  · have hport : isPort s.dev low = true := (Bool.and_eq_true _ _ ▸ ha).1
    have heq := ackTimeout_searches hport hu hi hr he
    refine ⟨_, (exec_ackTimeout low s).trans (effect_next _ _ _ (decide_eq_true hlow)), ?_, ?_, ?_, coreKept_onDev ..⟩ <;>
      rw [onDev_dev, heq]
    · exact linkState_startSearch _ _ _ hlow
    · exact downReason_startSearch _ _ hlow (by decide)
    · rw [rdWord_startSearch _ _ _ hlow (by decide), rdWord_takeTo _ _ hlow (by decide) (by decide) (by decide)]
      exact setErrs_bit _ _ _ _ _ _ (by decide)

/-- Settles O23: each codeword and each item is one change of the port's record, and a count. -/
theorem codewordsCross : Obligations.CodewordsCross := ⟨codewordsSent, codewordsReceived, controlItems⟩

end Sys2Proof.Machine

/-! ### Lanes repaired by the spare (R118 to R121) -/

namespace Sys2Proof.Machine

/-! #### The records of a repair -/

section

variable (b : Nat) (d : Dev)

@[simp] theorem repairOf_setRepair (r : Option Repair) : repairOf (setRepair b r d) b = r := sget_sset_same ..

@[simp] theorem repairOf_oweRepair (c v : Nat) : repairOf (oweRepair c v d) b = repairOf d b := rfl

@[simp] theorem repairOf_setOwnFailed (lane : Nat) (v : Bool) : repairOf (setOwnFailed lane v d) b = repairOf d b := rfl

@[simp] theorem repairItem_oweRepair (v : Nat) : sget (konst 0) (oweRepair b v d).lnk.repairItem b = v + 1 := sget_sset_same ..

/-- A repair's records are in the links' record alone. -/
theorem setRepair_alters {W : Page → Nat → Prop} {P : List Part} {T : Nat → Prop} (r : Option Repair) (h : .lnk ∈ P) :
    SoftAlters W P T d (setRepair b r d) := .lnk _ d h

theorem oweRepair_alters {W : Page → Nat → Prop} {P : List Part} {T : Nat → Prop} (v : Nat) (h : .lnk ∈ P) :
    SoftAlters W P T d (oweRepair b v d) := .lnk _ d h

theorem setOwnFailed_alters {W : Page → Nat → Prop} {P : List Part} {T : Nat → Prop} (lane : Nat) (v : Bool) (h : .lnk ∈ P) :
    SoftAlters W P T d (setOwnFailed lane v d) := .lnk _ d h

end

theorem lowestLane_le (d : Dev) (lane : Nat) : lowestLane d lane ≤ lane := Nat.sub_le ..

/-! #### A repair begins, or the port fails (R118, R119) -/

/-- A trigger of lane failure, with the reason it gives (R118, R496). -/
def Triggers (c : Instr) (lane reason : Nat) (d : Dev) : Prop :=
  (c = .noLight lane ∧ reason = 2) ∨ (c = .lockLost lane ∧ reason = 3) ∨
    (c = .spareThreshExceeded lane ∧ reason = 0x11 ∧ rd d (Page.lnk lane) Reg.LNK_SPARE_THRESH_UCW ≠ 0)

/-- Each trigger is the failure of its lane, with a reason of its own. -/
theorem exec_trigger {c : Instr} {lane reason : Nat} {s : State} (hl : lane < 1024) (h : Triggers c lane reason s.dev) :
    exec c s = .next (onDev (laneFail s.now lane reason) s) ∧ reason < 256 ∧ reason ≠ 0x0B := by
  have hlane : lane < 1088 := by omega
  rcases h with ⟨rfl, rfl⟩ | ⟨rfl, rfl⟩ | ⟨rfl, rfl, hth⟩
  · exact ⟨(exec_noLight lane s).trans (effect_next _ _ _ (decide_eq_true hlane)), by decide, by decide⟩
  · exact ⟨(exec_lockLost lane s).trans (effect_next _ _ _ (decide_eq_true hlane)), by decide, by decide⟩
  · refine ⟨((exec_spareThreshExceeded lane s).trans (effect_next _ _ _ (decide_eq_true hlane))).trans ?_, by decide, by decide⟩
    rw [onDev, onDev, threshExceeded, if_neg hth]

/-- The conditions of R118, R122 and R221 under which a failed lane of an UP port is acted on. -/
theorem laneFail_acts {now : W64} {lane reason : Nat} {d : Dev} (hl : lane < 1024)
    (hu : portUp d (lowestLane d lane) = true) (hh : heldOff d (lane / 128) = false) (hi : inCircuit d (lowestLane d lane) = false)
    (ho : sget (konst false) d.lnk.ownFailed lane = false) :
    laneFail now lane reason d =
      if rdBit d (Page.lnk lane) Reg.LNK_LNK_CTL_SPARE_AUTO = false then portFailed now (lowestLane d lane) reason d
      else if (repairOf d (lane / 16)).isNone && decide (linkState d (spareOf lane) = lsSpareIdle) then
        requestRepair now (lane / 16) (lane % 16) (setOwnFailed lane true d)
      else portFailed now (lowestLane d lane) 0x0B d := by
  simp only [laneFail, hl, hu, hh, hi, ho, if_true, Bool.not_true, Bool.or_self, Bool.false_eq_true, if_false,
    Bool.not_eq_true']

/-- The neighbour's request for a lane of an UP port whose spare is idle is accepted. -/
theorem repairRequest_accepts {now : W64} {lane : Nat} {d : Dev} (hu : portUp d (lowestLane d lane) = true)
    (ha : rdBit d (Page.lnk lane) Reg.LNK_LNK_CTL_SPARE_AUTO = true)
    (hr : repairOf d (lane / 16) = none) (hs : linkState d (spareOf lane) = lsSpareIdle) :
    repairRequest now (lane / 16) (lane % 16) d = oweRepair (lane / 16) (repairValue 1 0 (lane % 16))
      (setOwnFailed lane true (setRepair (lane / 16)
        (some { laneIdx := lane % 16, attempt := 1, accepted := true, switched := false, startTick := now.toNat }) d)) := by
  have hlane : 16 * (lane / 16) + lane % 16 = lane := Nat.div_add_mod lane 16
  have haccept : repairRefusal d (lane / 16) (lane % 16) = none := by
    have hstate : linkState d (1024 + lane / 16) = lsSpareIdle := hs
    have hidle : ¬(lsSpareIdle = lsSearch ∨ lsSpareIdle = lsTrain ∨ lsSpareIdle = lsIdentify) := by decide
    simp only [repairRefusal, hlane, hu, hstate, hr, hidle]
    simp [Nat.mod_lt]
  simp only [repairRequest, hr, Bool.false_eq_true, if_false]
  rw [if_neg fun h => by rw [hlane, ha] at h; exact absurd h.2.2 (by decide), haccept, hlane]

theorem laneRepairBegins : Claims.LaneRepairBegins := by
  intro c lane reason s hl hc hu
  obtain ⟨hexec, hlt, hne⟩ := exec_trigger hl hc
  refine ⟨fun ha hr hs => ⟨fun hh hi ho => ?_, ?_⟩, fun ha hh hi ho => ?_⟩
  · have heq : laneFail s.now lane reason s.dev =
        requestRepair s.now (lane / 16) (lane % 16) (setOwnFailed lane true s.dev) := by
      rw [laneFail_acts hl hu hh hi ho, if_neg (by simp [ha]), if_pos (by simp [hr, hs])]
    have halt : SoftAlters NoWords [.lnk] (InTables []) s.dev (laneFail s.now lane reason s.dev) := by
      rw [heq]
      exact ((setOwnFailed_alters _ _ _ (by simp)).trans (setRepair_alters _ _ _ (by simp))).trans
        (oweRepair_alters _ _ _ (by simp))
    refine ⟨_, hexec, ?_, ?_, halt.kept (f := laneFail s.now lane reason) (fun _ _ hq => hq.elim) (by simp)⟩ <;>
      rw [onDev_dev, heq, requestRepair]
    · rw [repairOf_oweRepair, repairOf_setRepair]
    · exact repairItem_oweRepair ..
  · have heq := repairRequest_accepts (now := s.now) hu ha hr hs
    have halt : SoftAlters NoWords [.lnk] (InTables []) s.dev (repairRequest s.now (lane / 16) (lane % 16) s.dev) := by
      rw [heq]
      exact ((setRepair_alters _ _ _ (by simp)).trans (setOwnFailed_alters _ _ _ (by simp))).trans
        (oweRepair_alters _ _ _ (by simp))
    have hwf : (decide (lane / 16 < 64) && decide (lane % 16 < 16)) = true := by
      rw [Bool.and_eq_true, decide_eq_true_eq, decide_eq_true_eq]
      omega
    refine ⟨_, (exec_repairRequest _ _ s).trans (effect_next _ _ _ hwf), ?_, ?_,
      halt.kept (f := repairRequest s.now (lane / 16) (lane % 16)) (fun _ _ hq => hq.elim) (by simp)⟩ <;>
      rw [onDev_dev, heq]
    · rw [repairOf_oweRepair, repairOf_setOwnFailed, repairOf_setRepair]
    · exact repairItem_oweRepair ..
  · have hlow : lowestLane s.dev lane < 1024 := (lowestLane_le s.dev lane).trans_lt hl
    have heq : laneFail s.now lane reason s.dev = takeTo s.now (lowestLane s.dev lane) lsFailed reason s.dev := by
      rw [laneFail_acts hl hu hh hi ho, if_pos ha, portFailed]
      exact if_neg hne
    refine ⟨_, hexec, ?_, ?_, coreKept_onDev ..⟩ <;> rw [onDev_dev, heq]
    · exact linkState_takeTo _ _ hlow (by decide)
    · exact downReason_takeTo _ _ hlow hlt

/-! #### A repair goes on (R118 to R120, R452) -/

/-- An event logged, whether its unit has an entry within 10 ms or not (R453). -/
theorem faultLog_alters (now : W64) {f : FaultRec} (d : Dev) (hl : f.level < 4) :
    Alters (fun q _ => q ∈ [Page.pkg, Page.mgt, Page.tel]) [.mgt, .rst] AnyEntry d (faultLog now f d) := by
  have hentry : Alters (fun q _ => q ∈ [Page.pkg, Page.mgt, Page.tel]) [.mgt, .rst] AnyEntry d (faultEntry now f d) := by
    have hbump : Alters (fun q _ => q = Page.pkg ∨ q = Page.tel) [.mgt, .rst] (InTables watchTable) (entryWritten now f d)
        (bump Page.pkg Reg.PKG_CNT (6 + f.level) (entryWritten now f d)) :=
      bump_alters _ (by decide) (by show 0x180 + 8 * (6 + f.level) + 4 < 4096; omega)
    rw [faultEntry_eq]
    exact (((entryWritten_alters now f d (P := [.mgt, .rst]) (by simp)).mono (fun q a (hq : q = Page.pkg) => by simp [hq])
      (fun _ => id) fun _ _ => trivial).trans (hbump.mono (fun q a hq => by rcases hq with rfl | rfl <;> simp) (fun _ => id)
        fun _ _ => trivial)).trans ((journalAdd_alters ..).mono (fun q a hq => by rcases hq with rfl | rfl <;> simp) (by simp)
        fun _ _ => trivial)
  have hrepeat (i : Nat) : Alters (fun q _ => q ∈ [Page.pkg, Page.mgt, Page.tel]) [.mgt, .rst] AnyEntry d (faultRepeat i d) :=
    (SoftAlters.tset ..).toAlters
  unfold faultLog
  extract_lets last d1
  refine Alters.trans (d' := d1) ?_ (.raiseIrq 17 d1 (by decide) (by simp))
  simp only [d1]
  split
  · exact hrepeat _
  · exact hentry

/-- The position of the lane moved to the spare (R118, R120). -/
def spareTakes (b idx : Nat) (d : Dev) : Dev :=
  setLinkState (1024 + b) lsUp (wr (Page.lnk (1024 + b)) Reg.LNK_LINK_STAT_SPARE_FOR idx d)

/-- The failed lane shows FAILED, but for the port's lowest, which shows the port's own state. -/
def laneLeft (lane low : Nat) (d : Dev) : Dev := if lane = low then d else setLinkState lane lsFailed d

theorem laneSwitch_eq {b : Nat} {r : Repair} {d : Dev} (hr : repairOf d b = some r) (ha : r.accepted = true)
    (hs : r.switched = false) :
    laneSwitch b d = setRepair b (some { r with switched := true }) (setOwnFailed (16 * b + r.laneIdx) true
      (laneLeft (16 * b + r.laneIdx) (lowestLane d (16 * b + r.laneIdx)) (spareTakes b r.laneIdx d))) := by
  simp only [laneSwitch, hr, ha, hs, Bool.not_false, Bool.and_self, if_true]
  rfl

/-- The repair over: its record gone, a NAK owed for the first codeword lost (R120). -/
def repairOver (b low : Nat) (d : Dev) : Dev :=
  raiseIrq (Page.lnk (1024 + b)) 18 (updPort low (fun p => { p with nakOwed := true, nakTurn := false }) (setRepair b none d))

/-- The repair's event in the log (R452). -/
def repairEvent (now : W64) (lane : Nat) (r : Repair) : FaultRec :=
  { level := lvBlock, action := acSpare, page := Page.lnk lane, unit := r.laneIdx, cls := 0, detail := 0,
    recover := ticksSince now r.startTick / 160 }

theorem spareDeskew_eq {now : W64} {b : Nat} {r : Repair} {d : Dev} (hr : repairOf d b = some r) (hs : r.switched = true) :
    spareDeskew now b d = faultLog now (repairEvent now (16 * b + r.laneIdx) r)
      (repairOver b (lowestLane d (16 * b + r.laneIdx)) d) := by
  simp only [spareDeskew, hr, hs, if_true]
  rfl

/-- What the switch to the spare leaves. -/
theorem laneSwitch_moves {b : Nat} {r : Repair} {s : State} (hb : b < 64) (hi : r.laneIdx < 16)
    (hr : repairOf s.dev b = some r) (ha : r.accepted = true) (hs : r.switched = false) :
    linkState (laneSwitch b s.dev) (1024 + b) = lsUp ∧
      rd (laneSwitch b s.dev) (Page.lnk (1024 + b)) Reg.LNK_LINK_STAT_SPARE_FOR = r.laneIdx ∧
      repairOf (laneSwitch b s.dev) b = some { r with switched := true } ∧
      Kept [.lnk] [] [Page.lnk (1024 + b), Page.lnk (16 * b + r.laneIdx)] s (onDev (laneSwitch b) s) := by
  have hne : 16 * b + r.laneIdx ≠ 1024 + b := by omega
  have hlane : 16 * b + r.laneIdx < 4096 := by omega
  have hleft (d : Dev) (g : Fd) (hg : g.good = true) : rd (laneLeft (16 * b + r.laneIdx)
      (lowestLane s.dev (16 * b + r.laneIdx)) d) (Page.lnk (1024 + b)) g = rd d (Page.lnk (1024 + b)) g := by
    unfold laneLeft
    split
    · rfl
    · exact rd_wr_page _ _ _ _ (lnk_ne hne) hlane (by show 1024 + b < 4096; omega) rfl hg
  have halt : SoftAlters (fun q _ => q ∈ [Page.lnk (1024 + b), Page.lnk (16 * b + r.laneIdx)]) [.lnk] (InTables []) s.dev
      (laneSwitch b s.dev) := by
    rw [laneSwitch_eq hr ha hs]
    have hspare : SoftAlters (fun q _ => q ∈ [Page.lnk (1024 + b), Page.lnk (16 * b + r.laneIdx)]) [.lnk] (InTables []) s.dev
        (spareTakes b r.laneIdx s.dev) :=
      SoftAlters.trans (.wr _ _ (by show 1024 + b < 4096; omega) (by decide) (by simp))
        (.wr _ _ (by show 1024 + b < 4096; omega) (by decide) (by simp))
    refine (hspare.trans ?_).trans ((setOwnFailed_alters _ _ _ (by simp)).trans (setRepair_alters _ _ _ (by simp)))
    unfold laneLeft
    split
    · exact .refl _
    · exact .wr _ _ hlane (by decide) (by simp)
  refine ⟨?_, ?_, ?_, halt.kept (f := laneSwitch b) (fun _ _ hq => hq) (by simp)⟩ <;> rw [laneSwitch_eq hr ha hs]
  · exact (hleft _ _ rfl).trans (linkState_setLinkState_same _ (by decide))
  · exact ((hleft _ _ rfl).trans (rd_wr_apart _ _ _ rfl rfl rfl)).trans (rd_wr_fits _ _ _ _ rfl hi)
  · exact repairOf_setRepair ..

/-- What the end of the spare's deskew leaves. -/
theorem spareDeskew_ends {now : W64} {b : Nat} {r : Repair} {d : Dev} (hb : b < 64) (hr : repairOf d b = some r)
    (hs : r.switched = true) :
    repairOf (spareDeskew now b d) b = none ∧
      ((spareDeskew now b d).port (lowestLane d (16 * b + r.laneIdx))).nakOwed = true ∧
      (rdWord (spareDeskew now b d) (Page.lnk (1024 + b)) 0x010).getLsbD 18 = true ∧
      Alters (fun q _ => q ∈ [Page.lnk (1024 + b), Page.pkg, Page.mgt, Page.tel]) [.lnk, .mgt, .rst] AnyEntry d
        (spareDeskew now b d) := by
  have hinst : (Page.lnk (1024 + b)).inst < 4096 := by show 1024 + b < 4096; omega
  have hover : Alters (fun q _ => q ∈ [Page.lnk (1024 + b), Page.pkg, Page.mgt, Page.tel]) [.lnk, .mgt, .rst] AnyEntry d
      (repairOver b (lowestLane d (16 * b + r.laneIdx)) d) :=
    (((setRepair_alters _ _ _ (by simp)).trans (.updPort _ _ _ (by simp))).trans (.raiseIrq _ _ hinst (by simp))).toAlters
  have hlog : Alters (fun q _ => q ∈ [Page.pkg, Page.mgt, Page.tel]) [.mgt, .rst] AnyEntry
      (repairOver b (lowestLane d (16 * b + r.laneIdx)) d) (spareDeskew now b d) := by
    rw [spareDeskew_eq hr hs]
    exact faultLog_alters now _ (by decide : lvBlock < 4)
  have hlnk : (spareDeskew now b d).lnk = (repairOver b (lowestLane d (16 * b + r.laneIdx)) d).lnk :=
    hlog.part .lnk (by simp)
  refine ⟨?_, ?_, ?_, hover.trans (hlog.mono (fun q _ hq => .tail _ hq) (by simp) fun _ => id)⟩
  · rw [repairOf, hlnk, repairOver, raiseIrq_lnk]
    exact repairOf_setRepair b d none
  · rw [Dev.port, hlnk, ← Dev.port, repairOver, port_raiseIrq, port_updPort_same]
  · rw [hlog.word _ _ hinst (by decide) (by simp [Page.lnk, Page.pkg, Page.mgt, Page.tel])]
    exact raiseIrq_bit _ _ _ (by decide)

theorem laneRepairEnds : Claims.LaneRepairEnds := by
  intro b r s hb hi hr
  have hwf : (decide (b < 64) && decide (r.laneIdx < 16)) = true := by simp [hb, hi]
  refine ⟨?_, fun ha hn => ⟨?_, ?_⟩, fun ha hs => ?_, fun hs => ?_⟩
  · have heq : repairAccept b r.laneIdx s.dev = setRepair b (some { r with accepted := true }) s.dev := by
      simp [repairAccept, hr]
    refine ⟨_, (exec_repairAccept b r.laneIdx s).trans (effect_next _ _ _ hwf), ?_,
      SoftAlters.kept (W := NoWords) (f := repairAccept b r.laneIdx) (heq ▸ setRepair_alters _ _ _ (by simp))
        (fun _ _ hq => hq.elim) (by simp)⟩
    rw [onDev_dev, heq, repairOf_setRepair]
  · have hlow : lowestLane s.dev (16 * b + r.laneIdx) < 4096 := (lowestLane_le ..).trans_lt (by omega)
    have heq : repairRefuse s.now b r.laneIdx 1 s.dev = hwErr (Page.lnk (lowestLane s.dev (16 * b + r.laneIdx))) 18
        (downReason s.dev (lowestLane s.dev (16 * b + r.laneIdx))) s.dev := by
      simp only [repairRefuse, hr]
      exact (if_pos ⟨trivial, ha⟩).trans (if_pos ⟨trivial, hn⟩)
    have halt : SoftAlters (fun q _ => q ∈ [Page.lnk (lowestLane s.dev (16 * b + r.laneIdx))]) [] (InTables []) s.dev
        (repairRefuse s.now b r.laneIdx 1 s.dev) := by
      rw [heq]
      exact .setErrs _ _ _ _ _ hlow (by simp)
    refine ⟨_, (exec_repairRefuse b r.laneIdx 1 s).trans (effect_next _ _ _ hwf), ?_, ?_,
      halt.kept (f := repairRefuse s.now b r.laneIdx 1) (fun _ _ hq => hq) (by simp)⟩
    · rw [onDev_dev, heq, repairOf, hwErr_lnk]
      exact hr
    · rw [onDev_dev, heq]
      exact setErrs_bit _ _ _ _ _ _ (by decide)
  · have heq : repairTimeout s.now b s.dev =
        oweRepair b (repairValue 0 0 r.laneIdx) (setRepair b (some { r with attempt := 2 }) s.dev) := by
      simp [repairTimeout, hr, ha, hn]
    refine ⟨_, (exec_repairAnswerTimeout b s).trans (effect_next _ _ _ (decide_eq_true hb)), ?_, ?_,
      SoftAlters.kept (W := NoWords) (f := repairTimeout s.now b)
        (heq ▸ (setRepair_alters _ _ _ (by simp)).trans (oweRepair_alters _ _ _ (by simp))) (fun _ _ hq => hq.elim) (by simp)⟩ <;>
      rw [onDev_dev, heq]
    · rw [repairOf_oweRepair, repairOf_setRepair]
    · exact repairItem_oweRepair ..
  · obtain ⟨hstate, hfor, hrec, hkept⟩ := laneSwitch_moves hb hi hr ha hs
    exact ⟨_, (exec_laneSwitch b s).trans (effect_next _ _ _ (decide_eq_true hb)), hstate, hfor, hrec, hkept⟩
  · obtain ⟨hrec, hnak, hirq, halt⟩ := spareDeskew_ends (now := s.now) hb hr hs
    exact ⟨_, (exec_spareDeskewDone b s).trans (effect_next _ _ _ (decide_eq_true hb)), hrec, hnak, hirq, coreKept_onDev ..,
      halt.partsKept (f := spareDeskew s.now b), halt.pagesKept (f := spareDeskew s.now b) fun _ _ hq => hq⟩

/-- Settles O24: what a repair's events write is its own records, and the LINK_STAT of the lane and of the spare. -/
theorem lanesRepaired : Obligations.LanesRepaired := ⟨laneRepairBegins, laneRepairEnds⟩

end Sys2Proof.Machine

/-! ### Laser modules (R125 to R131) -/

namespace Sys2Proof.Machine

/-! #### A module, its partner and their tile (R38) -/

theorem partner_lt {m : Nat} (h : m < 16) : partner m < 16 := by
  unfold partner
  split <;> omega

theorem partner_ne (m : Nat) : partner m ≠ m := by
  unfold partner
  split <;> omega

theorem tileOfModule_lt {m : Nat} (h : m < 16) : tileOfModule m < 8 := by
  unfold tileOfModule
  omega

/-- The two modules of a tile are a module and its partner. -/
theorem modules_of_tile (m : Nat) : (2 * tileOfModule m = m ∧ 2 * tileOfModule m + 1 = partner m) ∨
    (2 * tileOfModule m = partner m ∧ 2 * tileOfModule m + 1 = m) := by
  unfold tileOfModule partner
  split <;> omega

theorem laser_inst {m : Nat} (h : m < 16) : (Page.laser m).inst < 4096 := by
  show 8 + m < 4096
  omega

theorem tile_inst {t : Nat} (h : t < 8) : (Page.tile t).inst < 4096 := by
  show t < 4096
  omega

theorem laser_ne {l m : Nat} (h : l ≠ m) : Page.laser l ≠ Page.laser m := fun he => by
  have hinst : 8 + l = 8 + m := congrArg Page.inst he
  omega

theorem tile_ne_laser {t : Nat} (h : t < 8) (m : Nat) : Page.laser m ≠ Page.tile t := fun he => by
  have hinst : 8 + m = t := congrArg Page.inst he
  omega

/-! #### What the operations on a module alter -/

/-- Words of the pages listed. -/
def InPages (ps : List Page) (q : Page) (_ : Nat) : Prop := q ∈ ps

section

variable {ps : List Page} {P : List Part} {T : Nat → Prop} {m : Nat} (d : Dev)

theorem updLaser_alters {W : Page → Nat → Prop} (f : Laser → Laser) (hP : .lnk ∈ P) : SoftAlters W P T d (updLaser m f d) :=
  .lnk _ d hP

theorem laserWr_alters {f : Fd} (v : Nat) (hm : m < 16) (hf : f.off < 4096) (hp : Page.laser m ∈ ps) :
    SoftAlters (InPages ps) P T d (wr (Page.laser m) f v d) := .wr v d (laser_inst hm) hf hp

theorem setLsrState_alters (st : Nat) (hm : m < 16) (hp : Page.laser m ∈ ps) :
    SoftAlters (InPages ps) P T d (setLsrState m st d) := laserWr_alters d st hm (by decide) hp

theorem setOutput_alters (now : W64) (pct : Nat) (hm : m < 16) (hp : Page.laser m ∈ ps) (hP : .lnk ∈ P) :
    SoftAlters (InPages ps) P T d (setOutput now m pct d) :=
  (laserWr_alters d pct hm (by decide) hp).trans (updLaser_alters _ _ hP)

theorem laserIrq_alters (bit : Nat) (hm : m < 16) (hp : Page.laser m ∈ ps) :
    SoftAlters (InPages ps) P T d (raiseIrq (Page.laser m) bit d) := .raiseIrq bit d (laser_inst hm) hp

theorem syncTile_alters {t : Nat} (ht : t < 8) (hp : Page.tile t ∈ ps) : SoftAlters (InPages ps) P T d (syncTile t d) := by
  unfold syncTile
  extract_lets p a b lit dim d1 d2
  have h1 : SoftAlters (InPages ps) P T d d1 :=
    SoftAlters.trans (.wr _ d (tile_inst ht) (by decide) hp) (.wrBit _ _ (tile_inst ht) (by decide) hp)
  have hirq (bit : Nat) (e : Dev) : SoftAlters (InPages ps) P T e (raiseIrq p bit e) := .raiseIrq bit e (tile_inst ht) hp
  exact (h1.trans (.doIf _ _ (hirq 16))).trans (.doIf _ _ (hirq 17))

end

/-! #### What they show: the modules' records, states and outputs -/

section

variable {m x : Nat} (d : Dev)

@[simp] theorem laserRec_setLsrState (st : Nat) : (setLsrState m st d).laserRec x = d.laserRec x := rfl

@[simp] theorem laserRec_raiseIrq (p : Page) (bit : Nat) : (raiseIrq p bit d).laserRec x = d.laserRec x := by
  rw [Dev.laserRec, raiseIrq_lnk, Dev.laserRec]

theorem syncTile_lnk {t : Nat} (ht : t < 8) : (syncTile t d).lnk = d.lnk :=
  (syncTile_alters (P := []) (T := NoEntry) d ht (.head [])).part .lnk (by simp)

theorem laserRec_syncTile {t : Nat} (ht : t < 8) : (syncTile t d).laserRec x = d.laserRec x := by
  rw [Dev.laserRec, syncTile_lnk d ht, Dev.laserRec]

theorem laserRec_setOutput_same (now : W64) (pct : Nat) : (setOutput now m pct d).laserRec m =
    { d.laserRec m with setpoint := pct, outSum := outGrown now d m, outTick := now.toNat } := laserRec_updLaser_same ..

theorem laserRec_setOutput_ne (now : W64) (pct : Nat) (h : m ≠ x) : (setOutput now m pct d).laserRec x = d.laserRec x :=
  laserRec_updLaser_ne _ _ h

@[simp] theorem lsrState_updLaser (f : Laser → Laser) : lsrState (updLaser m f d) x = lsrState d x := rfl

theorem lsrState_setLsrState_same {st : Nat} (h : st < 16) : lsrState (setLsrState m st d) m = st := rd_wr_fits _ _ _ _ rfl h

theorem lsrState_setLsrState_ne (st : Nat) (h : m ≠ x) (hm : m < 16) (hx : x < 16) :
    lsrState (setLsrState m st d) x = lsrState d x := rd_wr_page _ _ _ _ (laser_ne h) (laser_inst hm) (laser_inst hx) rfl rfl

theorem lsrState_setOutput (now : W64) (pct : Nat) (hm : m < 16) (hx : x < 16) :
    lsrState (setOutput now m pct d) x = lsrState d x :=
  rd_wr_apart_any _ d (laser_inst hm) (laser_inst hx) rfl rfl rfl

theorem lsrOutput_setOutput_same (now : W64) {pct : Nat} (h : pct < 256) : lsrOutput (setOutput now m pct d) m = pct :=
  rd_wr_fits _ _ _ _ rfl h

theorem lsrOutput_setOutput_ne (now : W64) (pct : Nat) (h : m ≠ x) (hm : m < 16) (hx : x < 16) :
    lsrOutput (setOutput now m pct d) x = lsrOutput d x :=
  rd_wr_page _ _ _ _ (laser_ne h) (laser_inst hm) (laser_inst hx) rfl rfl

theorem lsrOutput_setLsrState (st : Nat) (hm : m < 16) (hx : x < 16) :
    lsrOutput (setLsrState m st d) x = lsrOutput d x :=
  rd_wr_apart_any _ d (laser_inst hm) (laser_inst hx) rfl rfl rfl

/-- A field of a module other than PAGE_IRQ stands when an interrupt of any module is set. -/
theorem rd_laserIrq {g : Fd} (bit : Nat) (hm : m < 16) (hx : x < 16) (hg : g.off < 4096) (hi : g.off ≠ 0x010) :
    rd (raiseIrq (Page.laser m) bit d) (Page.laser x) g = rd d (Page.laser x) g := by
  by_cases h : m = x
  · subst h
    exact rd_raiseIrq_off _ _ _ _ hi
  · exact rd_raiseIrq_page _ _ _ (laser_ne h) (laser_inst hm) (laser_inst hx) hg

/-- The modules' words stand when the tile shows how they stand. -/
theorem rdWord_syncTile {t a : Nat} (ht : t < 8) (hx : x < 16) (ha : a < 4096) :
    rdWord (syncTile t d) (Page.laser x) a = rdWord d (Page.laser x) a :=
  (syncTile_alters (P := []) (T := NoEntry) d ht (.head [])).word _ _ (laser_inst hx) ha
    fun hq => tile_ne_laser ht x (List.mem_singleton.1 hq)

theorem rd_syncTile {t : Nat} {g : Fd} (ht : t < 8) (hx : x < 16) (hg : g.off < 4096) :
    rd (syncTile t d) (Page.laser x) g = rd d (Page.laser x) g := by rw [rd, rdWord_syncTile d ht hx hg, rd]

theorem lsrState_syncTile {t : Nat} (ht : t < 8) (hx : x < 16) : lsrState (syncTile t d) x = lsrState d x :=
  rd_syncTile d ht hx (by decide)

theorem lsrOutput_syncTile {t : Nat} (ht : t < 8) (hx : x < 16) : lsrOutput (syncTile t d) x = lsrOutput d x :=
  rd_syncTile d ht hx (by decide)

/-- LIT of a tile whose modules both give light. -/
theorem rd_syncTile_lit {t : Nat} (ha : lsrLit d (2 * t) = true) (hb : lsrLit d (2 * t + 1) = true) :
    rd (syncTile t d) (Page.tile t) Reg.OPT_TILE_STAT_LIT = 3 := by
  have hirq (c : Bool) (bit : Nat) (e : Dev) : rd (doIf c (raiseIrq (Page.tile t) bit) e) (Page.tile t) Reg.OPT_TILE_STAT_LIT =
      rd e (Page.tile t) Reg.OPT_TILE_STAT_LIT := doIf_keeps (fun e => rd e (Page.tile t) Reg.OPT_TILE_STAT_LIT) c _
    (fun e => rd_raiseIrq_off _ _ _ e (by decide)) e
  simp only [syncTile, ha, hb, if_true]
  rw [hirq, hirq, wrBit_eq, rd_wr_apart _ _ _ rfl rfl rfl]
  exact rd_wr_fits _ _ _ _ rfl (by decide)

end

/-- A 64-bit register reads what it was written with, modulo its width. -/
theorem rd64_wr64 (p : Page) (f : Fd) (v : Nat) (d : Dev) : rd64 (wr64 p f v d) p f = v % 2 ^ 64 := by
  simp only [rd64, wr64, rdWord_wrWord, lo32, hi32, if_true, if_neg (show ¬p.base + (f.off + 4) = p.base + f.off by omega),
    BitVec.toNat_ofNat]
  omega

theorem rdWord_wr64_off (p : Page) (f : Fd) (v : Nat) {a : Nat} (d : Dev) (h : f.off ≠ a) (h' : f.off + 4 ≠ a) :
    rdWord (wr64 p f v d) p a = rdWord d p a := rdWord_wr64_ne _ _ _ _ _ (by omega) (by omega)

/-! #### Insertion, verification and the ramp (R127) -/

/-- A module inserted. -/
def inserted (now : W64) (m : Nat) (d : Dev) : Dev :=
  raiseIrq (Page.laser m) 16 (setLsrState m lmVerifying
    (updLaser m (fun l => { l with present := true, insertTick := now.toNat, releasing := false }) d))

/-- The challenges of a verification drawn. -/
def challenged (d : Dev) : Dev := { d with ctl := { d.ctl with draws := d.ctl.draws + 4 } }

theorem challenged_alters {W : Page → Nat → Prop} {P : List Part} {T : Nat → Prop} (d : Dev) :
    SoftAlters W P T d (challenged d) := ⟨.ofCtl d rfl rfl, ⟨rfl, rfl, rfl, rfl, rfl, rfl, rfl, rfl⟩⟩

/-- A module that failed a check. -/
def laserRejected (m r : Nat) (d : Dev) : Dev :=
  raiseIrq (Page.laser m) 18 (wr (Page.laser m) Reg.LSR_STAT_REJECT r (setLsrState m lmRejected (challenged d)))

/-- What a module that passed shows of itself. -/
def verifiedWords (m wear : Nat) (info : ModuleInfo) (d : Dev) : Dev :=
  wr64 (Page.laser m) Reg.LSR_SERIAL info.serial (wr (Page.laser m) Reg.LSR_LIFE_HOURS info.life
    (wr (Page.laser m) Reg.LSR_WEAR_HOURS wear (wr (Page.laser m) Reg.LSR_STAT_REJECT 0 (challenged d))))

/-- The record of a module that passed. -/
def laserAdmitted (now : W64) (wear life : Nat) (l : Laser) : Laser :=
  { l with
    wear := 1000 * wear, ratedLife := life, en := true, setpoint := 50, outSum := 0, outTick := now.toNat,
    hourTick := now.toNat }

/-- A module that passed its checks ramps. -/
def laserVerified (now : W64) (m wear : Nat) (info : ModuleInfo) (d : Dev) : Dev :=
  setLsrState m lmRamping (updLaser m (laserAdmitted now wear info.life) (verifiedWords m wear info d))

theorem laserVerify_eq {now : W64} {m : Nat} {info : ModuleInfo} {d : Dev} (hp : (d.laserRec m).present = true)
    (hs : lsrState d m = lmVerifying) (he : elapsed now (d.laserRec m).insertTick 500000000 = true)
    (hb : rd d Page.mgt Reg.MGT_BOOT_STAT_STAGE = 2) :
    laserVerify now m info d = match laserReject d info with
      | some r => laserRejected m r d
      | none => laserVerified now m (max info.wearMirror (journalWear d info.serial)) info d := by
  simp only [laserVerify, hp, hs, he, hb, decide_true, Bool.and_self, Bool.not_true, Bool.false_or, ne_eq, not_true_eq_false,
    decide_false, Bool.false_eq_true, if_false]
  rfl

/-- The reasons of R127. -/
theorem laserReject_lt {d : Dev} {info : ModuleInfo} {r : Nat} (h : laserReject d info = some r) : r < 16 := by
  unfold laserReject at h
  split_ifs at h <;> simp only [Option.some.injEq] at h <;> omega

section

variable {P : List Part} {T : Nat → Prop} {m : Nat} (d : Dev)

theorem laserRejected_alters (r : Nat) (hm : m < 16) : SoftAlters (InPages [Page.laser m]) P T d (laserRejected m r d) :=
  (((challenged_alters d).trans (setLsrState_alters _ _ hm (by simp))).trans
    (laserWr_alters _ r hm (by decide) (by simp))).trans (laserIrq_alters _ 18 hm (by simp))

theorem verifiedWords_alters (wear : Nat) (info : ModuleInfo) (hm : m < 16) :
    SoftAlters (InPages [Page.laser m]) P T d (verifiedWords m wear info d) := by
  have hp : Page.laser m ∈ [Page.laser m] := by simp
  have hwords : SoftAlters (InPages [Page.laser m]) P T d (wr (Page.laser m) Reg.LSR_LIFE_HOURS info.life
      (wr (Page.laser m) Reg.LSR_WEAR_HOURS wear (wr (Page.laser m) Reg.LSR_STAT_REJECT 0 (challenged d)))) :=
    (((challenged_alters d).trans (laserWr_alters _ _ hm (by decide) hp)).trans (laserWr_alters _ _ hm (by decide) hp)).trans
      (laserWr_alters _ _ hm (by decide) hp)
  exact hwords.trans (.wr64 _ _ (laser_inst hm) (by decide) hp hp)

theorem laserVerified_alters (now : W64) (wear : Nat) (info : ModuleInfo) (hm : m < 16) (hP : .lnk ∈ P) :
    SoftAlters (InPages [Page.laser m]) P T d (laserVerified now m wear info d) :=
  ((verifiedWords_alters d wear info hm).trans (updLaser_alters _ _ hP)).trans (setLsrState_alters _ _ hm (by simp))

end

/-- What a rejected module shows. -/
theorem laserRejected_shows {m r : Nat} (d : Dev) (hm : m < 16) (hr : r < 16) :
    lsrState (laserRejected m r d) m = lmRejected ∧ rd (laserRejected m r d) (Page.laser m) Reg.LSR_STAT_REJECT = r ∧
      (rdWord (laserRejected m r d) (Page.laser m) 0x010).getLsbD 18 = true := by
  refine ⟨?_, ?_, raiseIrq_bit _ _ _ (by decide)⟩
  · exact ((rd_laserIrq _ _ hm hm (by decide) (by decide)).trans (rd_wr_apart _ _ _ rfl rfl rfl)).trans
      (lsrState_setLsrState_same _ (by decide))
  · exact (rd_laserIrq _ _ hm hm (by decide) (by decide)).trans (rd_wr_fits _ _ _ _ rfl hr)

/-- What a verified module shows. -/
theorem laserVerified_shows (now : W64) {m : Nat} (wear : Nat) (info : ModuleInfo) (d : Dev) :
    lsrState (laserVerified now m wear info d) m = lmRamping ∧
      (laserVerified now m wear info d).laserRec m = laserAdmitted now wear info.life (d.laserRec m) ∧
      rd (laserVerified now m wear info d) (Page.laser m) Reg.LSR_STAT_REJECT = 0 ∧
      rd64 (laserVerified now m wear info d) (Page.laser m) Reg.LSR_SERIAL = info.serial % 2 ^ 64 := by
  have hserial (a : Nat) (ha : a ≠ 0x104) : rdWord (laserVerified now m wear info d) (Page.laser m) a =
      rdWord (verifiedWords m wear info d) (Page.laser m) a := by
    rw [laserVerified, setLsrState, rdWord_wr_off _ _ _ _ _ (Ne.symm ha)]
    rfl
  have hlnk : (verifiedWords m wear info d).lnk = d.lnk := rfl
  refine ⟨?_, ?_, ?_, ?_⟩
  · rw [laserVerified]
    exact lsrState_setLsrState_same _ (by decide)
  · rw [laserVerified, laserRec_setLsrState, laserRec_updLaser_same, Dev.laserRec, hlnk, Dev.laserRec]
  · have hwords : rd (verifiedWords m wear info d) (Page.laser m) Reg.LSR_STAT_REJECT = 0 := by
      rw [rd, verifiedWords, rdWord_wr64_off _ _ _ _ (by decide) (by decide), ← rd, rd_wr_apart _ _ _ rfl rfl rfl,
        rd_wr_apart _ _ _ rfl rfl rfl]
      exact rd_wr_fits _ _ _ _ rfl (by decide)
    rw [laserVerified, setLsrState, rd_wr_apart _ _ _ rfl rfl rfl]
    exact hwords
  · rw [rd64, hserial _ (by decide), hserial _ (by decide), ← rd64, verifiedWords]
    exact rd64_wr64 ..

/-- The ramp of a module whose partner runs ends: both run at 50 %. -/
def rampedUp (now : W64) (m : Nat) (d : Dev) : Dev := setOutput now m 50 (setLsrState m lmRunning d)

theorem laserRampDone_joins {now : W64} {m : Nat} {d : Dev} (hs : lsrState d m = lmRamping)
    (hq : lsrState d (partner m) = lmRunning) : laserRampDone now m d = syncTile (tileOfModule m) (rampedUp now m d) := by
  have hne : ¬lmRunning = lmCarrying := by decide
  simp only [laserRampDone, hs, hq, ne_eq, not_true_eq_false, if_false, if_true, hne]
  rfl

theorem rampedUp_runs (now : W64) {m : Nat} (d : Dev) (hm : m < 16) : lsrState (rampedUp now m d) m = lmRunning ∧
    lsrState (rampedUp now m d) (partner m) = lsrState d (partner m) ∧ lsrOutput (rampedUp now m d) m = 50 :=
  ⟨(lsrState_setOutput _ _ _ hm hm).trans (lsrState_setLsrState_same d (by decide)),
    (lsrState_setOutput _ _ _ hm (partner_lt hm)).trans
      (lsrState_setLsrState_ne d _ (partner_ne m).symm hm (partner_lt hm)),
    lsrOutput_setOutput_same _ _ (by decide)⟩

theorem lsrLit_of_running {d : Dev} {m : Nat} (h : lsrState d m = lmRunning) : lsrLit d m = true := by simp [lsrLit, h]

/-- Both modules of a tile give light when a module and its partner do. -/
theorem bothLit {m : Nat} {d : Dev} (hm : lsrLit d m = true) (hq : lsrLit d (partner m) = true) :
    lsrLit d (2 * tileOfModule m) = true ∧ lsrLit d (2 * tileOfModule m + 1) = true := by
  rcases modules_of_tile m with ⟨h0, h1⟩ | ⟨h0, h1⟩
  · exact ⟨h0.symm ▸ hm, h1.symm ▸ hq⟩
  · exact ⟨h0.symm ▸ hq, h1.symm ▸ hm⟩

/-! #### RELEASE and RESUME (R130) -/

/-- Every module's page maps LSR_CTL. -/
theorem regAt_lsrCtl (m : Nat) : (Page.laser m).regAt 0x100 = (Page.laser 0).regAt 0x100 := by
  have hinst : ¬8 + m < 8 := by omega
  simp only [Page.regAt, Page.regDefs, Page.laser, Page.hasTables, hinst, Nat.add_zero, Nat.lt_irrefl, if_false]
  rfl

/-- A write of LSR_CTL by the page's owner. -/
theorem write32_lsrCtl {src : Src} {m : Nat} {s : State} (v : Nat) (h : Owns src (Page.laser m) s) (hv : v < 2 ^ 32) :
    write32 src (Page.laser m) 0x100 v s = onDev (lsrCtl src s.now m (BitVec.ofNat 32 v)) s := by
  obtain ⟨r, hr⟩ : ∃ r, (Page.laser m).regAt 0x100 = some r := ⟨_, regAt_lsrCtl m⟩
  rw [write32_reg v h (by decide) (by decide) (by decide) hr (by simp [Page.laser, Page.dbg]) hv]
  simp [regWrite, portRegister, blockWrite, Page.laser]

/-- The word RELEASE is written with. -/
theorem releaseWord_bits (force : Bool) : 1 + 2 * bit force < 2 ^ 32 ∧ (BitVec.ofNat 32 (1 + 2 * bit force)).getLsbD 0 = true ∧
    (BitVec.ofNat 32 (1 + 2 * bit force)).getLsbD 1 = force ∧ (BitVec.ofNat 32 (1 + 2 * bit force)).getLsbD 2 = false := by
  cases force <;> decide

theorem exec_release_owned {src : Src} {m : Nat} (force : Bool) {s : State} (h : Owns src (Page.laser m) s) (hm : m < 16) :
    exec (.release src m force) s = .next (onDev (release src m force) s) := by
  obtain ⟨hv, h0, h1, h2⟩ := releaseWord_bits force
  rw [exec_release, effect_next (.release src m force) _ _ (decide_eq_true hm), write32_lsrCtl _ h hv]
  simp only [onDev, lsrCtl, h0, h1, h2, doIf_true, doIf_false]

theorem exec_resume_owned {src : Src} {m : Nat} {s : State} (h : Owns src (Page.laser m) s) (hm : m < 16) :
    exec (.resume src m) s = .next (onDev (resume s.now m) s) := by
  rw [exec_resume, effect_next (.resume src m) _ _ (decide_eq_true hm), write32_lsrCtl 4 h (by decide)]
  rfl

/-- A RELEASE accepted: the module leaves, and its lit partner is boosted. -/
def releaseBegun (m : Nat) (d : Dev) : Dev :=
  updLaser (partner m) (fun l => { l with boost := true }) (updLaser m (fun l => { l with releasing := true }) d)

theorem release_accepted {src : Src} {m : Nat} {force : Bool} {d : Dev} (hw : wearKnown d m = true)
    (hs : lsrState d m ≠ lmReleased) (hq : lsrLit d (partner m) = true) : release src m force d = releaseBegun m d := by
  simp only [release, hw, hs, hq, Bool.not_true, decide_false, Bool.or_self, Bool.false_eq_true, if_false, if_true]
  rfl

theorem release_refused {src : Src} {m : Nat} {d : Dev} (hw : wearKnown d m = true) (hs : lsrState d m ≠ lmReleased)
    (hq : lsrLit d (partner m) = false) : release src m false d = setErr (Page.laser m) 16 src 0x100 0 d := by
  simp only [release, hw, hs, hq, Bool.not_true, decide_false, Bool.or_self, Bool.false_eq_true, if_false]

/-- A released module verified again. -/
def resumed (now : W64) (m : Nat) (d : Dev) : Dev :=
  setLsrState m lmVerifying (updLaser m (fun l => { l with insertTick := now.toNat }) d)

theorem resume_eq {now : W64} {m : Nat} {d : Dev} (hp : (d.laserRec m).present = true) (hs : lsrState d m = lmReleased) :
    resume now m d = resumed now m d := by
  simp only [resume, hp, hs, decide_true, Bool.and_self, if_true]
  rfl

theorem laserComesIn : Claims.LaserComesIn := by
  intro m s hm
  have hmem : Page.laser m ∈ [Page.laser m] := by simp
  have hpages : ∀ q a, InPages [Page.laser m] q a → q ∈ [Page.laser m] := fun _ _ hq => hq
  refine ⟨fun hp => ?_, fun info hp hs he hb => ?_, fun hs hq => ?_, fun status temp h1 h2 hp => ?_,
    fun src force ho hw hs => ⟨fun hq => ?_, fun hq hf => ?_⟩, fun src ho hp hs => ?_⟩
  · have heq : laserInsert s.now m s.dev = inserted s.now m s.dev := by
      simp only [laserInsert, hp, Bool.false_eq_true, if_false]
      rfl
    have halt : SoftAlters (InPages [Page.laser m]) [.lnk] (InTables []) s.dev (laserInsert s.now m s.dev) := by
      rw [heq]
      exact ((updLaser_alters _ _ (by simp)).trans (setLsrState_alters _ _ hm hmem)).trans (laserIrq_alters _ _ hm hmem)
    refine ⟨_, (exec_laserInsert m s).trans (effect_next _ _ _ (decide_eq_true hm)), ?_, ?_, ?_, ?_,
      halt.kept (f := laserInsert s.now m) hpages (by simp)⟩ <;> rw [onDev_dev, heq, inserted]
    · exact (rd_laserIrq _ _ hm hm (by decide) (by decide)).trans (lsrState_setLsrState_same _ (by decide))
    · rw [laserRec_raiseIrq, laserRec_setLsrState, laserRec_updLaser_same]
    · rw [laserRec_raiseIrq, laserRec_setLsrState, laserRec_updLaser_same]
    · exact raiseIrq_bit _ _ _ (by decide)
  · have heq := laserVerify_eq (info := info) hp hs he hb
    refine ⟨_, (exec_laserVerify m info s).trans (effect_next _ _ _ (decide_eq_true hm)),
      SoftAlters.kept (W := InPages [Page.laser m]) (f := laserVerify s.now m info) ?_ hpages (by simp), fun r hr => ?_, fun hr => ?_⟩
    · rw [heq]
      cases laserReject s.dev info with
      | some r => exact laserRejected_alters s.dev r hm
      | none => exact laserVerified_alters s.dev s.now _ info hm (by simp)
    · rw [onDev_dev, heq, hr]
      exact laserRejected_shows s.dev hm (laserReject_lt hr)
    · rw [onDev_dev, heq, hr]
      obtain ⟨hstate, hrec, hrej, hser⟩ := laserVerified_shows s.now (m := m)
        (max info.wearMirror (journalWear s.dev info.serial)) info s.dev
      refine ⟨hstate, ?_, ?_, hrej, hser⟩
      · exact (congrArg Laser.en hrec).trans rfl
      · exact (congrArg Laser.setpoint hrec).trans rfl
  · have ht := tileOfModule_lt hm
    have heq := laserRampDone_joins (now := s.now) hs hq
    obtain ⟨hrun, hpart, hout⟩ := rampedUp_runs s.now s.dev hm
    have hlit := bothLit (lsrLit_of_running hrun) (lsrLit_of_running (hpart.trans hq))
    have halt : SoftAlters (InPages [Page.laser m, Page.tile (tileOfModule m)]) [.lnk] (InTables []) s.dev
        (laserRampDone s.now m s.dev) := by
      rw [heq]
      exact ((setLsrState_alters _ _ hm (by simp)).trans (setOutput_alters _ _ _ hm (by simp) (by simp))).trans
        (syncTile_alters _ ht (by simp))
    refine ⟨_, (exec_laserRampDone m s).trans (effect_next _ _ _ (decide_eq_true hm)), ?_, ?_, ?_, ?_,
      halt.kept (f := laserRampDone s.now m) (fun _ _ hq => hq) (by simp)⟩ <;> rw [onDev_dev, heq]
    · exact (lsrState_syncTile _ ht hm).trans hrun
    · exact (lsrOutput_syncTile _ ht hm).trans hout
    · exact (lsrState_syncTile _ ht (partner_lt hm)).trans (hpart.trans hq)
    · exact rd_syncTile_lit _ hlit.1 hlit.2
  · have heq : laserPoll m status temp s.dev = updLaser m (fun l => { l with status := status, temp := temp }) s.dev := by
      simp only [laserPoll, hp, if_true, Nat.mod_eq_of_lt h1, Nat.mod_eq_of_lt h2]
    refine ⟨_, (exec_laserPoll m status temp s).trans (effect_next _ _ _ (decide_eq_true hm)), ?_,
      SoftAlters.kept (W := NoWords) (f := laserPoll m status temp) (heq ▸ updLaser_alters _ _ (by simp))
        (fun _ _ hq => hq.elim) (by simp)⟩
    rw [onDev_dev, heq, laserRec_updLaser_same]
  · have heq := release_accepted (src := src) (force := force) hw hs hq
    refine ⟨_, exec_release_owned force ho hm, ?_, ?_,
      SoftAlters.kept (W := NoWords) (f := release src m force)
        (heq ▸ (updLaser_alters _ _ (by simp)).trans (updLaser_alters _ _ (by simp))) (fun _ _ hq => hq.elim) (by simp)⟩ <;>
      rw [onDev_dev, heq, releaseBegun]
    · rw [laserRec_updLaser_ne _ _ (partner_ne m), laserRec_updLaser_same]
    · rw [laserRec_updLaser_same]
  · subst hf
    have heq := release_refused (src := src) hw hs hq
    have halt : SoftAlters (InPages [Page.laser m]) [] (InTables []) s.dev (release src m false s.dev) := by
      rw [heq]
      exact .setErrs _ _ _ _ _ (laser_inst hm) fun _ _ => hmem
    refine ⟨_, exec_release_owned false ho hm, ?_, halt.kept (f := release src m false) hpages (by simp)⟩
    rw [onDev_dev, heq]
    exact setErrs_bit _ _ _ _ _ _ (by decide)
  · have heq := resume_eq (now := s.now) hp hs
    have halt : SoftAlters (InPages [Page.laser m]) [.lnk] (InTables []) s.dev (resume s.now m s.dev) := by
      rw [heq]
      exact (updLaser_alters _ _ (by simp)).trans (setLsrState_alters _ _ hm hmem)
    refine ⟨_, exec_resume_owned ho hm, ?_, ?_, halt.kept (f := resume s.now m) hpages (by simp)⟩ <;>
      rw [onDev_dev, heq, resumed]
    · exact lsrState_setLsrState_same _ (by decide)
    · rw [laserRec_setLsrState, laserRec_updLaser_same]

end Sys2Proof.Machine

/-! ### Laser modules leave their tiles to their partners (R122, R128 to R130) -/

namespace Sys2Proof.Machine

/-! #### A laser event (R122, R128) -/

theorem lsrLit_congr {d e : Dev} {m : Nat} (h : lsrState e m = lsrState d m) : lsrLit e m = lsrLit d m := by
  simp only [lsrLit, h]

/-- The module's output ends. -/
def darkened (now : W64) (m st : Nat) (f : Laser → Laser) (d : Dev) : Dev :=
  setOutput now m 0 (setLsrState m st (updLaser m f d))

/-- The record of a module switched off. -/
def switchedOff (l : Laser) : Laser := { l with en := false, boost := false }

/-- The lane-failure hold-off of a tile. -/
def setHoldoff (tile : Nat) (b : Bool) (d : Dev) : Dev :=
  { d with lnk := { d.lnk with holdoff := sset (konst false) d.lnk.holdoff tile b } }

/-- A laser event whose partner is lit: the partner boosted, and the hold-off begun. -/
def eventHeld (now : W64) (m : Nat) (d : Dev) : Dev :=
  setHoldoff (tileOfModule m) true
    (updLaser (partner m) (fun l => { l with boost := true }) (darkened now m lmFailed switchedOff d))

section

variable {m st : Nat} (now : W64) (f : Laser → Laser) (d : Dev)

theorem darkened_alters {ps : List Page} {P : List Part} {T : Nat → Prop} (hm : m < 16) (hp : Page.laser m ∈ ps)
    (hP : .lnk ∈ P) : SoftAlters (InPages ps) P T d (darkened now m st f d) :=
  ((updLaser_alters d f hP).trans (setLsrState_alters _ st hm hp)).trans (setOutput_alters _ now 0 hm hp hP)

/-- A darkened module shows its state and no output. -/
theorem darkened_shows (hm : m < 16) (hs : st < 16) :
    lsrState (darkened now m st f d) m = st ∧ lsrOutput (darkened now m st f d) m = 0 := by
  unfold darkened
  exact ⟨(lsrState_setOutput _ _ _ hm hm).trans (lsrState_setLsrState_same _ hs), lsrOutput_setOutput_same _ _ (by decide)⟩

theorem en_darkened (h : ∀ l, (f l).en = false) : ((darkened now m st f d).laserRec m).en = false := by
  rw [darkened, laserRec_setOutput_same, laserRec_setLsrState, laserRec_updLaser_same]
  exact h _

/-- Its partner stands. -/
theorem lsrState_darkened_partner (hm : m < 16) : lsrState (darkened now m st f d) (partner m) = lsrState d (partner m) := by
  rw [darkened, lsrState_setOutput _ _ _ hm (partner_lt hm),
    lsrState_setLsrState_ne _ _ (partner_ne m).symm hm (partner_lt hm), lsrState_updLaser]

end

theorem laserEvent_eq {now : W64} {m : Nat} {d : Dev} (hm : m < 16) (hl : lsrLit d m = true)
    (hq : lsrLit d (partner m) = true) :
    laserEvent now m d = raiseIrq (Page.laser m) 19 (syncTile (tileOfModule m) (eventHeld now m d)) := by
  have hpart : lsrLit (setOutput now m 0 (setLsrState m lmFailed (updLaser m switchedOff d))) (partner m) = true :=
    (lsrLit_congr (lsrState_darkened_partner now switchedOff d hm)).trans hq
  unfold laserEvent
  rw [if_neg (by simp [hl])]
  extract_lets tile q d1 d2 d3 d4 d5
  have hd2 : lsrLit d2 q = true := hpart
  rw [if_pos (by simp [hd2])]
  have hd3 : d3 = updLaser (partner m) (fun l => { l with boost := true }) (darkened now m lmFailed switchedOff d) := if_pos hd2
  show raiseIrq (Page.laser m) 19 (syncTile (tileOfModule m) (setHoldoff (tileOfModule m) true d3)) = _
  rw [hd3, eventHeld]

/-- What a laser event leaves before the tile shows it. -/
theorem eventHeld_shows (now : W64) {m : Nat} (d : Dev) (hm : m < 16) :
    lsrState (eventHeld now m d) m = lmFailed ∧ lsrOutput (eventHeld now m d) m = 0 ∧
      ((eventHeld now m d).laserRec m).en = false ∧ ((eventHeld now m d).laserRec (partner m)).boost = true ∧
      heldOff (eventHeld now m d) (tileOfModule m) = true := by
  obtain ⟨hstate, hout⟩ := darkened_shows now switchedOff d (m := m) (st := lmFailed) hm (by decide)
  have hrec (x : Nat) : (eventHeld now m d).laserRec x = (updLaser (partner m) (fun l => { l with boost := true })
      (darkened now m lmFailed switchedOff d)).laserRec x := rfl
  refine ⟨hstate, hout, ?_, ?_, sget_sset_same ..⟩
  · rw [hrec, laserRec_updLaser_ne _ _ (partner_ne m)]
    exact en_darkened now switchedOff d fun _ => rfl
  · rw [hrec, laserRec_updLaser_same]

theorem eventHeld_alters {ps : List Page} {P : List Part} {T : Nat → Prop} (now : W64) {m : Nat} (d : Dev) (hm : m < 16)
    (hp : Page.laser m ∈ ps) (hP : .lnk ∈ P) : SoftAlters (InPages ps) P T d (eventHeld now m d) :=
  ((darkened_alters now switchedOff d hm hp hP).trans (updLaser_alters _ _ hP)).trans (.lnk _ _ hP)

/-! #### The partner takes over (R128) -/

/-- A boosted module that runs reaches 100 % and carries its tile. -/
def takesOver (now : W64) (m : Nat) (d : Dev) : Dev :=
  if (d.laserRec m).boost && decide (lsrState d m = lmRunning) then setOutput now m 100 (setLsrState m lmCarrying d) else d

theorem laserChangeover_eq (now : W64) (tile : Nat) (d : Dev) :
    laserChangeover now tile d = syncTile tile (takesOver now (2 * tile + 1) (takesOver now (2 * tile) d)) := rfl

section

variable (now : W64) {m x : Nat} (d : Dev)

theorem takesOver_alters {ps : List Page} {P : List Part} {T : Nat → Prop} (hm : m < 16) (hp : Page.laser m ∈ ps)
    (hP : .lnk ∈ P) : SoftAlters (InPages ps) P T d (takesOver now m d) := by
  unfold takesOver
  split
  · exact (setLsrState_alters _ _ hm hp).trans (setOutput_alters _ _ _ hm hp hP)
  · exact .refl d

/-- It shows that it carries. -/
theorem takesOver_shows {d : Dev} (hm : m < 16) (hb : (d.laserRec m).boost = true) (hs : lsrState d m = lmRunning) :
    lsrState (takesOver now m d) m = lmCarrying ∧ lsrOutput (takesOver now m d) m = 100 := by
  rw [takesOver, if_pos (by simp [hb, hs])]
  exact ⟨(lsrState_setOutput _ _ _ hm hm).trans (lsrState_setLsrState_same _ (by decide)),
    lsrOutput_setOutput_same _ _ (by decide)⟩

/-- The other modules stand. -/
theorem takesOver_other (h : m ≠ x) (hm : m < 16) (hx : x < 16) :
    lsrState (takesOver now m d) x = lsrState d x ∧ lsrOutput (takesOver now m d) x = lsrOutput d x ∧
      (takesOver now m d).laserRec x = d.laserRec x := by
  have halt := takesOver_alters (ps := [Page.laser m]) (P := [.lnk]) (T := NoEntry) now d hm (by simp) (by simp)
  have hrd (g : Fd) (hg : g.off < 4096) : rd (takesOver now m d) (Page.laser x) g = rd d (Page.laser x) g :=
    halt.toAlters.rd_eq (laser_inst hx) hg fun hq => laser_ne h (List.mem_singleton.1 hq).symm
  refine ⟨hrd _ (by decide), hrd _ (by decide), ?_⟩
  unfold takesOver
  split
  · rw [laserRec_setOutput_ne _ _ _ h, laserRec_setLsrState]
  · rfl

end

/-- A boosted module that runs carries its tile after the changeover, whichever of the two it is. -/
theorem changeover_shows (now : W64) {m : Nat} {d : Dev} (hm : m < 16) (hb : (d.laserRec m).boost = true)
    (hs : lsrState d m = lmRunning) :
    lsrState (laserChangeover now (tileOfModule m) d) m = lmCarrying ∧
      lsrOutput (laserChangeover now (tileOfModule m) d) m = 100 := by
  have ht := tileOfModule_lt hm
  have hq := partner_lt hm
  rw [laserChangeover_eq, lsrState_syncTile _ ht hm, lsrOutput_syncTile _ ht hm]
  rcases modules_of_tile m with ⟨h0, h1⟩ | ⟨h0, h1⟩ <;> rw [h1, h0]
  · obtain ⟨hstate, hout, -⟩ := takesOver_other now (takesOver now m d) (partner_ne m) hq hm
    rw [hstate, hout]
    exact takesOver_shows now hm hb hs
  · obtain ⟨hstate, -, hrec⟩ := takesOver_other now d (partner_ne m) hq hm
    exact takesOver_shows now hm (hrec ▸ hb) (hstate.trans hs)

theorem changeover_alters (now : W64) {m : Nat} (d : Dev) (hm : m < 16) :
    SoftAlters (InPages [Page.laser m, Page.laser (partner m), Page.tile (tileOfModule m)]) [.lnk] (InTables []) d
      (laserChangeover now (tileOfModule m) d) := by
  have hq := partner_lt hm
  rw [laserChangeover_eq]
  refine SoftAlters.trans ?_ (syncTile_alters _ (tileOfModule_lt hm) (by simp))
  rcases modules_of_tile m with ⟨h0, h1⟩ | ⟨h0, h1⟩ <;> rw [h1, h0]
  · exact (takesOver_alters now d hm (by simp) (by simp)).trans (takesOver_alters now _ hq (by simp) (by simp))
  · exact (takesOver_alters now d hq (by simp) (by simp)).trans (takesOver_alters now _ hm (by simp) (by simp))

/-! #### Removal (R130) -/

/-- What a module that is not there shows. -/
def absentWords (m : Nat) (d : Dev) : Dev :=
  wr64 (Page.laser m) Reg.LSR_SERIAL 0 (wr (Page.laser m) Reg.LSR_STAT_OUTPUT 0 (wr (Page.laser m) Reg.LSR_STAT_REJECT 0
    (setLsrState m lmAbsent (updLaser m (fun l => { l with present := false, en := false, boost := false }) d))))

/-- A module removed while it gives no light is no laser event. -/
theorem laserRemove_dark {now : W64} {m : Nat} {d : Dev} (hp : (d.laserRec m).present = true) (hl : lsrLit d m = false)
    (hs : lsrState d m ≠ lmRamping) :
    laserRemove now m d = raiseIrq (Page.laser m) 17 (syncTile (tileOfModule m) (absentWords m d)) := by
  have hevent : laserEvent now m d = d := by simp [laserEvent, hl, hs]
  simp only [laserRemove, hp, hevent, Bool.not_true, Bool.false_eq_true, if_false]
  rfl

section

variable {m : Nat} (d : Dev)

theorem absentWords_alters {ps : List Page} {P : List Part} {T : Nat → Prop} (hm : m < 16) (hp : Page.laser m ∈ ps)
    (hP : .lnk ∈ P) : SoftAlters (InPages ps) P T d (absentWords m d) := by
  have hstat := ((updLaser_alters (m := m) (T := T) d (fun l => { l with present := false, en := false, boost := false }) hP).trans
    (setLsrState_alters _ lmAbsent hm hp)).trans (laserWr_alters _ 0 (f := Reg.LSR_STAT_REJECT) hm (by decide) hp)
  exact (hstat.trans (laserWr_alters _ 0 hm (by decide) hp)).trans (.wr64 _ _ (laser_inst hm) (by decide) hp hp)

theorem absentWords_shows : lsrState (absentWords m d) m = lmAbsent ∧ ((absentWords m d).laserRec m).present = false ∧
    rd64 (absentWords m d) (Page.laser m) Reg.LSR_SERIAL = 0 := by
  have hrec : (absentWords m d).laserRec m =
      (updLaser m (fun l => { l with present := false, en := false, boost := false }) d).laserRec m := rfl
  refine ⟨?_, ?_, ?_⟩
  · rw [lsrState, rd, absentWords, rdWord_wr64_off _ _ _ _ (by decide) (by decide), ← rd, rd_wr_apart _ _ _ rfl rfl rfl,
      rd_wr_apart _ _ _ rfl rfl rfl]
    exact lsrState_setLsrState_same _ (by decide)
  · rw [hrec, laserRec_updLaser_same]
  · exact rd64_wr64 ..

end

/-! #### Wear (R129) -/

theorem journalAdd_soft (type key : Nat) (delete good : Bool) (value : List Byte) (d : Dev) :
    SoftAlters (InPages [Page.mgt, Page.tel]) [.mgt] (InTables watchTable) d (journalAdd type key delete good value d) := by
  refine ⟨(journalAdd_alters type key delete good value d).words fun q _ hq => by simpa [InPages] using hq, ?_⟩
  obtain ⟨m, heq⟩ := journalAdd_eq type key delete good value d
  rw [heq]
  have hmgt : SoftSame d (withMgt d m) := .ofCtl rfl
  exact (hmgt.trans (.bump Page.mgt Reg.MGT_CNT 10 _)).trans ((SoftSame.wr ..).trans (.wr ..))

theorem activeHalf_congr {d e : Dev} (h : e.mgt = d.mgt) : activeHalf e = activeHalf d := by simp only [activeHalf, h]

/-- The half written is the active one. -/
theorem activeHalf_setActiveHalf (h : Half) (d : Dev) : activeHalf (setActiveHalf h d) = h := by
  unfold setActiveHalf
  split
  next ha => simp only [activeHalf, ha, if_true]
  next ha => simp only [activeHalf, ha, if_false]

/-- A record appended is one more of the active half. -/
theorem recs_journalAdd (type key : Nat) (delete good : Bool) (value : List Byte) (d : Dev) :
    (activeHalf (journalAdd type key delete good value d)).recs.length = (activeHalf d).recs.length + 1 := by
  unfold journalAdd
  extract_lets r h d1
  have hstat (e : Dev) : (journalStat (bump Page.mgt Reg.MGT_CNT 10 e)).mgt = e.mgt := bump_mgt ..
  have hhalf : activeHalf { d1 with mgt := { d1.mgt with nextSeq := d1.mgt.nextSeq + 1 } } = activeHalf d1 := rfl
  rw [activeHalf_congr (hstat _), hhalf, activeHalf_setActiveHalf, List.length_append]
  rfl

theorem writeWear_alters {ps : List Page} (m : Nat) (d : Dev) (hmgt : Page.mgt ∈ ps) (htel : Page.tel ∈ ps) :
    SoftAlters (InPages ps) [.lnk, .mgt] (InTables watchTable) d (writeWear m d) :=
  (journalAdd_soft ..).mono (fun q _ hq => by
    rcases List.mem_cons.1 hq with rfl | hq
    · exact hmgt
    · exact List.mem_singleton.1 hq ▸ htel) (by simp) fun _ => id

theorem recs_writeWear (m : Nat) (d : Dev) :
    (activeHalf (writeWear m d)).recs.length = (activeHalf d).recs.length + 1 := recs_journalAdd ..

theorem laserRec_writeWear (m x : Nat) (d : Dev) : (writeWear m d).laserRec x = d.laserRec x := by
  have hlnk : (writeWear m d).lnk = d.lnk := (journalAdd_soft ..).part .lnk (by simp)
  rw [Dev.laserRec, hlnk, Dev.laserRec]

/-- The modules' words stand when wear goes to the journal. -/
theorem rd_writeWear (m : Nat) {x : Nat} {g : Fd} (d : Dev) (hx : x < 16) (hg : g.off < 4096) :
    rd (writeWear m d) (Page.laser x) g = rd d (Page.laser x) g :=
  (journalAdd_soft ..).toAlters.rd_eq (laser_inst hx) hg (by simp [InPages, Page.laser, Page.mgt, Page.tel])

/-- The wear of a module with its latest hour. -/
def hourWorn (now : W64) (m : Nat) (d : Dev) : Dev :=
  wr (Page.laser m) Reg.LSR_WEAR_HOURS (((d.laserRec m).wear + hourWear now d m) / 1000) (updLaser m (fun l =>
    { l with
      wear := (d.laserRec m).wear + hourWear now d m, outSum := 0, outTick := now.toNat, hourTick := now.toNat }) d)

/-- The interrupts of 90 % and of 100 % of rated life, where they are reached. -/
def lifeWarned (m : Nat) (b90 b100 : Bool) (d : Dev) : Dev :=
  doIf b100 (raiseIrq (Page.laser m) 21) (doIf b90 (raiseIrq (Page.laser m) 20) d)

theorem wearHour_eq {now : W64} {m : Nat} {d : Dev} (h : wearKnown d m = true) :
    ∃ b90 b100, wearHour now m d = writeWear m (lifeWarned m b90 b100 (hourWorn now m d)) := by
  simp only [wearHour, h, Bool.not_true, Bool.false_eq_true, if_false]
  exact ⟨_, _, rfl⟩

section

variable {m : Nat} (b90 b100 : Bool) (d : Dev)

theorem lifeWarned_alters {ps : List Page} {P : List Part} {T : Nat → Prop} (hm : m < 16) (hp : Page.laser m ∈ ps) :
    SoftAlters (InPages ps) P T d (lifeWarned m b90 b100 d) :=
  SoftAlters.trans (.doIf _ _ fun d => laserIrq_alters d 20 hm hp) (.doIf _ _ fun d => laserIrq_alters d 21 hm hp)

/-- The warnings set interrupts alone. -/
theorem lifeWarned_keeps {β : Type} (g : Dev → β) (h : ∀ bit e, g (raiseIrq (Page.laser m) bit e) = g e) :
    g (lifeWarned m b90 b100 d) = g d := (doIf_keeps g _ _ (h 21) _).trans (doIf_keeps g _ _ (h 20) _)

end

/-- What a module's hour leaves. -/
theorem wearHour_records {now : W64} {m : Nat} {d : Dev} (hm : m < 16) (h : wearKnown d m = true) :
    ((wearHour now m d).laserRec m).wear = (d.laserRec m).wear + hourWear now d m ∧
      rd (wearHour now m d) (Page.laser m) Reg.LSR_WEAR_HOURS =
        ((d.laserRec m).wear + hourWear now d m) / 1000 % 2 ^ 32 ∧
      (activeHalf (wearHour now m d)).recs.length = (activeHalf d).recs.length + 1 ∧
      SoftAlters (InPages [Page.laser m, Page.mgt, Page.tel]) [.lnk, .mgt] (InTables watchTable) d (wearHour now m d) := by
  obtain ⟨b90, b100, heq⟩ := wearHour_eq (now := now) h
  rw [heq]
  refine ⟨?_, ?_, ?_, ?_⟩
  · rw [laserRec_writeWear, lifeWarned_keeps _ _ _ (fun e => e.laserRec m) fun _ _ => laserRec_raiseIrq .., hourWorn]
    exact congrArg Laser.wear (laserRec_updLaser_same ..)
  · rw [rd_writeWear _ _ hm (by decide), lifeWarned_keeps _ _ _ (fun e => rd e (Page.laser m) Reg.LSR_WEAR_HOURS)
      fun bit e => rd_raiseIrq_off _ _ _ e (by decide)]
    exact rd_wr_same _ _ _ _ rfl
  · rw [recs_writeWear, lifeWarned_keeps _ _ _ activeHalf fun _ _ => activeHalf_congr (raiseIrq_mgt ..)]
    rfl
  · exact (((updLaser_alters d _ (by simp)).trans (laserWr_alters _ _ hm (by decide) (by simp))).trans
      (lifeWarned_alters _ _ _ hm (by simp))).trans (writeWear_alters _ _ (by simp) (by simp))

/-! #### The end of a release (R129, R130) -/

/-- The record of a module released. -/
def letGo (l : Laser) : Laser := { l with releasing := false, en := false }

/-- A module's wear written, the module dark and released, and its partner at 100 %. -/
def released (now : W64) (m : Nat) (d : Dev) : Dev :=
  setOutput now (partner m) 100 (setLsrState (partner m) lmCarrying (darkened now m lmReleased letGo (writeWear m d)))

theorem releaseDone_eq {now : W64} {m : Nat} {d : Dev} (hm : m < 16) (hr : (d.laserRec m).releasing = true)
    (hq : lsrLit d (partner m) = true) : releaseDone now m d = syncTile (tileOfModule m) (released now m d) := by
  have hpart : lsrLit (setOutput now m 0 (setLsrState m lmReleased (updLaser m letGo (writeWear m d)))) (partner m) = true :=
    (lsrLit_congr ((lsrState_darkened_partner now letGo (writeWear m d) hm).trans
      (rd_writeWear m d (partner_lt hm) (by decide)))).trans hq
  unfold releaseDone
  rw [if_neg (by simp [hr])]
  exact if_pos hpart

theorem released_alters (now : W64) {m : Nat} (d : Dev) (hm : m < 16) :
    SoftAlters (InPages [Page.laser m, Page.laser (partner m), Page.tile (tileOfModule m), Page.mgt, Page.tel]) [.lnk, .mgt]
      (InTables watchTable) d (released now m d) :=
  (((writeWear_alters m d (by simp) (by simp)).trans (darkened_alters now letGo _ hm (by simp) (by simp))).trans
    (setLsrState_alters _ _ (partner_lt hm) (by simp))).trans (setOutput_alters _ _ _ (partner_lt hm) (by simp) (by simp))

/-- What the end of a release leaves before the tile shows it. -/
theorem released_shows (now : W64) {m : Nat} (d : Dev) (hm : m < 16) :
    lsrState (released now m d) m = lmReleased ∧ lsrOutput (released now m d) m = 0 ∧
      ((released now m d).laserRec m).en = false ∧ lsrState (released now m d) (partner m) = lmCarrying ∧
      lsrOutput (released now m d) (partner m) = 100 := by
  have hq := partner_lt hm
  obtain ⟨hstate, hout⟩ := darkened_shows now letGo (writeWear m d) (st := lmReleased) hm (by decide)
  refine ⟨?_, ?_, ?_, ?_, lsrOutput_setOutput_same _ _ (by decide)⟩
  · rw [released, lsrState_setOutput _ _ _ hq hm, lsrState_setLsrState_ne _ _ (partner_ne m) hq hm, hstate]
  · rw [released, lsrOutput_setOutput_ne _ _ _ (partner_ne m) hq hm, lsrOutput_setLsrState _ _ hq hm, hout]
  · rw [released, laserRec_setOutput_ne _ _ _ (partner_ne m), laserRec_setLsrState]
    exact en_darkened now letGo _ fun _ => rfl
  · rw [released, lsrState_setOutput _ _ _ hq hq, lsrState_setLsrState_same _ (by decide)]

theorem laserGoesOut : Claims.LaserGoesOut := by
  intro m s hm
  have ht := tileOfModule_lt hm
  have hq := partner_lt hm
  refine ⟨fun hl hp => ?_, fun hb hs => ?_, ?_, fun hp hl hs => ?_, fun hk => ?_, fun hr hp => ?_⟩
  · have heq := laserEvent_eq (now := s.now) hm hl hp
    obtain ⟨hstate, hout, hen, hboost, hheld⟩ := eventHeld_shows s.now s.dev hm
    have halt : SoftAlters (InPages [Page.laser m, Page.tile (tileOfModule m)]) [.lnk] (InTables []) s.dev
        (laserEvent s.now m s.dev) := by
      rw [heq]
      exact ((eventHeld_alters _ _ hm (by simp) (by simp)).trans (syncTile_alters _ ht (by simp))).trans
        (laserIrq_alters _ _ hm (by simp))
    refine ⟨_, (exec_laserEvent m s).trans (effect_next _ _ _ (decide_eq_true hm)), ?_, ?_, ?_, ?_, ?_, ?_,
      halt.kept (f := laserEvent s.now m) (fun _ _ hq => hq) (by simp)⟩ <;> rw [onDev_dev, heq]
    · exact ((rd_laserIrq _ _ hm hm (by decide) (by decide)).trans (lsrState_syncTile _ ht hm)).trans hstate
    · rw [laserRec_raiseIrq, laserRec_syncTile _ ht, hen]
    · exact ((rd_laserIrq _ _ hm hm (by decide) (by decide)).trans (lsrOutput_syncTile _ ht hm)).trans hout
    · rw [laserRec_raiseIrq, laserRec_syncTile _ ht, hboost]
    · rw [heldOff, raiseIrq_lnk, syncTile_lnk _ ht, ← heldOff, hheld]
    · exact raiseIrq_bit _ _ _ (by decide)
  · obtain ⟨hstate, hout⟩ := changeover_shows s.now hm hb hs
    exact ⟨_, (exec_laserChangeoverDone _ s).trans (effect_next _ _ _ (decide_eq_true ht)), hstate, hout,
      (changeover_alters s.now s.dev hm).kept (f := laserChangeover s.now (tileOfModule m)) (fun _ _ hq => hq) (by simp)⟩
  · refine ⟨_, (exec_laserHoldoffEnd _ s).trans (effect_next _ _ _ (decide_eq_true ht)), sget_sset_same ..,
      SoftAlters.kept (W := NoWords) (f := laserHoldoffEnd (tileOfModule m)) (.lnk _ _ (by simp)) (fun _ _ hq => hq.elim)
        (by simp)⟩
  · have heq := laserRemove_dark (now := s.now) hp hl hs
    obtain ⟨hstate, hpres, hserial⟩ := absentWords_shows (m := m) s.dev
    have halt : SoftAlters (InPages [Page.laser m, Page.tile (tileOfModule m)]) [.lnk] (InTables []) s.dev
        (laserRemove s.now m s.dev) := by
      rw [heq]
      exact ((absentWords_alters _ hm (by simp) (by simp)).trans (syncTile_alters _ ht (by simp))).trans
        (laserIrq_alters _ _ hm (by simp))
    refine ⟨_, (exec_laserRemove m s).trans (effect_next _ _ _ (decide_eq_true hm)), ?_, ?_, ?_, ?_,
      halt.kept (f := laserRemove s.now m) (fun _ _ hq => hq) (by simp)⟩ <;> rw [onDev_dev, heq]
    · exact ((rd_laserIrq _ _ hm hm (by decide) (by decide)).trans (lsrState_syncTile _ ht hm)).trans hstate
    · rw [laserRec_raiseIrq, laserRec_syncTile _ ht, hpres]
    · rw [rd64, rdWord_raiseIrq_off _ _ _ (by decide), rdWord_raiseIrq_off _ _ _ (by decide),
        rdWord_syncTile _ ht hm (by decide), rdWord_syncTile _ ht hm (by decide), ← rd64, hserial]
    · exact raiseIrq_bit _ _ _ (by decide)
  · obtain ⟨hwear, hhours, hrecs, halt⟩ := wearHour_records (now := s.now) hm hk
    exact ⟨_, _, (exec_wearHour m s).trans (effect_next _ _ _ (decide_eq_true hm)), rfl, hwear, hhours, hrecs,
      halt.kept (f := wearHour s.now m) (fun _ _ hq => hq) (by decide)⟩
  · have heq := releaseDone_eq (now := s.now) hm hr hp
    obtain ⟨hstate, hout, hen, hstate', hout'⟩ := released_shows s.now s.dev hm
    have halt : SoftAlters (InPages [Page.laser m, Page.laser (partner m), Page.tile (tileOfModule m), Page.mgt, Page.tel])
        [.lnk, .mgt] (InTables watchTable) s.dev (releaseDone s.now m s.dev) := by
      rw [heq]
      exact (released_alters s.now s.dev hm).trans (syncTile_alters _ ht (by simp))
    refine ⟨_, (exec_releaseDone m s).trans (effect_next _ _ _ (decide_eq_true hm)), ?_, ?_, ?_, ?_, ?_,
      halt.kept (f := releaseDone s.now m) (fun _ _ hq => hq) (by decide)⟩ <;> rw [onDev_dev, heq]
    · exact (lsrState_syncTile _ ht hm).trans hstate
    · rw [laserRec_syncTile _ ht, hen]
    · exact (lsrOutput_syncTile _ ht hm).trans hout
    · exact (lsrState_syncTile _ ht hq).trans hstate'
    · exact (lsrOutput_syncTile _ ht hq).trans hout'

/-- Settles O27: a module's record, its page and what the tile shows are changed one after the other; its partner's page
stands but where it takes over. -/
theorem lasersComeAndGo : Obligations.LasersComeAndGo := ⟨laserComesIn, laserGoesOut⟩

end Sys2Proof.Machine

/-! ### Upkeep of the tables (R153, R157 to R160): the flow sweep, parity repairs, digests and scrubbing -/

namespace Sys2Proof.Machine

/-! #### Frames of the updates -/

section

variable {W : Page → Nat → Prop} {P : List Part} {T : Nat → Prop}

/-- An entry of a listed table written. -/
theorem SoftAlters.tsetListed {ts : List (Page × Nat)} {p : Page} {t i : Nat} (ws : List W32) (d : Dev) (h : (p, t) ∈ ts)
    (hi : i < 2 ^ 32) : SoftAlters W P (InTables ts) d (Machine.tset p t i ws d) :=
  ⟨.tset ws d h hi, (SoftAlters.tset (W := W) (P := P) p t i ws d).soft⟩

theorem SoftAlters.wrWord {p : Page} {off : Nat} (v : W32) (d : Dev) (hp : p.inst < 4096) (ho : off < 4096) (hw : W p off) :
    SoftAlters W P T d (Machine.wrWord p off v d) := ⟨.wrWord v d hp ho hw, ⟨rfl, rfl, rfl, rfl, rfl, rfl, rfl, rfl⟩⟩

theorem SoftAlters.hwErr {p : Page} (c detail : Nat) (d : Dev) (hp : p.inst < 4096)
    (hw : ∀ a ∈ [0x010, 0x018, 0x01C], W p a) : SoftAlters W P T d (Machine.hwErr p c detail d) := .setErrs _ _ _ _ d hp hw

theorem setParityBad_alters (table die i : Nat) (b : Bool) (d : Dev) : SoftAlters W P T d (setParityBad table die i b d) :=
  ⟨.ofCtl d rfl rfl, ⟨rfl, rfl, rfl, rfl, rfl, rfl, rfl, rfl⟩⟩

theorem setPassed_alters (g : Nat) (v : Bool × Bool) (d : Dev) (h : .fwd ∈ P) : SoftAlters W P T d (setPassed g v d) :=
  .fwd _ d h

theorem clearFresh_alters (g die : Nat) (d : Dev) (h : .fwd ∈ P) : SoftAlters W P T d (clearFresh g die d) := .fwd _ d h

end

/-! #### The flow sweep (R153) -/

/-- A fold of guarded updates runs over the elements whose guard holds at its start, where no update changes a guard. -/
theorem forEach_guarded {α : Type} {c : α → Dev → Bool} {f : α → Dev → Dev} (hc : ∀ a b d, c a (f b d) = c a d)
    (l : List α) (d : Dev) :
    forEach l (fun a d => if c a d then f a d else d) d = forEach (l.filter (fun a => c a d)) f d := by
  induction l generalizing d with
  | nil => rfl
  | cons a l ih =>
    rw [forEach_cons, ih]
    by_cases h : c a d = true
    · simp only [if_pos h, List.filter_cons, hc, forEach_cons]
    · simp only [if_neg h, List.filter_cons]

theorem flowStale_tset (now : W64) (p : Page) (t i : Nat) (ws vs : List W32) (d : Dev) :
    flowStale now (tset p t i ws d) vs = flowStale now d vs := by rw [flowStale, rd_tset, flowStale]

/-- A flow entry deleted (R153). -/
def deleteFlow (e : Nat × List W32) (d : Dev) : Dev := tset Page.fwd 2 e.1 (List.replicate 7 0) d

/-- The listed flow entries that are stale (R153). -/
def staleFlows (now : W64) (d : Dev) : List (Nat × List W32) :=
  (tblListed d Page.fwd 2).filter (fun e => flowStale now d e.2)

theorem flowSweep_eq (now : W64) (d : Dev) : flowSweep now d = forEach (staleFlows now d) deleteFlow d :=
  forEach_guarded (fun _ _ _ => flowStale_tset ..) _ d

theorem tblListed_index_lt {d : Dev} {p : Page} {t : Nat} {e : Nat × List W32} (h : e ∈ tblListed d p t) : e.1 < 2 ^ 32 := by
  obtain ⟨x, -, rfl⟩ := List.mem_map.1 h
  exact Nat.mod_lt _ (by decide)

theorem flowSweep_alters (now : W64) (d : Dev) : SoftAlters NoWords [] (InTables [(Page.fwd, 2)]) d (flowSweep now d) := by
  rw [flowSweep_eq]
  exact .forEach _ _ (fun e he d => .tsetListed _ d (by simp) (tblListed_index_lt (List.mem_filter.1 he).1)) d

theorem flowSweep_deletes {now : W64} {d : Dev} {i : Nat} {ws : List W32} (hl : (i, ws) ∈ tblListed d Page.fwd 2)
    (hs : flowStale now d ws = true) : tget (flowSweep now d) Page.fwd 2 i = List.replicate 7 0 := by
  rw [flowSweep_eq]
  refine forEach_establishes (Q := fun d => tget d Page.fwd 2 i = List.replicate 7 0) _ (List.mem_filter.2 ⟨hl, hs⟩)
    (fun d => tget_tset_same ..) (fun e _ d hd => ?_) d
  by_cases he : e.1 = i
  · subst he
    exact tget_tset_same ..
  · exact (tget_tset_index _ _ _ _ he).trans hd

theorem flowSweep_spares {now : W64} {d : Dev} {i : Nat}
    (h : ∀ ws, (i, ws) ∈ tblListed d Page.fwd 2 → flowStale now d ws = false) :
    tget (flowSweep now d) Page.fwd 2 i = tget d Page.fwd 2 i := by
  rw [flowSweep_eq]
  refine forEach_chain (R := fun d e => tget e Page.fwd 2 i = tget d Page.fwd 2 i) (fun _ => rfl) (fun h h' => h'.trans h) _ _
    (fun e he d => tget_tset_index _ _ _ _ ?_) d
  rintro rfl
  obtain ⟨hl, hs⟩ := List.mem_filter.1 he
  rw [h e.2 hl] at hs
  cases hs

/-! #### Parity (R157) -/

theorem parityBad_congr {d e : Dev} (h : e.ctl.parityBad = d.ctl.parityBad) (table die i : Nat) :
    parityBad e table die i = parityBad d table die i := by simp only [parityBad, h]

@[simp] theorem parityBad_setParityBad_same (table die i : Nat) (b : Bool) (d : Dev) :
    parityBad (setParityBad table die i b d) table die i = b := sget_sset_same ..

/-- The mark of one die leaves the other's alone. -/
theorem parityBad_setParityBad_die (table : Nat) {die other : Nat} (i : Nat) (b : Bool) (d : Dev) (h : die ≠ other) :
    parityBad (setParityBad table die i b d) table other i = parityBad d table other i :=
  sget_sset_ne _ _ _ (by unfold parKey; omega)

/-- The error is reported where the copy was not known to be bad. -/
def reportNew (table die i : Nat) (d : Dev) : Dev := if parityBad d table die i then d else reportParity table die i d

theorem reportParity_alters {P : List Part} {T : Nat → Prop} (table die i : Nat) (d : Dev) :
    SoftAlters (OnPage Page.fwd) P T d (reportParity table die i d) := by
  unfold reportParity
  refine .trans ?_ (.raiseIrq 19 _ (by decide) rfl)
  split
  · exact .wrWord _ d (by decide) (by decide) rfl
  · exact .refl d

theorem reportNew_alters {P : List Part} {T : Nat → Prop} (table die i : Nat) (d : Dev) :
    SoftAlters (OnPage Page.fwd) P T d (reportNew table die i d) := by
  unfold reportNew
  split
  · exact .refl d
  · exact reportParity_alters table die i d

/-- A copy of a destination entry is mended from the other die. -/
theorem parityRepair_mends {table : Nat} (die i : Nat) (d : Dev) (h : table ≠ 2) :
    parityRepair table die i false d =
      hwErr Page.fwd errCorrected (i % 4096) (setParityBad table die i false (reportNew table die i d)) := by
  rw [parityRepair, if_neg h, if_neg Bool.false_ne_true, reportNew]

/-- Both copies of a destination entry are bad. -/
theorem parityRepair_loses {table : Nat} (die i : Nat) (d : Dev) (h : table ≠ 2) :
    parityRepair table die i true d = setErrs Page.fwd [errUncorrectable, 17] 0 0 (i % 4096)
      (setParityBad table 0 i true (setParityBad table 1 i true (reportNew table die i d))) := by
  rw [parityRepair, if_neg h, if_pos rfl, reportNew]

/-- A flow entry is cleared. -/
theorem parityRepair_clears (die i : Nat) (b : Bool) (d : Dev) :
    parityRepair 2 die i b d = hwErr Page.fwd errCorrected (i % 4096)
      (setParityBad 2 die i false (tset Page.fwd 2 i (List.replicate 7 0) (reportNew 2 die i d))) := by
  rw [parityRepair, if_pos rfl, reportNew]

theorem destRepair_alters {table : Nat} (die i : Nat) (b : Bool) (d : Dev) (h : table ≠ 2) :
    SoftAlters (OnPage Page.fwd) [] (InTables []) d (parityRepair table die i b d) := by
  have hnew := reportNew_alters (P := []) (T := InTables []) table die i d
  cases b with
  | false =>
    rw [parityRepair_mends die i d h]
    exact (hnew.trans (setParityBad_alters ..)).trans (.hwErr _ _ _ (by decide) fun _ _ => rfl)
  | true =>
    rw [parityRepair_loses die i d h]
    exact ((hnew.trans (setParityBad_alters ..)).trans (setParityBad_alters ..)).trans
      (.setErrs _ _ _ _ _ (by decide) fun _ _ => rfl)

/-- The repair of a destination entry as a command. -/
theorem exec_destRepair {table die i : Nat} (b : Bool) (s : State) (ht : table < 2) (hd : die < 2) (hi : i < 4096) :
    exec (.parityRepair table die i b) s = .next (onDev (parityRepair table die i b) s) ∧
      Kept [] [] [Page.fwd] s (onDev (parityRepair table die i b) s) := by
  have hwf : (Instr.parityRepair table die i b).wf = true := by
    simp only [Instr.wf, if_neg (by omega : ¬table = 2), Bool.and_eq_true, decide_eq_true_eq]
    omega
  exact ⟨(exec_parityRepair ..).trans (effect_next _ _ _ hwf),
    (destRepair_alters die i b s.dev (by omega)).kept (f := parityRepair table die i b) (fun _ _ hq => List.mem_singleton.2 hq)
      (by simp)⟩

theorem parityMends {table die i : Nat} (s : State) (ht : table < 2) (hd : die < 2) (hi : i < 4096) :
    ∃ t, exec (.parityRepair table die i false) s = .next t ∧ parityBad t.dev table die i = false ∧
      (rdWord t.dev Page.fwd 0x018).getLsbD errCorrected = true ∧ Kept [] [] [Page.fwd] s t := by
  obtain ⟨hexec, hkept⟩ := exec_destRepair false s ht hd hi
  refine ⟨_, hexec, ?_, ?_, hkept⟩ <;> rw [onDev_dev, parityRepair_mends die i _ (by omega)]
  · rw [parityBad_congr (hwErr_ctl_parityBad ..), parityBad_setParityBad_same]
  · exact setErrs_bit Page.fwd errCorrected _ _ _ _ (by decide)

/-- Two classes recorded together are both shown (R48). -/
theorem setErrs_pair_bits (p : Page) {c e : Nat} (src off detail : Nat) (d : Dev) (hc : c < 32) (he : e < 32) :
    (rdWord (setErrs p [c, e] src off detail d) p 0x018).getLsbD c = true ∧
      (rdWord (setErrs p [c, e] src off detail d) p 0x018).getLsbD e = true := by
  simp only [rdWord_setErrs_err, List.foldl_cons, List.foldl_nil, BitVec.getLsbD_or, BitVec.getLsbD_ofNat]
  simp [hc, he, Nat.testBit_two_pow_self]

theorem parityLoses {table die i : Nat} (s : State) (ht : table < 2) (hd : die < 2) (hi : i < 4096) :
    ∃ t, exec (.parityRepair table die i true) s = .next t ∧ parityBad t.dev table 0 i = true ∧
      parityBad t.dev table 1 i = true ∧ (rdWord t.dev Page.fwd 0x018).getLsbD errUncorrectable = true ∧
      (rdWord t.dev Page.fwd 0x018).getLsbD 17 = true ∧ Kept [] [] [Page.fwd] s t := by
  obtain ⟨hexec, hkept⟩ := exec_destRepair true s ht hd hi
  have hdev := parityRepair_loses die i s.dev (table := table) (by omega)
  obtain ⟨hunc, hboth⟩ := setErrs_pair_bits Page.fwd (c := errUncorrectable) (e := 17) 0 0 (i % 4096)
    (setParityBad table 0 i true (setParityBad table 1 i true (reportNew table die i s.dev))) (by decide) (by decide)
  refine ⟨_, hexec, ?_, ?_, ?_, ?_, hkept⟩ <;> rw [onDev_dev, hdev]
  · rw [parityBad_congr (setErrs_ctl_parityBad ..), parityBad_setParityBad_same]
  · rw [parityBad_congr (setErrs_ctl_parityBad ..), parityBad_setParityBad_die _ _ _ _ (by decide),
      parityBad_setParityBad_same]
  · exact hunc
  · exact hboth

theorem parityRepair_tables (die i : Nat) (b : Bool) (d : Dev) :
    (parityRepair 2 die i b d).ctl.tables = (tset Page.fwd 2 i (List.replicate 7 0) (reportNew 2 die i d)).ctl.tables := by
  rw [parityRepair_clears, hwErr_ctl_tables]
  rfl

theorem tget_congr {d e : Dev} (h : e.ctl.tables = d.ctl.tables) (p : Page) (t i : Nat) : tget e p t i = tget d p t i := by
  simp only [tget, h]

theorem flowRepair_alters (die : Nat) {i : Nat} (b : Bool) (d : Dev) (hi : i < 2 ^ 32) :
    SoftAlters (OnPage Page.fwd) [] (InTables [(Page.fwd, 2)]) d (parityRepair 2 die i b d) := by
  rw [parityRepair_clears]
  exact (((reportNew_alters 2 die i d).trans (.tsetListed _ _ (by simp) hi)).trans (setParityBad_alters ..)).trans
    (.hwErr _ _ _ (by decide) fun _ _ => rfl)

theorem parityClearsFlow {die i : Nat} (b : Bool) (s : State) (hd : die < 2) (hi : i < 1048576) :
    ∃ t, exec (.parityRepair 2 die i b) s = .next t ∧ tget t.dev Page.fwd 2 i = List.replicate 7 0 ∧
      (∀ j, j ≠ i → tget t.dev Page.fwd 2 j = tget s.dev Page.fwd 2 j) ∧ Kept [] [(Page.fwd, 2)] [Page.fwd] s t := by
  have hwf : (Instr.parityRepair 2 die i b).wf = true := by simp [Instr.wf, hd, hi]
  refine ⟨_, (exec_parityRepair ..).trans (effect_next _ _ _ hwf), ?_, fun j hj => ?_,
    (flowRepair_alters die b s.dev (by omega)).kept (f := parityRepair 2 die i b) (fun _ _ hq => List.mem_singleton.2 hq)
      (by decide)⟩ <;> rw [onDev_dev, tget_congr (parityRepair_tables ..)]
  · exact tget_tset_same ..
  · rw [tget_tset_index _ _ _ _ hj.symm]
    exact (reportNew_alters (P := []) (T := NoEntry) 2 die i s.dev).entry _ id

/-! #### SEG_STAT (R159, R160) -/

section

variable {g die : Nat}

theorem segStateFd_lt (g : Nat) : (segStateFd g).off < 4096 := show 0x12C < 4096 by decide

theorem suspectFd_lt (g die : Nat) : (suspectFd g die).off < 4096 := show 0x12C < 4096 by decide

theorem segStateFd_good (hg : g < 8) : (segStateFd g).good = true := by
  interval_cases g <;> rfl

theorem suspectFd_good (hg : g < 8) (hd : die < 2) : (suspectFd g die).good = true := by
  interval_cases g <;> interval_cases die <;> rfl

theorem suspectFd_apart_segState : (suspectFd g die).apart (segStateFd g) = true := by
  have h : 4 * g + 1 < 4 * g + 2 + die := by omega
  rw [Fd.apart, Bool.or_eq_true]
  exact .inr (decide_eq_true h)

theorem suspectFd_apart {other : Nat} (h : die ≠ other) : (suspectFd g die).apart (suspectFd g other) = true := by
  have hlt : 4 * g + 2 + die < 4 * g + 2 + other ∨ 4 * g + 2 + other < 4 * g + 2 + die := by omega
  rw [Fd.apart, Bool.or_assoc, Bool.or_eq_true, Bool.or_eq_true]
  exact .inr (hlt.imp decide_eq_true decide_eq_true)

theorem segState_of_ctl {d e : Dev} (h : e.ctl = d.ctl) (g : Nat) : segState e g = segState d g := rd_of_ctl h _ _

theorem rdBit_of_ctl {d e : Dev} (h : e.ctl = d.ctl) (p : Page) (f : Fd) : rdBit e p f = rdBit d p f := by
  rw [rdBit_eq, rd_of_ctl h, rdBit_eq]

theorem segState_wr {v : Nat} (d : Dev) (hg : g < 8) (hv : v < 4) : segState (wr Page.fwd (segStateFd g) v d) g = v :=
  rd_wr_fits _ _ _ d (segStateFd_good hg) (by
    rw [segStateFd, show 4 * g + 1 + 1 - 4 * g = 2 by omega]
    exact hv)

theorem suspect_wr (b : Bool) (d : Dev) (hg : g < 8) (hd : die < 2) :
    rdBit (wrBit Page.fwd (suspectFd g die) b d) Page.fwd (suspectFd g die) = b :=
  rdBit_wrBit_same _ _ b d (suspectFd_good hg hd)

end

/-! #### A digest written (R159, R160) -/

/-- The segment's suspect mark on a die goes, with its marks of entries written since. -/
def unsuspect (g die : Nat) (d : Dev) : Dev := clearFresh g die (wrBit Page.fwd (suspectFd g die) false d)

theorem armSegment_eq (g : Nat) (d : Dev) :
    armSegment g d = unsuspect g 1 (unsuspect g 0 (setPassed g (false, false) (wr Page.fwd (segStateFd g) 1 d))) := rfl

section

variable {g die : Nat} (d : Dev)

theorem unsuspect_alters {W : Page → Nat → Prop} {P : List Part} {T : Nat → Prop} (hw : W Page.fwd 0x12C) (hP : .fwd ∈ P) :
    SoftAlters W P T d (unsuspect g die d) :=
  (SoftAlters.wrBit false d (by decide) (suspectFd_lt g die) hw).trans (clearFresh_alters g die _ hP)

theorem suspect_unsuspect_same (hg : g < 8) (hd : die < 2) :
    rdBit (unsuspect g die d) Page.fwd (suspectFd g die) = false :=
  (rdBit_of_ctl rfl _ _).trans (suspect_wr false d hg hd)

theorem suspect_unsuspect_other {other : Nat} (hg : g < 8) (hd : die < 2) (ho : other < 2) (h : die ≠ other) :
    rdBit (unsuspect g die d) Page.fwd (suspectFd g other) = rdBit d Page.fwd (suspectFd g other) :=
  (rdBit_of_ctl rfl _ _).trans
    (rdBit_wrBit_apart _ false d (suspectFd_good hg hd) (suspectFd_good hg ho) (suspectFd_apart h))

theorem segState_unsuspect (hg : g < 8) (hd : die < 2) : segState (unsuspect g die d) g = segState d g :=
  (segState_of_ctl rfl g).trans
    (rd_wr_apart _ _ d (suspectFd_good hg hd) (segStateFd_good hg) suspectFd_apart_segState)

theorem armSegment_alters {W : Page → Nat → Prop} {P : List Part} {T : Nat → Prop} (hw : W Page.fwd 0x12C) (hP : .fwd ∈ P) :
    SoftAlters W P T d (armSegment g d) := by
  rw [armSegment_eq]
  exact (((SoftAlters.wr 1 d (by decide) (segStateFd_lt g) hw).trans (setPassed_alters g _ _ hP)).trans
    (unsuspect_alters _ hw hP)).trans (unsuspect_alters _ hw hP)

theorem segState_armSegment (hg : g < 8) : segState (armSegment g d) g = 1 := by
  rw [armSegment_eq, segState_unsuspect _ hg (by decide), segState_unsuspect _ hg (by decide)]
  exact (segState_of_ctl rfl g).trans (segState_wr d hg (by decide))

theorem suspect_armSegment (hg : g < 8) : rdBit (armSegment g d) Page.fwd (suspectFd g 0) = false ∧
    rdBit (armSegment g d) Page.fwd (suspectFd g 1) = false := by
  rw [armSegment_eq]
  refine ⟨?_, suspect_unsuspect_same _ hg (by decide)⟩
  rw [suspect_unsuspect_other _ hg (by decide) (by decide) (by decide), suspect_unsuspect_same _ hg (by decide)]

end

/-- A register that is one live field of 32 bits takes the word written (R10). -/
theorem fieldWrite_whole (src : Src) {p : Page} {off : Nat} (v : W32) {r : RegDef} {d : Dev}
    (hr : r.flds = [⟨31, 0, .L, .rw, 0, .any⟩]) (hbits : portBits d p off = 0) :
    fieldWrite src p off v r d = wrWord p off v d := by
  have hall : ∀ x : W32, x &&& 0xFFFFFFFF#32 = x := fun x => BitVec.and_allOnes
  simp [fieldWrite, hr, hbits, fldMask, takesNow, writeErrs, stageFields, merge, Fld.ok, Enc.ok, isWritable, hall]

/-- The high words of the eight digests are one register block (R162). -/
theorem regAt_digestHigh {g : Nat} (hg : g < 8) :
    Page.fwd.regAt (0x144 + 8 * g) = some ⟨0x144, 8, 8, 2, [⟨31, 0, .L, .rw, 0, .any⟩]⟩ := by
  interval_cases g <;> rfl

/-- The write of a digest's high word by the page's owner. -/
def digestWritten (g : Nat) (high : W32) (d : Dev) : Dev := armSegment g (wrWord Page.fwd (0x144 + 8 * g) high d)

theorem exec_digestWrite_owned {src : Src} {g : Nat} (high : W32) {s : State} (h : Owns src Page.fwd s) (hg : g < 8) :
    exec (.digestWrite src g high) s = .next (onDev (digestWritten g high) s) := by
  have hoff : ¬0x144 + 8 * g = 0x104 := by omega
  have hhigh : 0x140 ≤ 0x144 + 8 * g ∧ 0x144 + 8 * g < 0x180 ∧ (0x144 + 8 * g) % 8 = 4 := by omega
  have hseg : (0x144 + 8 * g - 0x140) / 8 = g := by omega
  rw [exec_digestWrite, effect_next (.digestWrite src g high) _ _ (decide_eq_true hg),
    write32_reg _ h (by omega) (by omega) (by omega) (regAt_digestHigh hg) (by decide) high.isLt,
    regWrite_block _ _ _ _ (by omega), BitVec.ofNat_toNat, BitVec.setWidth_eq]
  show Host.Outcome.next (onDev (fwdWrite src s.now (0x144 + 8 * g) high _) s) = _
  rw [onDev, fwdWrite, if_neg hoff, if_pos hhigh, hseg, fieldWrite_whole src high rfl (portBits_off_links _ _ (by decide))]
  rfl

theorem digestArms {src : Src} {g : Nat} (high : W32) {s : State} (h : Owns src Page.fwd s) (hg : g < 8) :
    ∃ t, exec (.digestWrite src g high) s = .next t ∧ rdWord t.dev Page.fwd (0x144 + 8 * g) = high ∧ segState t.dev g = 1 ∧
      rdBit t.dev Page.fwd (suspectFd g 0) = false ∧ rdBit t.dev Page.fwd (suspectFd g 1) = false ∧
      Kept [.fwd] [] [Page.fwd] s t := by
  obtain ⟨hs0, hs1⟩ := suspect_armSegment (wrWord Page.fwd (0x144 + 8 * g) high s.dev) hg
  have hword : rdWord (digestWritten g high s.dev) Page.fwd (0x144 + 8 * g) = high := by
    have harm := armSegment_alters (g := g) (W := At Page.fwd [0x12C]) (P := [.fwd]) (T := NoEntry)
      (wrWord Page.fwd (0x144 + 8 * g) high s.dev) ⟨rfl, by simp⟩ (by simp)
    rw [digestWritten, harm.word Page.fwd _ (by decide) (by omega) (fun hw => by have := List.mem_singleton.1 hw.2; omega),
      rdWord_wrWord_same]
  have halt : SoftAlters (OnPage Page.fwd) [.fwd] (InTables []) s.dev (digestWritten g high s.dev) :=
    (SoftAlters.wrWord high s.dev (by decide) (by omega) rfl).trans (armSegment_alters _ rfl (by simp))
  exact ⟨_, exec_digestWrite_owned high h hg, hword, segState_armSegment _ hg, hs0, hs1,
    halt.kept (f := digestWritten g high) (fun _ _ hq => List.mem_singleton.2 hq) (by simp)⟩

/-! #### A pass without parity errors (R159, R160) -/

section

variable {g die : Nat} {d : Dev}

/-- The segment is verified: both dies match. -/
def verified (g : Nat) (d : Dev) : Dev := wr Page.fwd (segStateFd g) 2 (setPassed g (true, true) d)

/-- The segment becomes suspect on the die, and this is reported. -/
def mismatched (g die : Nat) (d : Dev) : Dev :=
  raiseIrq Page.fwd 18 (hwErr Page.fwd 18 g (clearFresh g die (wrBit Page.fwd (suspectFd g die) true d)))

/-- An armed segment that is not suspect on the die is judged by its digest. -/
theorem scrubPass_judges (he : rdBit d Page.fwd Reg.FWD_SCRUB_CTL_ENABLE = true) (ha : segState d g = 1)
    (hs : rdBit d Page.fwd (suspectFd g die) = false) :
    scrubPass g die [] d =
      if segDigest d g = rd64 d Page.fwd (Reg.FWD_DIGEST.idx g 8) then
        let was := sget (konst (false, false)) d.fwd.passed g
        let v := if die = 0 then (true, was.2) else (was.1, true)
        if v.1 && v.2 then wr Page.fwd (segStateFd g) 2 (setPassed g v d) else setPassed g v d
      else mismatched g die d := by
  simp [scrubPass, he, ha, hs, mismatched, wrBit_eq]

theorem scrubPass_verifies (he : rdBit d Page.fwd Reg.FWD_SCRUB_CTL_ENABLE = true) (ha : segState d g = 1)
    (hs : rdBit d Page.fwd (suspectFd g die) = false) (hm : segDigest d g = rd64 d Page.fwd (Reg.FWD_DIGEST.idx g 8))
    (hp : sget (konst (false, false)) d.fwd.passed g = if die = 0 then (false, true) else (true, false)) :
    scrubPass g die [] d = verified g d := by
  rw [scrubPass_judges he ha hs, if_pos hm, hp]
  split <;> rfl

theorem scrubPass_suspects (he : rdBit d Page.fwd Reg.FWD_SCRUB_CTL_ENABLE = true) (ha : segState d g = 1)
    (hs : rdBit d Page.fwd (suspectFd g die) = false) (hm : segDigest d g ≠ rd64 d Page.fwd (Reg.FWD_DIGEST.idx g 8)) :
    scrubPass g die [] d = mismatched g die d := by
  rw [scrubPass_judges he ha hs, if_neg hm]

theorem verified_alters {P : List Part} {T : Nat → Prop} (g : Nat) (d : Dev) (hP : .fwd ∈ P) :
    SoftAlters (OnPage Page.fwd) P T d (verified g d) :=
  (setPassed_alters g _ d hP).trans (.wr 2 _ (by decide) (segStateFd_lt g) rfl)

theorem mismatched_alters {P : List Part} {T : Nat → Prop} (g die : Nat) (d : Dev) (hP : .fwd ∈ P) :
    SoftAlters (OnPage Page.fwd) P T d (mismatched g die d) :=
  (((SoftAlters.wrBit true d (by decide) (suspectFd_lt g die) rfl).trans (clearFresh_alters g die _ hP)).trans
    (.hwErr 18 g _ (by decide) fun _ _ => rfl)).trans (.raiseIrq 18 _ (by decide) rfl)

theorem suspect_mismatched (d : Dev) (hg : g < 8) (hd : die < 2) :
    rdBit (mismatched g die d) Page.fwd (suspectFd g die) = true := by
  have hoff : (suspectFd g die).off ≠ 0x010 ∧ (suspectFd g die).off ≠ 0x018 ∧ (suspectFd g die).off ≠ 0x01C :=
    show 0x12C ≠ 0x010 ∧ 0x12C ≠ 0x018 ∧ 0x12C ≠ 0x01C by decide
  rw [mismatched, rdBit_eq, rd_raiseIrq_off _ _ _ _ hoff.1, hwErr, rd_setErrs_off _ _ _ _ _ _ _ hoff, ← rdBit_eq]
  exact (rdBit_of_ctl rfl _ _).trans (suspect_wr true d hg hd)

end

theorem exec_scrubPass_clean {g die : Nat} (s : State) (hg : g < 8) (hd : die < 2) :
    exec (.scrubPass g die []) s = .next (onDev (scrubPass g die []) s) :=
  (exec_scrubPass ..).trans (effect_next _ _ _ (by simp [Instr.wf, hg, hd]))

theorem scrubVerifies {g die : Nat} {s : State} (hg : g < 8) (hd : die < 2)
    (he : rdBit s.dev Page.fwd Reg.FWD_SCRUB_CTL_ENABLE = true) (ha : segState s.dev g = 1)
    (hs : rdBit s.dev Page.fwd (suspectFd g die) = false)
    (hm : segDigest s.dev g = rd64 s.dev Page.fwd (Reg.FWD_DIGEST.idx g 8))
    (hp : sget (konst (false, false)) s.dev.fwd.passed g = if die = 0 then (false, true) else (true, false)) :
    ∃ t, exec (.scrubPass g die []) s = .next t ∧ segState t.dev g = 2 ∧ Kept [.fwd] [] [Page.fwd] s t := by
  have heq := scrubPass_verifies he ha hs hm hp
  have halt : SoftAlters (OnPage Page.fwd) [.fwd] (InTables []) s.dev (scrubPass g die [] s.dev) :=
    heq ▸ verified_alters g s.dev (by simp)
  refine ⟨_, exec_scrubPass_clean s hg hd, ?_,
    halt.kept (f := scrubPass g die []) (fun _ _ hq => List.mem_singleton.2 hq) (by simp)⟩
  rw [onDev_dev, heq]
  exact segState_wr _ hg (by decide)

theorem scrubSuspects {g die : Nat} {s : State} (hg : g < 8) (hd : die < 2)
    (he : rdBit s.dev Page.fwd Reg.FWD_SCRUB_CTL_ENABLE = true) (ha : segState s.dev g = 1)
    (hs : rdBit s.dev Page.fwd (suspectFd g die) = false)
    (hm : segDigest s.dev g ≠ rd64 s.dev Page.fwd (Reg.FWD_DIGEST.idx g 8)) :
    ∃ t, exec (.scrubPass g die []) s = .next t ∧ rdBit t.dev Page.fwd (suspectFd g die) = true ∧
      (rdWord t.dev Page.fwd 0x010).getLsbD 18 = true ∧ Kept [.fwd] [] [Page.fwd] s t := by
  have heq := scrubPass_suspects he ha hs hm
  have halt : SoftAlters (OnPage Page.fwd) [.fwd] (InTables []) s.dev (scrubPass g die [] s.dev) :=
    heq ▸ mismatched_alters g die s.dev (by simp)
  refine ⟨_, exec_scrubPass_clean s hg hd, ?_, ?_,
    halt.kept (f := scrubPass g die []) (fun _ _ hq => List.mem_singleton.2 hq) (by simp)⟩ <;> rw [onDev_dev, heq]
  · exact suspect_mismatched s.dev hg hd
  · exact raiseIrq_bit Page.fwd 18 _ (by decide)

/-- Settles O29: the sweep deletes the entries stale at its start one by one, a repair sets the marks of its entry and an
error record, and a segment's digest, marks and state are fields of FWD's own page. -/
theorem tablesUpkept : Obligations.TablesUpkept := by
  refine ⟨fun s => ?_, fun table die i s ht hd hi => ⟨parityMends s ht hd hi, parityLoses s ht hd hi⟩,
    fun die i b s hd hi => parityClearsFlow b s hd hi, fun src g high s ho hg => digestArms high ho hg,
    fun g die s hg hd he ha hs => ⟨scrubVerifies hg hd he ha hs, scrubSuspects hg hd he ha hs⟩⟩
  exact ⟨_, (exec_flowAgeSweep s).trans (effect_next _ _ _ rfl), fun _ _ => flowSweep_deletes, fun _ => flowSweep_spares,
    (flowSweep_alters s.now s.dev).kept (f := flowSweep s.now) (fun _ _ hq => hq.elim) (by decide)⟩

end Sys2Proof.Machine


/-! ### The crossbar's match of a lone cell (R176, R177, R191, R495) -/

namespace Sys2Proof.Machine

/-! #### The arbiters -/

/-- Seven moves from a pointer that names a class reach the one class that requests (R495). -/
theorem dwrr_reaches (weight : Nat → Nat) {cand : Nat → Bool} {tc : Nat} (htc : tc < 7) (hc : cand tc = true)
    (hne : ∀ c, c ≠ tc → cand c = false) (n : Nat) (a : Dwrr) (hp : a.ptr < 7) (hn : (tc + 7 - a.ptr) % 7 < n) :
    (dwrr weight cand n a).1 = some tc := by
  induction n generalizing a with
  | zero => omega
  | succ n ih =>
    by_cases h : a.ptr = tc
    · simp [dwrr, h, hc]
    · simp only [dwrr, hne _ h]
      exact ih _ (by dsimp only; omega) (by dsimp only; omega)

theorem roundRobin_singleton (ptr : Nat) (rank : Nat → Nat) (r : Req) : roundRobin ptr rank [r] = some r := rfl

theorem accepts_singleton {n : Nat} (ptr : Nat) (r : Req) (hn : 0 < n) : accepts ptr n [r] = [r] := by
  obtain ⟨n, rfl⟩ := Nat.exists_eq_succ_of_ne_zero (by omega : n ≠ 0)
  have hnil : ∀ p, accepts p n [] = [] := fun p => by cases n <;> rfl
  by_cases h : voqTc r.key = 7 <;> simp [accepts, h, hnil]

/-! #### With no cell queued -/

section

variable {s : State}

theorem grants_none (h : s.dev.sw.voqs = []) (egress n : Nat) : grants egress n s = [] := by
  cases n with
  | zero => rfl
  | succ n =>
    have hnone : (decide1 s egress).1 = none := by
      simp only [decide1, reqsOf, h, List.filter_nil, List.flatMap_nil, List.isEmpty_nil, Bool.not_true, Bool.false_eq_true,
        if_false, if_true]
      split <;> rfl
    rw [grants]
    split
    · next heq => rw [heq] at hnone; cases hnone
    · rfl

theorem iteration_none (u : Used) (h : s.dev.sw.voqs = []) : (iteration u s).2 = s := by
  simp [iteration, h]

/-- With no cell of an all-to-all queued, no round starts (R267). -/
theorem resumeRounds_none {d : Dev}
    (h : ∀ e ∈ d.sw.voqs, ∀ b ∈ e.2.esc ++ e.2.norm, exchangeGroup d b.cell = none) : resumeRounds d = d := by
  have hgs : d.sw.voqs.flatMap (fun e => (e.2.esc ++ e.2.norm).filterMap (fun b => exchangeGroup d b.cell)) = [] :=
    List.flatMap_eq_nil_iff.2 fun e he => List.filterMap_eq_nil_iff.2 fun b hb => h e he b hb
  simp only [resumeRounds, hgs]
  rfl

end

/-! #### What a grant charges (R199, R200) -/

/-- Shapers, aggregates and the wheel change, and nothing else. -/
def ShapesOnly (d e : Dev) : Prop :=
  ∃ x y w, e = { d with sw := { d.sw with shapers := x, aggregates := y, wheel := w } }

theorem ShapesOnly.refl (d : Dev) : ShapesOnly d d := ⟨_, _, _, rfl⟩

theorem ShapesOnly.trans {a b c : Dev} (h : ShapesOnly a b) (h' : ShapesOnly b c) : ShapesOnly a c := by
  obtain ⟨_, _, _, rfl⟩ := h
  obtain ⟨x, y, w, rfl⟩ := h'
  exact ⟨x, y, w, rfl⟩

theorem enterWheel_shapesOnly (now : W64) (k level need rate : Nat) (d : Dev) :
    ShapesOnly d (enterWheel now k level need rate d) := by
  unfold enterWheel
  split
  · exact .refl d
  · exact ⟨_, _, _, rfl⟩

theorem shapeCharge_shapesOnly (now : W64) (lane tc : Nat) (d : Dev) : ShapesOnly d (shapeCharge now lane tc d) := by
  unfold shapeCharge
  extract_lets l lv d1
  have hclass : ShapesOnly d d1 := by
    unfold d1
    split
    · exact .refl d
    · exact .trans ⟨_, _, _, rfl⟩ (enterWheel_shapesOnly ..)
  split
  · exact hclass
  · split
    · exact hclass
    · exact hclass.trans (.trans ⟨_, _, _, rfl⟩ (enterWheel_shapesOnly ..))

/-! #### A granted cell's transfer (R168, R176) -/

/-- The cell as it stands in the staging buffer. -/
def grantedBox (now : W64) (b : Box) : Box := tagSet (fun t => { t with grant := deltaNow now b }) { b with acct := .none }

/-- The queue loses its head, whose charge ends, and the staging buffer gains it. -/
def granted (now : W64) (r : Req) (b : Box) (d : Dev) : Dev :=
  let d1 := endCharge b (voqPop now r.key r.esc d)
  setStaged (voqEgress r.key) (voqTc r.key) (d1.staged (voqEgress r.key) (voqTc r.key) ++ [grantedBox now b]) d1

/-- The counts of a cell moved, and of one that crosses the dies. -/
def moveCounted (crosses : Bool) (d : Dev) : Dev :=
  doIf crosses (bump Page.xbs Reg.XBS_CNT 1) (bump Page.xbs Reg.XBS_CNT 0 d)

/-- A transfer is the move between the lists, the shapers' charge, and the counts. -/
theorem takeGrant_eq (now : W64) {r : Req} {b : Box} {d : Dev} (h : reqHead d r = some b) :
    ∃ e, ShapesOnly (granted now r b d) e ∧
      takeGrant now r d = moveCounted (decide (dieOfSource b.source ≠ dieOf (voqEgress r.key))) e := by
  refine ⟨doIf (shapesAct (granted now r b d) (voqEgress r.key)) (shapeCharge now (voqEgress r.key) (voqTc r.key))
    (granted now r b d), ?_, ?_⟩
  · cases shapesAct (granted now r b d) (voqEgress r.key)
    · exact .refl _
    · exact shapeCharge_shapesOnly ..
  · simp only [takeGrant, h]
    rfl

/-- A cell moved alters the switch core's record and the credits, the counts of XBS, and TEL with its watches. -/
abbrev Moves (d e : Dev) : Prop :=
  SoftAlters (fun q _ => q = Page.xbs ∨ q = Page.tel) [.sw, .lnk] (InTables watchTable) d e

theorem ShapesOnly.moves {d e : Dev} (h : ShapesOnly d e) : Moves d e := by
  obtain ⟨_, _, _, rfl⟩ := h
  exact .sw _ d (by simp)

theorem granted_moves (now : W64) (r : Req) (b : Box) (d : Dev) : Moves d (granted now r b d) :=
  ((SoftAlters.sw _ d (by simp)).trans (endCharge_alters b _ (by simp) (by simp))).trans (.sw _ _ (by simp))

theorem moveCounted_moves (crosses : Bool) (d : Dev) : Moves d (moveCounted crosses d) :=
  (SoftAlters.bump d (by decide) (by decide) (fun _ => .inl rfl) fun _ => .inr rfl).trans
    (.doIf crosses _ fun d => .bump d (by decide) (by decide) (fun _ => .inl rfl) fun _ => .inr rfl)

theorem moveCounted_sw (crosses : Bool) (d : Dev) : (moveCounted crosses d).sw = d.sw := by
  cases crosses <;> simp [moveCounted, doIf]

theorem moveCounted_counts (crosses : Bool) (d : Dev) :
    rd64 (moveCounted crosses d) Page.xbs ⟨Reg.XBS_CNT.off + 8 * 0, 31, 0⟩ =
      (rd64 d Page.xbs ⟨Reg.XBS_CNT.off + 8 * 0, 31, 0⟩ + 1) % 2 ^ 64 := by
  have hoff : ∀ a, a < 0x188 → a % 4 = 0 → ∀ d,
      rdWord (bump Page.xbs Reg.XBS_CNT 1 d) Page.xbs a = rdWord d Page.xbs a :=
    fun a ha h4 d => rdWord_bump_off Reg.XBS_CNT 1 d (by decide) (by decide) (by omega) (.inl ha) h4 (by decide)
  have hcross : moveCounted crosses d = bump Page.xbs Reg.XBS_CNT 0 d ∨
      moveCounted crosses d = bump Page.xbs Reg.XBS_CNT 1 (bump Page.xbs Reg.XBS_CNT 0 d) := by
    cases crosses <;> simp [moveCounted, doIf]
  have hcount := rd64_bump_counts Page.xbs Reg.XBS_CNT 0 d (by decide) (by decide) (by decide) (by decide)
  rcases hcross with h | h
  · rw [h, hcount]
  · rw [h, ← hcount]
    simp only [rd64, hoff _ (show Reg.XBS_CNT.off + 8 * 0 < 0x188 by decide) (by decide),
      hoff _ (show Reg.XBS_CNT.off + 8 * 0 + 4 < 0x188 by decide) (by decide)]

/-- Which cells belong to an all-to-all hangs on the group table alone (R266). -/
theorem exchangeGroup_of_moves {d e : Dev} (h : Moves d e) (c : Cell) : exchangeGroup e c = exchangeGroup d c := by
  have hmsg : cMsgid c < 2 ^ 16 := Nat.mod_lt _ (by decide)
  have hgrp : grp e (cMsgid c) = grp d (cMsgid c) :=
    h.entry _ (not_inTables (by decide) (by decide) (by decide) (by omega) (by decide))
  simp only [exchangeGroup, hgrp]

/-! #### The lone cell -/

section

variable {r : Req} {b : Box} {s : State}

/-- A grant of the lone cell leaves no queue. -/
theorem granted_voqs (h : OnlyCell r b s) : (granted s.now r b s.dev).sw.voqs = [] := by
  obtain ⟨hq, -⟩ := h
  have hpop : (voqPop s.now r.key r.esc s.dev).sw.voqs = [] := by
    cases hesc : r.esc <;>
      simp [voqPop, setVoq, Dev.voq, hq, hesc, sget, sset, dropHead, konst, Voq.empty]
  exact (endCharge_voqs b _).trans hpop

theorem endCharge_staging (b : Box) (d : Dev) : (endCharge b d).sw.staging = d.sw.staging := by
  unfold endCharge
  dsimp only
  split <;> rfl

theorem granted_staged (now : W64) (r : Req) (b : Box) (d : Dev) :
    (granted now r b d).staged (voqEgress r.key) (voqTc r.key) =
      d.staged (voqEgress r.key) (voqTc r.key) ++ [grantedBox now b] := by
  have hkept : (endCharge b (voqPop now r.key r.esc d)).staged (voqEgress r.key) (voqTc r.key) =
      d.staged (voqEgress r.key) (voqTc r.key) := by
    rw [Dev.staged, endCharge_staging]
    rfl
  rw [granted, staged_setStaged_same, hkept]

theorem reqHead_lone (h : OnlyCell r b s) : reqHead s.dev r = some b := by
  obtain ⟨hq, -⟩ := h
  cases hesc : r.esc <;> simp [reqHead, Dev.voq, hq, hesc, sget]

/-- Nothing is offered by the other list of the queue. -/
theorem reqHead_other (h : OnlyCell r b s) : reqHead s.dev { r with esc := !r.esc } = none := by
  obtain ⟨hq, -⟩ := h
  cases hesc : r.esc <;> simp [reqHead, Dev.voq, hq, hesc, sget]

/-- What the match makes of the lone cell: nothing is queued, the staging buffer has it, and XBS has counted it. -/
structure Moved (r : Req) (b : Box) (d e : Dev) : Prop where
  moves : Moves d e
  voqs : e.sw.voqs = []
  staged : (e.staged (voqEgress r.key) (voqTc r.key)).map Box.cell =
    (d.staged (voqEgress r.key) (voqTc r.key)).map Box.cell ++ [b.cell]
  counted : rd64 e Page.xbs ⟨Reg.XBS_CNT.off + 8 * 0, 31, 0⟩ =
    (rd64 d Page.xbs ⟨Reg.XBS_CNT.off + 8 * 0, 31, 0⟩ + 1) % 2 ^ 64

theorem takeGrant_moved (h : OnlyCell r b s) : Moved r b s.dev (takeGrant s.now r s.dev) := by
  obtain ⟨e, he, heq⟩ := takeGrant_eq s.now (reqHead_lone h)
  have hmoves := ((granted_moves s.now r b s.dev).trans he.moves).trans (moveCounted_moves
    (decide (dieOfSource b.source ≠ dieOf (voqEgress r.key))) e)
  have hregs : e.ctl = s.dev.ctl := by
    obtain ⟨_, _, _, rfl⟩ := he
    exact (endCharge_ctl b _).trans rfl
  have hlists : e.sw.voqs = [] ∧
      e.staged (voqEgress r.key) (voqTc r.key) =
        s.dev.staged (voqEgress r.key) (voqTc r.key) ++ [grantedBox s.now b] := by
    obtain ⟨_, _, _, rfl⟩ := he
    exact ⟨granted_voqs h, granted_staged s.now r b s.dev⟩
  rw [heq]
  refine ⟨hmoves, ?_, ?_, ?_⟩
  · rw [moveCounted_sw, hlists.1]
  · rw [Dev.staged, moveCounted_sw, ← Dev.staged, hlists.2, List.map_append]
    rfl
  · rw [moveCounted_counts, rd64_congr hregs]

/-- A lone cell of no all-to-all ends no phase when it is granted. -/
theorem transfer_lone (h : OnlyCell r b s) (hx : exchangeGroup s.dev b.cell = none) :
    transfer r s = onDev (takeGrant s.now r) s := by
  have hx' : exchangeGroup (takeGrant s.now r s.dev) b.cell = none :=
    (exchangeGroup_of_moves (takeGrant_moved h).moves b.cell).trans hx
  simp only [transfer, reqHead_lone h, exchangeGranted, onDev_dev, hx']

/-- The port's one request is the lone cell's. -/
theorem requests_lone (h : OnlyCell r b s) (hx : exchangeGroup s.dev b.cell = none)
    (he : classEligible s.now s.dev (voqEgress r.key) (voqTc r.key) = true) :
    (reqsOf s.dev (voqEgress r.key)).filter (requesting s) = [r] := by
  have hr : requesting s r = true := by simp [requesting, reqHead_lone h, he, exchangeHeld, hx]
  have hother : requesting s { r with esc := !r.esc } = false := by simp only [requesting, reqHead_other h]
  have hreqs : reqsOf s.dev (voqEgress r.key) = [{ r with esc := true }, { r with esc := false }] := by
    simp [reqsOf, h.1]
  obtain ⟨key, esc⟩ := r
  rw [hreqs]
  cases esc
  · simp only [Bool.not_false] at hother
    simp [hr, hother]
  · simp only [Bool.not_true] at hother
    simp [hr, hother]

/-- The arbiter and both pointers move on past an accepted grant (R177, R495). -/
def pointersMoved (r : Req) (d : Dev) : Dev :=
  let a := if voqTc r.key = 7 then arbOf d (voqEgress r.key)
    else (dwrr (classWeight d) (fun c => c == voqTc r.key) 7 (arbOf d (voqEgress r.key))).2
  setAcceptPtr (voqSource r.key) (voqEgress r.key + 1)
    (setGrantPtr (tcKey (voqEgress r.key) (voqTc r.key)) (voqSource r.key + 1) (setArb (voqEgress r.key) a d))

theorem pointersMoved_eq (r : Req) (d : Dev) : ∃ x y z, pointersMoved r d =
    { d with sw := { d.sw with grantArb := x, grantPtr := y, acceptPtr := z } } := ⟨_, _, _, rfl⟩

theorem applyGrant_eq (r : Req) (s : State) : applyGrant r s = onDev (pointersMoved r) (transfer r s) := rfl

theorem applyGrant_moved (h : OnlyCell r b s) (hx : exchangeGroup s.dev b.cell = none) :
    ∃ f, applyGrant r s = onDev f s ∧ Moved r b s.dev (f s.dev) := by
  obtain ⟨hmoves, hvoqs, hstaged, hcounted⟩ := takeGrant_moved h
  obtain ⟨x, y, z, hpointers⟩ := pointersMoved_eq r (takeGrant s.now r s.dev)
  rw [applyGrant_eq, transfer_lone h hx]
  refine ⟨fun d => pointersMoved r (takeGrant s.now r d), rfl, ?_⟩
  dsimp only
  rw [hpointers]
  exact ⟨hmoves.trans (.sw _ _ (by simp)), hvoqs, hstaged, hcounted⟩

/-- The port grants its one request, and the queue is then empty (R177, R495). -/
theorem decide1_lone (h : OnlyCell r b s) (hx : exchangeGroup s.dev b.cell = none)
    (he : classEligible s.now s.dev (voqEgress r.key) (voqTc r.key) = true) (hp : (arbOf s.dev (voqEgress r.key)).ptr < 7) :
    ∃ t, decide1 s (voqEgress r.key) = (some r, t) ∧ t.dev.sw.voqs = [] := by
  have hvoqs : (transfer r s).dev.sw.voqs = [] := by
    rw [transfer_lone h hx]
    exact (takeGrant_moved h).voqs
  have hclass : ∀ tc, [r].filter (fun x => voqTc x.key == tc) = if voqTc r.key = tc then [r] else [] := fun tc => by
    by_cases hc : voqTc r.key = tc <;> simp [hc]
  have hesc : (if ([r].filter (fun x => x.esc)).isEmpty = true then [r] else [r].filter (fun x => x.esc)) = [r] := by
    cases hr : r.esc <;> simp [hr]
  simp only [decide1, requests_lone h hx he, hclass]
  by_cases h7 : voqTc r.key = 7
  · simp only [h7, if_true, List.isEmpty_cons, Bool.not_false, hesc, roundRobin_singleton]
    exact ⟨_, rfl, hvoqs⟩
  · have htc : voqTc r.key < 7 := by have : voqTc r.key < 8 := Nat.mod_lt _ (by decide); omega
    have hpick := dwrr_reaches (classWeight s.dev) (cand := fun tc => !(if voqTc r.key = tc then [r] else []).isEmpty) htc
      (by simp) (fun c hc => by simp [Ne.symm hc]) 7 (arbOf s.dev (voqEgress r.key)) hp (Nat.mod_lt _ (by decide))
    simp only [if_neg h7, List.isEmpty_nil, Bool.not_true, Bool.false_eq_true, if_false, hpick, if_true, hesc,
      roundRobin_singleton]
    exact ⟨_, rfl, hvoqs⟩

theorem grants_lone (h : OnlyCell r b s) (hx : exchangeGroup s.dev b.cell = none)
    (he : classEligible s.now s.dev (voqEgress r.key) (voqTc r.key) = true) (hp : (arbOf s.dev (voqEgress r.key)).ptr < 7)
    {n : Nat} (hn : 0 < n) : grants (voqEgress r.key) n s = [r] := by
  obtain ⟨n, rfl⟩ := Nat.exists_eq_succ_of_ne_zero (by omega : n ≠ 0)
  obtain ⟨t, ht, hvoqs⟩ := decide1_lone h hx he hp
  simp only [grants, ht, grants_none hvoqs]

/-- The first iteration grants and accepts the one request. -/
theorem iteration_lone (h : OnlyCell r b s) (hx : exchangeGroup s.dev b.cell = none)
    (he : classEligible s.now s.dev (voqEgress r.key) (voqTc r.key) = true) (hp : (arbOf s.dev (voqEgress r.key)).ptr < 7) :
    (iteration { egress := [], source := [] } s).2 = applyGrant r s := by
  have hegress : 0 < egressCap s.dev (voqEgress r.key) := Nat.mul_pos (by decide) (portWidth_pos ..)
  have hsource : 0 < sourceCap s.dev (voqSource r.key) := by
    unfold sourceCap
    split
    · exact Nat.mul_pos (by decide) (portWidth_pos ..)
    · decide
  have hdups : ∀ x : Nat, [x].eraseDups = [x] := fun _ => rfl
  simp [iteration, h.1, hdups, grants_lone h hx he hp hegress, accepts_singleton _ r hsource]

/-- R176, R177: the three iterations of a match come to the lone cell's transfer. -/
theorem crossbarMatch_lone (h : OnlyCell r b s) (ha : accepting s.dev Page.xbs = true)
    (hx : exchangeGroup s.dev b.cell = none)
    (he : classEligible s.now s.dev (voqEgress r.key) (voqTc r.key) = true) (hp : (arbOf s.dev (voqEgress r.key)).ptr < 7) :
    crossbarMatch s = applyGrant r s := by
  have hstart : onDev resumeRounds s = s := by
    have hnone : resumeRounds s.dev = s.dev := resumeRounds_none fun e hmem c hc => by
      obtain rfl := List.mem_singleton.1 (h.1 ▸ hmem)
      have hb : c = b := by cases hesc : r.esc <;> simpa [hesc] using hc
      exact hb ▸ hx
    rw [onDev, hnone]
  obtain ⟨f, hf, hmoved⟩ := applyGrant_moved h hx
  have hvoqs : (applyGrant r s).dev.sw.voqs = [] := hf ▸ hmoved.voqs
  have hend : onDev resumeRounds (applyGrant r s) = applyGrant r s := by
    rw [onDev, resumeRounds_none (by simp [hvoqs])]
  simp only [crossbarMatch, ha, Bool.not_true, Bool.false_eq_true, if_false, hstart, iteration_lone h hx he hp,
    iteration_none _ hvoqs, hend]

/-- What O17 asks of the match, where the port's grant arbiter points at a class. -/
theorem crossbarMatch_moves (h : OnlyCell r b s) (ha : accepting s.dev Page.xbs = true)
    (hx : exchangeGroup s.dev b.cell = none)
    (he : classEligible s.now s.dev (voqEgress r.key) (voqTc r.key) = true) (hp : (arbOf s.dev (voqEgress r.key)).ptr < 7) :
    ∃ t, exec .crossbarMatch s = .next t ∧ t.dev.sw.voqs = [] ∧
      (t.dev.staged (voqEgress r.key) (voqTc r.key)).map Box.cell =
        (s.dev.staged (voqEgress r.key) (voqTc r.key)).map Box.cell ++ [b.cell] ∧
      Counted Page.xbs Reg.XBS_CNT 0 1 s t ∧ Kept [.sw, .lnk] watchTable [Page.xbs, Page.tel] s t := by
  obtain ⟨f, hf, hmoves, hvoqs, hstaged, hcounted⟩ := applyGrant_moved h hx
  refine ⟨_, (exec_crossbarMatch s).trans (effect_next _ _ _ rfl), ?_⟩
  rw [crossbarMatch_lone h ha hx he hp, hf]
  exact ⟨hvoqs, hstaged, hcounted, SoftAlters.kept hmoves (fun q _ hq => by simpa using hq) (by decide)⟩

end

/-- While XBS takes no work the match changes nothing (R191). -/
theorem crossbarMatch_idle {s : State} (h : accepting s.dev Page.xbs = false) : exec .crossbarMatch s = .next s := by
  rw [exec_crossbarMatch, effect_next _ _ _ rfl, crossbarMatch, h]
  rfl

end Sys2Proof.Machine


/-! ### Copies of a stored cell, and the next phase of an all-to-all (R179, R180, R267) -/

namespace Sys2Proof.Machine

/-! #### The end of a cell's counts (R139, R151, R470) -/

/-- Words of the pages that count a stored cell's end. -/
def EndWords (q : Page) (_ : Nat) : Prop := q = Page.fwd ∨ q = Page.tel

/-- The tables that a cell's end can write: TEL's watches and the flow table. -/
def endTables : List (Page × Nat) := [(Page.tel, 0), (Page.fwd, 2)]

/-- A flow index lies in the flow table's range of keys. -/
def FlowOk (b : Box) : Prop := ∀ i, b.flow = some i → i < 2 ^ 32

theorem inTables_endTables {k : Nat} (h : InTables watchTable k) : InTables endTables k := by
  obtain ⟨x, hx, hk⟩ := h
  exact ⟨x, by rw [List.mem_singleton.1 hx]; simp [endTables], hk⟩

theorem drainDec_ends (c : Cell) (d : Dev) : SoftAlters EndWords [.fwd] (InTables endTables) d (drainDec (cEpoch c) d) := by
  have he : cEpoch c < 2 := Nat.mod_lt _ (by decide)
  have h : SoftAlters EndWords [.fwd] (InTables endTables) d (wr Page.fwd (Reg.FWD_DRAIN_CELLS.idx (cEpoch c))
      (rd d Page.fwd (Reg.FWD_DRAIN_CELLS.idx (cEpoch c)) - 1) d) :=
    .wr _ d (by decide) (by show 0x110 + 4 * cEpoch c < 4096; omega) (.inl rfl)
  unfold drainDec
  dsimp only
  split
  · exact h.trans (.fwd _ _ (by simp))
  · exact h

theorem uncount_ends {b : Box} (d : Dev) (hf : FlowOk b) :
    SoftAlters EndWords [.fwd] (InTables endTables) d (uncount b d) := by
  have hheld : ∀ d, SoftAlters EndWords [.fwd] (InTables endTables) d (heldDec b.flow d) := fun d => by
    cases hb : b.flow with
    | none => exact .refl d
    | some i => exact .tsetListed _ d (by simp [endTables]) (hf i hb)
  unfold uncount
  split
  · exact (drainDec_ends b.cell d).trans (hheld _)
  · exact hheld d

theorem pushRecord_ends (die : Nat) (rec : List Byte) (d : Dev) :
    SoftAlters EndWords [.tel] (InTables endTables) d (pushRecord die rec d) := by
  unfold pushRecord
  extract_lets buf
  split
  · split <;> exact .tel _ d (by simp)
  · exact (SoftAlters.bumpN 1 d (by decide) (by decide) (fun _ => .inr rfl) (fun _ => .inr rfl)
      fun _ => inTables_endTables).trans (.raiseIrq _ _ (by decide) (.inr rfl))

theorem endLife_ends (b : Box) (fate : Nat) (d : Dev) :
    SoftAlters EndWords [.tel] (InTables endTables) d (endLife b fate d) := by
  unfold endLife
  split
  · exact .refl d
  · exact pushRecord_ends ..

/-- A stored cell ends: credits and accounts, the counts of the cell, and its record. -/
abbrev Ends (d e : Dev) : Prop := SoftAlters EndWords [.sw, .lnk, .fwd, .tel] (InTables endTables) d e

/-- The lists of stored cells and the replication buffers are the same. -/
def StoredSame (d e : Dev) : Prop := e.sw.mcast = d.sw.mcast ∧ e.sw.repl = d.sw.repl

theorem StoredSame.trans {a b c : Dev} (h : StoredSame a b) (h' : StoredSame b c) : StoredSame a c :=
  ⟨h'.1.trans h.1, h'.2.trans h.2⟩

theorem StoredSame.of_sw {d e : Dev} (h : e.sw = d.sw) : StoredSame d e := ⟨congrArg Sw.mcast h, congrArg Sw.repl h⟩

/-- A cell's counts end, then its record is written. -/
theorem lifeOver_ends {b c : Box} (fate : Nat) (d : Dev) (hf : FlowOk b) :
    Ends d (endLife c fate (uncount b d)) ∧ StoredSame d (endLife c fate (uncount b d)) := by
  have h1 := uncount_ends d hf
  have h2 := endLife_ends c fate (uncount b d)
  exact ⟨(h1.mono (fun _ _ => id) (by simp) fun _ => id).trans (h2.mono (fun _ _ => id) (by simp) fun _ => id),
    (StoredSame.of_sw (h1.part .sw (by simp))).trans (.of_sw (h2.part .sw (by simp)))⟩

theorem copyEnds_ends {b : Box} (n fate : Nat) (d : Dev) (hf : FlowOk b) :
    Ends d (copyEnds b n fate d) ∧ StoredSame d (copyEnds b n fate d) := by
  unfold copyEnds
  extract_lets left x d1 tag y d2 fate'
  have h1 : Ends d d1 := .sw _ d (by simp)
  have h2 : Ends d1 d2 := .sw _ d1 (by simp)
  split
  · obtain ⟨h3, hsame⟩ := lifeOver_ends (c := { b with tag := tag }) fate' d2 hf
    exact ⟨(h1.trans h2).trans h3, StoredSame.trans (b := d2) ⟨rfl, rfl⟩ hsame⟩
  · exact ⟨h1, rfl, rfl⟩

/-- A stored cell dropped leaves the lists and the replication buffers alone. -/
theorem dropBox_ends {b : Box} (fate : Nat) (d : Dev) (hf : FlowOk b) :
    Ends d (dropBox b fate d) ∧ StoredSame d (dropBox b fate d) := by
  have hcharge : Ends d (endCharge b d) := endCharge_alters b d (by simp) (by simp)
  have hsame : StoredSame d (endCharge b d) := by
    unfold endCharge
    dsimp only
    split <;> exact ⟨rfl, rfl⟩
  unfold dropBox
  dsimp only
  split
  · obtain ⟨h, hs⟩ := copyEnds_ends 1 fate (endCharge b d) hf
    exact ⟨hcharge.trans h, hsame.trans hs⟩
  · obtain ⟨h, hs⟩ := lifeOver_ends (c := b) fate (endCharge b d) hf
    exact ⟨hcharge.trans h, hsame.trans hs⟩

/-! #### MULTICAST_REPLICATE to one region (R179, R180) -/

/-- The copies stand in the region's replication buffer, and XBS has counted the transfer. -/
def replicated (now : W64) (b : Box) (region : Nat) (l : List Copy) (d : Dev) : Dev :=
  bump Page.xbs Reg.XBS_CNT 2 (updMtag b.num
    (fun t => if t.grant = 0xFFFFFFFF then { t with grant := deltaNow now b } else t)
    (setRepls region (d.repls region ++ [{ box := { b with acct := .none }, copies := l }]) d))

section

variable {now : W64} {b : Box} {region : Nat} {l : List Copy} {d : Dev}

theorem toRegion_here (hl : l ≠ []) (hr : ∀ c ∈ l, regionOf c.egress = region) (hroom : (d.repls region).length < 4096) :
    toRegion now b region (l, d) = ([], replicated now b region l d) := by
  have hmine : l.filter (fun c => regionOf c.egress == region) = l :=
    List.filter_eq_self.2 fun c hc => beq_iff_eq.2 (hr c hc)
  have hrest : l.filter (fun c => regionOf c.egress != region) = [] :=
    List.filter_eq_nil_iff.2 fun c hc => by simp [hr c hc]
  simp only [toRegion, hmine, hrest, List.isEmpty_iff, if_neg hl, if_neg (Nat.not_le.2 hroom)]
  rfl

theorem toRegion_elsewhere {other : Nat} (hr : ∀ c ∈ l, regionOf c.egress = region) (h : other ≠ region) :
    toRegion now b other (l, d) = (l, d) := by
  have hmine : l.filter (fun c => regionOf c.egress == other) = [] :=
    List.filter_eq_nil_iff.2 fun c hc => by simp [hr c hc, h.symm]
  simp only [toRegion, hmine, List.isEmpty_nil, if_true]

/-- With no copy left, no region gets one. -/
theorem foldl_toRegion_nil (rs : List Nat) :
    rs.foldl (fun x region => toRegion now b region x) ([], d) = ([], d) := by
  induction rs with
  | nil => rfl
  | cons y rs ih => exact ih

/-- Copies of one region are sent when the walk comes to it, and nothing else is. -/
theorem foldl_toRegion (hl : l ≠ []) (hr : ∀ c ∈ l, regionOf c.egress = region)
    (hroom : (d.repls region).length < 4096) {rs : List Nat} (hmem : region ∈ rs) :
    rs.foldl (fun x region => toRegion now b region x) (l, d) = ([], replicated now b region l d) := by
  induction rs with
  | nil => cases hmem
  | cons x rs ih =>
    rw [List.foldl_cons]
    by_cases hx : x = region
    · rw [hx, toRegion_here hl hr hroom, foldl_toRegion_nil]
    · rw [toRegion_elsewhere hr hx]
      exact ih ((List.mem_cons.1 hmem).resolve_left (Ne.symm hx))

end

section

variable {source tc region : Nat} {m : Mcast} {ms : List Mcast} {l : List Copy} {s : State}

theorem multicastReplicate_eq (ha : accepting s.dev Page.xbs = true) (hm : s.dev.mcasts (mcastKey source tc) = m :: ms)
    (hc : m.copies = some l) (hl : l ≠ []) (hr : ∀ c ∈ l, regionOf c.egress = region) (h8 : region < 8)
    (hroom : (s.dev.repls region).length < 4096) :
    multicastReplicate s.now source tc s.dev =
      dropBox m.box fateOther (setMcasts (mcastKey source tc) ms (replicated s.now m.box region l s.dev)) := by
  have hsent := foldl_toRegion (now := s.now) (b := m.box) hl hr hroom (List.mem_range.2 h8)
  simp only [multicastReplicate, ha, hm, hc, Bool.not_true, Bool.false_eq_true, if_false, List.isEmpty_iff, if_neg hl]
  rw [hsent]
  rfl

/-- What O18 asks of MULTICAST_REPLICATE, for a cell whose flow index lies in the flow table. -/
theorem multicastReplicate_sends (hs : source < 1032) (htc : tc < 8) (ha : accepting s.dev Page.xbs = true)
    (hm : s.dev.mcasts (mcastKey source tc) = m :: ms) (hf : FlowOk m.box) (hc : m.copies = some l) (hl : l ≠ [])
    (hr : ∀ c ∈ l, regionOf c.egress = region) (h8 : region < 8) (hroom : (s.dev.repls region).length < 4096) :
    ∃ t, exec (.multicastReplicate source tc) s = .next t ∧ t.dev.mcasts (mcastKey source tc) = ms ∧
      t.dev.repls region = s.dev.repls region ++ [{ box := { m.box with acct := .none }, copies := l }] ∧
      Counted Page.xbs Reg.XBS_CNT 2 1 s t ∧
      Kept [.sw, .lnk, .fwd, .tel] endTables [Page.xbs, Page.fwd, Page.tel] s t := by
  have hwf : (Instr.multicastReplicate source tc).wf = true :=
    Bool.and_eq_true_iff.2 ⟨decide_eq_true hs, decide_eq_true htc⟩
  have hdev := multicastReplicate_eq ha hm hc hl hr h8 hroom
  obtain ⟨hends, hmcast, hrepl⟩ :=
    dropBox_ends fateOther (setMcasts (mcastKey source tc) ms (replicated s.now m.box region l s.dev)) hf
  have hsw := bump_sw Page.xbs Reg.XBS_CNT 2 (updMtag m.box.num
    (fun t => if t.grant = 0xFFFFFFFF then { t with grant := deltaNow s.now m.box } else t)
    (setRepls region (s.dev.repls region ++ [{ box := { m.box with acct := .none }, copies := l }]) s.dev))
  have hcopied : SoftAlters (fun q _ => q ∈ [Page.xbs, Page.fwd, Page.tel]) [.sw, .lnk, .fwd, .tel] (InTables endTables)
      s.dev (replicated s.now m.box region l s.dev) :=
    ((SoftAlters.sw _ s.dev (by simp)).trans (.sw _ _ (by simp))).trans
      (.bumpN 1 _ (by decide) (by decide) (fun _ => by simp) (fun _ => by simp) fun _ => inTables_endTables)
  refine ⟨_, (exec_multicastReplicate ..).trans (effect_next _ _ _ hwf), ?_, ?_, ?_, SoftAlters.kept
    (hdev ▸ (hcopied.trans (.sw _ _ (by simp))).trans (hends.words fun q _ hq => by rcases hq with rfl | rfl <;> simp))
    (fun q _ hq => hq) (by decide)⟩
  · rw [onDev_dev, hdev, Dev.mcasts, hmcast]
    exact sget_sset_same ..
  · rw [onDev_dev, hdev, Dev.repls, hrepl]
    exact (congrArg (fun x => sget (konst []) x.repl region) hsw).trans (sget_sset_same ..)
  · have hpage : ∀ a, a < 4096 → rdWord (dropBox m.box fateOther (setMcasts (mcastKey source tc) ms
        (replicated s.now m.box region l s.dev))) Page.xbs a = rdWord (replicated s.now m.box region l s.dev) Page.xbs a :=
      fun a ha => hends.word Page.xbs a (by decide) ha fun h => by rcases h with h | h <;> cases h
    rw [Counted, onDev_dev, hdev, rd64, hpage _ (by decide), hpage _ (by decide)]
    exact rd64_bump_counts _ _ _ _ (by decide) (by decide) (by decide) (by decide)

end

/-! #### EGRESS_REPLICA_WRITE (R179) -/

/-- A copy for a port that is UP goes into its staging buffer; the entry whose last copy it was goes. -/
theorem replicaWrite_stages {region egress : Nat} {x : Repl} {c : Copy} {s : State} (h8 : region < 8) (he : egress < 1024)
    (hrun : pageState s.dev Page.xbs = stRunning) (hx : replFor s.dev egress (s.dev.repls region) = some x)
    (hc : x.copies.find? (fun c => c.egress == egress) = some c) (hup : portUp s.dev egress = true) :
    ∃ t, exec (.egressReplicaWrite region egress) s = .next t ∧
      t.dev.staged egress (cTc x.box.cell) =
        s.dev.staged egress (cTc x.box.cell) ++ [{ x.box with cell := c.cell, multi := true }] ∧
      (x.copies = [c] → t.dev.repls region = (s.dev.repls region).erase x) ∧ Kept [.sw] [] [] s t := by
  have hwf : (Instr.egressReplicaWrite region egress).wf = true :=
    Bool.and_eq_true_iff.2 ⟨decide_eq_true h8, decide_eq_true he⟩
  have hup' : ∀ l, portUp (setRepls region l s.dev) egress = true := fun _ => hup
  have hdev : ∃ l, replicaWrite region egress s.dev =
      setStaged egress (cTc x.box.cell)
        (s.dev.staged egress (cTc x.box.cell) ++ [{ x.box with cell := c.cell, multi := true }])
        (setRepls region l s.dev) ∧
      (x.copies = [c] → l = (s.dev.repls region).erase x) := by
    simp only [replicaWrite, hrun, hx, hc, hup', ne_eq, not_true, if_false, if_true]
    exact ⟨_, rfl, fun h => by simp [h]⟩
  obtain ⟨l, hdev, hlast⟩ := hdev
  refine ⟨_, (exec_egressReplicaWrite ..).trans (effect_next _ _ _ hwf), ?_, fun h => ?_, SoftAlters.kept
    (W := fun _ _ => False) (hdev ▸ (SoftAlters.sw _ s.dev (by simp)).trans (.sw _ _ (by simp))) (fun _ _ hq => hq.elim)
    (by simp)⟩
  · rw [onDev_dev, hdev, staged_setStaged_same]
  · rw [onDev_dev, hdev, ← hlast h]
    exact sget_sset_same ..

/-! #### A2A_PHASE_OPEN (R267) -/

theorem getD_set_same {α : Type} {l : List α} {i : Nat} (a d : α) (h : i < l.length) : (l.set i a).getD i d = a := by
  simp [h]

theorem getD_set_ne {α : Type} (l : List α) {i j : Nat} (a d : α) (h : j ≠ i) : (l.set i a).getD j d = l.getD j d := by
  simp [List.getD, List.getElem?_set_ne h.symm]

/-- The round with the next phase of a member open. -/
def phaseOpened (member : Nat) (r : Round) : Round :=
  { r with phases := r.phases.set member (r.phases.getD member 1 + 1), ended := r.ended.set member false }

/-- The second part of O18: the next phase of a member opens once its time has come. -/
theorem phaseOpens : Claims.PhaseOpens := by
  intro group member r s hg hm hlen hends hr hended hk hdue
  have hwf : (Instr.a2aPhaseOpen group member).wf = true :=
    Bool.and_eq_true_iff.2 ⟨decide_eq_true hg, decide_eq_true (by omega)⟩
  have hdue' : phaseDue s.now s.dev group (r.phases.getD member 1 + 1) r = true := decide_eq_true (by simpa using hdue)
  have hdev : openPhase s.now group member s.dev = setRound group (some (phaseOpened member r)) s.dev := by
    simp only [openPhase, hr, hended, hdue', decide_eq_true hk, Bool.and_self, if_true]
    rfl
  refine ⟨_, phaseOpened member r, (exec_a2aPhaseOpen ..).trans (effect_next _ _ _ hwf), ?_, getD_set_same _ _ hm,
    getD_set_same _ _ (hends ▸ hm), rfl, fun j hj => ⟨getD_set_ne _ _ _ hj, getD_set_ne _ _ _ hj⟩, SoftAlters.kept
    (W := fun _ _ => False) (hdev ▸ SoftAlters.col _ s.dev (by simp)) (fun _ _ hq => hq.elim) (by simp)⟩
  rw [onDev_dev, hdev]
  exact sget_sset_same ..

end Sys2Proof.Machine


/-! ### The crossbar and the egress side on states that no run reaches (R151, R495)

Both statements range over every state. An arbiter's pointer past class 6 makes its seven moves pass one class by, and a
flow index past the flow table's keys puts HELD in another table; either state meets the hypotheses. Nothing else stands
against the statements: `crossbarMatch_moves` and `crossbarMatch_idle`, and `multicastReplicate_sends`,
`replicaWrite_stages` and `phaseOpens`, are their clauses, the first and third with the pointer and the index in range. -/

namespace Sys2Proof.Machine

/-! #### An arbiter whose pointer names no class (R495) -/

/-- A data cell of class 2 from port 0. -/
def loneCell : Box := mkBox (mkCell 0 2 ocDATA 0 0 0 []) 0 0 0 0 0

/-- The normal list of class 2 from port 0 to port 0. -/
def loneReq : Req := { key := voqKey 0 0 2, esc := false }

/-- The cell is queued for port 0, which is UP, and XBS runs; the grant arbiter's pointer is 100. Its moves go to 100 and
then, as 101 is 3 modulo 7, to classes 3, 4, 5, 6, 0 and 1. -/
def strayPointer : State :=
  onDev (fun d => setVoq loneReq.key { norm := [loneCell], esc := [] }
    (setArb 0 { Dwrr.reset with ptr := 100 } (setLinkState 0 lsUp (setPageState Page.xbs stRunning d)))) State.reset

theorem onlyCell_strayPointer : OnlyCell loneReq loneCell strayPointer := by
  refine ⟨?_, ?_, ?_, ?_⟩ <;> decide +kernel

/-- The match leaves the cell queued. -/
theorem crossbarMatch_strayPointer : (crossbarMatch strayPointer).dev.sw.voqs ≠ [] := by decide +kernel

/-- Refutes O17: with class 2 alone requesting, the grant arbiter whose pointer is 100 grants nothing, and the lone cell
stays queued. -/
theorem not_crossbarMovesCell : ¬ Obligations.CrossbarMovesCell := by
  rintro ⟨hmove, -⟩
  obtain ⟨t, ht, hempty, -⟩ := hmove loneReq loneCell strayPointer onlyCell_strayPointer (by decide +kernel)
    (by decide +kernel) (by decide +kernel)
  have hnext : exec .crossbarMatch strayPointer = .next (crossbarMatch strayPointer) :=
    (exec_crossbarMatch _).trans (effect_next _ _ _ rfl)
  have ht : crossbarMatch strayPointer = t := Host.Outcome.next.inj (hnext.symm.trans ht)
  exact crossbarMatch_strayPointer (ht ▸ hempty)

/-! #### A flow index outside the flow table (R151) -/

/-- A stored cell with one copy for port 0, whose flow index leads from FWD's flow table to entry 0 of COL's group table. -/
def strayFlow : Mcast :=
  { box := { loneCell with flow := some (tblKey Page.col 0 0 - tblKey Page.fwd 2 0) },
    copies := some [{ egress := 0, cell := loneCell.cell }] }

/-- The cell heads the list of port 0 and class 2, XBS runs, and word 6 of group 0 holds 1. -/
def strayStored : State :=
  onDev (fun d => tset Page.col 0 0 [0, 0, 0, 0, 0, 0, 1, 0]
    (setMcasts (mcastKey 0 2) [strayFlow] (setPageState Page.xbs stRunning d))) State.reset

/-- The end of the stored cell counts down in the group's entry. -/
theorem group_strayStored : tget (multicastReplicate strayStored.now 0 2 strayStored.dev) Page.col 0 0 ≠
    tget strayStored.dev Page.col 0 0 := by decide +kernel

/-- Refutes O18: the last copy sent ends the stored cell's count in HELD of its flow, and a flow index outside the flow
table puts that count in an entry of another table, here of COL's groups. -/
theorem not_copiesAndPhases : ¬ Obligations.CopiesAndPhases := by
  rintro ⟨⟨hsend, -⟩, -⟩
  obtain ⟨t, ht, -, -, -, -, -, -, hentries, -⟩ := hsend 0 2 0 strayFlow [] _ strayStored (by decide) (by decide)
    (by decide +kernel) (by decide +kernel) rfl (by simp) (by decide +kernel) (by decide) (by decide +kernel)
  have hnext : exec (.multicastReplicate 0 2) strayStored =
      .next (onDev (multicastReplicate strayStored.now 0 2) strayStored) :=
    (exec_multicastReplicate ..).trans (effect_next _ _ _ (by decide))
  cases hnext.symm.trans ht
  exact group_strayStored (hentries Page.col 0 0 (by decide) (by decide) (by decide) (by decide))

end Sys2Proof.Machine

/-! ### Gate lists and launch holds (R204, R205, R209) -/

namespace Sys2Proof.Machine

/-! #### Counts of any size (R465) -/

theorem rd64_lt (d : Dev) (p : Page) (f : Fd) : rd64 d p f < 2 ^ 64 := by
  have hlo := (rdWord d p f.off).isLt
  have hhi := (rdWord d p (f.off + 4)).isLt
  unfold rd64
  omega

/-- A counter outside TEL and the regions has gone up by what was counted (R465). -/
theorem rd64_bumpN_counts (p : Page) (base : Fd) (k n : Nat) (d : Dev) (hp : p ≠ Page.tel) (hpi : p.inst < 4096)
    (hb : base.off + 8 * k + 4 < 4096) (hl : p.blk ≠ .ldl) :
    rd64 (bumpN p base k n d) p ⟨base.off + 8 * k, 31, 0⟩ = (rd64 d p ⟨base.off + 8 * k, 31, 0⟩ + n) % 2 ^ 64 := by
  have hlo : base.off + 8 * k < 4096 := by omega
  have hoverflows : ∀ fuel off n d, off + 4 < 4096 →
      rd64 (bumpAt fuel Page.tel off n d) p ⟨base.off + 8 * k, 31, 0⟩ = rd64 d p ⟨base.off + 8 * k, 31, 0⟩ := by
    intro fuel off n d ho
    have hapart : ∀ {a b : Nat}, a < 4096 → b < 4096 → Page.tel.base + b ≠ p.base + a := tel_addr hp hpi
    have hword : ∀ a, a < 4096 → rdWord (bumpAt fuel Page.tel off n d) p a = rdWord d p a := fun a ha =>
      rdWord_bumpAt_ne fuel Page.tel p off n d hp hpi ha (hapart ha (by omega)) (hapart ha ho)
    simp only [rd64, hword _ hlo, hword _ hb]
  have hwatches : ∀ (l : List Nat) (a n : Nat) (r : Dev × Nat),
      rd64 (l.foldl (fun r i => watchStep a n i r) r).1 p ⟨base.off + 8 * k, 31, 0⟩ =
        rd64 r.1 p ⟨base.off + 8 * k, 31, 0⟩ := fun l a n r => by
    simp only [rd64, rdWord_watchFold l a n r hp hpi hlo, rdWord_watchFold l a n r hp hpi hb]
  by_cases hn : n = 0
  · rw [hn, bumpN, if_pos rfl, Nat.add_zero, Nat.mod_eq_of_lt (rd64_lt ..)]
  · have hsum : counterSum p (rd64 d p ⟨base.off + 8 * k, 31, 0⟩ + n) = rd64 d p ⟨base.off + 8 * k, 31, 0⟩ + n :=
      if_neg fun h => hl h.1
    rw [bumpN, if_neg hn, bumpAt, hsum]
    split_ifs
    · rw [hwatches, rd64_wr64]
    · rw [hoverflows _ _ _ _ (by decide), hwatches, rd64_wr64]

/-! #### Registers of an ETM page (R213) -/

/-- GATE_CTL: START holds nothing, and NEXT_LIST is staged. -/
def gateCtl : RegDef := ⟨0x104, 1, 4, 0, [⟨1, 1, .L, .wo, 0, .any⟩, ⟨0, 0, .S, .rw, 0, .any⟩]⟩

/-- HOLD. -/
def holdReg : RegDef := ⟨0x128, 1, 4, 0, [⟨6, 0, .L, .rw, 0, .any⟩]⟩

theorem regAt_gateCtl (lane : Nat) : (Page.etm lane).regAt 0x104 = some gateCtl := by cases lane <;> rfl

theorem regAt_hold (lane : Nat) : (Page.etm lane).regAt 0x128 = some holdReg := by cases lane <;> rfl

/-- A write of one of the page's own registers by its owner. -/
theorem write32_etm {src : Src} {lane off : Nat} {r : RegDef} {s : State} (v : Nat) (h : Owns src (Page.etm lane) s)
    (hlo : 0x100 ≤ off) (hhi : off < 4096) (h4 : off % 4 = 0) (hr : (Page.etm lane).regAt off = some r) (hv : v < 2 ^ 32) :
    write32 src (Page.etm lane) off v s = onDev (etmWrite src s.now lane off (BitVec.ofNat 32 v) r) s := by
  rw [write32_reg v h hhi h4 (by omega) hr (by simp [Page.etm, Page.dbg]) hv, regWrite_block _ _ _ _ hlo]
  rfl

/-! #### What a gate list's checks read (R205) -/

/-- Fabric time in ns fits a 64-bit register (R365). -/
theorem fabricNs_lt (d : Dev) (now : W64) : fabricNs d now < 2 ^ 64 := by
  unfold fabricNs fabricAt unsignedOf
  omega

section

variable {lane list : Nat} {P : List Part} {d e : Dev} (h : Alters (At (Page.etm lane) []) P NoEntry d e)
include h

theorem gateEntry_congr (k : Nat) : gateEntry e lane list k = gateEntry d lane list k := by
  simp only [gateEntry, tget, h.entry _ id]

theorem gateLen_congr (hl : lane < 4096) : gateLen e lane list = gateLen d lane list := by
  unfold gateLen
  split <;> exact h.rd_off hl (by decide) List.not_mem_nil

/-- The checks read the list's entries, its length and its cycle alone. -/
theorem gateCheck_congr (hl : lane < 4096) (hlist : list < 2) : gateCheck e lane list = gateCheck d lane list := by
  have hcycle : gateCycle e lane list = gateCycle d lane list :=
    h.rd_off hl (show 0x110 + 4 * list < 4096 by omega) List.not_mem_nil
  have hints : gateIntervals e lane list = gateIntervals d lane list := by
    simp only [gateIntervals, gateEntry_congr h, gateLen_congr h hl]
  unfold gateCheck
  rw [hints, gateLen_congr h hl, hcycle]

end

/-! #### GATE_CTL (R205) -/

/-- The list that NEXT_LIST names. -/
def nextList (d : Dev) (lane : Nat) : Nat := rd d (Page.etm lane) Reg.ETM_GATE_CTL_NEXT_LIST

theorem nextList_lt (d : Dev) (lane : Nat) : nextList d lane < 2 := Nat.mod_lt _ (by decide)

/-- A word written as it stands changes nothing. -/
theorem wrWord_rdWord_alters {W : Page → Nat → Prop} {P : List Part} {T : Nat → Prop} {p : Page} {off : Nat} (d : Dev)
    (hp : p.inst < 4096) (ho : off < 4096) : Alters W P T d (wrWord p off (rdWord d p off) d) := by
  refine ⟨fun q a hq ha _ => ?_, fun x _ => by cases x <;> rfl, fun _ _ => rfl⟩
  rw [rdWord_wrWord]
  split
  next h =>
    obtain ⟨rfl, rfl⟩ := (Page.addr_inj p q off a hp hq ho ha).1 h
    rfl
  next => rfl

/-- Staging changes no active value (R54). -/
theorem stageFields_alters {W : Page → Nat → Prop} {P : List Part} {T : Nat → Prop} (p : Page) (off : Nat) (v : W32)
    (l : List Fld) (d : Dev) : Alters W P T d (stageFields p off v l d) := by
  obtain ⟨hregs, htables, hparts⟩ := stageFields_keeps p off v l d
  exact ⟨fun q a _ _ _ => rdWord_congr hregs q a, fun x _ => hparts x, fun _ _ => by rw [htables]⟩

/-- A write of GATE_CTL's fields changes no active value: START holds nothing, and NEXT_LIST is staged. -/
theorem fieldWrite_gateCtl_alters {W : Page → Nat → Prop} {P : List Part} {T : Nat → Prop} (src : Src) {lane : Nat} (v : W32)
    (d : Dev) (hl : lane < 4096) : Alters W P T d (fieldWrite src (Page.etm lane) 0x104 v gateCtl d) := by
  have hbits : portBits d (Page.etm lane) 0x104 = 0 := portBits_off_links _ _ (by simp [Page.etm])
  have hall : ∀ x : W32, x &&& 0xFFFFFFFF#32 = x := fun x => BitVec.and_allOnes
  have heq : fieldWrite src (Page.etm lane) 0x104 v gateCtl d = stageFields (Page.etm lane) 0x104 v gateCtl.flds
      (wrWord (Page.etm lane) 0x104 (rdWord d (Page.etm lane) 0x104) d) := by
    simp [fieldWrite, gateCtl, hbits, fldMask, takesNow, writeErrs, merge, Fld.ok, Enc.ok, hall]
  exact heq ▸ (wrWord_rdWord_alters d hl (by decide)).trans (stageFields_alters ..)

/-- The device after GATE_CTL's fields are written with START 1 (R205). -/
def startTaken (src : Src) (lane : Nat) (d : Dev) : Dev :=
  fieldWrite src (Page.etm lane) 0x104
    (BitVec.ofNat 32 (2 + (shownWord d ((Page.etm lane).base + 0x104)).toNat % 2)) gateCtl d

section

variable {W : Page → Nat → Prop} {P : List Part} {T : Nat → Prop} {src : Src} {lane : Nat} (d : Dev)

theorem startTaken_alters (hl : lane < 4096) : Alters W P T d (startTaken src lane d) :=
  fieldWrite_gateCtl_alters src _ d hl

theorem nextList_startTaken (hl : lane < 4096) : nextList (startTaken src lane d) lane = nextList d lane :=
  (startTaken_alters (W := At (Page.etm lane) []) (P := []) (T := NoEntry) d hl).rd_off hl (by decide) List.not_mem_nil

/-- The checks see the list as it was before the write. -/
theorem gateCheck_startTaken (hl : lane < 4096) :
    gateCheck (startTaken src lane d) lane (nextList (startTaken src lane d) lane) = gateCheck d lane (nextList d lane) := by
  rw [nextList_startTaken d hl, gateCheck_congr (P := []) (startTaken_alters d hl) hl (nextList_lt ..)]

end

/-- GATE_START by the page's owner: the fields are written, then the list that NEXT_LIST names starts (R205). -/
theorem exec_gateStart_owned {src : Src} {lane : Nat} {s : State} (h : Owns src (Page.etm lane) s) (hl : lane < 1024) :
    exec (.gateStart src lane) s = .next (onDev (fun d => gateStartAt (setErr (Page.etm lane) 16 src 0x104) lane
      (fabricNs d s.now) (startTaken src lane d)) s) := by
  have hstart : (BitVec.ofNat 32 (2 + (shownWord s.dev ((Page.etm lane).base + 0x104)).toNat % 2)).getLsbD 1 = true := by
    rcases Nat.mod_two_eq_zero_or_one (shownWord s.dev ((Page.etm lane).base + 0x104)).toNat with h0 | h1
    · rw [h0]; rfl
    · rw [h1]; rfl
  rw [exec_gateStart, effect_next (.gateStart src lane) _ _ (decide_eq_true hl),
    write32_etm _ h (by decide) (by decide) (by decide) (regAt_gateCtl lane) (by omega)]
  simp only [onDev, etmWrite, hstart, doIf_true]
  rfl

/-! #### A list starts (R205) -/

@[simp] theorem gateOf_setGate (lane : Nat) (g : Option Gate) (d : Dev) : gateOf (setGate lane g d) lane = g :=
  sget_sset_same ..

/-- The list as the page shows it at its start: running at entry 0 from `ns`. -/
def startShown (lane list ns : Nat) (d : Dev) : Dev :=
  wr64 (Page.etm lane) Reg.ETM_GATE_BASE ns
    (showEntry lane list 0
      (wr (Page.etm lane) Reg.ETM_GATE_STAT_ACTIVE_LIST list
        (wr (Page.etm lane) Reg.ETM_GATE_STAT_RUNNING 1
          (setGate lane (some { start := ns, entryStart := ns, entry := 0 }) d))))

/-- A list started: shown, counted, and reported. -/
def listStarted (lane list ns : Nat) (d : Dev) : Dev :=
  raiseIrq (Page.etm lane) 16 (bump (Page.etm lane) Reg.ETM_CNT 13 (startShown lane list ns d))

theorem gateStartAt_starts {refuse : Nat → Dev → Dev} {lane ns : Nat} {d : Dev}
    (h : gateCheck d lane (nextList d lane) = none) :
    gateStartAt refuse lane ns d = listStarted lane (nextList d lane) ns d := by
  simp only [gateStartAt, show gateCheck d lane (rd d (Page.etm lane) Reg.ETM_GATE_CTL_NEXT_LIST) = none from h]
  rfl

theorem gateStartAt_refuses {refuse : Nat → Dev → Dev} {lane ns c : Nat} {d : Dev}
    (h : gateCheck d lane (nextList d lane) = some c) : gateStartAt refuse lane ns d = refuse c d := by
  simp only [gateStartAt, show gateCheck d lane (rd d (Page.etm lane) Reg.ETM_GATE_CTL_NEXT_LIST) = some c from h]

section

variable {lane : Nat} (list ns : Nat) (d : Dev)

theorem gateOf_listStarted :
    gateOf (listStarted lane list ns d) lane = some { start := ns, entryStart := ns, entry := 0 } := by
  have hsw : (listStarted lane list ns d).sw = (startShown lane list ns d).sw := by simp [listStarted]
  rw [gateOf, hsw]
  exact gateOf_setGate lane _ d

/-- An entry shown writes two words of the page. -/
theorem showEntry_alters {W : Page → Nat → Prop} {P : List Part} {T : Nat → Prop} (k : Nat) (hl : lane < 4096)
    (hstat : W (Page.etm lane) 0x108) (hopen : W (Page.etm lane) 0x10C) : SoftAlters W P T d (showEntry lane list k d) :=
  (SoftAlters.wr k d hl (by decide) hstat).trans (.wr _ _ hl (by decide) hopen)

theorem listStarted_alters (hl : lane < 4096) :
    SoftAlters (CountWords (Page.etm lane)) [.sw] (InTables watchTable) d (listStarted lane list ns d) := by
  have hown : ∀ a, CountWords (Page.etm lane) (Page.etm lane) a := fun _ => List.mem_cons_self ..
  have hshown : SoftAlters (CountWords (Page.etm lane)) [.sw] (InTables watchTable) d (startShown lane list ns d) :=
    ((((SoftAlters.sw _ d (by simp)).trans (.wr 1 _ hl (by decide) (hown _))).trans
      (.wr list _ hl (by decide) (hown _))).trans (showEntry_alters list _ 0 hl (hown _) (hown _))).trans
      (.wr64 ns _ hl (by decide) (hown _) (hown _))
  exact (hshown.trans (.bump _ hl (by decide) hown (by simp [CountWords]))).trans (.raiseIrq 16 _ hl (hown _))

/-- The page's words before its counters, PAGE_IRQ apart, are those shown. -/
theorem rdWord_listStarted {a : Nat} (hl : lane < 4096) (hlo : 0x014 ≤ a) (hhi : a < 0x200) (h4 : a % 4 = 0) :
    rdWord (listStarted lane list ns d) (Page.etm lane) a = rdWord (startShown lane list ns d) (Page.etm lane) a := by
  have hoff : Reg.ETM_CNT.off = 0x200 := rfl
  rw [listStarted, rdWord_raiseIrq_off _ _ _ (by omega),
    rdWord_bump_off _ _ _ (by simp [Page.etm, Page.tel]) hl (by omega) (.inl (by omega)) h4 (by decide)]

theorem rd64_listStarted (hl : lane < 4096) (h : ns < 2 ^ 64) :
    rd64 (listStarted lane list ns d) (Page.etm lane) Reg.ETM_GATE_BASE = ns := by
  rw [rd64, rdWord_listStarted _ _ _ hl (by decide) (by decide) (by decide),
    rdWord_listStarted _ _ _ hl (by decide) (by decide) (by decide)]
  exact rd64_wr64_same _ _ _ _ h

/-- GATE_STAT shows the list running at entry 0. -/
theorem gateStat_listStarted (hl : lane < 4096) (hlist : list < 2) :
    rdBit (listStarted lane list ns d) (Page.etm lane) Reg.ETM_GATE_STAT_RUNNING = true ∧
      rd (listStarted lane list ns d) (Page.etm lane) Reg.ETM_GATE_STAT_ACTIVE_LIST = list ∧
      rd (listStarted lane list ns d) (Page.etm lane) Reg.ETM_GATE_STAT_ENTRY = 0 := by
  have hread : ∀ f : Fd, f.off = 0x108 → rd (listStarted lane list ns d) (Page.etm lane) f =
      rd (wr (Page.etm lane) Reg.ETM_GATE_STAT_ENTRY 0 (wr (Page.etm lane) Reg.ETM_GATE_STAT_ACTIVE_LIST list
        (wr (Page.etm lane) Reg.ETM_GATE_STAT_RUNNING 1
          (setGate lane (some { start := ns, entryStart := ns, entry := 0 }) d)))) (Page.etm lane) f := by
    intro f hf
    rw [rd, hf, rdWord_listStarted _ _ _ hl (by decide) (by decide) (by decide), startShown,
      rdWord_wr64_off _ _ _ _ (by decide) (by decide), showEntry, rdWord_wr_off _ _ _ _ _ (by decide), rd, hf]
  refine ⟨?_, ?_, ?_⟩
  · rw [rdBit_eq, hread _ rfl, rd_wr_apart _ _ _ rfl rfl rfl, rd_wr_apart _ _ _ rfl rfl rfl,
      rd_wr_fits _ _ _ _ rfl (by decide)]
    rfl
  · rw [hread _ rfl, rd_wr_apart _ _ _ rfl rfl rfl, rd_wr_fits _ _ _ _ rfl hlist]
  · rw [hread _ rfl, rd_wr_fits _ _ _ _ rfl (by decide)]

end

/-- GATE_START of a list that passes its checks (R205). -/
theorem gateStart_starts {src : Src} {lane : Nat} {s : State} (ho : Owns src (Page.etm lane) s) (hl : lane < 1024)
    (hc : gateCheck s.dev lane (nextList s.dev lane) = none) :
    ∃ t, exec (.gateStart src lane) s = .next t ∧ rdBit t.dev (Page.etm lane) Reg.ETM_GATE_STAT_RUNNING = true ∧
      rd t.dev (Page.etm lane) Reg.ETM_GATE_STAT_ACTIVE_LIST = nextList s.dev lane ∧
      rd t.dev (Page.etm lane) Reg.ETM_GATE_STAT_ENTRY = 0 ∧
      rd64 t.dev (Page.etm lane) Reg.ETM_GATE_BASE = fabricNs s.dev s.now ∧
      gateOf t.dev lane = some { start := fabricNs s.dev s.now, entryStart := fabricNs s.dev s.now, entry := 0 } ∧
      CoreKept s t ∧ PartsKept [.sw] s t ∧ EntriesKept [(Page.tel, 0)] s t ∧ PagesKept [Page.etm lane, Page.tel] s t := by
  have hinst : lane < 4096 := by omega
  have hdev : gateStartAt (setErr (Page.etm lane) 16 src 0x104) lane (fabricNs s.dev s.now) (startTaken src lane s.dev) =
      listStarted lane (nextList s.dev lane) (fabricNs s.dev s.now) (startTaken src lane s.dev) := by
    rw [gateStartAt_starts ((gateCheck_startTaken _ hinst).trans hc), nextList_startTaken _ hinst]
  obtain ⟨hrun, hactive, hentry⟩ :=
    gateStat_listStarted _ (fabricNs s.dev s.now) (startTaken src lane s.dev) hinst (nextList_lt s.dev lane)
  have halt : Alters (CountWords (Page.etm lane)) [.sw] (InTables watchTable) s.dev
      (listStarted lane (nextList s.dev lane) (fabricNs s.dev s.now) (startTaken src lane s.dev)) :=
    (startTaken_alters s.dev hinst).trans (listStarted_alters _ _ _ hinst).toAlters
  refine ⟨_, exec_gateStart_owned ho hl, ?_, ?_, ?_, ?_, ?_, coreKept_onDev _ s, (hdev ▸ halt).partsKept,
    (hdev ▸ halt).entriesKept (by decide), (hdev ▸ halt).pagesKept fun _ _ hq => hq⟩ <;> rw [onDev_dev, hdev]
  · exact hrun
  · exact hactive
  · exact hentry
  · exact rd64_listStarted _ _ _ hinst (fabricNs_lt ..)
  · exact gateOf_listStarted ..

/-- GATE_START of a list that fails a check starts nothing and records error class 16 (R205). -/
theorem gateStart_refuses {src : Src} {lane c : Nat} {s : State} (ho : Owns src (Page.etm lane) s) (hl : lane < 1024)
    (hc : gateCheck s.dev lane (nextList s.dev lane) = some c) :
    ∃ t, exec (.gateStart src lane) s = .next t ∧ (rdWord t.dev (Page.etm lane) 0x018).getLsbD 16 = true ∧
      gateOf t.dev lane = gateOf s.dev lane ∧ CoreKept s t ∧ TablesKept s t ∧ PartsKept [] s t ∧
      PagesKept [Page.etm lane] s t := by
  have hinst : lane < 4096 := by omega
  have hdev : gateStartAt (setErr (Page.etm lane) 16 src 0x104) lane (fabricNs s.dev s.now) (startTaken src lane s.dev) =
      setErr (Page.etm lane) 16 src 0x104 c (startTaken src lane s.dev) :=
    gateStartAt_refuses ((gateCheck_startTaken _ hinst).trans hc)
  have halt : Alters (OnPage (Page.etm lane)) [] NoEntry s.dev
      (setErr (Page.etm lane) 16 src 0x104 c (startTaken src lane s.dev)) :=
    (startTaken_alters s.dev hinst).trans (.setErrs _ _ _ _ _ hinst fun _ _ => rfl)
  refine ⟨_, exec_gateStart_owned ho hl, ?_, ?_, (hdev ▸ halt).onPage_keeps⟩ <;> rw [onDev_dev, hdev]
  · exact setErrs_bit _ 16 _ _ _ _ (by decide)
  · exact congrArg (fun x => sget (konst none) x.gates lane) (halt.part .sw (by simp))

/-! #### A list advances (R204) -/

/-- GATE_ENTRY once the entry in effect has run for its INTERVAL. -/
theorem gateEntry_advances {lane : Nat} {g : Gate} {s : State} (hl : lane < 1024) (hg : gateOf s.dev lane = some g)
    (hdue : g.entryStart + (gateEntry s.dev lane (activeList s.dev lane) g.entry).2 ≤ fabricNs s.dev s.now)
    (hlen : gateLen s.dev lane (activeList s.dev lane) ≤ 256) :
    ∃ t k, exec (.gateEntry lane) s = .next t ∧
      k = (if g.entry + 1 < gateLen s.dev lane (activeList s.dev lane) then g.entry + 1 else 0) ∧
      gateOf t.dev lane = some { g with
        entryStart := g.entryStart + (gateEntry s.dev lane (activeList s.dev lane) g.entry).2, entry := k } ∧
      rd t.dev (Page.etm lane) Reg.ETM_GATE_STAT_ENTRY = k ∧
      rd t.dev (Page.etm lane) Reg.ETM_GATE_OPEN_OPEN = ((gateEntry s.dev lane (activeList s.dev lane) k).1 ||| 128) ∧
      Kept [.sw] [] [Page.etm lane] s t := by
  have hinst : lane < 4096 := by omega
  obtain ⟨k, hk⟩ : ∃ k, k = if g.entry + 1 < gateLen s.dev lane (activeList s.dev lane) then g.entry + 1 else 0 := ⟨_, rfl⟩
  have hk256 : k < 256 := by split at hk <;> omega
  have hdev : gateAdvance s.now lane s.dev = showEntry lane (activeList s.dev lane) k (setGate lane (some { g with
      entryStart := g.entryStart + (gateEntry s.dev lane (activeList s.dev lane) g.entry).2, entry := k }) s.dev) := by
    simp only [gateAdvance, hg, if_neg (Nat.not_lt.2 hdue), hk]
  have halt : SoftAlters (OnPage (Page.etm lane)) [.sw] (InTables []) s.dev (gateAdvance s.now lane s.dev) :=
    hdev ▸ (SoftAlters.sw _ s.dev (by simp)).trans (showEntry_alters _ _ k hinst rfl rfl)
  refine ⟨_, k, (exec_gateEntry lane s).trans (effect_next _ _ _ (decide_eq_true hl)), hk, ?_, ?_, ?_,
    halt.kept (f := gateAdvance s.now lane) (fun _ _ hq => List.mem_singleton.2 hq) (by simp)⟩ <;> rw [onDev_dev, hdev]
  · exact gateOf_setGate ..
  · rw [showEntry, rd_wr_apart _ _ _ rfl rfl rfl]
    exact rd_wr_fits _ _ _ _ rfl hk256
  · exact rd_wr_fits _ _ _ _ rfl (Nat.or_lt_two_pow (Nat.mod_lt _ (by decide)) (by decide))

/-! #### Launch holds (R209) -/

/-- The classes whose HOLD bit falls when `v` is written. -/
def holdsFallen (lane v : Nat) (d : Dev) : List Nat :=
  (List.range 7).filter fun c => decide (rd d (Page.etm lane) Reg.ETM_HOLD_HOLD / 2 ^ c % 2 = 1 ∧ v / 2 ^ c % 2 = 0)

/-- HOLD written, with the launches counted. -/
def holdCounted (lane v : Nat) (d : Dev) : Dev :=
  bumpN (Page.etm lane) Reg.ETM_CNT 12 (holdsFallen lane v d).length (wr (Page.etm lane) Reg.ETM_HOLD_HOLD v d)

theorem setHold_eq (lane v : Nat) (d : Dev) : setHold lane v d =
    if (holdsFallen lane v d).length = 0 then holdCounted lane v d else raiseIrq (Page.etm lane) 17 (holdCounted lane v d) :=
  rfl

/-- HOLD_WRITE by the page's owner (R209). -/
theorem exec_holdWrite_owned {src : Src} {lane mask : Nat} {s : State} (h : Owns src (Page.etm lane) s) (hl : lane < 1024)
    (hm : mask < 128) : exec (.holdWrite src lane mask) s = .next (onDev (setHold lane mask) s) := by
  have hbits : bitsOf (BitVec.ofNat 32 mask) 6 0 = mask := by
    simp only [bitsOf, BitVec.toNat_ofNat, Nat.shiftRight_zero]
    omega
  rw [exec_holdWrite, effect_next (.holdWrite src lane mask) _ _ (decide_eq_true hl),
    write32_etm _ h (by decide) (by decide) (by decide) (regAt_hold lane) (by omega)]
  exact congrArg (fun v => Host.Outcome.next (onDev (setHold lane v) s)) hbits

section

variable {lane : Nat} (v : Nat) (d : Dev)

theorem setHold_alters {P : List Part} (hl : lane < 4096) :
    SoftAlters (CountWords (Page.etm lane)) P (InTables watchTable) d (setHold lane v d) := by
  have hown : ∀ a, CountWords (Page.etm lane) (Page.etm lane) a := fun _ => List.mem_cons_self ..
  have hcounted : SoftAlters (CountWords (Page.etm lane)) P (InTables watchTable) d (holdCounted lane v d) :=
    (SoftAlters.wr v d hl (by decide) (hown _)).trans (.bumpN _ _ hl (by decide) hown (by simp [CountWords]) fun _ => id)
  rw [setHold_eq]
  split
  · exact hcounted
  · exact hcounted.trans (.raiseIrq 17 _ hl (hown _))

/-- Words of the page but PAGE_IRQ are those with the launches counted. -/
theorem rdWord_setHold {a : Nat} (h : a ≠ 0x010) :
    rdWord (setHold lane v d) (Page.etm lane) a = rdWord (holdCounted lane v d) (Page.etm lane) a := by
  rw [setHold_eq]
  split
  · rfl
  · rw [rdWord_raiseIrq_off _ _ _ h]

theorem hold_setHold (hl : lane < 4096) (hv : v < 128) :
    rd (setHold lane v d) (Page.etm lane) Reg.ETM_HOLD_HOLD = v := by
  rw [rd, rdWord_setHold _ _ (by decide), holdCounted,
    rdWord_bumpN_off _ _ _ _ (by simp [Page.etm, Page.tel]) hl (by decide) (.inl (by decide)) (by decide) (by decide)]
  exact rd_wr_fits _ _ _ _ rfl hv

/-- The launches counted (R209). -/
theorem launches_setHold (hl : lane < 4096) :
    rd64 (setHold lane v d) (Page.etm lane) ⟨Reg.ETM_CNT.off + 8 * 12, 31, 0⟩ =
      (rd64 d (Page.etm lane) ⟨Reg.ETM_CNT.off + 8 * 12, 31, 0⟩ + (holdsFallen lane v d).length) % 2 ^ 64 := by
  rw [rd64, rdWord_setHold _ _ (by decide), rdWord_setHold _ _ (by decide)]
  refine (rd64_bumpN_counts _ _ _ _ _ (by simp [Page.etm, Page.tel]) hl (by decide) (by simp [Page.etm])).trans ?_
  rw [rd64, rdWord_wr_off _ _ _ _ _ (by decide), rdWord_wr_off _ _ _ _ _ (by decide), rd64]

/-- A launch is reported (R209). -/
theorem irq_setHold (h : (holdsFallen lane v d).length ≠ 0) :
    (rdWord (setHold lane v d) (Page.etm lane) 0x010).getLsbD 17 = true := by
  rw [setHold_eq, if_neg h]
  exact raiseIrq_bit _ _ _ (by decide)

end

/-- Settles O20: the fields of GATE_CTL change no active value, so the checks and the start see the state before the write;
an entry shown and a HOLD written are each a write of the page's own words, and the launches are one count. -/
theorem gatesAndHolds : Obligations.GatesAndHolds := by
  refine ⟨fun src lane s ho hl => ⟨gateStart_starts ho hl, fun c => gateStart_refuses ho hl⟩,
    fun lane g s hl hg hdue hlen => gateEntry_advances hl hg hdue hlen, fun src lane mask s ho hl hm => ?_⟩
  have hinst : lane < 4096 := by omega
  exact ⟨_, exec_holdWrite_owned ho hl hm, hold_setHold _ _ hinst hm, launches_setHold _ _ hinst, irq_setHold _ _,
    (setHold_alters (P := []) mask s.dev hinst).kept (f := setHold lane mask) (fun _ _ hq => hq) (by decide)⟩

end Sys2Proof.Machine

/-! ### Transmit slots (R113, R202, R372) -/

namespace Sys2Proof.Machine

/-! #### What a port's record and its staged lists hang on -/

theorem port_of_lnk {d e : Dev} (h : e.lnk = d.lnk) (lane : Nat) : e.port lane = d.port lane := by rw [Dev.port, h, Dev.port]

theorem staged_of_staging {d e : Dev} (h : e.sw.staging = d.sw.staging) (lane tc : Nat) :
    e.staged lane tc = d.staged lane tc := by rw [Dev.staged, h, Dev.staged]

/-! #### A TIME cell (R372) -/

/-- A cell framed is the end of its port's stream (R115). -/
theorem port_frameCell (lane : Nat) (c : Cell) (time : Bool) (d : Dev) : (frameCell lane c time d).port lane =
    { d.port lane with txStream := (d.port lane).txStream ++ txBytes c time } := by
  rw [frameCell, port_updPort_same]

/-- A port after its due TIME cell is in its stream. -/
def timeFramed (c : Cell) (p : Port) : Port :=
  { p with txStream := p.txStream ++ txBytes c true, timeDue := false, tseq := (p.tseq + 1) % 65536,
           timeSent := p.timeSent + 1 }

theorem txSlot_time {now : W64} {lane : Nat} {d : Dev} (hs : maySend d lane = true) (hd : (d.port lane).timeDue = true) :
    txSlot now lane d = sendTime now lane d := by
  simp [txSlot, hs, hd]

section

variable (now : W64) (lane : Nat) (d : Dev)

theorem port_sendTime : (sendTime now lane d).port lane = timeFramed (timeCell now lane d) (d.port lane) := by
  have hbump : ∀ e, (bump Page.tim Reg.TIM_CNT 0 e).port lane = e.port lane := fun e => port_of_lnk (bump_lnk ..) lane
  have hcells : ∀ e, (countCells 1 e).port lane = e.port lane := fun _ => rfl
  simp only [sendTime, hbump, port_updPort_same, hcells, port_frameCell, timeFramed]

theorem sendTime_alters :
    SoftAlters (CountWords Page.tim) [.lnk, .pmc] (InTables watchTable) d (sendTime now lane d) :=
  (((SoftAlters.updPort lane _ d (by simp)).trans (.pmc _ _ (by simp))).trans (.updPort lane _ _ (by simp))).trans
    (.bump _ (by decide) (by decide) (by simp [CountWords]) (by simp [CountWords]))

theorem timeCells_sendTime : rd64 (sendTime now lane d) Page.tim ⟨Reg.TIM_CNT.off + 8 * 0, 31, 0⟩ =
    (rd64 d Page.tim ⟨Reg.TIM_CNT.off + 8 * 0, 31, 0⟩ + 1) % 2 ^ 64 :=
  rd64_bump_counts _ _ _ _ (by decide) (by decide) (by decide) (by decide)

end

/-- A due TIME cell takes the slot ahead of every staged cell, and no credit (R202, R372). -/
theorem txCellSlot_sendsTime {lane : Nat} {s : State} (hl : lane < 1024) (hs : maySend s.dev lane = true)
    (hd : (s.dev.port lane).timeDue = true) :
    ∃ t, exec (.txCellSlot lane) s = .next t ∧ (t.dev.port lane).timeDue = false ∧
      (t.dev.port lane).txStream = (s.dev.port lane).txStream ++ txBytes (timeCell s.now lane s.dev) true ∧
      (t.dev.port lane).allow = (s.dev.port lane).allow ∧
      (t.dev.port lane).tseq = ((s.dev.port lane).tseq + 1) % 65536 ∧ Counted Page.tim Reg.TIM_CNT 0 1 s t ∧
      Kept [.lnk, .pmc] [(Page.tel, 0)] [Page.tim, Page.tel] s t := by
  have hdev : txSlot s.now lane s.dev = sendTime s.now lane s.dev := txSlot_time hs hd
  refine ⟨_, (exec_txCellSlot lane s).trans (effect_next _ _ _ (decide_eq_true hl)), ?_, ?_, ?_, ?_,
    (congrArg (rd64 · _ _) hdev).trans (timeCells_sendTime ..),
    (hdev ▸ sendTime_alters s.now lane s.dev).kept (f := txSlot s.now lane) (fun _ _ hq => hq) (by decide)⟩ <;>
    rw [onDev_dev, hdev, port_sendTime] <;> rfl

/-! #### A cell of TC 7 (R113, R202) -/

/-- TC 7 has no gate, no guard band and no hold: with credit for its cell it may always be taken (R204, R209). -/
theorem selectable_tc7 (now : W64) {d : Dev} {lane : Nat} {b : Box} {bs : List Box} (hb : d.staged lane 7 = b :: bs) :
    selectable now d lane 7 = hasCredit d lane b.cell := by
  simp [selectable, hb, gateOpen, guardOk, held]

/-- The slot's count of cells refused for a guard band (R206). -/
def refusalsCounted (now : W64) (lane : Nat) (d : Dev) : Dev :=
  bumpN (Page.etm lane) Reg.ETM_CNT 11 (guardRefused now d lane) d

theorem refusalsCounted_sw (now : W64) (lane : Nat) (d : Dev) : (refusalsCounted now lane d).sw = d.sw := bumpN_sw ..

theorem refusalsCounted_lnk (now : W64) (lane : Nat) (d : Dev) : (refusalsCounted now lane d).lnk = d.lnk := bumpN_lnk ..

theorem txSlot_tc7 {now : W64} {lane : Nat} {d : Dev} {b : Box} {bs : List Box} (hs : maySend d lane = true)
    (hd : (d.port lane).timeDue = false) (hb : d.staged lane 7 = b :: bs) (hc : hasCredit d lane b.cell = true) :
    txSlot now lane d = sendStaged now lane 7 b (refusalsCounted now lane d) := by
  have hb' : (refusalsCounted now lane d).staged lane 7 = b :: bs := by
    rw [Dev.staged, refusalsCounted_sw]; exact hb
  have hsel : selectable now (refusalsCounted now lane d) lane 7 = true := by
    rw [selectable_tc7 now hb', hasCredit, port_of_lnk (refusalsCounted_lnk ..)]; exact hc
  unfold refusalsCounted at hb' hsel
  simp only [txSlot, hs, hd, hsel, hb', Bool.not_true, Bool.false_eq_true, if_false, if_true]
  rfl

/-- A port after a staged cell is in its stream, HCRC recomputed, and one credit of the cell's VC is spent. -/
def cellFramed (c : Cell) (p : Port) : Port :=
  { p with txStream := p.txStream ++ txBytes (reseal c) false,
           allow := p.allow.set (vcOf (cTc c) (cEsc c)) (p.allow.getD (vcOf (cTc c) (cEsc c)) 0 - 1) }

theorem allow_cellFramed {c : Cell} {p : Port} (h : 0 < p.allow.getD (vcOf (cTc c) (cEsc c)) 0) :
    (cellFramed c p).allow.getD (vcOf (cTc c) (cEsc c)) 0 + 1 = p.allow.getD (vcOf (cTc c) (cEsc c)) 0 := by
  have hlen : vcOf (cTc c) (cEsc c) < p.allow.length := by
    by_contra hge
    simp [List.getElem?_eq_none (Nat.le_of_not_lt hge)] at h
  rw [cellFramed, getD_set_same _ _ hlen, Nat.sub_add_cancel h]

/-- The head of a staged list goes into framing, and its credit is spent (R113, R202). -/
def stagedFramed (lane tc : Nat) (b : Box) (d : Dev) : Dev :=
  spendCredit lane b.cell (frameCell lane (reseal b.cell) false (setStaged lane tc ((d.staged lane tc).drop 1) d))

/-- The port's own counts of a staged cell sent (R124). -/
def laneCounted (lane tc : Nat) (d : Dev) : Dev := bump (Page.etm lane) Reg.ETM_CNT tc (lnkCount lane 6 1 d)

/-- The counts of a staged cell sent (R124, R185, R408). -/
def sentCounted (lane tc : Nat) (b : Box) (d : Dev) : Dev :=
  countJobCell b.job (countCells 1 (countMoved (regionOf lane) (laneCounted lane tc d)))

/-- A cell sent ends in the device, or one copy of it does (R139, R470). -/
def sentEnds (now : W64) (lane : Nat) (b : Box) (d : Dev) : Dev :=
  if b.multi then copyEnds b 1 fateSent (updMtag b.num (tagSent now lane b) d)
  else endLife (tagSet (tagSent now lane b) b) fateSent (uncount b d)

theorem sendStaged_eq (now : W64) (lane tc : Nat) (b : Box) (d : Dev) :
    sendStaged now lane tc b d = sentEnds now lane b (sentCounted lane tc b (stagedFramed lane tc b d)) := rfl

/-- Words that a staged cell's way out writes: its port's counters, and those of its end. -/
def SlotWords (lane : Nat) (q : Page) (_ : Nat) : Prop := q ∈ [Page.lnk lane, Page.etm lane, Page.fwd, Page.tel]

section

variable {lane tc : Nat} {b : Box} (now : W64) (d : Dev)

theorem port_stagedFramed : (stagedFramed lane tc b d).port lane = cellFramed b.cell (d.port lane) := by
  have hset : ∀ l, (setStaged lane tc l d).port lane = d.port lane := fun _ => rfl
  simp only [stagedFramed, spendCredit, port_updPort_same, port_frameCell, hset, cellFramed]

theorem staged_stagedFramed {bs : List Box} (h : d.staged lane tc = b :: bs) (k : Nat) :
    (stagedFramed lane tc b d).staged lane k = (setStaged lane tc bs d).staged lane k := by
  have hstaging : (stagedFramed lane tc b d).sw.staging = (setStaged lane tc ((d.staged lane tc).drop 1) d).sw.staging := rfl
  rw [staged_of_staging hstaging, h, List.drop_one, List.tail_cons]

theorem stagedFramed_alters {W : Page → Nat → Prop} {T : Nat → Prop} :
    SoftAlters W [.lnk, .sw] T d (stagedFramed lane tc b d) := by
  have hout : SoftAlters W [.lnk, .sw] T d (setStaged lane tc ((d.staged lane tc).drop 1) d) := .sw _ d (by simp)
  have hspent : ∀ d, SoftAlters W [.lnk, .sw] T d (spendCredit lane b.cell d) := fun d => by
    unfold spendCredit
    exact .updPort _ _ d (by simp)
  exact (hout.trans (.updPort _ _ _ (by simp))).trans (hspent _)

theorem laneCounted_alters {P : List Part} (hl : lane < 1024) (htc : tc < 8) :
    SoftAlters (SlotWords lane) P (InTables watchTable) d (laneCounted lane tc d) := by
  have hinst : lane < 4096 := by omega
  have hoff : Reg.ETM_CNT.off + 8 * tc + 4 < 4096 := by show 0x200 + 8 * tc + 4 < 4096; omega
  have hlink : SoftAlters (SlotWords lane) P (InTables watchTable) d (lnkCount lane 6 1 d) :=
    (lnkCount_alters 1 d hinst (by decide)).words fun q _ hq => by
      rcases List.mem_pair.1 hq with rfl | rfl <;> simp [SlotWords]
  exact hlink.trans (.bump _ hinst hoff (by simp [SlotWords]) (by simp [SlotWords]))

/-- The counts of cells moved stand in two records (R185, R408). -/
theorem movedCounted_alters {W : Page → Nat → Prop} {T : Nat → Prop} (region : Nat) (job : Option Nat) :
    SoftAlters W [.sw, .pmc] T d (countJobCell job (countCells 1 (countMoved region d))) := by
  have hmoved : SoftAlters W [.sw, .pmc] T d (countCells 1 (countMoved region d)) :=
    (SoftAlters.sw _ d (by simp)).trans (.pmc _ _ (by simp))
  cases job with
  | none => exact hmoved
  | some j => exact hmoved.trans (.pmc _ _ (by simp))

theorem movedCounted_staging (region : Nat) (job : Option Nat) :
    (countJobCell job (countCells 1 (countMoved region d))).sw.staging = d.sw.staging := by
  cases job <;> rfl

theorem sentCounted_alters (hl : lane < 1024) (htc : tc < 8) :
    SoftAlters (SlotWords lane) [.sw, .pmc] (InTables watchTable) d (sentCounted lane tc b d) :=
  (laneCounted_alters d hl htc).trans (movedCounted_alters _ (regionOf lane) b.job)

theorem sentCounted_staging (hl : lane < 1024) (htc : tc < 8) :
    (sentCounted lane tc b d).sw.staging = d.sw.staging :=
  (movedCounted_staging ..).trans (congrArg Sw.staging ((laneCounted_alters (P := []) d hl htc).part .sw (by simp)))

theorem sentEnds_ends (hf : FlowOk b) : Ends d (sentEnds now lane b d) := by
  unfold sentEnds
  split
  · exact (SoftAlters.sw _ d (by simp)).trans (copyEnds_ends 1 fateSent _ hf).1
  · exact (lifeOver_ends fateSent d hf).1

theorem sentEnds_lnk : (sentEnds now lane b d).lnk = d.lnk := by
  unfold sentEnds
  split
  · exact (copyEnds_unqueues b 1 fateSent _).part .lnk (by simp)
  · exact ((uncount_unqueues b d).trans (endLife_unqueues ..)).part .lnk (by simp)

theorem lifeOver_sw {c : Box} (fate : Nat) (hf : FlowOk b) : (endLife c fate (uncount b d)).sw = d.sw :=
  ((endLife_ends c fate _).part .sw (by simp)).trans ((uncount_ends d hf).part .sw (by simp))

theorem copyEnds_staging (n fate : Nat) (hf : FlowOk b) : (copyEnds b n fate d).sw.staging = d.sw.staging := by
  unfold copyEnds
  extract_lets left x d1 tag y d2 fate'
  split
  · have hsw : (endLife { b with tag := tag } fate' (uncount b d2)).sw = d2.sw := lifeOver_sw d2 fate' hf
    rw [hsw]
  · rfl

theorem sentEnds_staging (hf : FlowOk b) : (sentEnds now lane b d).sw.staging = d.sw.staging := by
  unfold sentEnds
  split
  · exact copyEnds_staging _ 1 fateSent hf
  · exact congrArg Sw.staging (lifeOver_sw d fateSent hf)

theorem refusalsCounted_alters {P : List Part} (hl : lane < 1024) :
    SoftAlters (SlotWords lane) P (InTables watchTable) d (refusalsCounted now lane d) :=
  .bumpN _ d (show lane < 4096 by omega) (by decide) (by simp [SlotWords]) (by simp [SlotWords]) fun _ => id

/-- What a slot that sends a staged cell of TC 7 changes. -/
theorem sentSlot_alters (hl : lane < 1024) (hf : FlowOk b) :
    SoftAlters (SlotWords lane) [.lnk, .sw, .fwd, .pmc, .tel] (InTables endTables) d
      (sentEnds now lane b (sentCounted lane 7 b (stagedFramed lane 7 b (refusalsCounted now lane d)))) := by
  have hsent : SoftAlters (SlotWords lane) [.lnk, .sw, .fwd, .pmc, .tel] (InTables endTables) d
      (stagedFramed lane 7 b (refusalsCounted now lane d)) :=
    ((refusalsCounted_alters now d hl).mono (fun _ _ => id) (fun _ => id) fun _ => inTables_endTables).trans
      ((stagedFramed_alters _).mono (fun _ _ => id) (by simp) fun _ => id)
  have hcounted := (sentCounted_alters (b := b) (stagedFramed lane 7 b (refusalsCounted now lane d)) hl
    (show 7 < 8 by decide)).mono (fun _ _ => id) (Q := [.sw, .pmc]) (P := [.lnk, .sw, .fwd, .pmc, .tel]) (by simp)
    fun _ => inTables_endTables
  exact (hsent.trans hcounted).trans ((sentEnds_ends now _ hf).mono
    (fun q _ hq => by rcases hq with rfl | rfl <;> simp [SlotWords]) (by simp) fun _ => id)

end

/-- TC 7 goes before every other class, its cell's HCRC recomputed and one credit spent (R113, R202): what O19 asks of a cell
whose flow index lies in the flow table. -/
theorem txCellSlot_sendsTc7 {lane : Nat} {b : Box} {bs : List Box} {s : State} (hl : lane < 1024)
    (hs : maySend s.dev lane = true) (hd : (s.dev.port lane).timeDue = false) (hb : s.dev.staged lane 7 = b :: bs)
    (hc : hasCredit s.dev lane b.cell = true) (hf : FlowOk b) :
    ∃ t, exec (.txCellSlot lane) s = .next t ∧ t.dev.staged lane 7 = bs ∧
      (∀ tc, tc < 7 → t.dev.staged lane tc = s.dev.staged lane tc) ∧
      (t.dev.port lane).txStream = (s.dev.port lane).txStream ++ txBytes (reseal b.cell) false ∧
      (t.dev.port lane).allow.getD (vcOf (cTc b.cell) (cEsc b.cell)) 0 + 1 =
        (s.dev.port lane).allow.getD (vcOf (cTc b.cell) (cEsc b.cell)) 0 ∧
      Kept [.lnk, .sw, .fwd, .pmc, .tel] [(Page.tel, 0), (Page.fwd, 2)]
        [Page.lnk lane, Page.etm lane, Page.fwd, Page.tel] s t := by
  obtain ⟨e, he⟩ : ∃ e, e = refusalsCounted s.now lane s.dev := ⟨_, rfl⟩
  have hsw : e.sw = s.dev.sw := he ▸ refusalsCounted_sw ..
  have hlnk : e.lnk = s.dev.lnk := he ▸ refusalsCounted_lnk ..
  have hstaging : ∀ tc, e.staged lane tc = s.dev.staged lane tc := staged_of_staging (congrArg Sw.staging hsw) lane
  have hdev : txSlot s.now lane s.dev = sentEnds s.now lane b (sentCounted lane 7 b (stagedFramed lane 7 b e)) := by
    rw [txSlot_tc7 hs hd hb hc, sendStaged_eq, he]
  have hstaged : ∀ tc, (txSlot s.now lane s.dev).staged lane tc = (setStaged lane 7 bs e).staged lane tc := fun tc => by
    rw [hdev, staged_of_staging (sentEnds_staging _ _ hf), staged_of_staging (sentCounted_staging _ hl (by decide)),
      staged_stagedFramed _ ((hstaging 7).trans hb)]
  have hport : (txSlot s.now lane s.dev).port lane = cellFramed b.cell (s.dev.port lane) := by
    rw [hdev, port_of_lnk (sentEnds_lnk ..), port_of_lnk ((sentCounted_alters _ hl (by decide)).part .lnk (by simp)),
      port_stagedFramed, port_of_lnk hlnk]
  refine ⟨_, (exec_txCellSlot lane s).trans (effect_next _ _ _ (decide_eq_true hl)), ?_, fun tc htc => ?_, ?_, ?_,
    (hdev ▸ he ▸ sentSlot_alters s.now s.dev hl hf).kept (f := txSlot s.now lane) (fun _ _ hq => hq) (by decide)⟩ <;>
    rw [onDev_dev]
  · rw [hstaged, staged_setStaged_same]
  · rw [hstaged, ← hstaging]
    exact sget_sset_ne _ _ _ (by simp only [tcKey]; omega)
  · rw [hport, cellFramed]
  · rw [hport, allow_cellFramed (of_decide_eq_true hc)]

/-! #### A staged cell whose flow index lies outside the flow table (R151)

The statement ranges over every state, and so over staged cells whose flow index no lookup gave. Nothing else stands against
it: `txCellSlot_sendsTime` is its first clause, and `txCellSlot_sendsTc7` its second with the index in range. -/

/-- A management cell staged for port 0 with the flow index of `strayFlow`, which leads to entry 0 of COL's group table. -/
def strayTc7 : Box := { mkBox (mkCell 0 7 ocMGMT 0 0 0 []) 0 0 0 0 0 with flow := strayFlow.box.flow }

/-- The cell heads TC 7 of port 0, which is UP with one credit of each VC, and word 6 of group 0 holds 1. -/
def strayStaged : State :=
  onDev (fun d => tset Page.col 0 0 [0, 0, 0, 0, 0, 0, 1, 0] (setStaged 0 7 [strayTc7]
    (updPort 0 (fun p => { p with allow := List.replicate 16 1 }) (setLinkState 0 lsUp d)))) State.reset

/-- The end of the cell sent counts down in the group's entry. -/
theorem group_strayStaged : tget (txSlot strayStaged.now 0 strayStaged.dev) Page.col 0 0 ≠
    tget strayStaged.dev Page.col 0 0 := by decide +kernel

/-- Refutes O19: the cell of TC 7 sent ends its count in HELD of its flow, and a flow index outside the flow table puts that
count in an entry of another table, here of COL's groups. -/
theorem not_transmitSlot : ¬ Obligations.TransmitSlot := by
  rintro ⟨-, hsend⟩
  obtain ⟨t, ht, -, -, -, -, -, -, -, hentries, -⟩ := hsend 0 strayTc7 [] strayStaged (by decide) (by decide +kernel)
    (by decide +kernel) (by decide +kernel) (by decide +kernel)
  have hnext : exec (.txCellSlot 0) strayStaged = .next (onDev (txSlot strayStaged.now 0) strayStaged) :=
    (exec_txCellSlot ..).trans (effect_next _ _ _ (by decide))
  cases hnext.symm.trans ht
  have hkept := hentries Page.col 0 0 (by decide) (by decide) (by decide) (by decide)
  rw [onDev_dev] at hkept
  exact group_strayStaged hkept

end Sys2Proof.Machine

/-! ### Optical circuits: the entries of the circuit table and what a step on one alters (R219 to R222) -/

namespace Sys2Proof.Machine

/-! #### Fields of an entry's words -/

section

variable {ws : List W32} {k hi lo : Nat} (v : Nat)

theorem wbits_setWBits_same (hk : k < ws.length) (h : lo ≤ hi) (hw : hi < 32) :
    wbits (setWBits ws k hi lo v) k hi lo = v % 2 ^ (hi + 1 - lo) := by
  rw [wbits, word, setWBits, getD_set_same _ _ hk]
  exact bitsOf_withBits_same _ _ _ _ h hw

/-- A field of the word that shares no bit with the one set stands; an entry without the word stands whole. -/
theorem wbits_setWBits_apart {hi' lo' : Nat} (h : lo ≤ hi) (hw : hi < 32) (h' : lo' ≤ hi') (hd : hi' < lo ∨ hi < lo') :
    wbits (setWBits ws k hi lo v) k hi' lo' = wbits ws k hi' lo' := by
  by_cases hk : k < ws.length
  · rw [wbits, word, setWBits, getD_set_same _ _ hk]
    exact bitsOf_withBits_ne _ _ _ _ _ _ h hw h' hd
  · rw [setWBits, List.set_eq_of_length_le (Nat.le_of_not_lt hk)]

theorem word_set_ne {j : Nat} (w : W32) (h : j ≠ k) : word (ws.set k w) j = word ws j := getD_set_ne _ _ _ h

end

theorem word64_setW64 {ws : List W32} {k : Nat} (v : Nat) (h : k + 1 < ws.length) : word64 (setW64 ws k v) k = v % 2 ^ 64 := by
  have hlow : word (setW64 ws k v) k = lo32 v := by
    rw [setW64, word_set_ne _ (by omega)]
    exact getD_set_same _ _ (by omega)
  have hhigh : word (setW64 ws k v) (k + 1) = hi32 v := getD_set_same _ _ (by simpa using h)
  simp only [word64, hlow, hhigh, lo32, hi32, BitVec.toNat_ofNat]
  omega

/-! #### Entries and records -/

section

variable {i j : Nat} (d : Dev)

@[simp] theorem circWords_setCircWords (ws : List W32) : circWords (setCircWords i ws d) i = ws := tget_tset_same ..

theorem circWords_setCircWords_ne (ws : List W32) (h : i ≠ j) : circWords (setCircWords i ws d) j = circWords d j :=
  tget_tset_index _ _ _ _ h

@[simp] theorem circWords_setCirc (c : Circ) : circWords (setCirc i c d) j = circWords d j := rfl

@[simp] theorem circ_setCirc (c : Circ) : (setCirc i c d).circ i = c := sget_sset_same ..

@[simp] theorem circ_setCircWords (ws : List W32) : (setCircWords i ws d).circ j = d.circ j := rfl

theorem circ_setCirc_ne (c : Circ) (h : i ≠ j) : (setCirc i c d).circ j = d.circ j := sget_sset_ne _ _ _ h

theorem circState_setCircState (st : Nat) (h : 5 < (circWords d i).length) (hs : st < 16) :
    circState (setCircState i st d) i = st := by
  rw [circState, setCircState, circWords_setCircWords, wbits_setWBits_same _ h (by decide) (by decide)]
  exact Nat.mod_eq_of_lt hs

/-- The state stands when a field of word 5 below it is set. -/
theorem circState_setCircBits {hi lo : Nat} (v : Nat) (h : lo ≤ hi) (hs : hi < 28) :
    circState (setCircBits i hi lo v d) i = circState d i := by
  rw [circState, setCircBits, circWords_setCircWords, wbits_setWBits_apart _ h (by omega) (by decide) (.inr hs)]
  rfl

@[simp] theorem length_setCircBits (hi lo v : Nat) :
    (circWords (setCircBits i hi lo v d) i).length = (circWords d i).length := by simp [setCircBits, setWBits]

@[simp] theorem length_setCircState (st : Nat) :
    (circWords (setCircState i st d) i).length = (circWords d i).length := length_setCircBits d 31 28 st

end

/-- An entry in a state other than idle has its word 5. -/
theorem hasWord5 {d : Dev} {i : Nat} (h : circState d i ≠ csIdle) : 5 < (circWords d i).length := by
  by_contra hlen
  have hzero : word (circWords d i) 5 = 0 := by simp [word, List.getElem?_eq_none (Nat.le_of_not_lt hlen)]
  exact h (by rw [circState, wbits, hzero]; decide)

theorem circ_of_byp {d e : Dev} (h : e.byp = d.byp) (i : Nat) : e.circ i = d.circ i := by rw [Dev.circ, h, Dev.circ]

theorem circState_congr {d e : Dev} {i : Nat} (h : circWords e i = circWords d i) : circState e i = circState d i := by
  rw [circState, h, circState]

/-- What alters no entry of the circuit table leaves the entry's words alone. -/
theorem Alters.circWords_eq {W : Page → Nat → Prop} {P : List Part} {ts : List (Page × Nat)} {d e : Dev} {i : Nat}
    (h : Alters W P (InTables ts) d e) (hts : ∀ x ∈ ts, x.1.inst < 4096 ∧ x.2 < 16) (hn : (Page.byp, 0) ∉ ts)
    (hi : i < 2 ^ 32) : circWords e i = circWords d i :=
  h.entry _ (not_inTables hts (by decide) (by decide) hi hn)

/-- The lanes an entry names are working lanes. -/
theorem circLanes_lt {d : Dev} {i l : Nat} (h : l ∈ circLanes d i) : l < 1024 := by
  rcases List.mem_pair.1 h with rfl | rfl <;> exact Nat.mod_lt _ (by decide)

/-- The lanes stand when a field of word 5 above the chosen pair is set. -/
theorem circLanes_setCircBits {hi lo i : Nat} (v : Nat) (d : Dev) (h : lo ≤ hi) (hw : hi < 32) (hl : 19 < lo) :
    circLanes (setCircBits i hi lo v d) i = circLanes d i := by
  have hpair : wbits (circWords (setCircBits i hi lo v d) i) 5 19 18 = wbits (circWords d i) 5 19 18 := by
    rw [setCircBits, circWords_setCircWords, wbits_setWBits_apart _ h hw (by decide) (.inl hl)]
  have hlt : wbits (circWords d i) 5 19 18 < 4 := Nat.mod_lt _ (by decide)
  have hword (k : Nat) (hk : k < 4) : word (circWords (setCircBits i hi lo v d) i) (1 + k) = word (circWords d i) (1 + k) := by
    rw [setCircBits, circWords_setCircWords, setWBits, word_set_ne _ (by omega)]
  simp only [circLanes, hpair, circPairA, circPairB]
  simp only [wbits] at hlt ⊢
  rw [hword _ hlt]

theorem circListed_lt {d : Dev} {i : Nat} (h : i ∈ circListed d) : i < 2 ^ 32 := by
  obtain ⟨e, he, rfl⟩ := List.mem_map.1 h
  exact tblListed_index_lt he

/-! #### Frames -/

/-- The circuit table, and the watches that follow a count (R467). -/
def circTables : List (Page × Nat) := [(Page.byp, 0), (Page.tel, 0)]

theorem inTables_circTables {k : Nat} (h : InTables watchTable k) : InTables circTables k := by
  obtain ⟨x, hx, hk⟩ := h
  exact ⟨x, by simp_all [watchTable, circTables], hk⟩

section

variable {W : Page → Nat → Prop} {P : List Part} {T : Nat → Prop} {ts : List (Page × Nat)} {i : Nat} (d : Dev)

theorem setCircWords_alters (ws : List W32) (h : (Page.byp, 0) ∈ ts) (hi : i < 2 ^ 32) :
    SoftAlters W P (InTables ts) d (setCircWords i ws d) := .tsetListed ws d h hi

theorem setCirc_alters (c : Circ) (hP : .byp ∈ P) : SoftAlters W P T d (setCirc i c d) :=
  ⟨⟨fun _ _ _ _ _ => rfl, fun y hy => by cases y <;> simp_all [Part.same, setCirc], fun _ _ => rfl⟩, .ofCtl rfl⟩

/-- Transmitters turned on or off are outputs alone. -/
theorem lights_alters (L : List Nat) (on : Bool) :
    SoftAlters W P T d (forEach L (fun l d => emit (.light l on) d) d) := .forEach _ _ (fun _ _ d => .emit _ d) d

/-- A count of the bypass, with the watches that follow it. -/
theorem bypCount_alters (k n : Nat) (hk : k < 8) (hw : ∀ a, W Page.byp a) (htel : ∀ a, W Page.tel a)
    (hts : ∀ x ∈ watchTable, x ∈ ts) : SoftAlters W P (InTables ts) d (bumpN Page.byp Reg.BYP_CNT k n d) :=
  .bumpN n d (by decide) (by show 0x180 + 8 * k + 4 < 4096; omega) hw htel fun _ ⟨x, hx, hk⟩ => ⟨x, hts x hx, hk⟩

end

/-- A port's record written for each lane of a list. -/
theorem updPorts_alters {W : Page → Nat → Prop} {P : List Part} {T : Nat → Prop} (L : List Nat) (f : Port → Port) (d : Dev)
    (hP : .lnk ∈ P) : SoftAlters W P T d (forEach L (fun l d => updPort l f d) d) :=
  .forEach _ _ (fun _ _ d => .updPort _ _ d hP) d

theorem SoftSame.softKept {f : Dev → Dev} {s : State} (h : SoftSame s.dev (f s.dev)) : SoftKept s (onDev f s) :=
  ⟨h.staged, h.commits, h.latchHost, h.latchInband, h.tblPend, h.acts, h.abortWave, h.ownerAll⟩

/-! #### What holds of every lane of a list after a pass over it -/

/-- An update of ports that gives each record a property gives it to every port of the list. -/
theorem port_updPorts {Q : Port → Prop} {L : List Nat} {f : Port → Port} (hf : ∀ p, Q (f p)) (d : Dev) {l : Nat} (h : l ∈ L) :
    Q ((forEach L (fun l d => updPort l f d) d).port l) := by
  refine forEach_establishes (Q := fun d => Q (d.port l)) L h (fun d => ?_) (fun a _ d ha => ?_) d
  · rw [port_updPort_same]
    exact hf _
  · by_cases hal : a = l
    · rw [hal, port_updPort_same]
      exact hf _
    · rw [port_updPort_ne _ _ hal]
      exact ha

end Sys2Proof.Machine

/-! ### Circuits are set up: the command's write, the choice of a pair, and the start of the drain (R187, R220, R225) -/

namespace Sys2Proof.Machine

/-! #### CIRC_CMD (R234) -/

/-- CIRC_CMD written: its fields are WO, so the word stands as it was (R10). -/
def circTaken (d : Dev) : Dev := wrWord Page.byp 0x104 (rdWord d Page.byp 0x104) d

@[simp] theorem rdWord_circTaken (d : Dev) (q : Page) (a : Nat) : rdWord (circTaken d) q a = rdWord d q a := by
  rw [circTaken, rdWord_wrWord]
  split
  next h => rw [rdWord, h, ← rdWord]
  next => rfl

@[simp] theorem rd_circTaken (d : Dev) (q : Page) (f : Fd) : rd (circTaken d) q f = rd d q f := by simp [rd]

@[simp] theorem circWords_circTaken (d : Dev) (i : Nat) : circWords (circTaken d) i = circWords d i := rfl

@[simp] theorem circState_circTaken (d : Dev) (i : Nat) : circState (circTaken d) i = circState d i := rfl

@[simp] theorem circLanes_circTaken (d : Dev) (i : Nat) : circLanes (circTaken d) i = circLanes d i := rfl

@[simp] theorem circListed_circTaken (d : Dev) : circListed (circTaken d) = circListed d := rfl

@[simp] theorem fabricNs_circTaken (d : Dev) (now : W64) : fabricNs (circTaken d) now = fabricNs d now := by
  simp only [fabricNs, fabricAt, rateOf, rd_circTaken]
  rfl

@[simp] theorem drainLead_circTaken (d : Dev) : drainLead (circTaken d) = drainLead d := by simp [drainLead]

theorem circTaken_alters {W : Page → Nat → Prop} {P : List Part} {T : Nat → Prop} (d : Dev) : Alters W P T d (circTaken d) :=
  wrWord_rdWord_alters d (by decide) (by decide)

/-- CIRC_CMD's register. -/
def circCmd : RegDef := ⟨0x104, 1, 4, 0, [⟨31, 30, .L, .wo, 0, .any⟩, ⟨29, 29, .L, .wo, 0, .any⟩, ⟨6, 0, .L, .wo, 0, .any⟩]⟩

theorem fieldWrite_circCmd (src : Src) (v : W32) (d : Dev) : fieldWrite src Page.byp 0x104 v circCmd d = circTaken d := by
  have hbits : portBits d Page.byp 0x104 = 0 := portBits_off_links _ _ (by decide)
  have hall : ∀ x : W32, x &&& 0xFFFFFFFF#32 = x := fun x => BitVec.and_allOnes
  simp [fieldWrite, circCmd, circTaken, hbits, fldMask, takesNow, writeErrs, stageFields, merge, Fld.ok, Enc.ok, hall]

/-- The fields of the word a command is written with. -/
theorem circCmd_bits {op index : Nat} (timed : Bool) (ho : op < 4) (hi : index < 128) :
    op * 2 ^ 30 + bit timed * 2 ^ 29 + index < 2 ^ 32 ∧
      bitsOf (BitVec.ofNat 32 (op * 2 ^ 30 + bit timed * 2 ^ 29 + index)) 31 30 = op ∧
      (BitVec.ofNat 32 (op * 2 ^ 30 + bit timed * 2 ^ 29 + index)).getLsbD 29 = timed ∧
      bitsOf (BitVec.ofNat 32 (op * 2 ^ 30 + bit timed * 2 ^ 29 + index)) 6 0 = index := by
  have hbit : bit timed < 2 := by cases timed <;> decide
  have hlt : op * 2 ^ 30 + bit timed * 2 ^ 29 + index < 2 ^ 32 := by omega
  have hval : (BitVec.ofNat 32 (op * 2 ^ 30 + bit timed * 2 ^ 29 + index)).toNat = op * 2 ^ 30 + bit timed * 2 ^ 29 + index := by
    rw [BitVec.toNat_ofNat, Nat.mod_eq_of_lt hlt]
  have htimed : (op * 2 ^ 30 + bit timed * 2 ^ 29 + index) / 2 ^ 29 % 2 = bit timed := by omega
  refine ⟨hlt, ?_, ?_, ?_⟩
  · rw [bitsOf, hval, Nat.shiftRight_eq_div_pow]
    omega
  · rw [BitVec.getLsbD, hval, Nat.testBit_eq_decide_div_mod_eq, htimed]
    cases timed <;> rfl
  · rw [bitsOf, hval, Nat.shiftRight_eq_div_pow]
    omega

/-- A command of the bypass's owner acts as R225 and R227 say, its register's word as it was. -/
theorem circWrite_owned {src : Src} {op index : Nat} (timed : Bool) {s : State} (h : Owns src Page.byp s) (ho : op < 4)
    (hi : index < 128) : circWrite src op index timed s =
      onDev (fun d => circCommand s.now src op timed index (circTaken d)) s := by
  obtain ⟨hlt, hop, htimed, hindex⟩ := circCmd_bits timed ho hi
  rw [circWrite, write32_reg _ h (by decide) (by decide) (by decide) (r := circCmd) rfl (by decide) hlt,
    regWrite_block _ _ _ _ (by decide)]
  simp only [blockWrite, Page.byp, if_true]
  rw [onDev, onDev, hop, htimed, hindex]
  exact congrArg (fun d => { s with dev := circCommand s.now src op timed index d }) (fieldWrite_circCmd src _ s.dev)

/-! #### What a command reads stands -/

theorem setupRefusal_circTaken (d : Dev) (plan : Bool) (i : Nat) :
    setupRefusal (circTaken d) plan i = setupRefusal d plan i := by
  have hact : (circTaken d).act Page.byp = d.act Page.byp := rfl
  simp only [setupRefusal, matrixFaulted, accepting, pageState, rdBit, hact, rd_circTaken, circWords_circTaken,
    circState_circTaken]
  congr!

theorem pairRefusal_circTaken (d : Dev) (i k : Nat) : pairRefusal (circTaken d) i k = pairRefusal d i k := by
  have hwidth (lane : Nat) : widthCode (circTaken d) lane = widthCode d lane := by simp [widthCode]
  have hlanes (lane : Nat) : lanesOfPort (circTaken d) lane = lanesOfPort d lane := by simp [lanesOfPort, portWidth, hwidth]
  have htaken (lane : Nat) : laneTaken (circTaken d) i lane = laneTaken d i lane := by
    simp only [laneTaken, circAllLanes, funext hlanes, circListed_circTaken, circState_circTaken, circLanes_circTaken]
    congr!
  have hstate (lane : Nat) : linkState (circTaken d) lane = linkState d lane := by simp [linkState]
  have hspare (lane : Nat) : spareServes (circTaken d) lane = spareServes d lane := by
    simp [spareServes, carrier, hstate]
  simp only [pairRefusal, isPort, portWidth, portUp, hwidth, hlanes, funext htaken, hstate, funext hspare,
    circWords_circTaken]
  congr!

/-! #### The pair chosen (R187) -/

/-- The entry names a pair, and a choice among several is counted. -/
def pairChosen (i best : Nat) (several : Bool) (d : Dev) : Dev :=
  doIf several (bump Page.xbs Reg.XBS_CNT 5) (setCircBits i 19 18 best d)

/-- With a pair that qualifies the entry names one. -/
theorem choosePair_eq {i : Nat} {d : Dev} (h : (choosePair i d).1 = none) :
    ∃ best several, (choosePair i d).2 = pairChosen i best several d := by
  obtain ⟨ok, hok⟩ : ∃ ok, ok = (List.range (cPairs (circWords d i))).filter (fun k => (pairRefusal d i k).isNone) := ⟨_, rfl⟩
  simp only [choosePair, ← hok] at h ⊢
  cases ok with
  | nil =>
    have hpair : 0 ∈ ([] : List Nat) :=
      hok ▸ List.mem_filter.2 ⟨List.mem_range.2 (Nat.succ_pos _), Option.isNone_iff_eq_none.2 h⟩
    cases hpair
  | cons => exact ⟨_, _, rfl⟩

theorem choosePair_circTaken (i : Nat) (d : Dev) : (choosePair i (circTaken d)).1 = (choosePair i d).1 := by
  unfold choosePair
  simp only [pairRefusal_circTaken, circWords_circTaken]
  split <;> rfl

theorem pairChosen_alters {ps : List Page} {P : List Part} {i : Nat} (best : Nat) (several : Bool) (d : Dev) (hi : i < 2 ^ 32)
    (hxbs : Page.xbs ∈ ps) (htel : Page.tel ∈ ps) :
    SoftAlters (InPages ps) P (InTables circTables) d (pairChosen i best several d) :=
  (setCircWords_alters d _ (by simp [circTables]) hi).trans (.doIf _ _ fun d => .bumpN 1 d (by decide) (by decide)
    (fun _ => hxbs) (fun _ => htel) fun _ => inTables_circTables)

theorem circWords_pairChosen {i : Nat} (best : Nat) (several : Bool) (d : Dev) (hi : i < 2 ^ 32) :
    circWords (pairChosen i best several d) i = circWords (setCircBits i 19 18 best d) i := by
  cases several
  · rw [pairChosen, doIf_false]
  · rw [pairChosen, doIf_true]
    exact (bump_alters (P := []) _ (by decide) (by decide)).circWords_eq (by decide) (by decide) hi

theorem length_pairChosen {i : Nat} (best : Nat) (several : Bool) (d : Dev) (hi : i < 2 ^ 32) :
    (circWords (pairChosen i best several d) i).length = (circWords d i).length := by
  rw [circWords_pairChosen _ _ _ hi, length_setCircBits]

/-! #### The triggers for an entry, as another table's entries are written -/

theorem filter_sset {α : Type} [DecidableEq α] {d : Nat → α} {f : Nat × α → Bool} {k : Nat} (hf : ∀ w, f (k, w) = false)
    (m : SMap α) (v : α) : (sset d m k v).filter f = m.filter f := by
  induction m with
  | nil => by_cases h : v = d k <;> simp [sset, h, hf]
  | cons e m ih =>
    obtain ⟨a, w⟩ := e
    simp only [sset]
    split_ifs with h1 h2 h3 h4
    · simp only [List.filter_cons, ih]
    · simp only [List.filter_cons, hf, Bool.false_eq_true, if_false]
    · subst h3
      simp only [ih, List.filter_cons, hf, Bool.false_eq_true, if_false]
    · subst h3
      simp only [List.filter_cons, hf, Bool.false_eq_true, if_false]
    · simp only [List.filter_cons, ih]

/-- The entries of a table stand as an entry of another table is written. -/
theorem tblListed_tset {p q : Page} {t u i : Nat} (ws : List W32) (d : Dev) (hi : i < 2 ^ 32)
    (h : p.num * 16 + t ≠ q.num * 16 + u) : tblListed (tset p t i ws d) q u = tblListed d q u := by
  have hkey : tblKey p t i / 2 ^ 32 = p.num * 16 + t := by unfold tblKey; omega
  exact congrArg (List.map _) (filter_sset (fun w => by rw [hkey]; exact decide_eq_false h) _ _)

theorem tblListed_congr {d e : Dev} (h : e.ctl.tables = d.ctl.tables) (p : Page) (t : Nat) :
    tblListed e p t = tblListed d p t := by simp only [tblListed, h]

/-- A count writes watches of TEL, and no other table. -/
theorem tblListed_watchFold {q : Page} {u : Nat} (h : Page.tel.num * 16 + 0 ≠ q.num * 16 + u) (l : List Nat) (a n : Nat)
    (r : Dev × Nat) : tblListed (l.foldl (fun r i => watchStep a n i r) r).1 q u = tblListed r.1 q u := by
  induction l generalizing r with
  | nil => rfl
  | cons i l ih =>
    rw [List.foldl_cons, ih]
    have hset (ws : List W32) (hi : i < 256) : tblListed (tset Page.tel 0 i ws r.1) q u = tblListed r.1 q u :=
      tblListed_tset ws r.1 (by omega) h
    simp only [watchStep]
    split_ifs with hw hcarry hpend
    · simp only [Bool.and_eq_true, decide_eq_true_eq] at hw
      rw [← hset _ hw.1.1]
      exact tblListed_congr (raiseIrq_ctl_tables ..) _ _
    · simp only [Bool.and_eq_true, decide_eq_true_eq] at hw
      exact hset _ hw.1.1
    · simp only [Bool.and_eq_true, decide_eq_true_eq] at hw
      exact hset _ hw.1.1
    · rfl

theorem tblListed_bumpAt {q : Page} {u : Nat} (h : Page.tel.num * 16 + 0 ≠ q.num * 16 + u) (fuel : Nat) (p : Page)
    (off n : Nat) (d : Dev) : tblListed (bumpAt fuel p off n d) q u = tblListed d q u := by
  induction fuel generalizing p off n d with
  | zero => rfl
  | succ fuel ih =>
    unfold bumpAt
    extract_lets d1 watches r
    have hfold : tblListed r.1 q u = tblListed d q u := tblListed_watchFold h watches (p.base + off) n (d1, 0)
    split
    · exact hfold
    · exact (ih ..).trans hfold

theorem circTrigger_congr {d e : Dev} (h : tblListed e Page.tim 0 = tblListed d Page.tim 0) (i : Nat) :
    circTrigger e i = circTrigger d i := by simp only [circTrigger, h]

theorem circTrigger_circTaken (i : Nat) (d : Dev) : circTrigger (circTaken d) i = circTrigger d i :=
  circTrigger_congr (tblListed_congr rfl _ _) i

theorem circTrigger_setCircWords (i j : Nat) (ws : List W32) (d : Dev) (hi : i < 2 ^ 32) :
    circTrigger (setCircWords i ws d) j = circTrigger d j :=
  circTrigger_congr (tblListed_tset ws d hi (by decide)) j

theorem circTrigger_pairChosen {i : Nat} (best : Nat) (several : Bool) (d : Dev) (hi : i < 2 ^ 32) :
    circTrigger (pairChosen i best several d) i = circTrigger d i := by
  have hset : circTrigger (setCircBits i 19 18 best d) i = circTrigger d i := circTrigger_setCircWords i i _ d hi
  cases several
  · rw [pairChosen, doIf_false, hset]
  · rw [pairChosen, doIf_true, bump, bumpN, if_neg (by decide), circTrigger_congr (tblListed_bumpAt (by decide) ..) i, hset]

/-! #### SETUP (R225) -/

theorem circStat_alters {ps : List Page} {P : List Part} {T : Nat → Prop} (result reason i : Nat) (d : Dev)
    (hp : Page.byp ∈ ps) : SoftAlters (InPages ps) P T d (circStat result reason i d) :=
  ((SoftAlters.wr _ d (by decide) (by decide) hp).trans (.wr _ _ (by decide) (by decide) hp)).trans
    (.wr _ _ (by decide) (by decide) hp)

/-- What CIRC_CMD_STAT shows of a command's outcome. -/
theorem circStat_shows {result reason i : Nat} (d : Dev) (hr : result < 16) (hs : reason < 16) (hi : i < 128) :
    rd (circStat result reason i d) Page.byp Reg.BYP_CIRC_CMD_STAT_RESULT = result ∧
      rd (circStat result reason i d) Page.byp Reg.BYP_CIRC_CMD_STAT_REASON = reason ∧
      rd (circStat result reason i d) Page.byp Reg.BYP_CIRC_CMD_STAT_INDEX = i := by
  refine ⟨rd_wr_fits _ _ _ _ rfl hr, ?_, ?_⟩
  · rw [circStat, rd_wr_apart _ _ _ rfl rfl rfl]
    exact rd_wr_fits _ _ _ _ rfl hs
  · rw [circStat, rd_wr_apart _ _ _ rfl rfl rfl, rd_wr_apart _ _ _ rfl rfl rfl]
    exact rd_wr_fits _ _ _ _ rfl hi

/-- A SETUP accepted: its outcome shown, and no timed teardown waiting. -/
def setupAccepted (i : Nat) (d : Dev) : Dev := setCircBits i 17 17 0 (circStat 1 0 i d)

/-- The entry armed for its trigger. -/
def circArmed (i : Nat) (d : Dev) : Dev := setCirc i Circ.idle (setCircState i csArmed d)

section

variable {i : Nat} (d : Dev)

theorem setupAccepted_shows (hi : i < 128) : rd (setupAccepted i d) Page.byp Reg.BYP_CIRC_CMD_STAT_RESULT = 1 ∧
    rd (setupAccepted i d) Page.byp Reg.BYP_CIRC_CMD_STAT_INDEX = i := by
  obtain ⟨hresult, -, hindex⟩ := circStat_shows (result := 1) (reason := 0) d (by decide) (by decide) hi
  rw [setupAccepted, setCircBits, setCircWords, rd_tset, rd_tset]
  exact ⟨hresult, hindex⟩

theorem length_setupAccepted : (circWords (setupAccepted i d) i).length = (circWords d i).length :=
  length_setCircBits (circStat 1 0 i d) 17 17 0

theorem circTrigger_setupAccepted (hi : i < 2 ^ 32) : circTrigger (setupAccepted i d) i = circTrigger d i := by
  have hstat : circTrigger (circStat 1 0 i d) i = circTrigger d i := circTrigger_congr (tblListed_congr rfl _ _) i
  rw [setupAccepted, setCircBits, circTrigger_setCircWords _ _ _ _ hi, hstat]

theorem circTrigger_circArmed (hi : i < 2 ^ 32) : circTrigger (circArmed i d) i = circTrigger d i := by
  have hrecord (c : Circ) (e : Dev) : circTrigger (setCirc i c e) i = circTrigger e i :=
    circTrigger_congr (tblListed_congr rfl _ _) i
  rw [circArmed, hrecord, setCircState, circTrigger_setCircWords _ _ _ _ hi]

theorem setupAccepted_alters {ps : List Page} {P : List Part} (hi : i < 2 ^ 32) (hp : Page.byp ∈ ps) :
    SoftAlters (InPages ps) P (InTables circTables) d (setupAccepted i d) :=
  (circStat_alters 1 0 i d hp).trans (setCircWords_alters _ _ (by simp [circTables]) hi)

theorem circState_startCircDrain (ts : Nat) (h : 5 < (circWords d i).length) :
    circState (startCircDrain i ts d) i = csDraining := circState_setCircState d _ h (by decide)

theorem circ_startCircDrain (ts : Nat) : (startCircDrain i ts d).circ i = { Circ.idle with ts := some ts } := circ_setCirc ..

theorem circState_circArmed (h : 5 < (circWords d i).length) : circState (circArmed i d) i = csArmed := by
  rw [circArmed, circState_congr (circWords_setCirc _ _), circState_setCircState d _ h (by decide)]

theorem rd_startCircDrain (ts : Nat) (q : Page) (f : Fd) : rd (startCircDrain i ts d) q f = rd d q f := rfl

theorem rd_circArmed (q : Page) (f : Fd) : rd (circArmed i d) q f = rd d q f := rfl

theorem startCircDrain_alters {W : Page → Nat → Prop} {P : List Part} (ts : Nat) (hi : i < 2 ^ 32) (hP : .byp ∈ P) :
    SoftAlters W P (InTables circTables) d (startCircDrain i ts d) :=
  (setCircWords_alters d _ (by simp [circTables]) hi).trans (setCirc_alters _ _ hP)

theorem circArmed_alters {W : Page → Nat → Prop} {P : List Part} (hi : i < 2 ^ 32) (hP : .byp ∈ P) :
    SoftAlters W P (InTables circTables) d (circArmed i d) :=
  (setCircWords_alters d _ (by simp [circTables]) hi).trans (setCirc_alters _ _ hP)

variable {d}

/-- A SETUP that no check refuses starts its drain, or arms the entry. -/
theorem circSetup_accepts {now : W64} {src : Src} {ts : Option Nat} (hr : setupRefusal d false i = none)
    (hc : (choosePair i d).1 = none) (hi : i < 2 ^ 32) (ht : circTrigger d i = none ∨ ts.isSome = true) :
    ∃ best several, circSetup now (some src) i ts d =
      match ts with
      | some t => startCircDrain i t (setupAccepted i (pairChosen i best several d))
      | none => circArmed i (setupAccepted i (pairChosen i best several d)) := by
  obtain ⟨best, several, heq⟩ := choosePair_eq hc
  refine ⟨best, several, ?_⟩
  cases ts with
  | some t => simp only [circSetup, Option.isNone_some, hr, hc, heq, setupAccepted]
  | none =>
    have hnone : circTrigger (circArmed i (setupAccepted i (pairChosen i best several d))) i = none := by
      rw [circTrigger_circArmed _ hi, circTrigger_setupAccepted _ hi, circTrigger_pairChosen _ _ _ hi]
      exact ht.resolve_right (by simp)
    rw [circArmed, setupAccepted] at hnone
    simp only [circSetup, Option.isNone_some, hr, hc, heq, hnone, circArmed, setupAccepted]

end

/-- A SETUP of the bypass's owner, with the switch time it is given or for its trigger. -/
theorem exec_circSetup_owned {src : Src} {i : Nat} {timed : Bool} {ts : Option Nat} {s : State} (h : Owns src Page.byp s)
    (hi : i < 128) (hts : (if timed then none else some (fabricNs s.dev s.now + drainLead s.dev)) = ts) :
    exec (.circSetup src i timed) s = .next (onDev (fun d => circSetup s.now (some src) i ts (circTaken d)) s) := by
  rw [exec_circSetup, effect_next (.circSetup src i timed) _ _ (decide_eq_true hi), circWrite_owned timed h (by decide) hi,
    ← hts]
  simp only [onDev, circCommand, fabricNs_circTaken, drainLead_circTaken]

/-- The frame of a command on an entry, whose register's word stands. -/
theorem circCommand_kept {P : List Part} {ts : List (Page × Nat)} {ps : List Page} {f : Dev → Dev} {s : State}
    (h : SoftAlters (InPages ps) P (InTables ts) (circTaken s.dev) (f (circTaken s.dev)))
    (hts : ∀ x ∈ ts, x.1.inst < 4096 ∧ x.2 < 16) :
    CoreKept s (onDev (fun d => f (circTaken d)) s) ∧ PartsKept P s (onDev (fun d => f (circTaken d)) s) ∧
      EntriesKept ts s (onDev (fun d => f (circTaken d)) s) ∧ PagesKept ps s (onDev (fun d => f (circTaken d)) s) := by
  have halt : Alters (InPages ps) P (InTables ts) s.dev (f (circTaken s.dev)) := (circTaken_alters _).trans h.toAlters
  exact ⟨coreKept_onDev .., halt.partsKept (f := fun d => f (circTaken d)),
    halt.entriesKept (f := fun d => f (circTaken d)) hts, halt.pagesKept (f := fun d => f (circTaken d)) fun _ _ hq => hq⟩

end Sys2Proof.Machine

/-! ### A circuit is handed over (R219 to R223, R225) -/

namespace Sys2Proof.Machine

/-! #### SETUP and the start of the drain -/

section

variable {i : Nat} {s : State}

theorem setupDrains {src : Src} (hi : i < 128) (hlen : (circWords s.dev i).length = 8) (ho : Owns src Page.byp s)
    (hr : setupRefusal s.dev false i = none) (hc : (choosePair i s.dev).1 = none) :
    ∃ t, exec (.circSetup src i false) s = .next t ∧ circState t.dev i = csDraining ∧
      (t.dev.circ i).ts = some (fabricNs s.dev s.now + drainLead s.dev) ∧
      rd t.dev Page.byp Reg.BYP_CIRC_CMD_STAT_RESULT = 1 ∧ rd t.dev Page.byp Reg.BYP_CIRC_CMD_STAT_INDEX = i ∧
      CoreKept s t ∧ PartsKept [.byp] s t ∧ EntriesKept circTables s t ∧ PagesKept [Page.byp, Page.xbs, Page.tel] s t := by
  have hi' : i < 2 ^ 32 := by omega
  generalize hts : fabricNs s.dev s.now + drainLead s.dev = ts
  obtain ⟨best, several, heq⟩ := circSetup_accepts (now := s.now) (src := src) (ts := some ts)
    ((setupRefusal_circTaken ..).trans hr) ((choosePair_circTaken ..).trans hc) hi' (.inr rfl)
  have hframe := circCommand_kept (f := circSetup s.now (some src) i (some ts)) (P := [.byp]) (ts := circTables)
    (ps := [Page.byp, Page.xbs, Page.tel]) (s := s) (heq ▸ ((pairChosen_alters best several _ hi' (by simp) (by simp)).trans
      (setupAccepted_alters _ hi' (by simp))).trans (startCircDrain_alters _ ts hi' (by simp))) (by decide)
  obtain ⟨hresult, hindex⟩ := setupAccepted_shows (pairChosen i best several (circTaken s.dev)) hi
  refine ⟨_, exec_circSetup_owned (timed := false) ho hi (congrArg some hts), ?_, ?_, ?_, ?_, hframe⟩ <;> rw [onDev_dev, heq]
  · refine circState_startCircDrain _ _ ?_
    rw [length_setupAccepted, length_pairChosen _ _ _ hi', circWords_circTaken, hlen]
    decide
  · rw [circ_startCircDrain]
  · rw [rd_startCircDrain, hresult]
  · rw [rd_startCircDrain, hindex]

theorem setupArms {src : Src} (hi : i < 128) (hlen : (circWords s.dev i).length = 8) (ho : Owns src Page.byp s)
    (hr : setupRefusal s.dev false i = none) (hc : (choosePair i s.dev).1 = none) (ht : circTrigger s.dev i = none) :
    ∃ t, exec (.circSetup src i true) s = .next t ∧ circState t.dev i = csArmed ∧
      rd t.dev Page.byp Reg.BYP_CIRC_CMD_STAT_RESULT = 1 ∧ CoreKept s t ∧ PartsKept [.byp] s t ∧
      EntriesKept circTables s t ∧ PagesKept [Page.byp, Page.xbs, Page.tel] s t := by
  have hi' : i < 2 ^ 32 := by omega
  obtain ⟨best, several, heq⟩ := circSetup_accepts (now := s.now) (src := src) (ts := none)
    ((setupRefusal_circTaken ..).trans hr) ((choosePair_circTaken ..).trans hc) hi'
    (.inl ((circTrigger_circTaken i s.dev).trans ht))
  have hframe := circCommand_kept (f := circSetup s.now (some src) i none) (P := [.byp]) (ts := circTables)
    (ps := [Page.byp, Page.xbs, Page.tel]) (s := s) (heq ▸ ((pairChosen_alters best several _ hi' (by simp) (by simp)).trans
      (setupAccepted_alters _ hi' (by simp))).trans (circArmed_alters _ hi' (by simp))) (by decide)
  obtain ⟨hresult, -⟩ := setupAccepted_shows (pairChosen i best several (circTaken s.dev)) hi
  refine ⟨_, exec_circSetup_owned (timed := true) (ts := none) ho hi rfl, ?_, ?_, hframe⟩ <;> rw [onDev_dev, heq]
  · refine circState_circArmed _ ?_
    rw [length_setupAccepted, length_pairChosen _ _ _ hi', circWords_circTaken, hlen]
    decide
  · rw [rd_circArmed, hresult]

/-- An armed entry whose trigger is DRAIN_LEAD away chooses its pair, and drains. -/
theorem circDrain_eq {now : W64} {ts : Nat} {d : Dev} (ha : circState d i = csArmed) (hl : (d.circ i).late = none)
    (ht : circTrigger d i = some ts) (hn : ts ≤ fabricNs d now + drainLead d) (hm : matrixFaulted d = false)
    (hc : (choosePair i d).1 = none) :
    ∃ best several, circDrain now i d = startCircDrain i ts (pairChosen i best several d) := by
  obtain ⟨best, several, heq⟩ := choosePair_eq hc
  have hlead : ¬fabricNs d now + drainLead d < ts := Nat.not_lt.2 hn
  refine ⟨best, several, ?_⟩
  simp only [circDrain, ha, hl, ht, hm, hc, heq, if_neg hlead, Option.isSome_none, Bool.false_eq_true, ne_eq,
    not_true_eq_false, or_self, if_false]

theorem armedDrains {ts : Nat} (hi : i < 128) (hlen : (circWords s.dev i).length = 8) (ha : circState s.dev i = csArmed)
    (hl : (s.dev.circ i).late = none) (ht : circTrigger s.dev i = some ts) (hn : ts ≤ fabricNs s.dev s.now + drainLead s.dev)
    (hm : matrixFaulted s.dev = false) (hc : (choosePair i s.dev).1 = none) :
    ∃ t, exec (.circDrainStart i) s = .next t ∧ circState t.dev i = csDraining ∧ (t.dev.circ i).ts = some ts ∧
      Kept [.byp] circTables [Page.xbs, Page.tel] s t := by
  have hi' : i < 2 ^ 32 := by omega
  obtain ⟨best, several, heq⟩ := circDrain_eq ha hl ht hn hm hc
  have halt : SoftAlters (InPages [Page.xbs, Page.tel]) [.byp] (InTables circTables) s.dev (circDrain s.now i s.dev) :=
    heq ▸ (pairChosen_alters best several _ hi' (by simp) (by simp)).trans (startCircDrain_alters _ ts hi' (by simp))
  refine ⟨_, (exec_circDrainStart i s).trans (effect_next _ _ _ (decide_eq_true hi)), ?_, ?_,
    halt.kept (f := circDrain s.now i) (fun _ _ hq => hq) (by decide)⟩ <;> rw [onDev_dev, heq]
  · refine circState_startCircDrain _ _ ?_
    rw [length_pairChosen _ _ _ hi', hlen]
    decide
  · rw [circ_startCircDrain]

/-! #### The fence (R222) -/

theorem portsFenced (hi : i < 128) (hn : circNear s.now s.dev i (fenceLead i s.dev) = true)
    (hf : (s.dev.circ i).fenced = false) :
    ∃ t, exec (.circuitFence i) s = .next t ∧ (t.dev.circ i).fenced = true ∧
      (∀ l ∈ circLanes s.dev i, (t.dev.port l).fence = true) ∧ Kept [.lnk, .byp] [] [] s t := by
  have heq : circFence s.now i s.dev = forEach (circLanes s.dev i) (fun l d => updPort l (fun p => { p with fence := true }) d)
      (setCirc i { s.dev.circ i with fenced := true } s.dev) := by
    rw [circFence, ← fenceLead, hn, hf]
    rfl
  have halt : SoftAlters (InPages []) [.lnk, .byp] (InTables []) s.dev (circFence s.now i s.dev) :=
    heq ▸ (setCirc_alters s.dev _ (by simp)).trans (updPorts_alters _ _ _ (by simp))
  have hbyp : (circFence s.now i s.dev).byp = (setCirc i { s.dev.circ i with fenced := true } s.dev).byp :=
    heq ▸ (updPorts_alters (W := NoWords) (T := NoEntry) _ _ _ (List.mem_singleton_self _)).part .byp (by simp)
  refine ⟨_, (exec_circuitFence i s).trans (effect_next _ _ _ (decide_eq_true hi)), ?_, ?_,
    halt.kept (f := circFence s.now i) (fun _ _ hq => hq) (by simp)⟩ <;> rw [onDev_dev]
  · rw [circ_of_byp hbyp, circ_setCirc]
  · rw [heq]
    exact fun l hl => port_updPorts (Q := fun p => p.fence = true) (fun _ => rfl) _ hl

/-! #### The flush (R222, R223) -/

/-- What the flush does to one of the circuit's ports. -/
def circFlushed (l : Nat) (d : Dev) : Dev :=
  startFlush l (flushEgress l 0 (flushFraming l (bumpN Page.byp Reg.BYP_CNT 5 (egressCells d l) d)))

theorem circFlushed_soft (l : Nat) (d : Dev) : SoftSame d (circFlushed l d) :=
  (((SoftSame.bumpN ..).trans (flushFraming_flushes l _).soft).trans (flushEgress_unqueues l 0 _).soft).trans
    (startFlush_flushes l _).soft

theorem circFlushed_byp (l : Nat) (d : Dev) : (circFlushed l d).byp = d.byp := by
  have hflush : Flushes (bumpN Page.byp Reg.BYP_CNT 5 (egressCells d l) d) (circFlushed l d) :=
    ((flushFraming_flushes l _).trans (flushEgress_unqueues l 0 _).flushes).trans (startFlush_flushes l _)
  rw [hflush.part .byp (by simp), bumpN_byp]

theorem port_flushFraming_same (l : Nat) (d : Dev) : (flushFraming l d).port l = { d.port l with txStream := [] } := by
  rw [flushFraming, port_updPort_same, port_of_lnk (bumpN_lnk ..)]

theorem port_startFlush_same (l : Nat) (d : Dev) : (startFlush l d).port l = { d.port l with flushing := true } := by
  rw [startFlush, port_updPort_same]
  rfl

theorem port_flushEgress (l reason m : Nat) (d : Dev) : (flushEgress l reason d).port m = d.port m :=
  port_of_lnk ((flushEgress_unqueues l reason d).part .lnk (by simp)) m

theorem port_circFlushed_same (l : Nat) (d : Dev) :
    (circFlushed l d).port l = { d.port l with txStream := [], flushing := true } := by
  rw [circFlushed, port_startFlush_same, port_flushEgress, port_flushFraming_same, port_of_lnk (bumpN_lnk ..)]

theorem port_circFlushed_ne {l m : Nat} (d : Dev) (h : l ≠ m) : (circFlushed l d).port m = d.port m := by
  have hstart (e : Dev) : (startFlush l e).port m = e.port m := port_updPort_ne _ _ h
  rw [circFlushed, hstart, port_flushEgress, flushFraming, port_updPort_ne _ _ h, port_of_lnk (bumpN_lnk ..),
    port_of_lnk (bumpN_lnk ..)]

/-- Both engines walk once a flush has started. -/
theorem startFlush_active (l : Nat) (d : Dev) : rdBit (startFlush l d) Page.voq Reg.VOQ_FLUSH_STAT_ACTIVE_A = true ∧
    rdBit (startFlush l d) Page.voq Reg.VOQ_FLUSH_STAT_ACTIVE_B = true := by
  have hctl : (startFlush l d).ctl = (wr Page.voq Reg.VOQ_FLUSH_STAT_ACTIVE_A 1 (wr Page.voq Reg.VOQ_FLUSH_STAT_ACTIVE_B 1
    (wr Page.voq Reg.VOQ_FLUSH_STAT_LANE l d))).ctl := rfl
  refine ⟨?_, ?_⟩ <;> rw [rdBit_of_ctl hctl, rdBit_eq]
  · rw [rd_wr_fits _ _ _ _ rfl (by decide)]
    rfl
  · rw [rd_wr_apart _ _ _ rfl rfl rfl, rd_wr_fits _ _ _ _ rfl (by decide)]
    rfl

theorem portsFlushed (hi : i < 128) (hn : circNear s.now s.dev i (100 * lastLead s.dev) = true)
    (hf : (s.dev.circ i).fenced = true) (hfl : (s.dev.circ i).flushed = false) :
    ∃ t, exec (.circFlush i) s = .next t ∧ (t.dev.circ i).flushed = true ∧
      (∀ l ∈ circLanes s.dev i, (t.dev.port l).txStream = [] ∧ (t.dev.port l).flushing = true) ∧
      rdBit t.dev Page.voq Reg.VOQ_FLUSH_STAT_ACTIVE_A = true ∧ rdBit t.dev Page.voq Reg.VOQ_FLUSH_STAT_ACTIVE_B = true ∧
      CoreKept s t ∧ SoftKept s t := by
  obtain ⟨e, he⟩ : ∃ e, e = setCirc i { s.dev.circ i with flushed := true } s.dev := ⟨_, rfl⟩
  have heq : circFlush s.now i s.dev = forEach (circLanes s.dev i) circFlushed e := by
    rw [circFlush, hn, hf, hfl, he]
    rfl
  have hbyp : (circFlush s.now i s.dev).byp = e.byp := heq ▸ forEach_keeps Dev.byp _ _ circFlushed_byp e
  have hsoft : SoftSame s.dev (circFlush s.now i s.dev) := by
    have hmark : SoftSame s.dev e := he ▸ .ofCtl rfl
    rw [heq]
    exact hmark.trans (forEach_chain .refl .trans _ _ (fun l _ d => circFlushed_soft l d) e)
  obtain ⟨a, ha⟩ : ∃ a, a ∈ circLanes s.dev i := ⟨_, List.mem_cons_self⟩
  have hactive := forEach_establishes (Q := fun d => rdBit d Page.voq Reg.VOQ_FLUSH_STAT_ACTIVE_A = true ∧
    rdBit d Page.voq Reg.VOQ_FLUSH_STAT_ACTIVE_B = true) (f := circFlushed) _ ha (fun d => startFlush_active a _)
    (fun l _ d _ => startFlush_active l _) e
  rw [← heq] at hactive
  refine ⟨_, (exec_circFlush i s).trans (effect_next _ _ _ (decide_eq_true hi)), ?_, fun l hl => ?_, hactive.1, hactive.2,
    coreKept_onDev .., hsoft.softKept⟩ <;> rw [onDev_dev]
  · rw [circ_of_byp hbyp, he, circ_setCirc]
  · rw [heq]
    refine forEach_establishes (Q := fun d => (d.port l).txStream = [] ∧ (d.port l).flushing = true) _ hl (fun d => ?_)
      (fun m _ d hd => ?_) _
    · rw [port_circFlushed_same]
      exact ⟨rfl, rfl⟩
    · by_cases hml : m = l
      · rw [hml, port_circFlushed_same]
        exact ⟨rfl, rfl⟩
      · rw [port_circFlushed_ne _ hml]
        exact hd

/-! #### The codewords not acknowledged (R222) -/

/-- A port that gives its unacknowledged codewords up. -/
def replayCut (p : Port) : Port := { p with replay := [], ackHeld := [], replayAt := none, ackNext := p.txSeq }

/-- The cut of one of the circuit's ports: the cells of its codewords are counted as lost. -/
def circCutPort (l : Nat) (d : Dev) : Dev := updPort l replayCut (bumpN Page.byp Reg.BYP_CNT 6 (replayCells d l) d)

theorem port_circCutPort_same (l : Nat) (d : Dev) : (circCutPort l d).port l = replayCut (d.port l) := by
  rw [circCutPort, port_updPort_same, port_of_lnk (bumpN_lnk ..)]

theorem port_circCutPort_ne {l m : Nat} (d : Dev) (h : l ≠ m) : (circCutPort l d).port m = d.port m := by
  rw [circCutPort, port_updPort_ne _ _ h, port_of_lnk (bumpN_lnk ..)]

theorem txSeq_circCutPort (l m : Nat) (d : Dev) : ((circCutPort l d).port m).txSeq = (d.port m).txSeq := by
  by_cases h : l = m
  · rw [h, port_circCutPort_same, replayCut]
  · rw [port_circCutPort_ne _ h]

theorem replaysCut (hi : i < 128) (hn : circNear s.now s.dev i 10000 = true) (hf : (s.dev.circ i).flushed = true)
    (hc : (s.dev.circ i).cut = false) :
    ∃ t, exec (.circReplayCut i) s = .next t ∧ (t.dev.circ i).cut = true ∧
      (∀ l ∈ circLanes s.dev i, (t.dev.port l).replay = [] ∧ (t.dev.port l).ackNext = (s.dev.port l).txSeq) ∧
      Kept [.lnk, .byp] watchTable [Page.byp, Page.tel] s t := by
  have heq : circCut s.now i s.dev = forEach (circLanes s.dev i) circCutPort
      (setCirc i { s.dev.circ i with cut := true } s.dev) := by
    rw [circCut, hn, hf, hc]
    rfl
  have hport (l : Nat) (d : Dev) :
      SoftAlters (InPages [Page.byp, Page.tel]) [.lnk] (InTables watchTable) d (circCutPort l d) :=
    (bypCount_alters d 6 _ (by decide) (fun _ => by simp [InPages]) (fun _ => by simp [InPages]) fun _ => id).trans
      (.updPort _ _ _ (by simp))
  have hports := SoftAlters.forEach (circLanes s.dev i) circCutPort (fun l _ d => hport l d)
    (setCirc i { s.dev.circ i with cut := true } s.dev)
  have halt : SoftAlters (InPages [Page.byp, Page.tel]) [.lnk, .byp] (InTables watchTable) s.dev (circCut s.now i s.dev) :=
    heq ▸ (setCirc_alters s.dev _ (by simp)).trans (hports.mono (fun _ _ => id) (by simp) fun _ => id)
  have hbyp : (circCut s.now i s.dev).byp = (setCirc i { s.dev.circ i with cut := true } s.dev).byp :=
    heq ▸ hports.part .byp (by simp)
  refine ⟨_, (exec_circReplayCut i s).trans (effect_next _ _ _ (decide_eq_true hi)), ?_, fun l hl => ?_,
    halt.kept (f := circCut s.now i) (fun _ _ hq => hq) (by decide)⟩ <;> rw [onDev_dev]
  · rw [circ_of_byp hbyp, circ_setCirc]
  · have hseq : ((circCut s.now i s.dev).port l).txSeq = (s.dev.port l).txSeq :=
      heq ▸ forEach_keeps (fun d => (d.port l).txSeq) _ _ (fun m d => txSeq_circCutPort m l d) _
    rw [← hseq, heq]
    refine forEach_establishes (Q := fun d => (d.port l).replay = [] ∧ (d.port l).ackNext = (d.port l).txSeq) _ hl
      (fun d => ?_) (fun m _ d hd => ?_) _
    · rw [port_circCutPort_same]
      exact ⟨rfl, rfl⟩
    · by_cases hml : m = l
      · rw [hml, port_circCutPort_same]
        exact ⟨rfl, rfl⟩
      · rw [port_circCutPort_ne _ hml]
        exact hd

/-! #### The switch (R216, R222) -/

/-- The entry is switching, and MATRIX_STAT counts its circuit. -/
def pathsDriven (i : Nat) (d : Dev) : Dev :=
  wr Page.byp Reg.BYP_MATRIX_STAT_CIRCUITS (rd (setCircState i csSwitching d) Page.byp Reg.BYP_MATRIX_STAT_CIRCUITS + 1)
    (setCircState i csSwitching d)

theorem pathsDriven_alters {P : List Part} (d : Dev) (hi : i < 2 ^ 32) :
    SoftAlters (InPages [Page.byp]) P (InTables [(Page.byp, 0)]) d (pathsDriven i d) :=
  (setCircWords_alters d _ (by simp) hi).trans (.wr _ _ (by decide) (by decide) (by simp [InPages]))

theorem linksSuspended (hi : i < 128) (hlen : (circWords s.dev i).length = 8) (hn : circNear s.now s.dev i 0 = true)
    (hc : (s.dev.circ i).cut = true) :
    ∃ t, exec (.circSwitch i) s = .next t ∧ circState t.dev i = csSwitching ∧
      (∀ l ∈ circLanes s.dev i, (t.dev.port l).suspended = true) ∧ Kept [.lnk] [(Page.byp, 0)] [Page.byp] s t := by
  have hi' : i < 2 ^ 32 := by omega
  obtain ⟨e, he⟩ : ∃ e, e = forEach (circLanes (pathsDriven i s.dev) i)
    (fun l d => updPort l (fun p => { p with suspended := true }) d) (pathsDriven i s.dev) := ⟨_, rfl⟩
  have heq : circSwitch s.now i s.dev = forEach (circAllLanes e i) (fun l d => emit (.light l false) d) e := by
    rw [circSwitch, hn, hc, he]
    rfl
  have hlights {W : Page → Nat → Prop} {T : Nat → Prop} : SoftAlters W [] T e (circSwitch s.now i s.dev) :=
    heq ▸ lights_alters e _ false
  have hports {W : Page → Nat → Prop} {T : Nat → Prop} : SoftAlters W [.lnk] T (pathsDriven i s.dev) e :=
    he ▸ updPorts_alters _ _ _ (by simp)
  have halt : SoftAlters (InPages [Page.byp]) [.lnk] (InTables [(Page.byp, 0)]) s.dev (circSwitch s.now i s.dev) :=
    ((pathsDriven_alters s.dev hi').trans hports).trans (hlights.mono (fun _ _ => id) (by simp) fun _ => id)
  have hwords : circWords (circSwitch s.now i s.dev) i = circWords (pathsDriven i s.dev) i :=
    (hlights.circWords_eq (W := NoWords) (ts := []) (by simp) (by simp) hi').trans
      (hports.circWords_eq (W := NoWords) (ts := []) (by simp) (by simp) hi')
  have hlanes : circLanes (pathsDriven i s.dev) i = circLanes s.dev i :=
    circLanes_setCircBits csSwitching s.dev (by decide) (by decide) (by decide)
  refine ⟨_, (exec_circSwitch i s).trans (effect_next _ _ _ (decide_eq_true hi)), ?_, fun l hl => ?_,
    halt.kept (f := circSwitch s.now i) (fun _ _ hq => hq) (by decide)⟩ <;> rw [onDev_dev]
  · rw [circState_congr hwords]
    exact circState_setCircState s.dev _ (by omega) (by decide)
  · rw [port_of_lnk (hlights.part (W := NoWords) (T := NoEntry) .lnk (by simp)), he]
    exact port_updPorts (Q := fun p => p.suspended = true) (fun _ => rfl) _ (hlanes ▸ hl)

/-! #### The circuit is up (R222) -/

/-- The entry is up, with the time it was switched at. -/
def circRisen (now : W64) (i : Nat) (d : Dev) : Dev :=
  setCirc i { d.circ i with upTick := now.toNat }
    (setCircWords i (setW64 (circWords (setCircState i csUp d) i) 6 ((d.circ i).ts.getD 0)) (setCircState i csUp d))

theorem circuitRises {ts : Nat} (hi : i < 128) (hlen : (circWords s.dev i).length = 8)
    (hs : circState s.dev i = csSwitching) (hw : (s.dev.circ i).tearAfterUp = false) (ht : (s.dev.circ i).ts = some ts) :
    ∃ t, exec (.circuitUp i) s = .next t ∧ circState t.dev i = csUp ∧ word64 (circWords t.dev i) 6 = ts % 2 ^ 64 ∧
      (rdWord t.dev Page.byp 0x010).getLsbD 16 = true ∧ Counted Page.byp Reg.BYP_CNT 0 1 s t ∧
      Kept [.byp] circTables [Page.byp, Page.tel] s t := by
  have hi' : i < 2 ^ 32 := by omega
  have heq : circUp s.now i s.dev = raiseIrq Page.byp 16 (bump Page.byp Reg.BYP_CNT 0 (circRisen s.now i s.dev)) := by
    rw [circUp, if_neg (not_not.2 hs)]
    exact if_neg (by rw [hw]; decide)
  have hlen5 : 5 < (circWords s.dev i).length := by omega
  have hrisen : SoftAlters (InPages [Page.byp, Page.tel]) [.byp] (InTables circTables) s.dev (circRisen s.now i s.dev) :=
    ((setCircWords_alters s.dev _ (by simp [circTables]) hi').trans (setCircWords_alters _ _ (by simp [circTables]) hi')).trans
      (setCirc_alters _ _ (by simp))
  have hcount : SoftAlters (InPages [Page.byp, Page.tel]) [] (InTables watchTable) (circRisen s.now i s.dev)
      (circUp s.now i s.dev) := heq ▸ SoftAlters.trans (.bump _ (by decide) (by decide) (fun _ => by simp [InPages])
        fun _ => by simp [InPages]) (.raiseIrq 16 _ (by decide) (by simp [InPages]))
  have hwords : circWords (circUp s.now i s.dev) i = setW64 (circWords (setCircState i csUp s.dev) i) 6 ts := by
    rw [hcount.circWords_eq (by decide) (by decide) hi', circRisen, circWords_setCirc, circWords_setCircWords, ht]
    rfl
  have hup : circState (setCircState i csUp s.dev) i = csUp := circState_setCircState _ _ hlen5 (by decide)
  refine ⟨_, (exec_circuitUp i s).trans (effect_next _ _ _ (decide_eq_true hi)), ?_, ?_, ?_, ?_,
    (hrisen.trans (hcount.mono (fun _ _ => id) (by simp) fun _ => inTables_circTables)).kept (f := circUp s.now i)
      (fun _ _ hq => hq) (by decide)⟩
  · rw [onDev_dev, circState, hwords, wbits, setW64, word_set_ne _ (by decide), word_set_ne _ (by decide)]
    exact hup
  · rw [onDev_dev, hwords]
    exact word64_setW64 ts (by rw [length_setCircState, hlen]; decide)
  · rw [onDev_dev, heq]
    exact raiseIrq_bit _ _ _ (by decide)
  · rw [Counted, onDev_dev, heq, rd64, rdWord_raiseIrq_off _ _ _ (by decide), rdWord_raiseIrq_off _ _ _ (by decide), ← rd64]
    exact rd64_bump_counts _ _ _ _ (by decide) (by decide) (by decide) (by decide)

end

theorem circuitHandedOver : Claims.CircuitHandedOver := fun _ _ hi hlen =>
  ⟨fun _ ho hr hc => ⟨setupDrains hi hlen ho hr hc, setupArms hi hlen ho hr hc⟩,
    fun _ ha hl ht hn hm hc => armedDrains hi hlen ha hl ht hn hm hc, portsFenced hi, portsFlushed hi, replaysCut hi,
    linksSuspended hi hlen, fun _ => circuitRises hi hlen⟩

end Sys2Proof.Machine

/-! ### A circuit is confirmed, torn down or fails (R225 to R228) -/

namespace Sys2Proof.Machine

/-! #### A command refused (R233) -/

section

variable {i : Nat} (d : Dev)

@[simp] theorem circWords_circStat (result reason j : Nat) : circWords (circStat result reason j d) i = circWords d i := rfl

@[simp] theorem circState_circStat (result reason j : Nat) : circState (circStat result reason j d) i = circState d i := rfl

@[simp] theorem rd_setCircWords (ws : List W32) (q : Page) (f : Fd) : rd (setCircWords i ws d) q f = rd d q f := rfl

theorem circRefuse_alters (src : Src) (reason : Nat) (hi : i < 2 ^ 32) :
    SoftAlters (InPages [Page.byp, Page.tel]) [] (InTables circTables) d (circRefuse (some src) i reason d) :=
  ((((circStat_alters 2 reason i d (by simp)).trans (setCircWords_alters _ _ List.mem_cons_self hi)).trans
    (.setErrs [16] src.bit 0x104 (circDetail i reason) _ (by decide) fun _ _ => by simp [InPages])).trans
    (bypCount_alters _ 2 1 (by decide) (fun _ => by simp [InPages]) (fun _ => by simp [InPages])
      fun _ => List.mem_cons_of_mem _)).trans (.raiseIrq 18 _ (by decide) (by simp [InPages]))

/-- A refusal shows its reason in CIRC_CMD_STAT and in the entry, whose state stands. -/
theorem circRefuse_shows (src : Src) {reason : Nat} (hi : i < 128) (hr : reason < 16) :
    circState (circRefuse (some src) i reason d) i = circState d i ∧
      rd (circRefuse (some src) i reason d) Page.byp Reg.BYP_CIRC_CMD_STAT_REASON = reason := by
  obtain ⟨e, he⟩ : ∃ e, e = setErr Page.byp 16 src 0x104 (circDetail i reason)
    (setCircReason i reason (circStat 2 reason i d)) := ⟨_, rfl⟩
  have heq : circRefuse (some src) i reason d = raiseIrq Page.byp 18 (bump Page.byp Reg.BYP_CNT 2 e) := by rw [circRefuse, he]
  obtain ⟨-, hreason, -⟩ := circStat_shows (result := 2) (reason := reason) d (by decide) hr hi
  refine ⟨?_, ?_⟩ <;> rw [heq]
  · have hcount : circWords (bump Page.byp Reg.BYP_CNT 2 e) i = circWords e i :=
      (bump_alters (P := []) e (by decide) (by decide)).circWords_eq (by decide) (by decide) (by omega)
    have hirq : circWords (raiseIrq Page.byp 18 (bump Page.byp Reg.BYP_CNT 2 e)) i = circWords e i :=
      (tget_congr (raiseIrq_ctl_tables ..) ..).trans hcount
    rw [circState_congr hirq, he, circState_congr (tget_congr (setErr_ctl_tables ..) ..)]
    exact (circState_setCircBits _ reason (by decide) (by decide)).trans (circState_circStat ..)
  · rw [rd_raiseIrq_off _ _ _ _ (by decide), rd_bump_off _ _ _ _ (by decide) (by decide) (by decide) (.inl (by decide))
      (by decide) (by decide), he, setErr, rd_setErrs_off _ _ _ _ _ _ _ (by decide), setCircReason, rd_setCircWords, hreason]

end

/-! #### CONFIRM (R227) -/

section

variable {i : Nat} {s : State} {src : Src}

theorem exec_confirm_owned (ho : Owns src Page.byp s) (hi : i < 128) :
    exec (.confirm src i) s = .next (onDev (fun d => circConfirm src i (circTaken d)) s) := by
  rw [exec_confirm, effect_next (.confirm src i) _ _ (decide_eq_true hi), circWrite_owned false ho (by decide) hi]
  rfl

theorem circuitConfirms (hi : i < 128) (ho : Owns src Page.byp s) (hv : cValid (circWords s.dev i) = true)
    (hp : cPlan (circWords s.dev i) = false) (hu : circState s.dev i = csUp) :
    ∃ t, exec (.confirm src i) s = .next t ∧ circState t.dev i = csConfirmed ∧
      rd t.dev Page.byp Reg.BYP_CIRC_CMD_STAT_RESULT = 1 ∧ CoreKept s t ∧ PartsKept [] s t ∧
      EntriesKept [(Page.byp, 0)] s t ∧ PagesKept [Page.byp] s t := by
  have heq : circConfirm src i (circTaken s.dev) = setCircState i csConfirmed (circStat 1 0 i (circTaken s.dev)) := by
    simp [circConfirm, hv, hp, hu]
  obtain ⟨hresult, -, -⟩ := circStat_shows (result := 1) (reason := 0) (circTaken s.dev) (by decide) (by decide) hi
  have hframe := circCommand_kept (f := circConfirm src i) (P := []) (ts := [(Page.byp, 0)]) (ps := [Page.byp]) (s := s)
    (heq ▸ (circStat_alters 1 0 i _ (by simp)).trans (setCircWords_alters _ _ (by simp) (by omega))) (by decide)
  refine ⟨_, exec_confirm_owned ho hi, ?_, ?_, hframe⟩ <;> rw [onDev_dev, heq]
  · refine circState_setCircState _ _ ?_ (by decide)
    rw [circWords_circStat, circWords_circTaken]
    exact hasWord5 (by rw [hu]; decide)
  · rw [setCircState, rd_setCircWords, hresult]

theorem confirmRefused (hi : i < 128) (ho : Owns src Page.byp s) (hv : cValid (circWords s.dev i) = true)
    (hp : cPlan (circWords s.dev i) = false) (hu : circState s.dev i ≠ csUp) :
    ∃ t, exec (.confirm src i) s = .next t ∧ circState t.dev i = circState s.dev i ∧
      rd t.dev Page.byp Reg.BYP_CIRC_CMD_STAT_REASON = 0xB ∧ CoreKept s t ∧ PartsKept [] s t := by
  have heq : circConfirm src i (circTaken s.dev) = circRefuse (some src) i 0xB (circTaken s.dev) := by
    simp [circConfirm, hv, hp, hu]
  obtain ⟨hstate, hreason⟩ := circRefuse_shows (circTaken s.dev) src (reason := 0xB) hi (by decide)
  have hframe := circCommand_kept (f := circConfirm src i) (P := []) (ts := circTables) (ps := [Page.byp, Page.tel]) (s := s)
    (heq ▸ circRefuse_alters _ src 0xB (by omega)) (by decide)
  refine ⟨_, exec_confirm_owned ho hi, ?_, ?_, hframe.1, hframe.2.1⟩ <;> rw [onDev_dev, heq]
  · rw [hstate, circState_circTaken]
  · exact hreason

end

/-! #### The start of a teardown (R226) -/

/-- The entry as a teardown starts. -/
def teardownBegun (i : Nat) (d : Dev) : Dev := setCirc i Circ.idle (setCircBits i 17 17 0 (setCircState i csTearing d))

section

variable {i : Nat} (now : W64) (d : Dev)

theorem teardownBegun_alters {W : Page → Nat → Prop} (hi : i < 2 ^ 32) :
    SoftAlters W [.byp] (InTables circTables) d (teardownBegun i d) :=
  ((setCircWords_alters d _ (by simp [circTables]) hi).trans (setCircWords_alters _ _ (by simp [circTables]) hi)).trans
    (setCirc_alters _ _ (by simp))

/-- After the entry, a teardown changes MATRIX_STAT where the paths were driven, counts, and lights the lanes. -/
theorem startTeardown_eq : ∃ L driven, startTeardown now i d = forEach L (fun l d => emit (.light l true) d)
    (bump Page.byp Reg.BYP_CNT 1 (doIf driven (fun e => wr Page.byp Reg.BYP_MATRIX_STAT_CIRCUITS
      (rd e Page.byp Reg.BYP_MATRIX_STAT_CIRCUITS - 1) e) (teardownBegun i d))) := ⟨_, _, rfl⟩

theorem startTeardown_follows : SoftAlters (InPages [Page.byp, Page.tel]) [] (InTables watchTable) (teardownBegun i d)
    (startTeardown now i d) := by
  obtain ⟨L, driven, heq⟩ := startTeardown_eq (i := i) now d
  rw [heq]
  exact (SoftAlters.trans (.doIf _ _ fun e => .wr _ e (by decide) (by decide) (by simp [InPages]))
    (.bump _ (by decide) (by decide) (fun _ => by simp [InPages]) fun _ => by simp [InPages])).trans (lights_alters _ L true)

theorem startTeardown_alters (hi : i < 2 ^ 32) :
    SoftAlters (InPages [Page.byp, Page.tel]) [.byp] (InTables circTables) d (startTeardown now i d) :=
  (teardownBegun_alters d hi).trans ((startTeardown_follows now d).mono (fun _ _ => id) (by simp)
    fun _ => inTables_circTables)

theorem circWords_startTeardown (hi : i < 2 ^ 32) :
    circWords (startTeardown now i d) i = circWords (setCircBits i 17 17 0 (setCircState i csTearing d)) i := by
  rw [(startTeardown_follows now d).circWords_eq (by decide) (by decide) hi, teardownBegun, circWords_setCirc]

theorem circState_startTeardown (hi : i < 2 ^ 32) (h : 5 < (circWords d i).length) :
    circState (startTeardown now i d) i = csTearing := by
  rw [circState_congr (circWords_startTeardown now d hi), circState_setCircBits _ _ (by decide) (by decide),
    circState_setCircState d _ h (by decide)]

/-- The reason stands, and no timed teardown waits. -/
theorem fields_startTeardown (hi : i < 2 ^ 32) (h : 5 < (circWords d i).length) :
    wbits (circWords (startTeardown now i d) i) 5 27 24 = wbits (circWords d i) 5 27 24 ∧
      cArmedDown (circWords (startTeardown now i d) i) = false := by
  rw [circWords_startTeardown now d hi, setCircBits, circWords_setCircWords]
  refine ⟨?_, ?_⟩
  · rw [wbits_setWBits_apart _ (by decide) (by decide) (by decide) (.inr (by decide)), setCircState, circWords_setCircWords,
      wbits_setWBits_apart _ (by decide) (by decide) (by decide) (.inl (by decide))]
  · rw [cArmedDown, wbit, wbits_setWBits_same _ (by rwa [length_setCircState]) (by decide) (by decide)]
    rfl

/-- Words of the bypass's page other than MATRIX_STAT and the count of teardowns stand. -/
theorem rdWord_startTeardown {a : Nat} (ha : a < 4096) (h4 : a % 4 = 0) (hm : a ≠ 0x10C) (hc : a < 0x188 ∨ 0x190 ≤ a) :
    rdWord (startTeardown now i d) Page.byp a = rdWord d Page.byp a := by
  obtain ⟨L, driven, heq⟩ := startTeardown_eq (i := i) now d
  have hlights (e : Dev) : rdWord (forEach L (fun l d => emit (.light l true) d) e) Page.byp a = rdWord e Page.byp a :=
    forEach_keeps (fun e => rdWord e Page.byp a) L (fun l d => emit (.light l true) d) (fun _ _ => rfl) e
  have hstat (e : Dev) : rdWord (doIf driven (fun e => wr Page.byp Reg.BYP_MATRIX_STAT_CIRCUITS
      (rd e Page.byp Reg.BYP_MATRIX_STAT_CIRCUITS - 1) e) e) Page.byp a = rdWord e Page.byp a :=
    doIf_keeps (fun e => rdWord e Page.byp a) driven _ (fun e => rdWord_wr_off _ _ _ _ e hm.symm) e
  rw [heq, hlights, rdWord_bump_off _ _ _ (by decide) (by decide) ha (by simpa [Reg.BYP_CNT] using hc) h4 (by decide), hstat]
  rfl

theorem rd64_startTeardown : rd64 (startTeardown now i d) Page.byp ⟨Reg.BYP_CNT.off + 8 * 1, 31, 0⟩ =
    (rd64 d Page.byp ⟨Reg.BYP_CNT.off + 8 * 1, 31, 0⟩ + 1) % 2 ^ 64 := by
  obtain ⟨L, driven, heq⟩ := startTeardown_eq (i := i) now d
  have hlights (e : Dev) (f : Fd) : rd64 (forEach L (fun l d => emit (.light l true) d) e) Page.byp f = rd64 e Page.byp f :=
    forEach_keeps (fun e => rd64 e Page.byp f) L (fun l d => emit (.light l true) d) (fun _ _ => rfl) e
  have hstat (a : Nat) (hm : a ≠ 0x10C) (e : Dev) : rdWord (doIf driven (fun e => wr Page.byp Reg.BYP_MATRIX_STAT_CIRCUITS
      (rd e Page.byp Reg.BYP_MATRIX_STAT_CIRCUITS - 1) e) e) Page.byp a = rdWord e Page.byp a :=
    doIf_keeps (fun e => rdWord e Page.byp a) driven _ (fun e => rdWord_wr_off _ _ _ _ e hm.symm) e
  rw [heq, hlights, rd64_bump_counts _ _ _ _ (by decide) (by decide) (by decide) (by decide), rd64, hstat _ (by decide),
    hstat _ (by decide), ← rd64]
  rfl

end

/-! #### TEARDOWN (R225, R226) -/

section

variable {i : Nat} {s : State}

theorem exec_circTeardown_owned {src : Src} (timed : Bool) (ho : Owns src Page.byp s) (hi : i < 128) :
    exec (.circTeardown src i timed) s =
      .next (onDev (fun d => circTeardown s.now (some src) i timed (circTaken d)) s) := by
  rw [exec_circTeardown, effect_next (.circTeardown src i timed) _ _ (decide_eq_true hi), circWrite_owned timed ho (by decide) hi]
  rfl

theorem circTeardown_starts {now : W64} {src : Src} {d : Dev} (hv : cValid (circWords d i) = true)
    (hp : cPlan (circWords d i) = false) (hs : circState d i = csUp ∨ circState d i = csConfirmed) :
    circTeardown now (some src) i false d = startTeardown now i (circStat 1 0 i d) := by
  have hidle : ¬(circState d i = csIdle ∨ circState d i = csTearing ∨ circState d i = csFailed) := by
    rcases hs with h | h <;> rw [h] <;> decide
  have harmed : ¬circState d i = csArmed := by rcases hs with h | h <;> rw [h] <;> decide
  simp [circTeardown, hv, hp, hidle, harmed, hs]

theorem circuitTornDown {src : Src} (hi : i < 128) (ho : Owns src Page.byp s) (hv : cValid (circWords s.dev i) = true)
    (hp : cPlan (circWords s.dev i) = false) (hs : circState s.dev i = csUp ∨ circState s.dev i = csConfirmed) :
    ∃ t, exec (.circTeardown src i false) s = .next t ∧ circState t.dev i = csTearing ∧
      cArmedDown (circWords t.dev i) = false ∧ Counted Page.byp Reg.BYP_CNT 1 1 s t ∧ CoreKept s t ∧ PartsKept [.byp] s t ∧
      EntriesKept circTables s t ∧ PagesKept [Page.byp, Page.tel] s t := by
  have hi' : i < 2 ^ 32 := by omega
  obtain ⟨e, he⟩ : ∃ e, e = circStat 1 0 i (circTaken s.dev) := ⟨_, rfl⟩
  have heq : circTeardown s.now (some src) i false (circTaken s.dev) = startTeardown s.now i e := he ▸ circTeardown_starts hv hp hs
  have hwords : circWords e i = circWords s.dev i := by rw [he, circWords_circStat, circWords_circTaken]
  have hword (a : Nat) (ha : a ≠ 0x108) : rdWord e Page.byp a = rdWord s.dev Page.byp a := by
    rw [he, circStat, rdWord_wr_off _ _ _ _ _ ha.symm, rdWord_wr_off _ _ _ _ _ ha.symm, rdWord_wr_off _ _ _ _ _ ha.symm,
      rdWord_circTaken]
  have hlen : 5 < (circWords e i).length := by
    rw [hwords]
    exact hasWord5 (by rcases hs with h | h <;> rw [h] <;> decide)
  have hstat : SoftAlters (InPages [Page.byp, Page.tel]) [.byp] (InTables circTables) (circTaken s.dev) e :=
    he ▸ circStat_alters 1 0 i _ (by simp)
  have hframe := circCommand_kept (f := circTeardown s.now (some src) i false) (P := [.byp]) (ts := circTables)
    (ps := [Page.byp, Page.tel]) (s := s) (heq ▸ hstat.trans (startTeardown_alters s.now e hi')) (by decide)
  refine ⟨_, exec_circTeardown_owned false ho hi, ?_, ?_, ?_, hframe⟩ <;> simp only [Counted, onDev_dev, heq]
  · exact circState_startTeardown s.now e hi' hlen
  · exact (fields_startTeardown s.now e hi' hlen).2
  · rw [rd64_startTeardown, rd64, hword _ (by decide), hword _ (by decide), ← rd64]

/-! #### A teardown for a cause (R227, R228) -/

/-- A circuit torn down for a cause, with the cause's count. -/
theorem tearFor_counted (now : W64) {reason k : Nat} (d : Dev) (hi : i < 2 ^ 32) (h : 5 < (circWords d i).length)
    (hr : reason < 16) (hk : 2 ≤ k ∧ k < 8) :
    circState (bump Page.byp Reg.BYP_CNT k (tearFor now i reason d)) i = csTearing ∧
      wbits (circWords (bump Page.byp Reg.BYP_CNT k (tearFor now i reason d)) i) 5 27 24 = reason ∧
      (rdWord (bump Page.byp Reg.BYP_CNT k (tearFor now i reason d)) Page.byp 0x010).getLsbD 18 = true ∧
      rd64 (bump Page.byp Reg.BYP_CNT k (tearFor now i reason d)) Page.byp ⟨Reg.BYP_CNT.off + 8 * k, 31, 0⟩ =
        (rd64 d Page.byp ⟨Reg.BYP_CNT.off + 8 * k, 31, 0⟩ + 1) % 2 ^ 64 ∧
      SoftAlters (InPages [Page.byp, Page.tel]) [.byp] (InTables circTables) d
        (bump Page.byp Reg.BYP_CNT k (tearFor now i reason d)) := by
  have hoff : Reg.BYP_CNT.off + 8 * k + 4 < 4096 := by show 0x180 + 8 * k + 4 < 4096; omega
  have hlen : 5 < (circWords (setCircReason i reason d) i).length := (length_setCircBits d 27 24 reason).symm ▸ h
  have hcount : circWords (bump Page.byp Reg.BYP_CNT k (tearFor now i reason d)) i =
      circWords (startTeardown now i (setCircReason i reason d)) i :=
    ((bump_alters (P := []) _ (by decide) hoff).circWords_eq (by decide) (by decide) hi).trans
      (tget_congr (raiseIrq_ctl_tables ..) ..)
  have hreason : wbits (circWords (setCircReason i reason d) i) 5 27 24 = reason := by
    rw [setCircReason, circWords_setCircWords, wbits_setWBits_same _ h (by decide) (by decide)]
    exact Nat.mod_eq_of_lt hr
  have hword (a : Nat) (ha : a = Reg.BYP_CNT.off + 8 * k ∨ a = Reg.BYP_CNT.off + 8 * k + 4) :
      rdWord (tearFor now i reason d) Page.byp a = rdWord d Page.byp a := by
    have hcnt : Reg.BYP_CNT.off = 0x180 := rfl
    rw [tearFor, rdWord_raiseIrq_off _ _ _ (by omega), rdWord_startTeardown _ _ (by omega) (by omega) (by omega) (by omega)]
    rfl
  refine ⟨?_, ?_, ?_, ?_, ?_⟩
  · rw [circState_congr hcount, circState_startTeardown now _ hi hlen]
  · rw [hcount, (fields_startTeardown now _ hi hlen).1, hreason]
  · rw [rdWord_bump_off _ _ _ (by decide) (by decide) (by decide) (.inl (by show 0x010 < 0x180 + 8 * k; omega)) (by decide)
      (by decide), tearFor, raiseIrq_bit _ _ _ (by decide)]
  · rw [rd64_bump_counts _ _ _ _ (by decide) (by decide) hoff (by decide), rd64, rd64, hword _ (.inl rfl),
      hword _ (.inr rfl)]
  · exact (((setCircWords_alters d _ (by simp [circTables]) hi).trans (startTeardown_alters now _ hi)).trans
      (.raiseIrq 18 _ (by decide) (by simp [InPages]))).trans (bypCount_alters _ k 1 hk.2 (fun _ => by simp [InPages])
        (fun _ => by simp [InPages]) fun _ => List.mem_cons_of_mem _)

theorem confirmTimesOut (hi : i < 128) (hu : circState s.dev i = csUp) (hc : cConfirm (circWords s.dev i) ≠ 0)
    (he : elapsed s.now (s.dev.circ i).upTick (cConfirm (circWords s.dev i) * 1000) = true) :
    ∃ t, exec (.confirmTimeout i) s = .next t ∧ circState t.dev i = csTearing ∧ wbits (circWords t.dev i) 5 27 24 = 9 ∧
      (rdWord t.dev Page.byp 0x010).getLsbD 18 = true ∧ Counted Page.byp Reg.BYP_CNT 4 1 s t ∧
      Kept [.byp] circTables [Page.byp, Page.tel] s t := by
  have heq : confirmTimeout s.now i s.dev = bump Page.byp Reg.BYP_CNT 4 (tearFor s.now i 9 s.dev) := if_pos ⟨hu, hc, he⟩
  obtain ⟨hstate, hreason, hirq, hcount, halt⟩ := tearFor_counted (i := i) (k := 4) (reason := 9) s.now s.dev (by omega)
    (hasWord5 (by rw [hu]; decide)) (by decide) (by decide)
  rw [← heq] at hstate hreason hirq hcount halt
  exact ⟨_, (exec_confirmTimeout i s).trans (effect_next _ _ _ (decide_eq_true hi)), hstate, hreason, hirq, hcount,
    halt.kept (f := confirmTimeout s.now i) (fun _ _ hq => hq) (by decide)⟩

theorem pathLosesPower (hi : i < 128) (hd : circDriven s.dev i = true) :
    ∃ t, exec (.pathPowerLoss i) s = .next t ∧ circState t.dev i = csTearing ∧ wbits (circWords t.dev i) 5 27 24 = 8 ∧
      (rdWord t.dev Page.byp 0x010).getLsbD 18 = true ∧ Counted Page.byp Reg.BYP_CNT 7 1 s t ∧
      Kept [.byp] circTables [Page.byp, Page.tel] s t := by
  have heq : pathLoss s.now i s.dev = bump Page.byp Reg.BYP_CNT 7 (tearFor s.now i 8 s.dev) := if_pos hd
  have hstate : csSwitching ≤ circState s.dev i := (of_decide_eq_true hd).1
  obtain ⟨hstate, hreason, hirq, hcount, halt⟩ := tearFor_counted (i := i) (k := 7) (reason := 8) s.now s.dev (by omega)
    (hasWord5 fun h => absurd (h ▸ hstate) (by decide)) (by decide) (by decide)
  rw [← heq] at hstate hreason hirq hcount halt
  exact ⟨_, (exec_pathPowerLoss i s).trans (effect_next _ _ _ (decide_eq_true hi)), hstate, hreason, hirq, hcount,
    halt.kept (f := pathLoss s.now i) (fun _ _ hq => hq) (by decide)⟩

/-! #### The end of a teardown (R226) -/

theorem teardownEnds (hi : i < 128) (ht : circState s.dev i = csTearing) (hl : (s.dev.circ i).lightBack = true) :
    ∃ t, exec (.circuitTeardownDone i) s = .next t ∧ circState t.dev i = csIdle ∧ t.dev.circ i = Circ.idle ∧
      (rdWord t.dev Page.byp 0x010).getLsbD 17 = true ∧ Kept [.byp] [(Page.byp, 0)] [Page.byp] s t := by
  have heq : teardownDone i s.dev = raiseIrq Page.byp 17 (setCirc i Circ.idle (setCircState i csIdle s.dev)) :=
    if_pos ⟨ht, hl⟩
  have halt : SoftAlters (InPages [Page.byp]) [.byp] (InTables [(Page.byp, 0)]) s.dev (teardownDone i s.dev) :=
    heq ▸ ((setCircWords_alters s.dev _ (by simp) (by omega)).trans (setCirc_alters _ _ (by simp))).trans
      (.raiseIrq 17 _ (by decide) (by simp [InPages]))
  refine ⟨_, (exec_circuitTeardownDone i s).trans (effect_next _ _ _ (decide_eq_true hi)), ?_, ?_, ?_,
    halt.kept (f := teardownDone i) (fun _ _ hq => hq) (by decide)⟩ <;> rw [onDev_dev, heq]
  · rw [circState_congr (tget_congr (raiseIrq_ctl_tables ..) ..), circState_congr (circWords_setCirc _ _),
      circState_setCircState _ _ (hasWord5 (by rw [ht]; decide)) (by decide)]
  · rw [circ_of_byp (raiseIrq_byp ..), circ_setCirc]
  · exact raiseIrq_bit _ _ _ (by decide)

/-! #### A failure before the circuit is up (R225, R228, R232) -/

/-- The entry as a circuit fails. -/
def circFailed (i reason : Nat) (d : Dev) : Dev :=
  setCirc i Circ.idle (setCircBits i 17 17 0 (setCircReason i reason (setCircState i csFailed d)))

theorem circFail_eq (reason : Nat) (d : Dev) :
    circFail i reason d = raiseIrq Page.byp 18 (bump Page.byp Reg.BYP_CNT 3 (circFailed i reason d)) := rfl

theorem circFailed_alters {W : Page → Nat → Prop} (reason : Nat) (d : Dev) (hi : i < 2 ^ 32) :
    SoftAlters W [.byp] (InTables circTables) d (circFailed i reason d) :=
  (((setCircWords_alters d _ (by simp [circTables]) hi).trans (setCircWords_alters _ _ (by simp [circTables]) hi)).trans
    (setCircWords_alters _ _ (by simp [circTables]) hi)).trans (setCirc_alters _ _ (by simp))

theorem circFail_follows (reason : Nat) (d : Dev) : SoftAlters (InPages [Page.byp, Page.tel]) [] (InTables watchTable)
    (circFailed i reason d) (circFail i reason d) := by
  rw [circFail_eq]
  exact SoftAlters.trans (.bump _ (by decide) (by decide) (fun _ => by simp [InPages]) fun _ => by simp [InPages])
    (.raiseIrq 18 _ (by decide) (by simp [InPages]))

theorem circFailed_shows {reason : Nat} (d : Dev) (h : 5 < (circWords d i).length) (hr : reason < 16) :
    circState (circFailed i reason d) i = csFailed ∧ wbits (circWords (circFailed i reason d) i) 5 27 24 = reason := by
  have hlen : 5 < (circWords (setCircState i csFailed d) i).length := (length_setCircState d csFailed).symm ▸ h
  refine ⟨?_, ?_⟩
  · rw [circFailed, circState_congr (circWords_setCirc _ _), circState_setCircBits _ _ (by decide) (by decide)]
    exact (circState_setCircBits _ reason (by decide) (by decide)).trans (circState_setCircState d _ h (by decide))
  · rw [circFailed, circWords_setCirc, setCircBits, circWords_setCircWords,
      wbits_setWBits_apart _ (by decide) (by decide) (by decide) (.inr (by decide)), setCircReason, circWords_setCircWords,
      wbits_setWBits_same _ hlen (by decide) (by decide)]
    exact Nat.mod_eq_of_lt hr

theorem triggerLate (hi : i < 128) (ha : circState s.dev i = csArmed) (hl : (s.dev.circ i).late.isSome = true) :
    ∃ t, exec (.circTriggerLate i) s = .next t ∧ circState t.dev i = csFailed ∧ wbits (circWords t.dev i) 5 27 24 = 6 ∧
      (rdWord t.dev Page.byp 0x010).getLsbD 18 = true ∧ Counted Page.byp Reg.BYP_CNT 3 1 s t ∧
      Kept [.byp] circTables [Page.byp, Page.tel] s t := by
  have hi' : i < 2 ^ 32 := by omega
  have heq : circLate i s.dev = circFail i 6 s.dev := if_pos ⟨ha, hl⟩
  obtain ⟨hstate, hreason⟩ := circFailed_shows (i := i) (reason := 6) s.dev (hasWord5 (by rw [ha]; decide)) (by decide)
  have hwords : circWords (circLate i s.dev) i = circWords (circFailed i 6 s.dev) i :=
    heq ▸ (circFail_follows 6 s.dev).circWords_eq (by decide) (by decide) hi'
  have halt : SoftAlters (InPages [Page.byp, Page.tel]) [.byp] (InTables circTables) s.dev (circLate i s.dev) :=
    heq ▸ (circFailed_alters 6 s.dev hi').trans ((circFail_follows 6 s.dev).mono (fun _ _ => id) (by simp)
      fun _ => inTables_circTables)
  refine ⟨_, (exec_circTriggerLate i s).trans (effect_next _ _ _ (decide_eq_true hi)), ?_, ?_, ?_, ?_,
    halt.kept (f := circLate i) (fun _ _ hq => hq) (by decide)⟩
  · rw [onDev_dev, circState_congr hwords, hstate]
  · rw [onDev_dev, hwords, hreason]
  · rw [onDev_dev, heq, circFail_eq]
    exact raiseIrq_bit _ _ _ (by decide)
  · rw [Counted, onDev_dev, heq, circFail_eq, rd64, rdWord_raiseIrq_off _ _ _ (by decide),
      rdWord_raiseIrq_off _ _ _ (by decide), ← rd64]
    exact rd64_bump_counts _ _ _ _ (by decide) (by decide) (by decide) (by decide)

end

end Sys2Proof.Machine

/-! ### A port of a circuit searches: what the bypass shows, and the entries that are tearing down (R226, R228, R232) -/

namespace Sys2Proof.Machine

/-! #### The states of the circuit table through a port's flush (R182) -/

/-- Every entry of the circuit table is in the same state in both. -/
structure StatesKept (d e : Dev) : Prop where
  state : ∀ i < 2 ^ 32, circState e i = circState d i

namespace StatesKept

variable {W : Page → Nat → Prop} {P : List Part} {ts : List (Page × Nat)} {d e : Dev}

theorem refl (d : Dev) : StatesKept d d := ⟨fun _ _ => rfl⟩

theorem trans {d' : Dev} (h : StatesKept d d') (h' : StatesKept d' e) : StatesKept d e :=
  ⟨fun i hi => (h'.state i hi).trans (h.state i hi)⟩

theorem forEach {α : Type} (l : List α) (f : α → Dev → Dev) (h : ∀ a ∈ l, ∀ d, StatesKept d (f a d)) (d : Dev) :
    StatesKept d (Machine.forEach l f d) := forEach_chain refl trans l f h d

theorem ofTables (h : e.ctl.tables = d.ctl.tables) : StatesKept d e :=
  ⟨fun i _ => circState_congr (tget_congr h _ _ i)⟩

theorem ofSw (x : Sw) (d : Dev) : StatesKept d { d with sw := x } := .ofTables rfl

theorem ofAlters (h : Alters W P (InTables ts) d e) (hts : ∀ x ∈ ts, x.1.inst < 4096 ∧ x.2 < 16)
    (hn : (Page.byp, 0) ∉ ts) : StatesKept d e := ⟨fun _ hi => circState_congr (h.circWords_eq hts hn hi)⟩

theorem bumpN {p : Page} {base : Fd} {k : Nat} (n : Nat) (d : Dev) (hp : p.inst < 4096)
    (ho : base.off + 8 * k + 4 < 4096) : StatesKept d (Machine.bumpN p base k n d) :=
  ofAlters (ts := watchTable) (W := fun _ _ => True) (P := [])
    (SoftAlters.bumpN n d hp ho (fun _ => trivial) (fun _ => trivial) fun _ => id).toAlters (by decide) (by decide)

end StatesKept

/-- HELD of a flow is word 6 of an entry; no state of a circuit stands there. -/
theorem heldDec_states (flow : Option Nat) (d : Dev) : StatesKept d (heldDec flow d) := by
  refine ⟨fun i _ => ?_⟩
  cases flow with
  | none => rfl
  | some f =>
    by_cases hkey : tblKey Page.fwd 2 f = tblKey Page.byp 0 i
    · have hold : tget d Page.fwd 2 f = circWords d i := by rw [tget, hkey]; rfl
      have hnew : circWords (heldDec (some f) d) i =
          setWBits (circWords d i) 6 25 0 (wbits (circWords d i) 6 25 0 - 1) := by
        rw [circWords, tget, ← hkey, ← tget, heldDec, tget_tset_same, hold]
      rw [circState, hnew, wbits, setWBits, word_set_ne _ (by decide)]
      rfl
    · exact circState_congr (sget_sset_ne _ _ _ hkey)

theorem uncount_states (b : Box) (d : Dev) : StatesKept d (uncount b d) := by
  have hdrain (e : Nat) : StatesKept d (drainDec e d) := by
    unfold drainDec
    dsimp only
    split <;> exact .ofTables rfl
  unfold uncount
  split
  · exact (hdrain _).trans (heldDec_states ..)
  · exact heldDec_states ..

theorem endLife_states (b : Box) (fate : Nat) (d : Dev) : StatesKept d (endLife b fate d) := by
  unfold endLife
  split
  · exact .refl d
  · unfold pushRecord
    extract_lets buf
    split
    · split <;> exact .ofTables rfl
    · exact (StatesKept.bumpN 1 d (by decide) (by decide)).trans (.ofTables (raiseIrq_ctl_tables ..))

theorem copyEnds_states (b : Box) (n fate : Nat) (d : Dev) : StatesKept d (copyEnds b n fate d) := by
  unfold copyEnds
  extract_lets left x d1 tag y d2 fate'
  have hrecord : StatesKept d d2 := .ofTables rfl
  split
  · exact (hrecord.trans (uncount_states b d2)).trans (endLife_states ..)
  · exact .ofTables rfl

theorem skipCopies_states (b : Box) (n : Nat) (d : Dev) : StatesKept d (skipCopies b n d) := by
  unfold skipCopies
  split
  · exact .refl d
  · exact (StatesKept.bumpN n d (by decide) (by decide)).trans (copyEnds_states ..)

theorem unlink_states (die lane reason : Nat) (ingress notify : Bool) (key : Nat) (l : List Box) (d : Dev) :
    StatesKept d (unlink die lane reason ingress notify key l d) := by
  unfold unlink setFlushList
  split <;> exact .ofTables rfl

theorem unlinkVoqs_states (lane reason : Nat) (ingress : Bool) (d : Dev) :
    StatesKept d (unlinkVoqs lane reason ingress d) := by
  refine .forEach _ _ (fun e _ d => ?_) d
  by_cases h : (if ingress then voqSource e.1 else voqEgress e.1) = lane
  · rw [if_pos h]
    exact ((unlink_states ..).trans (unlink_states ..)).trans (.ofSw ..)
  · rw [if_neg h]
    exact .refl d

theorem flushEgress_states (lane reason : Nat) (d : Dev) : StatesKept d (flushEgress lane reason d) := by
  have hstaging (d : Dev) : StatesKept d (unlinkStaging lane reason d) :=
    .forEach _ _ (fun _ _ _ => (unlink_states ..).trans (.ofSw ..)) d
  have hdrop (d : Dev) : StatesKept d (dropCopies lane d) := by
    refine StatesKept.trans (.forEach _ _ (fun e _ d => ?_) d) (.forEach _ _ (fun e _ d => ?_) _)
    · refine StatesKept.trans (.forEach _ _ (fun m _ d => ?_) d) (.ofSw ..)
      cases m.copies with
      | none => exact .refl d
      | some l => exact skipCopies_states ..
    · exact (StatesKept.forEach _ _ (fun r _ d => skipCopies_states ..) d).trans (.ofSw ..)
  exact ((unlinkVoqs_states ..).trans (hstaging _)).trans (hdrop _)

theorem forgetCopies_states (lane : Nat) (d : Dev) : StatesKept d (forgetCopies lane d) := by
  refine .forEach _ _ (fun tc _ d => .forEach _ _ (fun m _ d => ?_) d) d
  cases m.copies with
  | none => exact .refl d
  | some l =>
    dsimp only
    split
    · exact .refl d
    · exact copyEnds_states ..

theorem unlinkStored_states (lane reason : Nat) (d : Dev) : StatesKept d (unlinkStored lane reason d) := by
  unfold unlinkStored
  extract_lets d1 mine d2 d3
  have hlists : StatesKept d d1 := .forEach _ _ (fun _ _ _ => (unlink_states ..).trans (.ofSw ..)) d
  have hparked : StatesKept d d3 := (hlists.trans (unlink_states ..)).trans (unlink_states ..)
  exact hparked.trans (.ofSw ..)

theorem portDown_states (lane reason : Nat) (d : Dev) : StatesKept d (portDown lane reason d) := by
  have hpipe (d : Dev) : StatesKept d (unlinkPipe lane reason d) :=
    ((unlink_states ..).trans (.bumpN _ _ (by decide) (by decide))).trans (.ofTables rfl)
  have hframing (d : Dev) : StatesKept d (flushFraming lane d) :=
    (StatesKept.bumpN _ d (by decide) (by decide)).trans (.ofTables rfl)
  have hstart (d : Dev) : StatesKept d (startFlush lane d) := .ofTables rfl
  have hqueues := (flushEgress_states lane reason d).trans (unlinkVoqs_states lane reason true _)
  have hstored := (hqueues.trans (forgetCopies_states lane _)).trans (unlinkStored_states lane reason _)
  exact ((hstored.trans (hpipe _)).trans (hframing _)).trans (hstart _)

/-! #### What the bypass shows of the matrix (R228) -/

/-- The matrix's health and the bypass's errors stand, no interrupt of it is taken back, and the software's own state is
the same. -/
structure MatrixKept (d e : Dev) : Prop where
  soft : SoftSame d e
  health : rdWord e Page.byp 0x110 = rdWord d Page.byp 0x110
  err : rdWord e Page.byp 0x018 = rdWord d Page.byp 0x018
  irq : ∀ b, (rdWord d Page.byp 0x010).getLsbD b = true → (rdWord e Page.byp 0x010).getLsbD b = true

namespace MatrixKept

variable {W : Page → Nat → Prop} {P : List Part} {T : Nat → Prop} {d e : Dev}

theorem refl (d : Dev) : MatrixKept d d := ⟨.refl d, rfl, rfl, fun _ => id⟩

theorem trans {d' : Dev} (h : MatrixKept d d') (h' : MatrixKept d' e) : MatrixKept d e :=
  ⟨h.soft.trans h'.soft, h'.health.trans h.health, h'.err.trans h.err, fun b hb => h'.irq b (h.irq b hb)⟩

theorem forEach {α : Type} (l : List α) (f : α → Dev → Dev) (h : ∀ a ∈ l, ∀ d, MatrixKept d (f a d)) (d : Dev) :
    MatrixKept d (Machine.forEach l f d) := forEach_chain refl trans l f h d

/-- An update that leaves the three words alone. -/
theorem ofWords (hs : SoftSame d e) (h : ∀ a ∈ [0x110, 0x018, 0x010], rdWord e Page.byp a = rdWord d Page.byp a) :
    MatrixKept d e := ⟨hs, h _ (by simp), h _ (by simp), fun b hb => by rwa [h _ (by simp)]⟩

theorem ofAlters (h : SoftAlters W P T d e) (hw : ∀ a ∈ [0x110, 0x018, 0x010], ¬W Page.byp a) : MatrixKept d e := by
  refine ofWords h.soft fun a ha => h.word _ _ (by decide) ?_ (hw a ha)
  revert a
  decide

theorem raiseIrq (bit : Nat) (d : Dev) : MatrixKept d (Machine.raiseIrq Page.byp bit d) := by
  refine ⟨.raiseIrq .., rdWord_raiseIrq_off _ _ _ (by decide), rdWord_raiseIrq_off _ _ _ (by decide), fun b hb => ?_⟩
  rw [rdWord_raiseIrq, if_pos rfl, BitVec.getLsbD_or, hb, Bool.true_or]

theorem bump (k : Nat) (d : Dev) : MatrixKept d (Machine.bump Page.byp Reg.BYP_CNT k d) := by
  have hcnt : Reg.BYP_CNT.off = 0x180 := rfl
  refine ofWords (.bump ..) fun a ha => ?_
  have hlt : a < 0x180 ∧ a % 4 = 0 := by revert a; decide
  exact rdWord_bump_off _ _ _ (by decide) (by decide) (by omega) (.inl (by omega)) hlt.2 (by decide)

end MatrixKept

/-! #### A port searches -/

/-- With what the bypass shows, an entry that is tearing down keeps its state and its record. -/
structure TearingKept (d e : Dev) : Prop extends MatrixKept d e where
  tearing : ∀ i < 2 ^ 32, circState d i = csTearing → circState e i = csTearing ∧ e.circ i = d.circ i

namespace TearingKept

variable {W : Page → Nat → Prop} {P : List Part} {T : Nat → Prop} {d e : Dev}

theorem refl (d : Dev) : TearingKept d d := ⟨.refl d, fun _ _ h => ⟨h, rfl⟩⟩

theorem trans {d' : Dev} (h : TearingKept d d') (h' : TearingKept d' e) : TearingKept d e :=
  ⟨h.toMatrixKept.trans h'.toMatrixKept, fun i hi ht =>
    have hmid := h.tearing i hi ht
    have hend := h'.tearing i hi hmid.1
    ⟨hend.1, hend.2.trans hmid.2⟩⟩

theorem forEach {α : Type} (l : List α) (f : α → Dev → Dev) (h : ∀ a ∈ l, ∀ d, TearingKept d (f a d)) (d : Dev) :
    TearingKept d (Machine.forEach l f d) := forEach_chain refl trans l f h d

/-- An update that leaves the bypass's page, its records and the states of its table alone. -/
theorem ofStates (h : SoftAlters W P T d e) (hw : ∀ a, ¬W Page.byp a) (hp : .byp ∉ P) (hs : StatesKept d e) :
    TearingKept d e :=
  ⟨.ofAlters h fun a _ => hw a, fun i hi ht => ⟨(hs.state i hi).trans ht, circ_of_byp (h.part .byp hp) i⟩⟩

/-- An update of the links alone. -/
theorem ofLinks (h : SoftAlters W [.lnk] (InTables []) d e) (hw : ∀ a, ¬W Page.byp a) : TearingKept d e :=
  ofStates h hw (by decide) (.ofAlters h.toAlters (by simp) (by simp))

end TearingKept

theorem lnk_ne_byp (l : Nat) : Page.byp ≠ Page.lnk l := fun h => nomatch congrArg Page.blk h

section

variable {i j : Nat} (reason : Nat) (d : Dev)

theorem circFail_kept (hj : j < 2 ^ 32) : MatrixKept d (circFail j reason d) := by
  rw [circFail_eq]
  exact ((MatrixKept.ofAlters (circFailed_alters (W := NoWords) reason d hj) fun _ _ => id).trans (.bump 3 _)).trans
    (.raiseIrq 18 _)

/-- The other circuits stand when one fails. -/
theorem circFail_others (h : j ≠ i) (hi : i < 2 ^ 32) :
    circState (circFail j reason d) i = circState d i ∧ (circFail j reason d).circ i = d.circ i := by
  have hfollow := circFail_follows (i := j) reason d
  have hwords : circWords (circFailed j reason d) i = circWords d i := by
    rw [circFailed, circWords_setCirc, setCircBits, circWords_setCircWords_ne _ _ h, setCircReason,
      circWords_setCircWords_ne _ _ h, setCircState, circWords_setCircWords_ne _ _ h]
  refine ⟨circState_congr ((hfollow.circWords_eq (by decide) (by decide) hi).trans hwords), ?_⟩
  rw [circ_of_byp (hfollow.part .byp (by simp)), circFailed, circ_setCirc_ne _ _ h, setCircBits, circ_setCircWords,
    setCircReason, circ_setCircWords, setCircState, circ_setCircWords]

/-- A circuit that drains fails: none that is tearing down is touched. -/
theorem circFail_tearing (hj : j < 2 ^ 32) (hs : circState d j = csDraining) : TearingKept d (circFail j reason d) := by
  refine ⟨circFail_kept reason d hj, fun i hi ht => ?_⟩
  have hne : j ≠ i := fun h => absurd ((h ▸ hs).symm.trans ht) (by decide)
  obtain ⟨hstate, hrecord⟩ := circFail_others reason d hne hi
  exact ⟨hstate.trans ht, hrecord⟩

theorem resumePorts_alters {W : Page → Nat → Prop} {T : Nat → Prop} : SoftAlters W [.lnk] T d (resumePorts j d) :=
  updPorts_alters _ _ d (by simp)

end

/-- A port that leaves UP fails a circuit that drains, and none that is tearing down (R232). -/
theorem circPortLost_tearing (lane : Nat) (d : Dev) : TearingKept d (circPortLost lane d) := by
  unfold circPortLost
  split
  next j hfind =>
    have hdrains : circState d j = csDraining := by
      have hsel := List.find?_some hfind
      simp only [Bool.and_eq_true, decide_eq_true_eq] at hsel
      exact hsel.1
    have hj : j < 2 ^ 32 := circListed_lt (List.mem_of_find?_eq_some hfind)
    have hresume : TearingKept d (resumePorts j d) := .ofLinks (W := NoWords) (resumePorts_alters d) fun _ => id
    have hstate : StatesKept d (resumePorts j d) :=
      .ofAlters (ts := []) (resumePorts_alters (W := NoWords) d).toAlters (by simp) (by simp)
    exact hresume.trans (circFail_tearing 7 _ hj ((hstate.state j hj).trans hdrains))
  next => exact .refl d

theorem takeTo_tearing (now : W64) {lane : Nat} (st reason : Nat) (d : Dev) (hl : lane < 1024) :
    TearingKept d (takeTo now lane st reason d) := by
  unfold takeTo
  extract_lets old wasUp rxOpen d0 d1 d2 d3 d4
  have hlost : TearingKept d d0 := by
    simp only [d0]
    split
    · exact circPortLost_tearing lane d
    · exact .refl d
  have hreason : TearingKept d0 (setReason lane reason d0) :=
    .ofLinks (setReason_alters reason d0 (by omega)) fun _ h => lnk_ne_byp _ h.1
  have hstate (e : Dev) : TearingKept e (setPortState lane st e) :=
    .ofLinks (setPortState_alters st e hl) fun _ h => by
      simp [UnitWords, lnk_ne_byp, (lnk_ne_byp _).symm] at h
  have hport (f : Port → Port) (e : Dev) : TearingKept e (updPort lane f e) :=
    .ofLinks (W := NoWords) (.updPort _ _ e (by simp)) fun _ => id
  have hdown (reason : Nat) (e : Dev) : TearingKept e (portDown lane reason e) :=
    .ofStates (portDown_flushes lane reason e) (fun _ h => by simp [FlushWords, Page.byp, Page.fwd, Page.voq, Page.tel] at h)
      (by decide) (portDown_states ..)
  have hclear (e : Dev) : TearingKept e (clearExchange lane e) := by
    have hset : SoftAlters NoWords [] (InTables [(Page.tim, 1)]) e
        (tset Page.tim 1 lane (setWBits (tget e Page.tim 1 lane) 10 31 31 0) e) :=
      .tsetListed _ e (by simp) (by omega)
    have hstates := StatesKept.ofAlters hset.toAlters (by decide) (by decide)
    unfold clearExchange
    exact (TearingKept.ofStates hset (fun _ => id) (by simp) hstates).trans (hport _ _)
  have hflush : TearingKept d2 d3 := by
    simp only [d3]
    split
    · exact (hdown _ _).trans (hclear _)
    · exact .refl d2
  have hlight : TearingKept d3 d4 := by
    simp only [d4]
    split
    · exact .ofLinks (W := NoWords) (.emit _ d3) fun _ => id
    · exact .refl d3
  have hirq : TearingKept d4 (raiseIrq (Page.lnk lane) 16 d4) :=
    .ofLinks (W := OnPage (Page.lnk lane)) (.raiseIrq 16 d4 (by show lane < 4096; omega) rfl) fun _ h => lnk_ne_byp _ h
  exact (((((hlost.trans hreason).trans (hstate _)).trans (hport _ _)).trans hflush).trans hlight).trans hirq

theorem startSearch_tearing (now : W64) {lane : Nat} (reason : Nat) (d : Dev) (hl : lane < 1024) :
    TearingKept d (startSearch now lane reason d) :=
  (takeTo_tearing now lsSearch reason d hl).trans
    (.ofLinks (spareFollows_alters _ now (by simp) hl) fun _ h => lnk_ne_byp _ h.1)

/-! #### The ports of a circuit search -/

/-- A port that is UP searches again, with the cause of a circuit's end (R226). -/
def searchOnReturn (now : W64) (l : Nat) (d : Dev) : Dev := if portUp d l then startSearch now l 0x10 d else d

theorem searchOnReturn_tearing (now : W64) {l : Nat} (d : Dev) (hl : l < 1024) : TearingKept d (searchOnReturn now l d) := by
  unfold searchOnReturn
  split
  · exact startSearch_tearing now 0x10 d hl
  · exact .refl d

/-- No search brings a port UP. -/
theorem portUp_startSearch (now : W64) {l m : Nat} (reason : Nat) (d : Dev) (hl : l < 1024) (hm : m < 1024)
    (hu : portUp d m = false) : portUp (startSearch now l reason d) m = false := by
  obtain ⟨e, hbefore, hafter⟩ := takeTo_steps now lsSearch reason d (by omega : l < 4096)
  have hspare := spareFollows_alters (P := [.lnk]) (T := NoEntry) (takeTo now l lsSearch reason d) now (by simp) hl
  have hne : Page.lnk m ≠ Page.lnk (spareOf l) := lnk_ne (by unfold spareOf; omega)
  rw [startSearch, portUp_congr m (hspare.word _ _ (by show m < 4096; omega) (by decide) fun h => hne h.1),
    portUp_congr m (hafter.word_lnk (by omega) (by decide) (by decide))]
  refine ((setReason_darkens reason e hl).trans (setPortState_darkens _ hl (by decide))).up m hm ?_
  rw [portUp_congr m (hbefore.word_lnk (by omega) (by decide) (by decide)), hu]

theorem portUp_searchOnReturn_same (now : W64) {l : Nat} (d : Dev) (hl : l < 1024) :
    portUp (searchOnReturn now l d) l = false := by
  unfold searchOnReturn
  split
  · exact decide_eq_false (by rw [linkState_startSearch d now 0x10 hl]; decide)
  · exact Bool.not_eq_true _ ▸ ‹_›

theorem portUp_searchOnReturn (now : W64) {l m : Nat} (d : Dev) (hl : l < 1024) (hm : m < 1024) (hu : portUp d m = false) :
    portUp (searchOnReturn now l d) m = false := by
  unfold searchOnReturn
  split
  · exact portUp_startSearch now 0x10 d hl hm hu
  · exact hu

end Sys2Proof.Machine

/-! ### Light returns to a circuit's receivers, and the matrix fails (R226, R228) -/

namespace Sys2Proof.Machine

section

variable {i : Nat} {s : State}

/-! #### Light returns (R226) -/

theorem lightReturns (hi : i < 128) (ht : circState s.dev i = csTearing) (hl : (s.dev.circ i).lightBack = false) :
    ∃ t, exec (.circLightReturn i) s = .next t ∧ (t.dev.circ i).lightBack = true ∧
      (∀ l ∈ circLanes s.dev i, portUp t.dev l = false) ∧ CoreKept s t ∧ SoftKept s t := by
  obtain ⟨e, he⟩ : ∃ e, e = setCirc i { s.dev.circ i with lightBack := true } s.dev := ⟨_, rfl⟩
  have heq : lightReturn s.now i s.dev = forEach (circLanes s.dev i) (searchOnReturn s.now) e := by
    rw [he]
    exact if_pos ⟨ht, hl⟩
  have hstate : circState e i = csTearing := by rw [he, circState_congr (circWords_setCirc _ _), ht]
  have hmark : SoftSame s.dev e := he ▸ .ofCtl rfl
  have hsearch : TearingKept e (lightReturn s.now i s.dev) :=
    heq ▸ .forEach _ _ (fun l hm d => searchOnReturn_tearing s.now d (circLanes_lt hm)) e
  refine ⟨_, (exec_circLightReturn i s).trans (effect_next _ _ _ (decide_eq_true hi)), ?_, fun l hm => ?_,
    coreKept_onDev .., (hmark.trans hsearch.soft).softKept⟩ <;> rw [onDev_dev]
  · rw [(hsearch.tearing i (by omega) hstate).2, he, circ_setCirc]
  · rw [heq]
    exact forEach_establishes (Q := fun d => portUp d l = false) _ hm
      (fun d => portUp_searchOnReturn_same s.now d (circLanes_lt hm))
      (fun m hm' d hu => portUp_searchOnReturn s.now d (circLanes_lt hm') (circLanes_lt hm) hu) e

/-! #### The matrix fails (R228) -/

/-- The fault as the bypass shows it, before the circuits end. -/
def matrixDown (d : Dev) : Dev :=
  raiseIrq Page.byp 20 (setErrs Page.byp [errUncorrectable, 17] 0 0 0
    (wr Page.byp Reg.BYP_MATRIX_HEALTH_FAULT 1 (wr Page.byp Reg.BYP_MATRIX_HEALTH_READY 0 d)))

theorem matrixDown_soft (d : Dev) : SoftSame d (matrixDown d) :=
  (((SoftSame.wr ..).trans (.wr ..)).trans (SoftAlters.setErrs (W := OnPage Page.byp) (P := []) (T := NoEntry)
    [errUncorrectable, 17] 0 0 0 _ (by decide) fun _ _ => rfl).soft).trans (.raiseIrq ..)

theorem matrixDown_shows (d : Dev) : rd (matrixDown d) Page.byp Reg.BYP_MATRIX_HEALTH_FAULT = 1 ∧
    rd (matrixDown d) Page.byp Reg.BYP_MATRIX_HEALTH_READY = 0 ∧
    (rdWord (matrixDown d) Page.byp 0x010).getLsbD 20 = true ∧
    (rdWord (matrixDown d) Page.byp 0x018).getLsbD errUncorrectable = true := by
  refine ⟨?_, ?_, raiseIrq_bit _ _ _ (by decide), ?_⟩
  · rw [matrixDown, rd_raiseIrq_off _ _ _ _ (by decide), rd_setErrs_off _ _ _ _ _ _ _ (by decide)]
    exact rd_wr_fits _ _ _ _ rfl (by decide)
  · rw [matrixDown, rd_raiseIrq_off _ _ _ _ (by decide), rd_setErrs_off _ _ _ _ _ _ _ (by decide),
      rd_wr_apart _ _ _ rfl rfl rfl]
    exact rd_wr_fits _ _ _ _ rfl (by decide)
  · rw [matrixDown, rdWord_raiseIrq_off _ _ _ (by decide), rdWord_setErrs_err, List.foldl_cons, List.foldl_cons,
      List.foldl_nil, BitVec.getLsbD_or, BitVec.getLsbD_or]
    simp [errUncorrectable]

/-- A circuit torn down for a cause leaves the matrix's fault as shown. -/
theorem tearFor_matrix (now : W64) (reason : Nat) (d : Dev) (hi : i < 2 ^ 32) : MatrixKept d (tearFor now i reason d) := by
  have hreason : MatrixKept d (setCircReason i reason d) :=
    .ofAlters (W := NoWords) (P := []) (setCircWords_alters d _ (List.mem_singleton_self _) hi) fun _ _ => id
  refine (hreason.trans ?_).trans (.raiseIrq 18 _)
  refine .ofWords (startTeardown_alters now _ hi).soft fun a ha => ?_
  have hlt : a < 0x188 ∧ a % 4 = 0 ∧ a ≠ 0x10C := by revert a; decide
  exact rdWord_startTeardown now _ (by omega) hlt.2.1 hlt.2.2 (.inl hlt.1)

/-- A circuit that fails in its handover leaves the matrix's fault as shown. -/
theorem failHandover_matrix (now : W64) (reason : Nat) (d : Dev) (hi : i < 2 ^ 32) :
    MatrixKept d (failHandover now i reason d) := by
  unfold failHandover
  split
  · exact (MatrixKept.ofAlters (W := NoWords) (T := NoEntry) (resumePorts_alters d) fun _ _ => id).trans
      (circFail_kept reason _ hi)
  · extract_lets f d1
    have hstat : SoftAlters (At Page.byp [0x10C]) [] NoEntry d d1 :=
      (SoftAlters.wr _ d (by decide) (by decide) ⟨rfl, by decide⟩).trans (lights_alters _ _ true)
    have hlit : MatrixKept d d1 := .ofAlters hstat fun a ha => by
      have hne : a ≠ 0x10C := by revert a; decide
      exact fun h => hne (List.mem_singleton.1 h.2)
    have hsearch : MatrixKept d1 (forEach (circLanes d1 i) (searchOnReturn now) d1) :=
      .forEach _ _ (fun _ hm d => (searchOnReturn_tearing now d (circLanes_lt hm)).toMatrixKept) d1
    exact (hlit.trans hsearch).trans (circFail_kept reason _ hi)

/-- What the fault does to one entry. -/
def matrixEnds (now : W64) (i : Nat) (d : Dev) : Dev :=
  if circState d i = csUp ∨ circState d i = csConfirmed then tearFor now i 0xA d
  else if circState d i = csDraining ∨ circState d i = csSwitching then failHandover now i 0xA d
  else d

theorem matrixEnds_matrix (now : W64) (d : Dev) (hi : i < 2 ^ 32) : MatrixKept d (matrixEnds now i d) := by
  unfold matrixEnds
  split
  · exact tearFor_matrix now 0xA d hi
  · split
    · exact failHandover_matrix now 0xA d hi
    · exact .refl d

theorem matrixFails : ∃ t, exec .matrixFault s = .next t ∧ matrixFaulted t.dev = true ∧
    rdBit t.dev Page.byp Reg.BYP_MATRIX_HEALTH_READY = false ∧ (rdWord t.dev Page.byp 0x010).getLsbD 20 = true ∧
    (rdWord t.dev Page.byp 0x018).getLsbD errUncorrectable = true ∧ CoreKept s t ∧ SoftKept s t := by
  have hends : MatrixKept (matrixDown s.dev) (matrixFault s.now s.dev) :=
    .forEach (circListed (matrixDown s.dev)) (matrixEnds s.now)
      (fun _ hm d => matrixEnds_matrix s.now d (circListed_lt hm)) _
  obtain ⟨hfault, hready, hirq, herr⟩ := matrixDown_shows s.dev
  have hhealth (f : Fd) (hf : f.off = 0x110) :
      rd (matrixFault s.now s.dev) Page.byp f = rd (matrixDown s.dev) Page.byp f := by rw [rd, hf, hends.health, rd, hf]
  refine ⟨_, (exec_matrixFault s).trans (effect_next _ _ _ rfl), ?_, ?_, ?_, ?_, coreKept_onDev ..,
    ((matrixDown_soft s.dev).trans hends.soft).softKept⟩ <;> rw [onDev_dev]
  · rw [matrixFaulted, rdBit_eq, hhealth _ rfl, hfault]
    rfl
  · rw [rdBit_eq, hhealth _ rfl, hready]
    rfl
  · exact hends.irq 20 hirq
  · rw [hends.err, herr]

end

theorem circuitEnds : Claims.CircuitEnds := fun _ _ hi =>
  ⟨fun _ ho hv hp => ⟨circuitConfirms hi ho hv hp, confirmRefused hi ho hv hp, circuitTornDown hi ho hv hp⟩,
    confirmTimesOut hi, pathLosesPower hi, lightReturns hi, teardownEnds hi, triggerLate hi, matrixFails⟩

/-- Settles O30: each step of a circuit's handover and end runs on the entry's words, its record and its ports; what a port's
search does in between leaves an entry that is tearing down, and the matrix's health, as they are. -/
theorem circuitsRun : Obligations.CircuitsRun := ⟨circuitHandedOver, circuitEnds⟩

end Sys2Proof.Machine

/-! ### Contexts that page (R256, R257) -/

namespace Sys2Proof.Machine

/-! #### Contexts, as they are listed and read -/

/-- Writing the default leaves no entry of the key. -/
theorem ne_of_mem_sset_default {α : Type} [DecidableEq α] (d : Nat → α) {m : SMap α} {k : Nat} {x : Nat × α}
    (h : x ∈ sset d m k (d k)) : x.1 ≠ k := by
  induction m with
  | nil => simp [sset] at h
  | cons y m ih =>
    obtain ⟨a, w⟩ := y
    simp only [sset, if_true] at h
    split_ifs at h with hlt heq
    · rcases List.mem_cons.1 h with rfl | h
      · exact Nat.ne_of_gt hlt
      · exact ih h
    · exact ih h
    · rcases List.mem_cons.1 h with rfl | h
      · exact heq
      · exact ih h

section

variable {d e : Dev} {j k : Nat} {c x : Context}

theorem mem_ctxList : (k, c) ∈ ctxList d ↔ (k, some c) ∈ d.col.contexts := by
  rw [ctxList, List.mem_filterMap]
  constructor
  · rintro ⟨⟨a, o⟩, hmem, ho⟩
    obtain ⟨c', rfl, heq⟩ := Option.map_eq_some_iff.1 ho
    cases heq
    exact hmem
  · exact fun h => ⟨_, h, rfl⟩

theorem mem_ctxList_of_ctx (h : d.ctx k = some c) : (k, c) ∈ ctxList d := by
  rcases sget_default_or_mem (konst none) d.col.contexts k with hd | hmem
  · rw [Dev.ctx, hd] at h
    cases h
  · exact mem_ctxList.2 (h ▸ hmem)

@[simp] theorem ctx_setCtx_same (v : Option Context) (d : Dev) : (setCtx k v d).ctx k = v := sget_sset_same ..

theorem ctx_setCtx_ne (v : Option Context) (d : Dev) (h : j ≠ k) : (setCtx j v d).ctx k = d.ctx k := sget_sset_ne _ _ _ h

theorem ctx_congr (h : e.col.contexts = d.col.contexts) (k : Nat) : e.ctx k = d.ctx k := by rw [Dev.ctx, h, Dev.ctx]

theorem ctxList_congr (h : e.col.contexts = d.col.contexts) : ctxList e = ctxList d := by rw [ctxList, h, ctxList]

theorem mem_ctxList_setCtx {v : Option Context} (h : (k, x) ∈ ctxList (setCtx j v d)) :
    (j = k ∧ v = some x) ∨ (k, x) ∈ ctxList d := by
  rcases mem_sset _ (mem_ctxList.1 h) with heq | hmem
  · obtain ⟨rfl, rfl⟩ := Prod.mk.inj heq
    exact .inl ⟨rfl, rfl⟩
  · exact .inr (mem_ctxList.2 hmem)

/-- A phase slot with one context lists that one alone. -/
theorem eq_of_slotKeys {g p : Nat} (hkeys : slotKeys d g p = [k]) (hc : d.ctx k = some c) (hx : (k, x) ∈ ctxList d) :
    x = c := by
  rw [slotKeys, List.filter_map] at hkeys
  obtain ⟨e, he⟩ := List.length_eq_one_iff.1 (by simpa using congrArg List.length hkeys)
  have hkey : k % 2 ^ 20 = ctxKey g p := by
    have hmem : k ∈ ((ctxList d).filter ((fun k => k % 2 ^ 20 == ctxKey g p) ∘ Prod.fst)).map Prod.fst :=
      hkeys ▸ List.mem_singleton.2 rfl
    obtain ⟨y, hy, rfl⟩ := List.mem_map.1 hmem
    exact beq_iff_eq.1 (List.mem_filter.1 hy).2
  have honly (y : Context) (hy : (k, y) ∈ ctxList d) : (k, y) = e :=
    List.mem_singleton.1 (he ▸ List.mem_filter.2 ⟨hy, beq_iff_eq.2 hkey⟩)
  exact (Prod.mk.inj ((honly x hx).trans (honly c (mem_ctxList_of_ctx hc)).symm)).2

end

/-! #### What the pump leaves alone -/

/-- A fold that at each element keeps its choice or takes the element ends with its first choice or an element. -/
theorem foldl_pick_mem {α : Type} {f : Option α → α → Option α} (hf : ∀ b y, f b y = b ∨ f b y = some y) (l : List α)
    {b : Option α} {x : α} (h : l.foldl f b = some x) : b = some x ∨ x ∈ l := by
  induction l generalizing b with
  | nil => exact .inl h
  | cons y l ih =>
    rcases ih h with hb | hmem
    · rcases hf b y with hkeep | htake
      · exact .inl (hkeep ▸ hb)
      · exact .inr (by rw [htake] at hb; cases hb; exact List.mem_cons_self)
    · exact .inr (List.mem_cons_of_mem _ hmem)

/-- The slot reads `v`, and every context listed there is one that no page-out can take. -/
structure Settled (k : Nat) (v : Option Context) (d : Dev) : Prop where
  reads : d.ctx k = v
  away : ∀ x, (k, x) ∈ ctxList d → x.isResident = false

/-- A context out of Stockpot's resident slots that nothing waits for. -/
def StaysOut (v : Option Context) : Prop := ∀ c, v = some c → c.paging = .out ∧ c.pageIn = false

section

variable {k : Nat} {v : Option Context} {d : Dev}

theorem Settled.setCtx_ne {j : Nat} (h : Settled k v d) (w : Option Context) (hj : j ≠ k) : Settled k v (setCtx j w d) :=
  ⟨(ctx_setCtx_ne w d hj).trans h.reads, fun x hx =>
    (mem_ctxList_setCtx hx).elim (fun he => absurd he.1 hj) (h.away x)⟩

theorem Settled.congr {e : Dev} (h : Settled k v d) (he : e.col.contexts = d.col.contexts) : Settled k v e :=
  ⟨(ctx_congr he k).trans h.reads, fun x hx => h.away x (ctxList_congr he ▸ hx)⟩

/-- What a page-out takes is listed, and resident. -/
theorem victim_listed {ok : Context → Bool} {j : Nat} (h : victim d ok = some j) :
    ∃ x, (j, x) ∈ ctxList d ∧ x.isResident = true := by
  obtain ⟨e, he, rfl⟩ := Option.map_eq_some_iff.1 h
  have hmem := (foldl_pick_mem (fun b y => ?_) _ he).resolve_left (by simp)
  · obtain ⟨hin, hok⟩ := List.mem_filter.1 hmem
    simp only [pageable, Bool.and_eq_true] at hok
    exact ⟨e.2, hin, hok.1.1.1⟩
  · cases b with
    | none => exact .inr rfl
    | some b => exact (ite_eq_or_eq _ _ _).symm

theorem Settled.startPageOut (h : Settled k v d) (ok : Context → Bool) : Settled k v (startPageOut ok d) := by
  unfold Machine.startPageOut
  split
  next j hj =>
    obtain ⟨x, hx, hres⟩ := victim_listed hj
    refine h.setCtx_ne _ fun hjk => ?_
    rw [h.away x (hjk ▸ hx)] at hres
    cases hres
  next => exact h

theorem Settled.checkRetention (h : Settled k v d) (die : Nat) : Settled k v (checkRetention die d) := by
  unfold Machine.checkRetention
  extract_lets leaving
  split
  · exact h.startPageOut _
  · exact h

theorem Settled.pumpOne (h : Settled k v d) (hv : StaysOut v) (j : Nat) : Settled k v (pumpOne j d) := by
  unfold Machine.pumpOne
  split
  next => exact h
  next c hc =>
    split
    next => exact h
    next hwaits =>
      have hj : j ≠ k := by
        rintro rfl
        obtain ⟨hout, hin⟩ := hv c (h.reads.symm.trans hc)
        exact hwaits (.inr (by simp [hin]))
      split
      · exact (h.setCtx_ne _ hj).congr (d := setCtx j _ d) rfl
      · extract_lets inRegion waiting leaving
        split
        · exact h.startPageOut _
        · exact h

theorem Settled.leaveQuiescing (h : Settled k v d) : Settled k v (leaveQuiescing d) := by
  have hmoves : ∀ e ∈ ctxList d, ∀ d', Settled k v d' → Settled k v
      (if pageable e.2 && blockHeld d' e.2.block then setCtx e.1 (some { e.2 with paging := .goingOut }) d' else d') := by
    intro e he d' h'
    split
    next hp =>
      refine h'.setCtx_ne _ fun hek => ?_
      have hres := h.away e.2 (hek ▸ he)
      simp [pageable, hres] at hp
    next => exact h'
  exact forEach_chain (R := fun d e => Settled k v d → Settled k v e) (fun _ => id) (fun h h' => h' ∘ h) _ _ hmoves d h

theorem syncBound_contexts (d : Dev) : (syncBound d).col.contexts = d.col.contexts := by
  have hcol : (syncBound d).col = d.col := forEach_keeps Dev.col _ _ (fun _ _ => wr_col ..) d
  rw [hcol]

/-- The pump, and the count of the bound contexts on the core blocks, leave a settled slot alone. -/
theorem Settled.pump (h : Settled k v d) (hv : StaysOut v) : Settled k v (pump d) := by
  have hserved : Settled k v (forEach ((ctxList d).map Prod.fst) Machine.pumpOne (Machine.leaveQuiescing d)) :=
    forEach_chain (R := fun d e => Settled k v d → Settled k v e) (fun _ => id) (fun h h' => h' ∘ h) _ _
      (fun j _ _ h' => h'.pumpOne hv j) _ h.leaveQuiescing
  exact hserved.congr (syncBound_contexts _)

end

/-! #### Frames -/

section

variable {W : Page → Nat → Prop} {P : List Part} {T : Nat → Prop} {d e : Dev}

theorem ColOnly.softAlters (h : ColOnly d e) (hP : .col ∈ P) : SoftAlters W P T d e := by
  obtain ⟨c, rfl⟩ := h
  exact .col c d hP

theorem checkRetention_colOnly (die : Nat) (d : Dev) : ColOnly d (checkRetention die d) := by
  unfold checkRetention
  extract_lets leaving
  split
  · exact startPageOut_colOnly _ d
  · exact .refl d

theorem mem_coreBlockPages {b : Nat} (h : b < 32) : Page.coreBlock b ∈ coreBlockPages :=
  List.mem_map_of_mem (List.mem_range.2 h)

/-- The pump changes the engine's record, and what the core blocks show of their contexts (R338). -/
theorem pump_alters {ps : List Page} (hP : .col ∈ P) (hps : ∀ q ∈ coreBlockPages, q ∈ ps) (d : Dev) :
    SoftAlters (InPages ps) P T d (pump d) := by
  have hserved := forEach_chain ColOnly.refl ColOnly.trans ((ctxList d).map Prod.fst) pumpOne
    (fun k _ d => pumpOne_colOnly k d) (leaveQuiescing d)
  refine (((leaveQuiescing_colOnly d).trans hserved).softAlters hP).trans (.forEach _ _ (fun b hb d => ?_) _)
  have hb : b < 32 := List.mem_range.1 hb
  exact .wr _ d (by show 8 + b < 4096; omega) (by decide) (hps _ (mem_coreBlockPages hb))

/-- A count of COL, with the watches that follow it. -/
theorem colCount_alters {ps : List Page} {ts : List (Page × Nat)} (k : Nat) (d : Dev) (hk : k < 16) (hcol : Page.col ∈ ps)
    (htel : Page.tel ∈ ps) (hts : (Page.tel, 0) ∈ ts) :
    SoftAlters (InPages ps) P (InTables ts) d (bump Page.col Reg.COL_CNT k d) :=
  .bumpN 1 d (by decide) (by show 0x180 + 8 * k + 4 < 4096; omega) (fun _ => hcol) (fun _ => htel)
    fun _ ⟨x, hx, hi⟩ => ⟨x, by rw [List.mem_singleton.1 hx]; exact hts, hi⟩

/-- A count of COL goes up by one (R465). -/
theorem rd64_colCount (k : Nat) (d : Dev) (hk : k < 16) :
    rd64 (bump Page.col Reg.COL_CNT k d) Page.col ⟨Reg.COL_CNT.off + 8 * k, 31, 0⟩ =
      (rd64 d Page.col ⟨Reg.COL_CNT.off + 8 * k, 31, 0⟩ + 1) % 2 ^ 64 :=
  rd64_bump_counts _ _ _ _ (by decide) (by decide) (by show 0x180 + 8 * k + 4 < 4096; omega) (by decide)

/-- The counters of a page whose words are as they were read the same. -/
theorem Alters.rd64_eq {q : Page} {f : Fd} (h : Alters W P T d e) (hq : q.inst < 4096) (hf : f.off + 4 < 4096)
    (hn : ∀ a, ¬W q a) : rd64 e q f = rd64 d q f := by
  rw [rd64, h.word q _ hq (by omega) (hn _), h.word q _ hq hf (hn _), rd64]

end

theorem col_notMem_coreBlockPages : Page.col ∉ coreBlockPages := by
  rw [coreBlockPages, List.mem_map]
  rintro ⟨b, -, hb⟩
  exact absurd (congrArg Page.blk hb) (show Block.ldl ≠ Block.col by decide)

theorem tel_notMem_coreBlockPages : Page.tel ∉ coreBlockPages := by
  rw [coreBlockPages, List.mem_map]
  rintro ⟨b, -, hb⟩
  exact absurd (congrArg Page.blk hb) (show Block.ldl ≠ Block.tel by decide)

/-! #### PAGE_OUT_DONE and PAGE_IN_DONE (R256) -/

section

variable {g p k : Nat} {c : Context} {s : State}

theorem pagingWf (hg : g < 65536) (hp : p < 16) :
    (Instr.pageOutDone g p).wf = true ∧ (Instr.pageInDone g p).wf = true :=
  have h := Bool.and_eq_true_iff.2 ⟨decide_eq_true hg, decide_eq_true hp⟩
  ⟨h, h⟩

/-- The context is out, and the page-out counted. -/
def leftOut (k : Nat) (c : Context) (d : Dev) : Dev :=
  bump Page.col Reg.COL_CNT 2 (setCtx k (some { c with paging := .out }) d)

theorem pageOutDone_eq {d : Dev} (hc : d.ctx k = some c) (hout : c.paging = .goingOut) (hin : c.pageIn = false)
    (hneeds : needsIn d k c = false) : pageOutDone k d = pump (checkRetention c.die (leftOut k c d)) := by
  simp [pageOutDone, hc, hout, hin, hneeds, leftOut]

/-- Every context listed under the key of the one that has left is out of the resident slots. -/
theorem leftOut_settled (hkeys : slotKeys s.dev g p = [k]) (hc : s.dev.ctx k = some c) (hout : c.paging = .goingOut) :
    Settled k (some { c with paging := .out }) (leftOut k c s.dev) := by
  refine Settled.congr (d := setCtx k (some { c with paging := .out }) s.dev) ⟨ctx_setCtx_same .., fun x hx => ?_⟩
    (congrArg Col.contexts (bump_col ..))
  rcases mem_ctxList_setCtx hx with ⟨-, heq⟩ | hmem
  · cases heq
    rfl
  · rw [eq_of_slotKeys hkeys hc hmem, Context.isResident, hout]
    rfl

theorem contextPagesOut (hg : g < 65536) (hp : p < 16) (hkeys : slotKeys s.dev g p = [k]) (hc : s.dev.ctx k = some c)
    (hout : c.paging = .goingOut) (hin : c.pageIn = false) (hneeds : needsIn s.dev k c = false) :
    ∃ t, exec (.pageOutDone g p) s = .next t ∧ t.dev.ctx k = some { c with paging := .out } ∧
      Counted Page.col Reg.COL_CNT 2 1 s t ∧
      Kept [.col] [(Page.tel, 0)] ([Page.col, Page.tel] ++ coreBlockPages) s t := by
  have hdev : forEach (slotKeys s.dev g p) pageOutDone s.dev = pump (checkRetention c.die (leftOut k c s.dev)) := by
    rw [hkeys, forEach_cons, forEach_nil, pageOutDone_eq hc hout hin hneeds]
  have hsettled : Settled k (some { c with paging := .out }) (pump (checkRetention c.die (leftOut k c s.dev))) :=
    ((leftOut_settled hkeys hc hout).checkRetention _).pump fun _ he => by cases he; exact ⟨rfl, hin⟩
  have hafter (ps : List Page) (hps : ∀ q ∈ coreBlockPages, q ∈ ps) : SoftAlters (InPages ps) [.col] (InTables [(Page.tel, 0)])
      (leftOut k c s.dev) (pump (checkRetention c.die (leftOut k c s.dev))) :=
    ((checkRetention_colOnly ..).softAlters (by simp)).trans (pump_alters (by simp) hps _)
  have hall : SoftAlters (InPages ([Page.col, Page.tel] ++ coreBlockPages)) [.col] (InTables [(Page.tel, 0)]) s.dev
      (forEach (slotKeys s.dev g p) pageOutDone s.dev) :=
    hdev ▸ ((SoftAlters.col _ s.dev (by simp)).trans (colCount_alters 2 _ (by decide) (by simp) (by simp) (by simp))).trans
      (hafter _ fun q hq => List.mem_append_right _ hq)
  refine ⟨_, (exec_pageOutDone ..).trans (effect_next _ _ _ (pagingWf hg hp).1), ?_, ?_,
    hall.kept (f := fun d => forEach (slotKeys d g p) pageOutDone d) (fun _ _ hq => hq) (by decide)⟩
  · rw [onDev_dev, hdev, hsettled.reads]
  · rw [Counted, onDev_dev, hdev, (hafter coreBlockPages fun _ => id).rd64_eq (by decide) (by decide)
      fun _ => col_notMem_coreBlockPages]
    exact rd64_colCount 2 _ (by decide)

/-- The context is resident, and the page-in counted. -/
def backIn (k : Nat) (c : Context) (d : Dev) : Dev :=
  bump Page.col Reg.COL_CNT 3 (setCtx k (some { c with paging := .resident, pageIn := false }) d)

theorem contextPagesIn (hg : g < 65536) (hp : p < 16) (hkeys : slotKeys s.dev g p = [k]) (hc : s.dev.ctx k = some c)
    (hin : c.paging = .goingIn) (hA : s.dev.sw.parkA = []) (hB : s.dev.sw.parkB = []) :
    ∃ t, exec (.pageInDone g p) s = .next t ∧ t.dev.ctx k = some { c with paging := .resident, pageIn := false } ∧
      (∀ k', k' ≠ k → t.dev.ctx k' = s.dev.ctx k') ∧ Counted Page.col Reg.COL_CNT 3 1 s t ∧
      Kept [.col] [(Page.tel, 0)] [Page.col, Page.tel] s t := by
  have hdev : forEach (slotKeys s.dev g p) pageInDone s.dev = backIn k c s.dev := by
    rw [hkeys, forEach_cons, forEach_nil]
    simp [pageInDone, hc, hin, backIn]
  have hparks : (backIn k c s.dev).sw = s.dev.sw := bump_sw ..
  have hcol : (backIn k c s.dev).col.contexts =
      (setCtx k (some { c with paging := .resident, pageIn := false }) s.dev).col.contexts :=
    congrArg Col.contexts (bump_col ..)
  have hnone : unparkReady (onDev (fun d => forEach (slotKeys d g p) pageInDone d) s) = onDev (backIn k c) s := by
    rw [onDev, hdev]
    exact unparkReady_none (by rw [hparks]; exact ⟨hA, hB⟩)
  have hall : SoftAlters (InPages [Page.col, Page.tel]) [.col] (InTables [(Page.tel, 0)]) s.dev (backIn k c s.dev) :=
    (SoftAlters.col _ s.dev (by simp)).trans (colCount_alters 3 _ (by decide) (by simp) (by simp) (by simp))
  refine ⟨_, (exec_pageInDone ..).trans (effect_next _ _ _ (pagingWf hg hp).2), ?_, fun k' hk' => ?_, ?_,
    hnone ▸ hall.kept (f := backIn k c) (fun _ _ hq => hq) (by decide)⟩ <;> rw [hnone]
  · rw [onDev_dev, ctx_congr hcol, ctx_setCtx_same]
  · rw [onDev_dev, ctx_congr hcol, ctx_setCtx_ne _ _ hk'.symm]
  · rw [Counted, onDev_dev]
    exact rd64_colCount 3 _ (by decide)

end

/-- The second part of O34, which holds of every state. -/
theorem contextsPage : Claims.ContextsPage := fun _ _ _ _ _ hg hp hkeys hc =>
  ⟨contextPagesOut hg hp hkeys hc, contextPagesIn hg hp hkeys hc⟩

end Sys2Proof.Machine

/-! ### Groups change: the fields of a group's entry, and the commands on it (R260 to R263) -/

namespace Sys2Proof.Machine

/-! #### COL's WO registers (R271) -/

/-- A register of COL whose fields are WO is written: its word stands as it was (R10). -/
def colTaken (off : Nat) (d : Dev) : Dev := wrWord Page.col off (rdWord d Page.col off) d

section

variable {off : Nat} (d : Dev)

theorem colTaken_alters {W : Page → Nat → Prop} {P : List Part} {T : Nat → Prop} (ho : off < 4096) :
    SoftAlters W P T d (colTaken off d) :=
  ⟨wrWord_rdWord_alters d (by decide) ho, ⟨rfl, rfl, rfl, rfl, rfl, rfl, rfl, rfl⟩⟩

@[simp] theorem rdWord_colTaken (q : Page) (a : Nat) : rdWord (colTaken off d) q a = rdWord d q a := by
  rw [colTaken, rdWord_wrWord]
  split
  next h => rw [rdWord, h, ← rdWord]
  next => rfl

@[simp] theorem rd_colTaken (q : Page) (f : Fd) : rd (colTaken off d) q f = rd d q f := by simp [rd]

@[simp] theorem grp_colTaken (g : Nat) : grp (colTaken off d) g = grp d g := rfl

/-- RESIZE_CMD's register, and STRAG_CLEAR's. -/
def resizeReg : RegDef := ⟨0x120, 1, 4, 0, [⟨31, 31, .L, .wo, 0, .any⟩, ⟨30, 30, .L, .wo, 0, .any⟩, ⟨15, 0, .L, .wo, 0, .any⟩]⟩
def stragReg : RegDef := ⟨0x140, 1, 4, 0, [⟨15, 0, .L, .wo, 0, .any⟩]⟩

theorem fieldWrite_resizeReg (src : Src) (v : W32) : fieldWrite src Page.col 0x120 v resizeReg d = colTaken 0x120 d := by
  have hbits : portBits d Page.col 0x120 = 0 := portBits_off_links _ _ (by decide)
  have hall : ∀ x : W32, x &&& 0xFFFFFFFF#32 = x := fun x => BitVec.and_allOnes
  simp [fieldWrite, resizeReg, colTaken, hbits, fldMask, takesNow, writeErrs, stageFields, merge, Fld.ok, Enc.ok, hall]

theorem fieldWrite_stragReg (src : Src) (v : W32) : fieldWrite src Page.col 0x140 v stragReg d = colTaken 0x140 d := by
  have hbits : portBits d Page.col 0x140 = 0 := portBits_off_links _ _ (by decide)
  have hall : ∀ x : W32, x &&& 0xFFFFFFFF#32 = x := fun x => BitVec.and_allOnes
  simp [fieldWrite, stragReg, colTaken, hbits, fldMask, takesNow, writeErrs, stageFields, merge, Fld.ok, Enc.ok, hall]

end

/-- A field of a word given by its value. -/
theorem bitsOf_ofNat {v : Nat} (hv : v < 2 ^ 32) (hi lo : Nat) : bitsOf (BitVec.ofNat 32 v) hi lo = v / 2 ^ lo % 2 ^ (hi + 1 - lo) := by
  rw [bitsOf, BitVec.toNat_ofNat, Nat.mod_eq_of_lt hv, Nat.shiftRight_eq_div_pow]

theorem getLsbD_ofNat {v : Nat} (hv : v < 2 ^ 32) (i : Nat) : (BitVec.ofNat 32 v).getLsbD i = decide (v / 2 ^ i % 2 = 1) := by
  rw [BitVec.getLsbD, BitVec.toNat_ofNat, Nat.mod_eq_of_lt hv, Nat.testBit_eq_decide_div_mod_eq]

section

variable {src : Src} {g : Nat} {s : State}

theorem exec_resize_owned (abort : Bool) (h : Owns src Page.col s) (hg : g < 65536) :
    exec (.resize src abort g) s = .next (resizeCmd src abort g (onDev (colTaken 0x120) s)) := by
  have hbit : bit abort < 2 := by cases abort <;> decide
  have hlt : 2 ^ 31 + bit abort * 2 ^ 30 + g < 2 ^ 32 := by omega
  have hgo : (BitVec.ofNat 32 (2 ^ 31 + bit abort * 2 ^ 30 + g)).getLsbD 31 = true := by
    rw [getLsbD_ofNat hlt]
    exact decide_eq_true (by omega)
  have habort : (BitVec.ofNat 32 (2 ^ 31 + bit abort * 2 ^ 30 + g)).getLsbD 30 = abort := by
    rw [getLsbD_ofNat hlt, show (2 ^ 31 + bit abort * 2 ^ 30 + g) / 2 ^ 30 % 2 = bit abort by omega]
    cases abort <;> rfl
  have hgroup : bitsOf (BitVec.ofNat 32 (2 ^ 31 + bit abort * 2 ^ 30 + g)) 15 0 = g := by
    rw [bitsOf_ofNat hlt]
    omega
  rw [exec_resize, effect_next (.resize src abort g) _ _ (decide_eq_true hg),
    write32_reg _ h (by decide) (by decide) (by decide) (r := resizeReg) rfl (by decide) hlt, regWrite_block _ _ _ _ (by decide)]
  simp only [blockWrite, Page.col, colWrite]
  rw [hgo, habort, hgroup, if_pos rfl, onDev, onDev, ← fieldWrite_resizeReg]
  rfl

theorem exec_stragClear_owned (h : Owns src Page.col s) (hg : g < 65536) :
    exec (.stragClear src g) s = .next (onDev (fun d => stragClear g (colTaken 0x140 d)) s) := by
  have hlt : g < 2 ^ 32 := by omega
  have hgroup : bitsOf (BitVec.ofNat 32 g) 15 0 = g := by
    rw [bitsOf_ofNat hlt]
    omega
  rw [exec_stragClear, effect_next (.stragClear src g) _ _ (decide_eq_true hg),
    write32_reg _ h (by decide) (by decide) (by decide) (r := stragReg) rfl (by decide) hlt, regWrite_block _ _ _ _ (by decide)]
  simp only [blockWrite, Page.col, colWrite]
  rw [hgroup, onDev, onDev, onDev, ← fieldWrite_stragReg s.dev src (BitVec.ofNat 32 g)]
  rfl

end

/-! #### Group entries -/

section

variable {g g' : Nat} (ws : List W32) (d : Dev)

@[simp] theorem grp_setGrp_same : grp (setGrp g ws d) g = ws := tget_tset_same ..

theorem grp_setGrp_ne (h : g ≠ g') : grp (setGrp g ws d) g' = grp d g' := tget_tset_index _ _ _ _ h

theorem grp_congr {e : Dev} (h : e.ctl.tables = d.ctl.tables) (g : Nat) : grp e g = grp d g := tget_congr h ..

theorem setGrp_alters {W : Page → Nat → Prop} {P : List Part} {ts : List (Page × Nat)} (h : (Page.col, 0) ∈ ts)
    (hg : g < 65536) : SoftAlters W P (InTables ts) d (setGrp g ws d) := .tsetListed ws d h (by omega)

/-- A word of an entry with a bit set is there. -/
theorem hasWord_of_wbit {ws : List W32} {k b : Nat} (h : wbit ws k b = true) : k < ws.length := by
  by_contra hlen
  have hzero : word ws k = 0 := by simp [word, List.getElem?_eq_none (Nat.le_of_not_lt hlen)]
  simp [wbit, wbits, hzero, bitsOf] at h

theorem wbit_setWBits_same {ws : List W32} {k b : Nat} (v : Nat) (hk : k < ws.length) (hb : b < 32) :
    wbit (setWBits ws k b b v) k b = decide (v % 2 = 1) := by
  rw [wbit, wbits_setWBits_same _ hk (le_refl b) hb, Nat.add_sub_cancel_left, pow_one]
  rcases Nat.mod_two_eq_zero_or_one v with h | h <;> rw [h] <;> rfl

end

/-! #### RESIZE_STAT (R262) -/

/-- RESIZE_STAT shows an outcome. -/
def resizeShown (result reason gen g : Nat) (d : Dev) : Dev :=
  wr Page.col Reg.COL_RESIZE_STAT_RESULT result (wr Page.col Reg.COL_RESIZE_STAT_REASON reason
    (wr Page.col Reg.COL_RESIZE_STAT_GEN gen (wr Page.col Reg.COL_RESIZE_STAT_GROUP g d)))

section

variable {result reason gen g : Nat} (d : Dev)

theorem resizeShown_alters {ps : List Page} {P : List Part} {T : Nat → Prop} (hp : Page.col ∈ ps) :
    SoftAlters (InPages ps) P T d (resizeShown result reason gen g d) :=
  (((SoftAlters.wr _ d (by decide) (by decide) hp).trans (.wr _ _ (by decide) (by decide) hp)).trans
    (.wr _ _ (by decide) (by decide) hp)).trans (.wr _ _ (by decide) (by decide) hp)

theorem resizeShown_shows (hr : result < 16) (hs : reason < 16) (hg : g < 65536) :
    rd (resizeShown result reason gen g d) Page.col Reg.COL_RESIZE_STAT_RESULT = result ∧
      rd (resizeShown result reason gen g d) Page.col Reg.COL_RESIZE_STAT_REASON = reason ∧
      rd (resizeShown result reason gen g d) Page.col Reg.COL_RESIZE_STAT_GROUP = g := by
  refine ⟨rd_wr_fits _ _ _ _ rfl hr, ?_, ?_⟩
  · rw [resizeShown, rd_wr_apart _ _ _ rfl rfl rfl]
    exact rd_wr_fits _ _ _ _ rfl hs
  · rw [resizeShown, rd_wr_apart _ _ _ rfl rfl rfl, rd_wr_apart _ _ _ rfl rfl rfl, rd_wr_apart _ _ _ rfl rfl rfl]
    exact rd_wr_fits _ _ _ _ rfl hg

end

/-! #### RESIZE refused, and accepted with ABORT 0 (R262) -/

theorem resizeRefusal_lt {s : State} {g base count reason : Nat} (h : resizeRefusal s g base count = some reason) :
    reason < 16 := by
  unfold resizeRefusal at h
  dsimp only at h
  split_ifs at h <;> cases h <;> decide

/-- The range of a resize that no check refuses fits the member array (R237). -/
theorem resizeRange_fits {s : State} {g base count : Nat} (h : resizeRefusal s g base count = none) :
    gValid (grp s.dev g) = true ∧ base < 2 ^ 22 ∧ count < 2 ^ 21 := by
  unfold resizeRefusal at h
  dsimp only at h
  split_ifs at h with hvalid hbusy hrange
  simp only [Bool.not_eq_true, Bool.not_eq_false'] at hvalid
  push Not at hrange
  exact ⟨by simpa using hvalid, by omega, by omega⟩

/-- A resize refused: its reason shown, and error class 17 recorded. -/
def resizeDenied (src : Src) (g reason : Nat) (d : Dev) : Dev :=
  setErr Page.col 17 src 0x120 reason (resizeShown 3 reason (gGen (grp d g)) g d)

/-- A group marked as resizing to a range. -/
def resizeMarked (g base count : Nat) (d : Dev) : Dev :=
  updGroupRec g (fun r => { r with resize := some (base, count) }) (setGrp g (setWBits (grp d g) 0 29 29 1) d)

/-- A resize accepted with ABORT 0: the group marked, and shown as waiting. -/
def resizeBegun (g base count : Nat) (d : Dev) : Dev := resizeShown 1 0 (gGen (grp d g)) g (resizeMarked g base count d)

theorem groups_resizeBegun (g base count : Nat) (d : Dev) : (resizeBegun g base count d).col.groups =
    supd (konst GroupRec.zero) d.col.groups g (fun r => { r with resize := some (base, count) }) := by
  simp [resizeBegun, resizeShown, resizeMarked, updGroupRec, setGrp, tset]

/-- A resize accepted with ABORT 1. -/
def resizeForced (now : W64) (g base count : Nat) (d : Dev) : Dev :=
  applyResize now g base count (discardGroup g d)

section

variable {src : Src} {abort : Bool} {g base count : Nat} {s : State}

theorem resizeRefusal_colTaken (off : Nat) :
    resizeRefusal (onDev (colTaken off) s) g base count = resizeRefusal s g base count := by
  have hforeign : foreignSlot (onDev (colTaken off) s) g base count = foreignSlot s g base count := rfl
  simp only [resizeRefusal, onDev_dev, grp_colTaken, hforeign]

theorem exec_resize_refused {reason : Nat} (ho : Owns src Page.col s) (hg : g < 65536)
    (hr : resizeRefusal s g (rd s.dev Page.col Reg.COL_RESIZE_BASE_BASE) (rd s.dev Page.col Reg.COL_RESIZE_COUNT_COUNT) =
      some reason) : exec (.resize src abort g) s = .next (onDev (fun d => resizeDenied src g reason (colTaken 0x120 d)) s) := by
  rw [exec_resize_owned abort ho hg]
  simp only [resizeCmd, onDev_dev, rd_colTaken, resizeRefusal_colTaken, hr]
  rfl

section

variable (ho : Owns src Page.col s) (hg : g < 65536) (hb : rd s.dev Page.col Reg.COL_RESIZE_BASE_BASE = base)
  (hc : rd s.dev Page.col Reg.COL_RESIZE_COUNT_COUNT = count) (hr : resizeRefusal s g base count = none)
include ho hg hb hc hr

theorem exec_resize_begun :
    exec (.resize src false g) s = .next (onDev (fun d => resizeBegun g base count (colTaken 0x120 d)) s) := by
  rw [exec_resize_owned false ho hg]
  simp only [resizeCmd, onDev_dev, rd_colTaken, hb, hc, resizeRefusal_colTaken, hr]
  rfl

theorem exec_resize_forced :
    exec (.resize src true g) s = .next (onDev (fun d => resizeForced s.now g base count (colTaken 0x120 d)) s) := by
  rw [exec_resize_owned true ho hg]
  simp only [resizeCmd, onDev_dev, rd_colTaken, hb, hc, resizeRefusal_colTaken, hr, if_true]
  simp only [onDev, resizeForced]

end

/-- What O35 asks of a RESIZE that fails a check. -/
theorem resizeRefused {reason : Nat} (ho : Owns src Page.col s) (hg : g < 65536)
    (hr : resizeRefusal s g (rd s.dev Page.col Reg.COL_RESIZE_BASE_BASE) (rd s.dev Page.col Reg.COL_RESIZE_COUNT_COUNT) =
      some reason) :
    ∃ t, exec (.resize src abort g) s = .next t ∧ rd t.dev Page.col Reg.COL_RESIZE_STAT_RESULT = 3 ∧
      rd t.dev Page.col Reg.COL_RESIZE_STAT_REASON = reason ∧ (rdWord t.dev Page.col 0x018).getLsbD 17 = true ∧
      Kept [] [] [Page.col] s t := by
  obtain ⟨e, he⟩ : ∃ e, e = colTaken 0x120 s.dev := ⟨_, rfl⟩
  obtain ⟨hresult, hreason, -⟩ := resizeShown_shows (result := 3) (gen := gGen (grp e g)) e (by decide) (resizeRefusal_lt hr) hg
  have hall : SoftAlters (InPages [Page.col]) [] (InTables []) s.dev (resizeDenied src g reason e) :=
    (he ▸ (colTaken_alters s.dev (by decide)).trans (resizeShown_alters _ (by simp))).trans
      (.setErrs [17] src.bit 0x120 reason _ (by decide) fun _ _ => List.mem_singleton.2 rfl)
  refine ⟨_, exec_resize_refused ho hg hr, ?_, ?_, ?_,
    SoftAlters.kept (f := fun d => resizeDenied src g reason (colTaken 0x120 d)) (he ▸ hall) (fun _ _ hq => hq) (by simp)⟩ <;>
    rw [onDev_dev, ← he, resizeDenied, setErr]
  · rw [rd_setErrs_off _ _ _ _ _ _ _ (by decide), hresult]
  · rw [rd_setErrs_off _ _ _ _ _ _ _ (by decide), hreason]
  · exact setErrs_bit _ _ _ _ _ _ (by decide)

/-- What O35 asks of an accepted RESIZE with ABORT 0. -/
theorem resizeAccepted (ho : Owns src Page.col s) (hg : g < 65536) (hb : rd s.dev Page.col Reg.COL_RESIZE_BASE_BASE = base)
    (hc : rd s.dev Page.col Reg.COL_RESIZE_COUNT_COUNT = count) (hr : resizeRefusal s g base count = none) :
    ∃ t, exec (.resize src false g) s = .next t ∧ gResizing (grp t.dev g) = true ∧
      (t.dev.groupRec g).resize = some (base, count) ∧ rd t.dev Page.col Reg.COL_RESIZE_STAT_RESULT = 1 ∧
      (∀ g', g' < 65536 → g' ≠ g → grp t.dev g' = grp s.dev g') ∧ Kept [.col] [(Page.col, 0)] [Page.col] s t := by
  obtain ⟨e, he⟩ : ∃ e, e = colTaken 0x120 s.dev := ⟨_, rfl⟩
  have hentry (g' : Nat) : grp e g' = grp s.dev g' := he ▸ grp_colTaken ..
  have hword : 0 < (grp e g).length := hentry g ▸ hasWord_of_wbit (resizeRange_fits hr).1
  have hall : SoftAlters (InPages [Page.col]) [.col] (InTables [(Page.col, 0)]) s.dev (resizeBegun g base count e) :=
    (((he ▸ colTaken_alters s.dev (by decide)).trans (setGrp_alters _ e (by simp) hg)).trans (.col _ _ (by simp))).trans
      (resizeShown_alters _ (by simp))
  have hgroup (g' : Nat) : grp (resizeBegun g base count e) g' = grp (setGrp g (setWBits (grp e g) 0 29 29 1) e) g' :=
    grp_congr _ rfl g'
  refine ⟨_, exec_resize_begun ho hg hb hc hr, ?_, ?_, ?_, fun g' _ hne => ?_,
    SoftAlters.kept (f := fun d => resizeBegun g base count (colTaken 0x120 d)) (he ▸ hall) (fun _ _ hq => hq) (by decide)⟩ <;>
    rw [onDev_dev, ← he]
  · rw [hgroup, grp_setGrp_same, gResizing, wbit_setWBits_same 1 hword (by decide)]
    rfl
  · rw [Dev.groupRec, groups_resizeBegun, sget_supd_same]
  · exact (resizeShown_shows _ (by decide) (by decide) hg).1
  · rw [hgroup, grp_setGrp_ne _ _ hne.symm, hentry]

end

/-! #### A new range and generation (R262), and the end of the drain (R263) -/

/-- The group's entry with a new range, the next generation, DRAINING, and no resize. -/
def resizedWords (base count : Nat) (ws : List W32) : List W32 :=
  let range := setWBits (setWBits ws 4 21 0 base) 5 20 0 count
  setWBits (setWBits (setWBits range 0 23 16 (gGen range + 1)) 0 30 30 1) 0 29 29 0

section

variable {base count : Nat} {ws : List W32}

/-- The entry's fields after a resize. -/
theorem resizedWords_fields (hlen : ws.length = 8) (hb : base < 2 ^ 22) (hc : count < 2 ^ 21) :
    gBase (resizedWords base count ws) = base ∧ gCount (resizedWords base count ws) = count ∧
      gGen (resizedWords base count ws) = (gGen ws + 1) % 256 ∧ gDraining (resizedWords base count ws) = true ∧
      gResizing (resizedWords base count ws) = false := by
  have hrange (hi lo : Nat) : wbits (setWBits (setWBits ws 4 21 0 base) 5 20 0 count) 0 hi lo = wbits ws 0 hi lo := by
    rw [wbits, setWBits, word_set_ne _ (by decide), setWBits, word_set_ne _ (by decide), wbits]
  refine ⟨?_, ?_, ?_, ?_, ?_⟩
  · rw [gBase, wbits, resizedWords, setWBits, word_set_ne _ (by decide), setWBits, word_set_ne _ (by decide), setWBits,
      word_set_ne _ (by decide), setWBits, word_set_ne _ (by decide), ← wbits,
      wbits_setWBits_same _ (by omega) (by decide) (by decide)]
    exact Nat.mod_eq_of_lt hb
  · rw [gCount, wbits, resizedWords, setWBits, word_set_ne _ (by decide), setWBits, word_set_ne _ (by decide), setWBits,
      word_set_ne _ (by decide), ← wbits, wbits_setWBits_same _ (by simp [setWBits, hlen]) (by decide) (by decide)]
    exact Nat.mod_eq_of_lt hc
  · rw [gGen, resizedWords, wbits_setWBits_apart _ (by decide) (by decide) (by decide) (.inl (by decide)),
      wbits_setWBits_apart _ (by decide) (by decide) (by decide) (.inl (by decide)),
      wbits_setWBits_same _ (by simp [setWBits, hlen]) (by decide) (by decide), gGen, hrange, gGen]
    rfl
  · rw [gDraining, wbit, resizedWords, wbits_setWBits_apart _ (by decide) (by decide) (by decide) (.inr (by decide)),
      wbits_setWBits_same _ (by simp [setWBits, hlen]) (by decide) (by decide)]
    rfl
  · rw [gResizing, resizedWords, wbit_setWBits_same _ (by simp [setWBits, hlen]) (by decide)]
    rfl

end

section

variable {now : W64} {g base count : Nat} (d : Dev)

/-- The group renewed: its entry rewritten, its denials and its round gone, its record that of a drain. -/
def groupRenewed (now : W64) (g base count : Nat) (d : Dev) : Dev :=
  nextGen now g (setGrp g (setWBits (setWBits (grp d g) 4 21 0 base) 5 20 0 count) d)

theorem applyResize_eq : applyResize now g base count d = raiseIrq Page.col 17
    (resizeShown 2 0 (gGen (grp (groupRenewed now g base count d) g)) g (groupRenewed now g base count d)) := rfl

theorem grp_groupRenewed_same : grp (groupRenewed now g base count d) g = resizedWords base count (grp d g) := by
  obtain ⟨e, he⟩ : ∃ e, e = setGrp g (setWBits (setWBits (grp d g) 4 21 0 base) 5 20 0 count) d := ⟨_, rfl⟩
  have hdrain (d' : Dev) : grp (startDrain now g d') g = setWBits (setWBits (grp d' g) 0 30 30 1) 0 29 29 0 :=
    grp_setGrp_same ..
  have hentry : grp e g = setWBits (setWBits (grp d g) 4 21 0 base) 5 20 0 count := he ▸ grp_setGrp_same ..
  rw [groupRenewed, ← he, nextGen, hdrain, grp_setGrp_same, hentry]
  rfl

theorem grp_groupRenewed_ne {g' : Nat} (h : g' ≠ g) : grp (groupRenewed now g base count d) g' = grp d g' :=
  ((grp_setGrp_ne _ _ h.symm).trans (grp_setGrp_ne _ _ h.symm)).trans (grp_setGrp_ne _ _ h.symm)

theorem applyResize_alters {ps : List Page} {P : List Part} {ts : List (Page × Nat)} (hg : g < 65536) (hp : Page.col ∈ ps)
    (hP : .col ∈ P) (ht : (Page.col, 0) ∈ ts) : SoftAlters (InPages ps) P (InTables ts) d (applyResize now g base count d) := by
  have hrenewed : SoftAlters (InPages ps) P (InTables ts) d (groupRenewed now g base count d) :=
    (((((setGrp_alters _ d ht hg).trans (.col _ _ hP)).trans (setGrp_alters _ _ ht hg)).trans (.col _ _ hP)).trans
      (setGrp_alters _ _ ht hg)).trans (.col _ _ hP)
  exact (hrenewed.trans (resizeShown_alters _ hp)).trans (.raiseIrq 17 _ (by decide) hp)

theorem grp_applyResize (g' : Nat) : grp (applyResize now g base count d) g' = grp (groupRenewed now g base count d) g' :=
  grp_congr _ (raiseIrq_ctl_tables ..) g'

/-- The contexts stay as they are. -/
theorem ctx_applyResize (k : Nat) : (applyResize now g base count d).ctx k = d.ctx k :=
  ctx_congr (congrArg Col.contexts (raiseIrq_col ..)) k

/-- The group's new range, generation and report, whatever state the resize started from. -/
theorem applyResize_resized {s t : State} (ht : t.dev = applyResize now g base count d) (hgrp : grp d g = grp s.dev g)
    (hg : g < 65536) (hlen : (grp s.dev g).length = 8) (hb : base < 2 ^ 22) (hc : count < 2 ^ 21) :
    Resized g base count s t := by
  obtain ⟨hbase, hcount, hgen, hdrain, hresize⟩ := resizedWords_fields hlen hb hc
  obtain ⟨hresult, -, hgroup⟩ := resizeShown_shows (result := 2) (reason := 0)
    (gen := gGen (grp (groupRenewed now g base count d) g)) (groupRenewed now g base count d) (by decide) (by decide) hg
  have hwords : grp t.dev g = resizedWords base count (grp s.dev g) := by
    rw [ht, grp_applyResize, grp_groupRenewed_same, hgrp]
  rw [Resized, hwords, ht, applyResize_eq, rd_raiseIrq_off _ _ _ _ (by decide), rd_raiseIrq_off _ _ _ _ (by decide)]
  exact ⟨hbase, hcount, hgen, hdrain, hresize, hresult, hgroup, raiseIrq_bit _ _ _ (by decide)⟩

end

section

variable {g base count : Nat} {s : State}

/-- What O35 asks of RESIZE_DONE. -/
theorem resizeEnds (hg : g < 65536) (hr : (s.dev.groupRec g).resize = some (base, count))
    (hres : gResizing (grp s.dev g) = true) (hbusy : groupBusy s.dev g = false) (hlen : (grp s.dev g).length = 8)
    (hb : base < 2 ^ 22) (hc : count < 2 ^ 21) :
    ∃ t, exec (.resizeDone g) s = .next t ∧ Resized g base count s t ∧
      (∀ g', g' < 65536 → g' ≠ g → grp t.dev g' = grp s.dev g') ∧ Kept [.col] [(Page.col, 0)] [Page.col] s t := by
  have hdev : resizeDone s.now g s.dev = applyResize s.now g base count s.dev := by simp [resizeDone, hr, hres, hbusy]
  refine ⟨_, (exec_resizeDone ..).trans (effect_next _ _ _ (decide_eq_true hg)), ?_, fun g' _ hne => ?_,
    SoftAlters.kept (f := resizeDone s.now g) (hdev ▸ applyResize_alters s.dev hg List.mem_cons_self List.mem_cons_self
      List.mem_cons_self) (fun _ _ hq => hq) (by decide)⟩
  · exact applyResize_resized s.dev hdev rfl hg hlen hb hc
  · rw [onDev_dev, hdev, grp_applyResize, grp_groupRenewed_ne _ hne]

/-- What O35 asks of GEN_DRAIN_DONE. -/
theorem drainEnds (hg : g < 65536) (hdrain : gDraining (grp s.dev g) = true)
    (hold : (ctxList s.dev).any (fun e => keyGroup e.1 == g && decide (2 ^ 20 ≤ e.1)) = false)
    (hquiet : elapsed s.now (s.dev.groupRec g).staleTick (rd s.dev Page.col Reg.COL_COL_CFG_GEN_QUIET * 10000) = true) :
    ∃ t, exec (.genDrainDone g) s = .next t ∧ gDraining (grp t.dev g) = false ∧
      gGen (grp t.dev g) = gGen (grp s.dev g) ∧ (rdWord t.dev Page.col 0x010).getLsbD 18 = true ∧
      (∀ g', g' < 65536 → g' ≠ g → grp t.dev g' = grp s.dev g') ∧ Kept [] [(Page.col, 0)] [Page.col] s t := by
  have hdev : genDrainDone s.now g s.dev = raiseIrq Page.col 18 (setGrp g (setWBits (grp s.dev g) 0 30 30 0) s.dev) := by
    simp only [genDrainDone, hdrain, hold, hquiet]
    rfl
  have hgroup (g' : Nat) : grp (genDrainDone s.now g s.dev) g' = grp (setGrp g (setWBits (grp s.dev g) 0 30 30 0) s.dev) g' :=
    hdev ▸ grp_congr _ (raiseIrq_ctl_tables ..) g'
  have hall : SoftAlters (InPages [Page.col]) [] (InTables [(Page.col, 0)]) s.dev (genDrainDone s.now g s.dev) :=
    hdev ▸ (setGrp_alters _ _ (by simp) hg).trans (.raiseIrq 18 _ (by decide) (List.mem_singleton.2 rfl))
  refine ⟨_, (exec_genDrainDone ..).trans (effect_next _ _ _ (decide_eq_true hg)), ?_, ?_, ?_, fun g' _ hne => ?_,
    hall.kept (fun _ _ hq => hq) (by decide)⟩ <;> rw [onDev_dev]
  · rw [hgroup, grp_setGrp_same, gDraining, wbit_setWBits_same 0 (hasWord_of_wbit hdrain) (by decide)]
    rfl
  · rw [hgroup, grp_setGrp_same, gGen, wbits_setWBits_apart _ (by decide) (by decide) (by decide) (.inl (by decide)), gGen]
  · rw [hdev]
    exact raiseIrq_bit _ _ _ (by decide)
  · rw [hgroup, grp_setGrp_ne _ _ hne.symm]

/-- What O35 asks of STRAG_CLEAR. -/
theorem stragglerCleared {src : Src} (ho : Owns src Page.col s) (hg : g < 65536) :
    ∃ t, exec (.stragClear src g) s = .next t ∧ tget t.dev Page.col 2 g = [0, 0, 0, 0] ∧
      (∀ g', g' < 65536 → g' ≠ g → tget t.dev Page.col 2 g' = tget s.dev Page.col 2 g') ∧ Kept [] [(Page.col, 2)] [] s t := by
  have hall : SoftAlters (InPages []) [] (InTables [(Page.col, 2)]) s.dev (stragClear g (colTaken 0x140 s.dev)) :=
    (colTaken_alters s.dev (by decide)).trans (.tsetListed _ _ (by simp) (by omega))
  exact ⟨_, exec_stragClear_owned ho hg, tget_tset_same .., fun g' _ hne => tget_tset_index _ _ _ _ hne.symm,
    hall.kept (f := fun d => stragClear g (colTaken 0x140 d)) (fun _ _ hq => hq) (by decide)⟩

end

end Sys2Proof.Machine

/-! ### Contexts that go, with their parked cells (R174, R246, R262)

A context's parked cells end with it, and each end counts down in the entry of its flow. Where every parked cell's flow index
lies in the flow table, that is all they write among the tables. -/

namespace Sys2Proof.Machine

/-! #### Parked cells -/

/-- Every parked cell's flow index lies in the flow table's range of keys. -/
def ParkedOk (d : Dev) : Prop := ∀ x ∈ d.sw.parkA ++ d.sw.parkB, FlowOk x.2

/-- Cells may leave the parking lists; none comes. -/
def ParksFall (d e : Dev) : Prop := e.sw.parkA ⊆ d.sw.parkA ∧ e.sw.parkB ⊆ d.sw.parkB

section

variable {d e f : Dev}

theorem ParksFall.refl (d : Dev) : ParksFall d d := ⟨List.Subset.refl _, List.Subset.refl _⟩

theorem ParksFall.trans (h : ParksFall d e) (h' : ParksFall e f) : ParksFall d f :=
  ⟨List.Subset.trans h'.1 h.1, List.Subset.trans h'.2 h.2⟩

theorem ParksFall.of_parks (hA : e.sw.parkA = d.sw.parkA) (hB : e.sw.parkB = d.sw.parkB) : ParksFall d e :=
  ⟨hA ▸ List.Subset.refl _, hB ▸ List.Subset.refl _⟩

theorem ParksFall.of_sw (h : e.sw = d.sw) : ParksFall d e := .of_parks (congrArg _ h) (congrArg _ h)

theorem ParkedOk.falls (h : ParkedOk d) (hf : ParksFall d e) : ParkedOk e := fun x hx =>
  h x ((List.mem_append.1 hx).elim (fun hA => List.mem_append_left _ (hf.1 hA)) fun hB => List.mem_append_right _ (hf.2 hB))

end

theorem mem_of_mem_insertBy {α : Type} {key : α → Nat} {x y : α} {l : List α} (h : x ∈ insertBy key y l) : x = y ∨ x ∈ l := by
  induction l with
  | nil => exact .inl (List.mem_singleton.1 h)
  | cons z l ih =>
    rw [insertBy] at h
    split at h
    · exact List.mem_cons.1 h
    · rcases List.mem_cons.1 h with rfl | h
      · exact .inr List.mem_cons_self
      · exact (ih h).imp_right (List.mem_cons_of_mem _)

/-- Sorting brings no element. -/
theorem mem_of_mem_sortBy {α : Type} {key : α → Nat} {x : α} {l : List α} (h : x ∈ sortBy key l) : x ∈ l := by
  have hfold : ∀ (l acc : List α), x ∈ l.foldl (fun acc y => insertBy key y acc) acc → x ∈ acc ∨ x ∈ l := by
    intro l
    induction l with
    | nil => exact fun acc hx => .inl hx
    | cons y l ih =>
      intro acc hx
      rcases ih _ hx with hacc | hl
      · rcases mem_of_mem_insertBy hacc with rfl | hacc
        · exact .inr List.mem_cons_self
        · exact .inl hacc
      · exact .inr (List.mem_cons_of_mem _ hl)
  exact (hfold l [] h).resolve_left (by simp)

theorem ParkedOk.parkedFor {d : Dev} {k : Nat} {b : Box} (h : ParkedOk d) (hb : b ∈ parkedFor d k) : FlowOk b := by
  obtain ⟨x, hx, rfl⟩ := List.mem_map.1 (mem_of_mem_sortBy hb)
  exact h x (List.mem_of_mem_filter hx)

/-! #### What a context that goes takes with it -/

/-- The pages that a context's end writes: the counts of its cells, and what the core blocks show. -/
def freePages : List Page := [Page.fwd, Page.tel] ++ coreBlockPages

/-- A context goes: what that alters, and the cells that leave the parking lists. -/
structure Frees (d e : Dev) : Prop where
  alters : SoftAlters (InPages freePages) [.lnk, .sw, .fwd, .col, .tel] (InTables endTables) d e
  falls : ParksFall d e

theorem Frees.refl (d : Dev) : Frees d d := ⟨.refl d, .refl d⟩

theorem Frees.trans {d e f : Dev} (h : Frees d e) (h' : Frees e f) : Frees d f :=
  ⟨h.alters.trans h'.alters, h.falls.trans h'.falls⟩

/-- Updates of the engine alone. -/
theorem ColOnly.frees {d e : Dev} (h : ColOnly d e) : Frees d e :=
  ⟨h.softAlters (by simp), by obtain ⟨c, rfl⟩ := h; exact .of_sw rfl⟩

/-- The end of a stored cell leaves the parking lists alone. -/
theorem copyEnds_parks {b : Box} (n fate : Nat) (d : Dev) (hf : FlowOk b) : ParksFall d (copyEnds b n fate d) := by
  unfold copyEnds
  extract_lets left x d1 tag y d2 fate'
  split
  · exact ParksFall.trans (e := d2) (.of_parks rfl rfl) (.of_sw (lifeOver_sw d2 fate' hf))
  · exact .of_parks rfl rfl

theorem dropBox_frees {b : Box} (fate : Nat) (d : Dev) (hf : FlowOk b) : Frees d (dropBox b fate d) := by
  refine ⟨(dropBox_ends fate d hf).1.mono (fun q _ hq => ?_) (by simp) fun _ => id, ?_⟩
  · rcases hq with rfl | rfl <;> simp [InPages, freePages]
  · have hcharge : ParksFall d (endCharge b d) := by
      unfold endCharge
      dsimp only
      split <;> exact .of_parks rfl rfl
    unfold dropBox
    dsimp only
    split
    · exact hcharge.trans (copyEnds_parks 1 fate _ hf)
    · exact hcharge.trans (.of_sw (lifeOver_sw _ fate hf))

theorem endRuns_frees (fate : Nat) (l : List Run) (d : Dev) : Frees d (endRuns fate l d) := by
  refine forEach_chain Frees.refl Frees.trans _ _ (fun r _ d => ?_) d
  have hends := endLife_ends { mkBox r.cell r.lane r.num r.rxNs r.rxTick 12 with tag := r.tag } fate d
  refine ⟨hends.mono (fun q _ hq => ?_) (by simp) fun _ => id, .of_sw (hends.part .sw (by simp))⟩
  rcases hq with rfl | rfl <;> simp [InPages, freePages]

theorem unpark_frees (k : Nat) (d : Dev) : Frees d (unpark k d) :=
  ⟨(SoftAlters.sw _ d (by simp)).trans (.sw _ _ (by simp)), List.filter_subset_self _, List.filter_subset_self _⟩

theorem dropParked_frees (k fate : Nat) {d : Dev} (h : ParkedOk d) : Frees d (dropParked k fate d) :=
  (forEach_chain Frees.refl Frees.trans _ _ (fun _ hb d => dropBox_frees fate d (h.parkedFor hb)) d).trans (unpark_frees k _)

theorem pump_frees (d : Dev) : Frees d (pump d) :=
  have h : SoftAlters (InPages freePages) [.col] (InTables endTables) d (pump d) :=
    pump_alters (by simp) (fun _ hq => List.mem_append_right _ hq) d
  ⟨h.mono (fun _ _ => id) (by simp) fun _ => id, .of_sw (h.part .sw (by simp))⟩

/-- A context freed: its runs and parked cells end, and waiting page-ins proceed. -/
theorem freeCtx_frees (k fate : Nat) {d : Dev} (h : ParkedOk d) : Frees d (freeCtx k fate d) := by
  unfold freeCtx
  split
  next => exact .refl d
  next c _ =>
    have hgone : Frees d (setCtx k none (endRuns fate c.runs d)) :=
      (endRuns_frees fate c.runs d).trans (ColOnly.frees ⟨_, rfl⟩)
    exact (hgone.trans (dropParked_frees k fate (h.falls hgone.falls))).trans (pump_frees _)

theorem freeGroup_frees (g : Nat) (which : Context → Bool) (fate : Nat) {d : Dev} (h : ParkedOk d) :
    Frees d (freeGroup g which fate d) :=
  forEach_chain (R := fun d e => ParkedOk d → Frees d e) (fun d _ => .refl d)
    (fun h h' hok => (h hok).trans (h' (hok.falls (h hok).falls))) _ _ (fun _ _ _ => freeCtx_frees _ _) d h

/-- No context keeps the phase slot of one that went. -/
theorem ctx_freeCtx (k fate : Nat) {d : Dev} (h : ParkedOk d) : (freeCtx k fate d).ctx k = none := by
  unfold freeCtx
  split
  next hc => exact hc
  next c _ =>
    obtain ⟨e, he⟩ : ∃ e, e = setCtx k none (endRuns fate c.runs d) := ⟨_, rfl⟩
    have hempty : Settled k none e := by
      rw [he]
      exact ⟨ctx_setCtx_same .., fun x hx => absurd rfl (ne_of_mem_sset_default (konst none) (mem_ctxList.1 hx))⟩
    have hok : ParkedOk e :=
      he ▸ h.falls ((endRuns_frees fate c.runs d).trans (ColOnly.frees ⟨_, rfl⟩)).falls
    have hcol : (dropParked k fate e).col = e.col :=
      (forEach_chain (R := fun d e => e.col = d.col) (fun _ => rfl) (fun h h' => h'.trans h) _ _ (fun _ hb d =>
        (dropBox_ends fate d (hok.parkedFor hb)).1.part .col (by simp)) e)
    rw [← he]
    exact ((hempty.congr (congrArg Col.contexts hcol)).pump fun _ hc => by cases hc).reads

/-! #### A group discarded (R262, R273) -/

theorem setAside_colOnly (g : Nat) (d : Dev) : ColOnly d (setAside g d) :=
  forEach_chain ColOnly.refl ColOnly.trans _ _ (fun _ _ _ => ⟨_, rfl⟩) d

theorem discardGroup_frees (g : Nat) {d : Dev} (h : ParkedOk d) : Frees d (discardGroup g d) :=
  ((freeGroup_frees g _ fateOther h).trans (setAside_colOnly g _).frees).trans (ColOnly.frees ⟨_, rfl⟩)

/-- Contexts set aside lie at keys past those of the phase slots. -/
theorem ctx_setAside {g p : Nat} (d : Dev) (hg : g < 65536) (hp : p < 16) : (setAside g d).ctx (ctxKey g p) = none := by
  have hkey : ctxKey g p < 2 ^ 20 := by
    rw [ctxKey]
    omega
  have hgroup : keyGroup (ctxKey g p) = g := by
    rw [keyGroup, Nat.mod_eq_of_lt hkey, ctxKey]
    omega
  have hmoved (e : Nat × Context) (d' : Dev) : (setCtx (e.1 + 2 ^ 20 * (e.2.gen + 1)) (some e.2) (setCtx e.1 none d')).ctx
      (ctxKey g p) = (setCtx e.1 none d').ctx (ctxKey g p) := ctx_setCtx_ne _ _ (by omega)
  have hkeeps (e : Nat × Context) (d' : Dev) (h : d'.ctx (ctxKey g p) = none) :
      (setCtx (e.1 + 2 ^ 20 * (e.2.gen + 1)) (some e.2) (setCtx e.1 none d')).ctx (ctxKey g p) = none := by
    rw [hmoved]
    by_cases hek : e.1 = ctxKey g p
    · rw [hek, ctx_setCtx_same]
    · rw [ctx_setCtx_ne _ _ hek, h]
  cases hc : d.ctx (ctxKey g p) with
  | none =>
    exact forEach_chain (R := fun d e => d.ctx (ctxKey g p) = none → e.ctx (ctxKey g p) = none) (fun _ => id)
      (fun h h' => h' ∘ h) _ _ (fun e _ d' => hkeeps e d') d hc
  | some c =>
    refine forEach_establishes (Q := fun d => d.ctx (ctxKey g p) = none) _ (b := (ctxKey g p, c))
      (List.mem_filter.2 ⟨mem_ctxList_of_ctx hc, ?_⟩) (fun d' => ?_) (fun e _ d' => hkeeps e d') d
    · simp only [hgroup, beq_self_eq_true, Bool.true_and]
      exact decide_eq_true hkey
    · exact (hmoved (ctxKey g p, c) d').trans (ctx_setCtx_same ..)

theorem ctx_discardGroup {g p : Nat} (d : Dev) (hg : g < 65536) (hp : p < 16) : (discardGroup g d).ctx (ctxKey g p) = none :=
  (ctx_congr (d := setAside g (freeGroup g (fun c => decide (c.state ≠ .streaming)) fateOther d)) rfl _).trans
    (ctx_setAside _ hg hp)

/-! #### RESIZE with ABORT 1 (R262) -/

theorem InTables.mono {ts us : List (Page × Nat)} (h : ts ⊆ us) {k : Nat} : InTables ts k → InTables us k :=
  fun ⟨x, hx, hk⟩ => ⟨x, h hx, hk⟩

/-- What O35 asks of an accepted RESIZE with ABORT 1, where every parked cell's flow index lies in the flow table. -/
theorem resizeAborts {src : Src} {g base count : Nat} {s : State} (hok : ParkedOk s.dev) (ho : Owns src Page.col s)
    (hg : g < 65536) (hb : rd s.dev Page.col Reg.COL_RESIZE_BASE_BASE = base)
    (hc : rd s.dev Page.col Reg.COL_RESIZE_COUNT_COUNT = count) (hr : resizeRefusal s g base count = none)
    (hlen : (grp s.dev g).length = 8) :
    ∃ t, exec (.resize src true g) s = .next t ∧ Resized g base count s t ∧ (∀ p, p < 16 → t.dev.ctx (ctxKey g p) = none) ∧
      (∀ g', g' < 65536 → g' ≠ g → grp t.dev g' = grp s.dev g') ∧
      Kept [.lnk, .sw, .fwd, .col, .tel] [(Page.tel, 0), (Page.fwd, 2), (Page.col, 0)]
        ([Page.col, Page.fwd, Page.tel] ++ coreBlockPages) s t := by
  obtain ⟨-, hbase, hcount⟩ := resizeRange_fits hr
  obtain ⟨e, he⟩ : ∃ e, e = discardGroup g (colTaken 0x120 s.dev) := ⟨_, rfl⟩
  have hdev : resizeForced s.now g base count (colTaken 0x120 s.dev) = applyResize s.now g base count e := by
    rw [he, resizeForced]
  have hfrees : Frees (colTaken 0x120 s.dev) e := he ▸ discardGroup_frees g hok
  have hgroups (g' : Nat) (hg' : g' < 65536) : grp e g' = grp s.dev g' :=
    (hfrees.alters.entry _ (not_inTables (by decide) (by decide) (by decide) (by omega) (by decide))).trans
      (grp_colTaken s.dev g')
  have hgone : SoftAlters (InPages ([Page.col, Page.fwd, Page.tel] ++ coreBlockPages)) [.lnk, .sw, .fwd, .col, .tel]
      (InTables [(Page.tel, 0), (Page.fwd, 2), (Page.col, 0)]) s.dev e :=
    (colTaken_alters s.dev (by decide)).trans (hfrees.alters.mono (fun _ _ hq => List.mem_cons_of_mem _ hq) (fun _ => id)
      fun _ => InTables.mono (by simp [endTables]))
  refine ⟨_, exec_resize_forced ho hg hb hc hr, ?_, fun p hp => ?_, fun g' hg' hne => ?_,
    SoftAlters.kept (f := fun d => resizeForced s.now g base count (colTaken 0x120 d))
      (hdev ▸ hgone.trans (applyResize_alters e hg (by simp) (by simp) (by simp))) (fun _ _ hq => hq) (by decide)⟩
  · exact applyResize_resized e hdev (hgroups g hg) hg hlen hbase hcount
  · rw [onDev_dev, hdev, ctx_applyResize, he, ctx_discardGroup _ hg hp]
  · rw [onDev_dev, hdev, grp_applyResize, grp_groupRenewed_ne _ hne, hgroups g' hg']

end Sys2Proof.Machine

/-! ### Cells the device originates: what a notification and a result cell alter (R133, R151, R172, R251) -/

namespace Sys2Proof.Machine

/-- A cell is routed, charged and queued. -/
abbrev Sends (d e : Dev) : Prop :=
  SoftAlters (InPages [Page.fwd, Page.voq, Page.tel]) [.lnk, .sw, .fwd] (InTables endTables) d e

theorem fwdCount_sends (k : Nat) (d : Dev) (hk : k < 16) : Sends d (bump Page.fwd Reg.FWD_CNT k d) := by
  have hoff : Reg.FWD_CNT.off + 8 * 16 ≤ 4096 := by decide
  exact .bumpN 1 d (by decide) (by omega) (by simp [InPages]) (by simp [InPages]) fun _ => inTables_endTables

theorem flowEntry_sends {i : Nat} (ws : List W32) (d : Dev) (hi : i < 2 ^ 32) : Sends d (tset Page.fwd 2 i ws d) :=
  .tsetListed ws d (by simp [endTables]) hi

/-! #### Flows (R151 to R154) -/

/-- A flow index, where there is one, lies in the flow table's range of keys. -/
def IndexOk (flow : Option Nat) : Prop := ∀ i, flow = some i → i < 2 ^ 32

theorem IndexOk.none : IndexOk none := fun _ h => nomatch h

/-- The sets of a die that keeps its flows in the table's range. -/
theorem flowSet_lt {die h i : Nat} (hd : die < 8192) (hi : i ∈ flowSet die h) : i < 2 ^ 32 := by
  obtain ⟨k, hk, rfl⟩ := List.mem_map.1 hi
  have hk : k < 4 := List.mem_range.1 hk
  omega

theorem reportParity_sends (table die i : Nat) (d : Dev) : Sends d (reportParity table die i d) := by
  unfold reportParity
  extract_lets d1
  have h1 : Sends d d1 := by
    simp only [d1]
    split
    · exact .wrWord _ d (by decide) (by decide) (by simp [InPages])
    · exact .refl d
  exact h1.trans (.raiseIrq _ _ (by decide) (by simp [InPages]))

theorem scrubSet_sends (die : Nat) {is : List Nat} (d : Dev) (his : ∀ i ∈ is, i < 2 ^ 32) : Sends d (scrubSet die is d) := by
  refine .forEach is _ (fun i hi d => ?_) d
  split
  · exact (((reportParity_sends 2 die i d).trans (flowEntry_sends _ _ (his i hi))).trans (setParityBad_alters ..)).trans
      (.hwErr _ _ _ (by decide) fun _ _ => by simp [InPages])
  · exact .refl d

theorem sprayMember_sends (source tc : Nat) (ws : List W32) (d : Dev) : Sends d (sprayMember source tc ws d).2 := by
  unfold sprayMember
  dsimp only
  split
  · dsimp only
    exact .updPort _ _ d (by simp)
  · exact .refl d

theorem pinnedTracked_sends (now : W64) (source tc h : Nat) {i : Nat} (ws : List W32) (d : Dev) (hi : i < 2 ^ 32) :
    Sends d (pinnedTracked now source tc i h ws d).2 := by
  have hspray := sprayMember_sends source tc ws d
  unfold pinnedTracked
  extract_lets fe old r
  split
  · split
    · exact (hspray.trans (flowEntry_sends _ _ hi)).trans (.doIf _ _ fun d => fwdCount_sends 8 d (by decide))
    · exact hspray
  · split
    · exact .refl d
    · split
      · exact flowEntry_sends _ d hi
      · exact .refl d

/-- The way an insertion takes is one of the set. -/
theorem victimWay_mem {now : W64} {d : Dev} {is : List Nat} {i : Nat} (h : victimWay now d is = some i) : i ∈ is := by
  unfold victimWay at h
  split at h
  next j hj =>
    cases h
    exact List.mem_of_find?_eq_some hj
  next =>
    refine (foldl_pick_mem (fun b y => ?_) is h).resolve_left (by simp)
    by_cases hstale : flowStale now d (tget d Page.fwd 2 y) = true
    · rw [if_pos hstale]
      cases b with
      | none => exact .inr rfl
      | some j => exact (ite_eq_or_eq _ _ _).symm
    · exact .inl (if_neg hstale)

theorem trackFlow_sends (now : W64) {die : Nat} (dst src tc h : Nat) (ws : List W32) (d : Dev) (hd : die < 8192) :
    Sends d (trackFlow now die dst src tc h ws d).2.2 ∧ IndexOk (trackFlow now die dst src tc h ws d).1 := by
  have hset : ∀ i ∈ flowSet die h, i < 2 ^ 32 := fun i => flowSet_lt hd
  have hscrub := scrubSet_sends die d hset
  unfold trackFlow
  extract_lets is d1
  split
  next i hi => exact ⟨hscrub, fun j hj => by cases hj; exact hset _ (List.mem_of_find?_eq_some hi)⟩
  next =>
    split <;> dsimp only
    next i hi =>
      have hlt := hset i (victimWay_mem hi)
      exact ⟨(hscrub.trans (flowEntry_sends _ _ hlt)).trans (fwdCount_sends 6 _ (by decide)), fun j hj => by cases hj; exact hlt⟩
    next => exact ⟨hscrub.trans (fwdCount_sends 7 _ (by decide)), .none⟩

theorem lookFlow_sends (now : W64) {die : Nat} (c : Cell) (ingress : Option Nat) (ws : List W32) (d : Dev) (hd : die < 8192) :
    Sends d (lookFlow now die c ingress ws d).2.2 ∧ IndexOk (lookFlow now die c ingress ws d).1 := by
  unfold lookFlow
  extract_lets tc src
  split
  · exact trackFlow_sends now _ _ _ _ ws d hd
  · exact ⟨.refl d, .none⟩

theorem noteFlow_sends (now : W64) {flow : Option Nat} (fresh : Bool) (d : Dev) (hf : IndexOk flow) :
    Sends d (noteFlow now flow fresh d) := by
  unfold noteFlow
  split
  next i =>
    split
    · exact .refl d
    · exact flowEntry_sends _ d (hf i rfl)
  next => exact .refl d

theorem chooseMember_sends (now : W64) {die : Nat} (source : Nat) (c : Cell) (ingress : Option Nat) (ws : List W32) (d : Dev)
    (hd : die < 8192) : Sends d (chooseMember now die source c ingress ws d).2 ∧
      IndexOk (chooseMember now die source c ingress ws d).1.flow := by
  obtain ⟨hlook, hflow⟩ := lookFlow_sends now c ingress ws d hd
  unfold chooseMember
  extract_lets tc h t d1 pick
  have hpick : Sends d1 pick.2 := by
    simp only [pick]
    split
    · exact .refl d1
    · split
      · split
        next i hi =>
          split
          · exact .refl d1
          · exact pinnedTracked_sends now source _ _ ws d1 (hflow i hi)
        next => exact .refl d1
      · exact sprayMember_sends ..
  exact ⟨(hlook.trans hpick).trans (noteFlow_sends now _ _ hflow), hflow⟩

/-! #### Queues and charges (R168, R172) -/

theorem chargeService_alters {ps : List Page} {P : List Part} (b : Box) (a : Acct) (d : Dev) (hP : .sw ∈ P)
    (hvoq : Page.voq ∈ ps) (htel : Page.tel ∈ ps) : SoftAlters (InPages ps) P (InTables endTables) d (chargeService b a d).2 := by
  unfold chargeService
  refine SoftAlters.trans (.sw _ d hP : SoftAlters _ _ _ d (updUnits b.source (cTc b.cell) (fun u => u.add a) d)) ?_
  split <;> exact .bumpN 1 _ (by decide) (by decide) (fun _ => hvoq) (fun _ => htel) fun _ => inTables_endTables

theorem heldDec_sends {flow : Option Nat} (d : Dev) (hf : IndexOk flow) : Sends d (heldDec flow d) := by
  unfold heldDec
  split
  · exact .refl d
  · exact flowEntry_sends _ d (hf _ rfl)

theorem cEpoch_lt (c : Cell) : cEpoch c < 2 := Nat.mod_lt _ (by decide)

theorem missOf_le {d : Dev} {die bank i detail : Nat} {esc : Bool} (h : missOf d die bank i esc = some detail) :
    detail ≤ 5 := by
  unfold missOf at h
  dsimp only at h
  split_ifs at h <;> cases h <;> decide

theorem originateIn_sends (now : W64) {source : Nat} (c : Cell) (a : Acct) (d : Dev) (hd : dieOfSource source < 8192) :
    Sends d (originateIn now source c a d) := by
  rw [originateIn]
  -- `cases`, not `split`: the kernel would evaluate the discriminants to check what `split` leaves
  cases hm : missOf d (dieOfSource source) (cEpoch (stamp d c)) (coEntry (cDst (stamp d c))) (decide (cEsc (stamp d c) = 1)) with
  | some detail =>
    have hle := missOf_le hm
    exact fwdCount_sends _ d (by omega)
  | none =>
    extract_lets +onlyGivenNames ws r follow member
    have hr : Sends d r.2 ∧ IndexOk r.1.flow := chooseMember_sends now source _ none ws d hd
    clear_value member follow r
    obtain ⟨hsent, hflow⟩ := hr
    cases member with
    | none =>
      refine (hsent.trans (fwdCount_sends _ _ ?_)).trans (heldDec_sends _ hflow)
      split <;> decide
    | some k =>
      have hq : Sends d (drainInc (cEpoch (stamp d c)) r.2) :=
        hsent.trans (drainInc_alters _ (cEpoch_lt _) (by simp [InPages]))
      exact hq.trans ((SoftAlters.sw _ _ (by simp)).trans
        ((chargeService_alters _ a _ (by simp) (by simp) (by simp)).trans (voqAppend_alters _ _ _ _ _ (by simp))))

/-- A notification of a die that the flow table has room for. -/
theorem sendNotify_sends (now : W64) {die : Nat} (c : Cell) (d : Dev) (hd : die < 8192) : Sends d (sendNotify now die c d) := by
  have hdie : dieOfSource (svcNote die) < 8192 := by
    unfold dieOfSource svcNote
    split <;> omega
  unfold sendNotify originate
  split
  · exact .refl d
  · split
    · exact originateIn_sends now c _ d hdie
    · exact .refl d

/-! #### Result cells (R251) -/

/-- A cell is put on the engine's multicast list, or waits to be. -/
abbrev SendsDown (d e : Dev) : Prop :=
  SoftAlters (InPages [Page.fwd, Page.voq, Page.tel]) [.sw, .col] (InTables endTables) d e

theorem queueDown_sends (now : W64) (die job : Nat) (c : Cell) (copies : List (Nat × Nat)) (d : Dev) :
    SendsDown d (queueDown now die job c copies d).1 := by
  unfold queueDown
  split
  · exact .refl d
  · split
    · exact .refl d
    · next a _ =>
      have hq : SendsDown d (drainInc (cEpoch (stamp d c)) d) := drainInc_alters d (cEpoch_lt _) (by simp [InPages])
      exact (hq.trans ((SoftAlters.sw _ _ (by simp)).trans (chargeService_alters _ a _ (by simp) (by simp) (by simp)))).trans
        ((SoftAlters.sw _ _ (by simp)).trans (.col _ _ (by simp)))

theorem oweDown_sends (now : W64) (k die : Nat) (c : Cell) (copies : List (Nat × Nat)) (d : Dev) :
    SendsDown d (oweDown now k die c copies d) := by
  have hlater : SendsDown d { d with col := { d.col with owed := d.col.owed ++ [(k, die, c, copies)] } } := .col _ d (by simp)
  unfold oweDown
  extract_lets later r
  split
  · exact hlater
  · split
    · exact queueDown_sends ..
    · exact hlater

end Sys2Proof.Machine

/-! ### Contributions and chunks that time out (R258, R259) -/

namespace Sys2Proof.Machine

/-! #### A member's entry written and read (R239, R343) -/

theorem wordsBytes_getD (ws : List W32) (k : Nat) {j : Nat} (hj : j < 4) :
    (wordsBytes ws).getD (4 * k + j) 0 = (bytesLE 4 (word ws k).toNat).getD j 0 := by
  induction ws generalizing k with
  | nil =>
    have hzero : word [] k = 0 := rfl
    rw [hzero]
    interval_cases j <;> rfl
  | cons w ws ih =>
    have hcons : wordsBytes (w :: ws) = bytesLE 4 w.toNat ++ wordsBytes ws := rfl
    have hlen : (bytesLE 4 w.toNat).length = 4 := bytesLE_length ..
    cases k with
    | zero => rw [hcons, Nat.mul_zero, Nat.zero_add, List.getD_append _ _ _ _ (by omega)]; rfl
    | succ k =>
      rw [hcons, List.getD_append_right _ _ _ _ (by omega), hlen, show 4 * (k + 1) + j - 4 = 4 * k + j by omega, ih]
      rfl

theorem natOfLE_bytesLE (n v : Nat) : natOfLE (bytesLE n v) = v % 2 ^ (8 * n) := by
  induction n generalizing v with
  | zero => simp [bytesLE, natOfLE, Nat.mod_one]
  | succ n ih =>
    rw [bytesLE, natOfLE, ih, BitVec.toNat_ofNat, Nat.mul_add, Nat.add_comm, Nat.pow_add, Nat.mul_comm (2 ^ (8 * n)), Nat.mod_mul]
    exact Nat.add_comm ..

/-- A word of a member's entry read back. -/
theorem word_memberSet (i : Nat) (ws : List W32) (s : State) {k : Nat} (hk : k < 16) (hlen : k < ws.length) :
    word (memberGet (memberSet i ws s) i) k = word ws k := by
  obtain ⟨bs, hbs⟩ : ∃ bs, bs = wordsBytes (fitWords 16 ws) := ⟨_, rfl⟩
  have hlength : bs.length = 64 := by rw [hbs, wordsBytes_length, fitWords_length]
  have hfit : word (fitWords 16 ws) k = word ws k := by
    simp only [word, fitWords, List.getD_eq_getElem?_getD, List.getElem?_take_of_lt hk, List.getElem?_append_left hlen]
  have hbyte (j : Nat) (hj : j < 4) :
      memByte (memberSet i ws s).mem (64 * i + 4 * k + j) = (bytesLE 4 (word ws k).toNat).getD j 0 := by
    have hmem : (memberSet i ws s).mem = memWrite s.mem (64 * i) bs := hbs ▸ rfl
    rw [hmem, Nat.add_assoc, memByte_write _ _ _ _ (by omega), hbs, wordsBytes_getD _ _ hj, hfit]
  have hread : memRead (memberSet i ws s).mem (64 * i + 4 * k) 4 = bytesLE 4 (word ws k).toNat := by
    have h0 := hbyte 0 (by decide)
    have h1 := hbyte 1 (by decide)
    have h2 := hbyte 2 (by decide)
    have h3 := hbyte 3 (by decide)
    simp only [memRead]
    rw [Nat.add_zero] at h0
    rw [h0, h1, h2, h3]
    rfl
  rw [word, memberGet, List.getD_eq_getElem?_getD, List.getElem?_map, List.getElem?_range hk, Option.map_some,
    Option.getD_some, hread, natOfLE_bytesLE, Nat.mod_eq_of_lt (word ws k).isLt, BitVec.ofNat_toNat, BitVec.setWidth_eq]

/-- CRC_FAILS of the member goes up by one, and stops at its largest value (R258). -/
theorem crcFails_countFail (slot : Nat) (s : State) :
    wbits (memberGet (countFail slot s) slot) 11 31 16 = min (wbits (memberGet s slot) 11 31 16 + 1) 0xFFFF := by
  have hlen : (memberGet s slot).length = 16 := by simp [memberGet]
  have hword := word_memberSet slot (setWBits (memberGet s slot) 11 31 16 (min (wbits (memberGet s slot) 11 31 16 + 1) 0xFFFF)) s
    (k := 11) (by decide) (by simp [setWBits, hlen])
  rw [countFail, wbits, hword, ← wbits, wbits_setWBits_same _ (by omega) (by decide) (by decide)]
  exact Nat.mod_eq_of_lt (by omega)

section

variable (slot : Nat) (s : State)

-- `unfold`, not `rfl`, in this section: `rfl` evaluates the entry's words
@[simp] theorem countFail_dev : (countFail slot s).dev = s.dev := by
  unfold countFail
  exact memberSet_dev ..

@[simp] theorem countFail_pending : (countFail slot s).pending = s.pending := by
  unfold countFail
  exact memberSet_pending ..

@[simp] theorem countFail_now : (countFail slot s).now = s.now := by
  unfold countFail
  exact memberSet_now ..

theorem memByte_countFail_ne {a : Nat} (ha : a < 64 * slot ∨ 64 * slot + 64 ≤ a) :
    memByte (countFail slot s).mem a = memByte s.mem a := by
  unfold countFail
  exact memByte_memberSet_ne _ _ _ _ ha

theorem memberGet_onDev (f : Dev → Dev) : memberGet (onDev f s) slot = memberGet s slot := rfl

end

theorem countFail_keeps (slot : Nat) {s u : State} {parts : List Part} {tables : List (Page × Nat)} {pages : List Page}
    (h : Kept parts tables pages s u) :
    (countFail slot u).pending = s.pending ∧ (countFail slot u).now = s.now ∧ SoftKept s (countFail slot u) ∧
      PartsKept parts s (countFail slot u) ∧ EntriesKept tables s (countFail slot u) ∧ PagesKept pages s (countFail slot u) := by
  obtain ⟨⟨hpending, hnow, -⟩, hrest⟩ := h
  simp only [SoftKept, PartsKept, EntriesKept, PagesKept, countFail_dev, countFail_pending, countFail_now]
  exact ⟨hpending, hnow, hrest⟩

theorem counted_countFail {slot k n : Nat} {s u : State} {p : Page} {f : Fd} (h : Counted p f k n s u) :
    Counted p f k n s (countFail slot u) := by
  rwa [Counted, countFail_dev]

/-! #### A contribution that fails (R258) -/

/-- The context's die, and the ports its contributions came from, are the device's. -/
def Placed (c : Context) : Prop := c.region < 8 ∧ ∀ m, (c.contrib m).lane < 1024

theorem Placed.memberDie {c : Context} (h : Placed c) (m : Nat) : dieOf (c.contrib m).lane < 8192 :=
  (dieOf_lt (h.2 m)).trans (by decide)

section

variable {k m : Nat} {c : Context} {x : Cell}

@[simp] theorem contrib_dropContrib_same (ws : List W32) : (dropContrib ws m c).contrib m =
    { c.contrib m with cells := [], tail := none, fails := (c.contrib m).fails + 1 } := sget_sset_same ..

theorem contrib_dropContrib_ne (ws : List W32) {m' : Nat} (h : m' ≠ m) : (dropContrib ws m c).contrib m' = c.contrib m' :=
  sget_sset_ne _ _ _ h.symm

theorem frames_dropContrib (ws : List W32) : (dropContrib ws m c).frames = [] := rfl

/-- What a contribution's failure leaves of its context, both failures counted, before the member is told. -/
def contribGone (k m : Nat) (c : Context) (d : Dev) : Dev :=
  bump Page.col Reg.COL_CNT 6 (bump Page.col Reg.COL_CNT 5 (setCtx k (some (dropContrib c.entry m c))
    (endRuns fateOther (c.runs.filter (fun r => r.member == m)) d)))

/-- The member is told to send the contribution again. -/
def resendAsked (now : W64) (k m : Nat) (c : Context) (x : Cell) (d : Dev) : Dev :=
  sendNotify now (dieOf (c.contrib m).lane)
    (notifyAbout d x ntRESEND 1 (resendInfo (keyGroup k) c.gen (chunkOf (keyGroup k) c))) (contribGone k m c d)

theorem failContrib_again {s : State} (hc : s.dev.ctx k = some c) (hx : (c.contrib m).tail = some x)
    (hmax : (c.contrib m).fails + 1 ≤ rd s.dev Page.col Reg.COL_COL_CFG_RESEND_MAX) :
    failContrib k m 1 s = countFail (gBase c.entry + m) (onDev (resendAsked s.now k m c x) s) := by
  simp only [failContrib, hc, hx, if_neg (Nat.not_lt.2 hmax)]
  rfl

/-- The pages and parts that a contribution's failure can write. -/
abbrev Fails (d e : Dev) : Prop :=
  SoftAlters (InPages [Page.col, Page.fwd, Page.voq, Page.tel]) [.lnk, .sw, .fwd, .col, .tel] (InTables endTables) d e

theorem Sends.fails {d e : Dev} (h : Sends d e) : Fails d e :=
  h.mono (fun _ _ hq => List.mem_cons_of_mem _ hq) (by simp) fun _ => id

theorem colCount_fails (k : Nat) (d : Dev) (hk : k < 16) : Fails d (bump Page.col Reg.COL_CNT k d) :=
  colCount_alters k d hk (by simp) (by simp) (by simp [endTables])

theorem endRuns_alters (fate : Nat) (l : List Run) (d : Dev) :
    SoftAlters EndWords [.tel] (InTables endTables) d (endRuns fate l d) :=
  .forEach _ _ (fun _ _ _ => endLife_ends ..) d

theorem contribGone_fails (d : Dev) : Fails d (contribGone k m c d) := by
  have hruns : Fails d (endRuns fateOther (c.runs.filter (fun r => r.member == m)) d) :=
    (endRuns_alters ..).mono (fun q _ hq => by rcases hq with rfl | rfl <;> simp [InPages]) (by simp) fun _ => id
  exact ((hruns.trans (.col _ _ (by simp))).trans (colCount_fails 5 _ (by decide))).trans (colCount_fails 6 _ (by decide))

/-- A count of COL leaves another as it was. -/
theorem rd64_colCount_ne {i j : Nat} (d : Dev) (hj : j < 16) (h : i ≠ j) :
    rd64 (bump Page.col Reg.COL_CNT i d) Page.col ⟨Reg.COL_CNT.off + 8 * j, 31, 0⟩ =
      rd64 d Page.col ⟨Reg.COL_CNT.off + 8 * j, 31, 0⟩ := by
  have hoff : Reg.COL_CNT.off = 0x180 := rfl
  simp only [rd64]
  rw [rdWord_bump_off _ _ _ (by decide) (by decide) (by omega) (by omega) (by omega) (by decide),
    rdWord_bump_off _ _ _ (by decide) (by decide) (by omega) (by omega) (by omega) (by decide)]

theorem rd64_endRuns (fate : Nat) (l : List Run) (f : Fd) (hf : f.off + 4 < 4096) (d : Dev) :
    rd64 (endRuns fate l d) Page.col f = rd64 d Page.col f :=
  (endRuns_alters fate l d).rd64_eq (by decide) hf fun _ h => by rcases h with h | h <;> cases h

theorem Sends.rd64_col {d e : Dev} {f : Fd} (h : Sends d e) (hf : f.off + 4 < 4096) : rd64 e Page.col f = rd64 d Page.col f :=
  h.rd64_eq (by decide) hf fun _ hq => by simp [InPages, Page.col, Page.fwd, Page.voq, Page.tel] at hq

theorem contribGone_counts (d : Dev) :
    rd64 (contribGone k m c d) Page.col ⟨Reg.COL_CNT.off + 8 * 5, 31, 0⟩ =
        (rd64 d Page.col ⟨Reg.COL_CNT.off + 8 * 5, 31, 0⟩ + 1) % 2 ^ 64 ∧
      rd64 (contribGone k m c d) Page.col ⟨Reg.COL_CNT.off + 8 * 6, 31, 0⟩ =
        (rd64 d Page.col ⟨Reg.COL_CNT.off + 8 * 6, 31, 0⟩ + 1) % 2 ^ 64 := by
  have hctx (f : Fd) (hf : f.off + 4 < 4096) : rd64 (setCtx k (some (dropContrib c.entry m c))
      (endRuns fateOther (c.runs.filter (fun r => r.member == m)) d)) Page.col f = rd64 d Page.col f :=
    rd64_endRuns _ _ f hf d
  refine ⟨?_, ?_⟩ <;> rw [contribGone]
  · rw [rd64_colCount_ne _ (by decide) (by decide), rd64_colCount _ _ (by decide), hctx _ (by decide)]
  · rw [rd64_colCount _ _ (by decide), rd64_colCount_ne _ (by decide) (by decide), hctx _ (by decide)]

end

section

variable {k m : Nat} {c : Context} {x : Cell} {now : W64}

theorem resendAsked_sends (hplaced : Placed c) (d : Dev) :
    Sends (contribGone k m c d) (resendAsked now k m c x d) := sendNotify_sends now _ _ (hplaced.memberDie m)

theorem ctx_resendAsked (hplaced : Placed c) (d : Dev) :
    (resendAsked now k m c x d).ctx k = some (dropContrib c.entry m c) := by
  rw [ctx_congr (congrArg Col.contexts ((resendAsked_sends hplaced d).part .col (by simp))), contribGone,
    ctx_congr (congrArg Col.contexts (bump_col ..)), ctx_congr (congrArg Col.contexts (bump_col ..)), ctx_setCtx_same]

theorem resendAsked_kept {s : State} (hplaced : Placed c) :
    Kept [.lnk, .sw, .fwd, .col, .tel] endTables [Page.col, Page.fwd, Page.voq, Page.tel] s
      (onDev (resendAsked now k m c x) s) :=
  ((contribGone_fails s.dev).trans (resendAsked_sends hplaced s.dev).fails).kept (fun _ _ hq => hq) (by decide)

theorem resendAsked_counts {s : State} (hplaced : Placed c) :
    Counted Page.col Reg.COL_CNT 5 1 s (onDev (resendAsked now k m c x) s) ∧
      Counted Page.col Reg.COL_CNT 6 1 s (onDev (resendAsked now k m c x) s) := by
  obtain ⟨hfive, hsix⟩ := contribGone_counts (k := k) (m := m) (c := c) s.dev
  exact ⟨((resendAsked_sends hplaced s.dev).rd64_col (by decide)).trans hfive,
    ((resendAsked_sends hplaced s.dev).rd64_col (by decide)).trans hsix⟩

end

theorem missingCells_eq {g p m : Nat} {c : Context} {x : Cell} {s : State} (hc : s.dev.ctx (ctxKey g p) = some c)
    (hres : c.isResident = true) (hx : (c.contrib m).tail = some x) (hopen : c.state = .openS)
    (hclosed : (c.contrib m).closed = false) (hmissing : (c.contrib m).cells.length < tCells x)
    (hothers : c.expected ≤ c.closed + 1) (hns : chunkTimeoutNs s.dev ≠ 0)
    (helapsed : elapsed s.now c.closeTick (chunkTimeoutNs s.dev / 4) = true) :
    missingCells g p m s = failContrib (ctxKey g p) m 1 s := by
  simp only [missingCells, hc, hx, hres, if_true]
  exact if_pos ⟨hopen, hclosed, hmissing, hothers, hns, helapsed⟩

/-- What O34 asks of MISSING_CELLS_TIMEOUT, for a contribution that came from a port of the device. What is left of the
context is in `contrib_dropContrib_same`, `contrib_dropContrib_ne` and `frames_dropContrib`. -/
theorem missingCellsFail {g p m : Nat} {c : Context} {x : Cell} {s : State} (hplaced : Placed c) (hg : g < 65536) (hp : p < 16)
    (hm : m < 1048576) (hc : s.dev.ctx (ctxKey g p) = some c) (hres : c.isResident = true) (hx : (c.contrib m).tail = some x)
    (hopen : c.state = .openS) (hclosed : (c.contrib m).closed = false) (hmissing : (c.contrib m).cells.length < tCells x)
    (hothers : c.expected ≤ c.closed + 1) (hns : chunkTimeoutNs s.dev ≠ 0)
    (helapsed : elapsed s.now c.closeTick (chunkTimeoutNs s.dev / 4) = true)
    (hmax : (c.contrib m).fails + 1 ≤ rd s.dev Page.col Reg.COL_COL_CFG_RESEND_MAX) :
    ∃ t, exec (.missingCellsTimeout g p m) s = .next t ∧ t.dev.ctx (ctxKey g p) = some (dropContrib c.entry m c) ∧
      wbits (memberGet t (gBase c.entry + m)) 11 31 16 = min (wbits (memberGet s (gBase c.entry + m)) 11 31 16 + 1) 0xFFFF ∧
      (∀ a, a < 64 * (gBase c.entry + m) ∨ 64 * (gBase c.entry + m) + 64 ≤ a → memByte t.mem a = memByte s.mem a) ∧
      Counted Page.col Reg.COL_CNT 5 1 s t ∧ Counted Page.col Reg.COL_CNT 6 1 s t ∧
      t.pending = s.pending ∧ t.now = s.now ∧ SoftKept s t ∧ PartsKept [.lnk, .sw, .fwd, .col, .tel] s t ∧
      EntriesKept [(Page.tel, 0), (Page.fwd, 2)] s t ∧ PagesKept [Page.col, Page.fwd, Page.voq, Page.tel] s t := by
  have hwf : (Instr.missingCellsTimeout g p m).wf = true :=
    Bool.and_eq_true_iff.2 ⟨Bool.and_eq_true_iff.2 ⟨decide_eq_true hg, decide_eq_true hp⟩, decide_eq_true hm⟩
  have hrun : exec (.missingCellsTimeout g p m) s =
      .next (countFail (gBase c.entry + m) (onDev (resendAsked s.now (ctxKey g p) m c x) s)) := by
    rw [exec_missingCellsTimeout, effect_next _ _ _ hwf, missingCells_eq hc hres hx hopen hclosed hmissing hothers hns helapsed,
      failContrib_again hc hx hmax]
  obtain ⟨hfive, hsix⟩ := resendAsked_counts (now := s.now) (k := ctxKey g p) (m := m) (x := x) (s := s) hplaced
  refine ⟨_, hrun, ?_, ?_, fun a ha => ?_, counted_countFail hfive, counted_countFail hsix,
    countFail_keeps _ (resendAsked_kept hplaced)⟩
  · rw [countFail_dev, onDev_dev, ctx_resendAsked hplaced]
  · rw [crcFails_countFail, memberGet_onDev]
  · rw [memByte_countFail_ne _ _ ha, onDev_mem]

/-! #### A chunk that fails (R259) -/

section

variable {now : W64} {g p k : Nat} {c : Context}

/-- One member is told to send its contribution of the chunk again, after the count. -/
theorem resendAll_sends (m : Nat × Nat) (d : Dev) (hplaced : Placed c) :
    Sends (bump Page.col Reg.COL_CNT 6 d) (resendAll now g p c m d) := by
  have hdie : c.die < 8192 := by
    have := hplaced.1
    unfold Context.die
    omega
  unfold resendAll
  extract_lets info x d1
  split
  · exact sendNotify_sends now _ _ (hplaced.memberDie m.1)
  · exact sendNotify_sends now _ _ hdie

/-- What the failure of a chunk does once its context is gone and counted. -/
def membersTold (now : W64) (g p : Nat) (c : Context) (ms : List (Nat × Nat)) (d : Dev) : Dev :=
  forEach ms (resendAll now g p c) d

theorem membersTold_fails (ms : List (Nat × Nat)) (d : Dev) (hplaced : Placed c) : Fails d (membersTold now g p c ms d) :=
  .forEach ms _ (fun m _ d => (colCount_fails 6 d (by decide)).trans (Sends.fails (resendAll_sends m d hplaced))) d

theorem membersTold_keeps (ms : List (Nat × Nat)) (d : Dev) (hplaced : Placed c) :
    (membersTold now g p c ms d).col = d.col ∧
      rd64 (membersTold now g p c ms d) Page.col ⟨Reg.COL_CNT.off + 8 * 7, 31, 0⟩ =
        rd64 d Page.col ⟨Reg.COL_CNT.off + 8 * 7, 31, 0⟩ := by
  refine ⟨forEach_keeps Dev.col ms _ (fun m d => ?_) d,
    forEach_keeps (fun d => rd64 d Page.col ⟨Reg.COL_CNT.off + 8 * 7, 31, 0⟩) ms _ (fun m d => ?_) d⟩
  · exact ((resendAll_sends m d hplaced).part .col (by simp)).trans (bump_col ..)
  · exact (Sends.rd64_col (resendAll_sends m d hplaced) (by decide)).trans
      (rd64_colCount_ne d (by decide) (by decide))

end

theorem chargeService_col (b : Box) (a : Acct) (d : Dev) : (chargeService b a d).2.col = d.col := bump_col ..

theorem queueDown_contexts (now : W64) (die job : Nat) (c : Cell) (copies : List (Nat × Nat)) (d : Dev) :
    (queueDown now die job c copies d).1.col.contexts = d.col.contexts := by
  unfold queueDown
  split
  · rfl
  · split
    · rfl
    · next a _ =>
      extract_lets c1 b src bc d1
      have hcharge : bc.2.col = d.col := chargeService_col ..
      exact (congrArg Col.contexts hcharge : d1.col.contexts = d.col.contexts)

theorem oweDown_contexts (now : W64) (k die : Nat) (c : Cell) (copies : List (Nat × Nat)) (d : Dev) :
    (oweDown now k die c copies d).col.contexts = d.col.contexts := by
  unfold oweDown
  extract_lets later r
  split
  · rfl
  · split
    · exact queueDown_contexts ..
    · rfl

/-- The empty CTAIL_DN goes to the members, where there is one. -/
def tailOwed (now : W64) (k : Nat) (c : Context) (ms : List (Nat × Nat)) (d : Dev) : Dev :=
  if ms.isEmpty then d
  else oweDown now k c.die (emptyTail d (keyGroup k) c.gen (keyPhase k) (chunkOf (keyGroup k) c) c.useNo)
    (ms.map (fun m => (m.2, rtagOf (keyGroup k) c m.1))) d

section

variable (now : W64) (k : Nat) (c : Context) (ms : List (Nat × Nat)) (d : Dev)

theorem tailOwed_sends : SendsDown d (tailOwed now k c ms d) := by
  unfold tailOwed
  split
  · exact .refl d
  · exact oweDown_sends ..

theorem tailOwed_contexts : (tailOwed now k c ms d).col.contexts = d.col.contexts := by
  unfold tailOwed
  split
  · rfl
  · exact oweDown_contexts ..

end

/-- The chunk's context is gone, and the failure counted. -/
def chunkGone (k : Nat) (d : Dev) : Dev := bump Page.col Reg.COL_CNT 7 (freeCtx k fateOther d)

/-- The chunk fails: its context goes, then its members are told and sent an empty tail. -/
def chunkFailed (now : W64) (k : Nat) (c : Context) (ms : List (Nat × Nat)) (d : Dev) : Dev :=
  raiseIrq Page.col 19 (tailOwed now k c ms (membersTold now (keyGroup k) (keyPhase k) c ms (chunkGone k d)))

theorem failChunk_eq {k : Nat} {c : Context} {s : State} (hc : s.dev.ctx k = some c) :
    failChunk k s = onDev (chunkFailed s.now k c (chunkMembers s (keyGroup k) c)) s := by
  simp only [failChunk, hc]
  rfl

section

variable {now : W64} {k : Nat} {c : Context} {ms : List (Nat × Nat)} {d : Dev}

theorem chunkFailed_alters (hok : ParkedOk d) (hplaced : Placed c) :
    SoftAlters (InPages ([Page.col, Page.fwd, Page.voq, Page.tel] ++ coreBlockPages)) [.lnk, .sw, .fwd, .col, .tel]
      (InTables endTables) d (chunkFailed now k c ms d) := by
  have hgone : SoftAlters (InPages ([Page.col, Page.fwd, Page.voq, Page.tel] ++ coreBlockPages))
      [.lnk, .sw, .fwd, .col, .tel] (InTables endTables) d (chunkGone k d) :=
    ((freeCtx_frees k fateOther hok).alters.words fun q _ hq => by
      rcases List.mem_append.1 hq with h | h
      · exact List.mem_append_left _ (by simp at h ⊢; tauto)
      · exact List.mem_append_right _ h).trans (colCount_alters 7 _ (by decide) (by simp) (by simp) (by simp [endTables]))
  have htold := (membersTold_fails (now := now) (g := keyGroup k) (p := keyPhase k) ms (chunkGone k d) hplaced).words
    fun q _ hq => (List.mem_append_left coreBlockPages hq : q ∈ _)
  have hsent : SoftAlters (InPages ([Page.col, Page.fwd, Page.voq, Page.tel] ++ coreBlockPages))
      [.lnk, .sw, .fwd, .col, .tel] (InTables endTables) (membersTold now (keyGroup k) (keyPhase k) c ms (chunkGone k d))
      (tailOwed now k c ms (membersTold now (keyGroup k) (keyPhase k) c ms (chunkGone k d))) :=
    (tailOwed_sends ..).mono (fun _ _ hq => List.mem_append_left _ (List.mem_cons_of_mem _ hq)) (by simp) fun _ => id
  exact ((hgone.trans htold).trans hsent).trans (.raiseIrq (p := Page.col) 19 _ (by decide) (by simp [InPages]))

theorem ctx_chunkFailed (hok : ParkedOk d) (hplaced : Placed c) : (chunkFailed now k c ms d).ctx k = none := by
  rw [chunkFailed, ctx_congr (congrArg Col.contexts (raiseIrq_col ..)), ctx_congr (tailOwed_contexts ..),
    ctx_congr (congrArg Col.contexts (membersTold_keeps ms _ hplaced).1), chunkGone,
    ctx_congr (congrArg Col.contexts (bump_col ..)), ctx_freeCtx _ _ hok]

theorem rd64_chunkFailed (hok : ParkedOk d) (hplaced : Placed c) :
    rd64 (chunkFailed now k c ms d) Page.col ⟨Reg.COL_CNT.off + 8 * 7, 31, 0⟩ =
      (rd64 d Page.col ⟨Reg.COL_CNT.off + 8 * 7, 31, 0⟩ + 1) % 2 ^ 64 := by
  have hirq (e : Dev) : rd64 (raiseIrq Page.col 19 e) Page.col ⟨Reg.COL_CNT.off + 8 * 7, 31, 0⟩ =
      rd64 e Page.col ⟨Reg.COL_CNT.off + 8 * 7, 31, 0⟩ := by
    rw [rd64, rdWord_raiseIrq_off _ _ _ (by decide), rdWord_raiseIrq_off _ _ _ (by decide), ← rd64]
  have hfreed : rd64 (freeCtx k fateOther d) Page.col ⟨Reg.COL_CNT.off + 8 * 7, 31, 0⟩ =
      rd64 d Page.col ⟨Reg.COL_CNT.off + 8 * 7, 31, 0⟩ :=
    (freeCtx_frees k fateOther hok).alters.rd64_eq (by decide) (by decide) fun _ hq =>
      (List.mem_append.1 hq).elim (by simp [Page.col, Page.fwd, Page.tel]) col_notMem_coreBlockPages
  rw [chunkFailed, hirq, (tailOwed_sends ..).rd64_eq (by decide) (by decide)
    (fun _ hq => by simp [InPages, Page.col, Page.fwd, Page.voq, Page.tel] at hq),
    (membersTold_keeps ms _ hplaced).2, chunkGone, rd64_colCount _ _ (by decide), hfreed]

end

/-- What O34 asks of CHUNK_TIMEOUT, where the parked cells' flow indices and the context's ports are the device's. -/
theorem chunkTimesOut {g p : Nat} {c : Context} {s : State} (hok : ParkedOk s.dev) (hplaced : Placed c) (hg : g < 65536)
    (hp : p < 16) (hc : s.dev.ctx (ctxKey g p) = some c) (hopen : c.state = .openS) (hns : chunkTimeoutNs s.dev ≠ 0)
    (helapsed : elapsed s.now c.openTick (chunkTimeoutNs s.dev) = true) :
    ∃ t, exec (.chunkTimeout g p) s = .next t ∧ t.dev.ctx (ctxKey g p) = none ∧ Counted Page.col Reg.COL_CNT 7 1 s t ∧
      (rdWord t.dev Page.col 0x010).getLsbD 19 = true ∧
      Kept [.lnk, .sw, .fwd, .col, .tel] [(Page.tel, 0), (Page.fwd, 2)]
        ([Page.col, Page.fwd, Page.voq, Page.tel] ++ coreBlockPages) s t := by
  have hwf : (Instr.chunkTimeout g p).wf = true := Bool.and_eq_true_iff.2 ⟨decide_eq_true hg, decide_eq_true hp⟩
  have hrun : chunkTimedOut g p s = failChunk (ctxKey g p) s := by
    simp only [chunkTimedOut, hc]
    exact if_pos ⟨hopen, hns, helapsed⟩
  exact ⟨_, (exec_chunkTimeout ..).trans ((effect_next _ _ _ hwf).trans (congrArg _ (hrun.trans (failChunk_eq hc)))),
    ctx_chunkFailed hok hplaced, rd64_chunkFailed hok hplaced, raiseIrq_bit _ _ _ (by decide),
    (chunkFailed_alters hok hplaced).kept (fun _ _ hq => hq) (by decide)⟩

end Sys2Proof.Machine

/-! ### The collective engine on states that no run reaches (R151, R259, R262)

Both statements range over every state, and so over parked cells whose flow index no lookup gave: a context that goes drops
its parked cells, and the end of such a cell counts down in another table.

Where every parked cell's flow index lies in the flow table (`ParkedOk`) and a context's ports are the device's (`Placed`), the
clauses stand: of O34 `missingCellsFail`, `chunkTimesOut` and `contextsPage`; of O35 `resizeRefused`, `resizeAccepted`,
`resizeAborts`, `resizeEnds`, `drainEnds` and `stragglerCleared`. -/

namespace Sys2Proof.Machine

/-! #### A parked cell whose flow index lies outside the flow table (R151, R174) -/

/-- A parked cell whose flow index leads from FWD's flow table to entry 0 of BYP's circuit table. -/
def strayParked : Box := { loneCell with flow := some (tblKey Page.byp 0 0 - tblKey Page.fwd 2 0) }

/-- An OPEN context of group 0, resident, opened at counter value 0, with no contribution yet. -/
def bareCtx : Context :=
  { gen := 0, useNo := 1, state := .openS, paging := .resident, region := 0, slot := 0, block := 0, chunk := none,
    last := false, cells := 0, valid := 0, expected := 1, closed := 0, contribs := [], first := loneCell.cell,
    openTick := 0, touchTick := 0, closeTick := 0, frames := [], runs := [], finishing := [], results := [], crc := 0,
    streamPos := 0, tailPos := 0, reserve := 0, recipe := 0, version := 0, units := 0, rebuilding := false, pageIn := false,
    entry := [] }

/-- The image runs, and the cell is parked for phase slot 0, whose context is `bareCtx`; word 6 of circuit entry 0 holds 1.
The counter stands at one second, past CHUNK_TIMEOUT's reset value. -/
def strayWaiting : State :=
  { onDev (fun d => tset Page.byp 0 0 [0, 0, 0, 0, 0, 0, 1, 0] (setParked 0 [(0, strayParked)] (setCtx 0 (some bareCtx)
      (wr Page.mgt Reg.MGT_BOOT_STAT_STAGE 2 d)))) State.reset with now := 1600000000 }

/-- The chunk's failure drops the parked cell, whose end counts down in the circuit's entry. -/
theorem circuit_chunkTimedOut : tget (chunkTimedOut 0 0 strayWaiting).dev Page.byp 0 0 ≠ tget strayWaiting.dev Page.byp 0 0 := by
  decide +kernel

/-- Refutes O34: the chunk that times out drops its parked cells and ends their counts in HELD, and a flow index outside the
flow table puts that count in an entry of another table, here of BYP's circuits. -/
theorem not_contextsWait : ¬ Obligations.ContextsWait := by
  rintro ⟨⟨-, htimeout⟩, -⟩
  obtain ⟨t, ht, -, -, -, -, -, -, hentries, -⟩ := htimeout 0 0 bareCtx strayWaiting (by decide) (by decide)
    (by decide +kernel) rfl (by decide +kernel) (by decide +kernel)
  have hnext : exec (.chunkTimeout 0 0) strayWaiting = .next (chunkTimedOut 0 0 strayWaiting) :=
    (exec_chunkTimeout ..).trans (effect_next _ _ _ (by decide))
  cases hnext.symm.trans ht
  exact circuit_chunkTimedOut (hentries Page.byp 0 0 (by decide) (by decide) (by decide) (by decide))

/-- The same with group 0 in service and a resize of it to member 0 staged. -/
def strayResizing : State :=
  onDev (fun d => wr Page.col Reg.COL_RESIZE_COUNT_COUNT 1 (tset Page.col 0 0 [0x80000000, 0, 0, 0, 0, 0, 0, 0] d)) strayWaiting

/-- The aborting resize drops the parked cell, whose end counts down in the circuit's entry. -/
theorem circuit_resized : tget (write32 .pcie Page.col 0x120 (2 ^ 31 + bit true * 2 ^ 30 + 0) strayResizing).dev Page.byp 0 0 ≠
    tget strayResizing.dev Page.byp 0 0 := by
  decide +kernel

/-- Refutes O35: the contexts that an aborting resize frees drop their parked cells, and a flow index outside the flow table
puts the end of a count in HELD in an entry of another table, here of BYP's circuits. -/
theorem not_groupsChange : ¬ Obligations.GroupsChange := by
  rintro ⟨hresize, -⟩
  have howns : Owns .pcie Page.col strayResizing := by unfold Owns; decide +kernel
  obtain ⟨-, -, habort⟩ := hresize .pcie true 0 strayResizing howns (by decide)
  obtain ⟨t, ht, -, -, -, -, -, -, hentries, -⟩ := habort (by decide +kernel) rfl (by decide +kernel)
  have hnext : exec (.resize .pcie true 0) strayResizing =
      .next (write32 .pcie Page.col 0x120 (2 ^ 31 + bit true * 2 ^ 30 + 0) strayResizing) :=
    (exec_resize ..).trans (effect_next _ _ _ (by decide))
  have heq := Host.Outcome.next.inj (hnext.symm.trans ht)
  exact circuit_resized (heq ▸ hentries Page.byp 0 0 (by decide) (by decide) (by decide) (by decide))

end Sys2Proof.Machine

/-! ### Recipes: LOAD and COPY, their end, and the retiring versions (R317, R323, R337) -/

namespace Sys2Proof.Machine

section

variable {W : Page → Nat → Prop} {P : List Part} {T : Nat → Prop}

/-- An update of the Ladle array's record. -/
theorem SoftAlters.ldl (x : Ldl) (d : Dev) (h : .ldl ∈ P) : SoftAlters W P T d { d with ldl := x } :=
  ⟨⟨fun _ _ _ _ _ => rfl, fun y hy => by cases y <;> simp_all [Part.same], fun _ _ => rfl⟩, .ofCtl rfl⟩

end

/-! #### What depends on the array's record and the tables alone -/

section

variable {d e : Dev}

theorem activeStore_congr (h : e.ldl = d.ldl) (slot : Nat) : activeStore e slot = activeStore d slot := by
  rw [activeStore, h, activeStore]

theorem isRetiring_congr (h : e.ldl = d.ldl) (slot : Nat) : isRetiring e slot = isRetiring d slot := by
  rw [isRetiring, h, isRetiring]

theorem recipeWords_congr (h : e.ctl.tables = d.ctl.tables) (store slot k : Nat) :
    recipeWords e store slot k = recipeWords d store slot k := tget_congr h ..

end

section

variable {slot x : Nat} (d : Dev)

@[simp] theorem isRetiring_setRetiring_same (b : Bool) : isRetiring (setRetiring slot b d) slot = b := sget_sset_same ..

theorem isRetiring_setRetiring_ne (b : Bool) (h : slot ≠ x) : isRetiring (setRetiring slot b d) x = isRetiring d x :=
  sget_sset_ne _ _ _ h

@[simp] theorem activeStore_setActiveStore_same (v : Nat) : activeStore (setActiveStore slot v d) slot = v := sget_sset_same ..

theorem activeStore_setActiveStore_ne (v : Nat) (h : slot ≠ x) : activeStore (setActiveStore slot v d) x = activeStore d x :=
  sget_sset_ne _ _ _ h

end

/-! #### RECIPE_STAT (R337) -/

section

variable {result check step slot : Nat} (d : Dev)

theorem recipeStat_alters {T : Nat → Prop} {P : List Part} :
    SoftAlters (InPages [Page.region 0]) P T d (recipeStat result check step slot d) := by
  have hpage (a : Nat) : InPages [Page.region 0] (Page.region 0) a := List.mem_singleton.2 rfl
  exact (((SoftAlters.wr _ d (by decide) (by decide) (hpage _)).trans (.wr _ _ (by decide) (by decide) (hpage _))).trans
    (.wr _ _ (by decide) (by decide) (hpage _))).trans (.wr _ _ (by decide) (by decide) (hpage _))

@[simp] theorem recipeStat_ldl : (recipeStat result check step slot d).ldl = d.ldl := rfl

theorem recipeStat_result (h : result < 16) :
    rd (recipeStat result check step slot d) (Page.region 0) Reg.LDL_RECIPE_STAT_RESULT = result := rd_wr_fits _ _ _ _ rfl h

theorem recipeStat_check :
    rd (recipeStat result check step slot d) (Page.region 0) Reg.LDL_RECIPE_STAT_CHECK = check % 16 := by
  rw [recipeStat, rd_wr_apart _ _ _ rfl rfl rfl]
  exact rd_wr_same _ _ _ _ rfl

theorem recipeStat_slot (h : slot < 256) :
    rd (recipeStat result check step slot d) (Page.region 0) Reg.LDL_RECIPE_STAT_SLOT = slot := by
  rw [recipeStat, rd_wr_apart _ _ _ rfl rfl rfl, rd_wr_apart _ _ _ rfl rfl rfl, rd_wr_apart _ _ _ rfl rfl rfl]
  exact rd_wr_fits _ _ _ _ rfl h

end

/-! #### RECIPE_CMD written (R323, R337) -/

/-- RECIPE_CMD written: its fields are WO, so the word stands as it was (R10). -/
def recipeTaken (d : Dev) : Dev := wrWord (Page.region 0) 0x110 (rdWord d (Page.region 0) 0x110) d

theorem recipeTaken_alters {W : Page → Nat → Prop} {P : List Part} {T : Nat → Prop} (d : Dev) :
    SoftAlters W P T d (recipeTaken d) :=
  ⟨wrWord_rdWord_alters d (by decide) (by decide), ⟨rfl, rfl, rfl, rfl, rfl, rfl, rfl, rfl⟩⟩

@[simp] theorem recipeTaken_ldl (d : Dev) : (recipeTaken d).ldl = d.ldl := rfl

/-- RECIPE_CMD's register. -/
def recipeReg : RegDef := ⟨0x110, 1, 4, 0, [⟨31, 30, .L, .wo, 0, .range 0 2⟩, ⟨7, 0, .L, .wo, 0, .any⟩]⟩

theorem fieldWrite_recipeReg (src : Src) {v : W32} (d : Dev) (hop : bitsOf v 31 30 ≤ 2) :
    fieldWrite src (Page.region 0) 0x110 v recipeReg d = recipeTaken d := by
  have hbits : portBits d (Page.region 0) 0x110 = 0 := portBits_off_links _ _ (by decide)
  have hall : ∀ x : W32, x &&& 0xFFFFFFFF#32 = x := fun x => BitVec.and_allOnes
  simp [fieldWrite, recipeReg, recipeTaken, hbits, fldMask, takesNow, writeErrs, stageFields, merge, Fld.ok, Enc.ok, hall, hop]

theorem actionOk_recipeReg {v : W32} (hop : bitsOf v 31 30 ≤ 2) : actionOk recipeReg v = true := by
  simp [actionOk, recipeReg, Fld.ok, Enc.ok, hop]

/-- OP of a LOAD or a COPY. -/
def recipeOp (load : Bool) : Nat := if load then 1 else 2

theorem exec_recipeInstr (load : Bool) (src : Src) {slot : Nat} (s : State) (hs : slot < 256) :
    exec (recipeInstr load src slot) s = .next (write32 src (Page.region 0) 0x110 (recipeOp load * 2 ^ 30 + slot) s) := by
  cases load
  · exact (exec_copy src slot s).trans (effect_next _ _ _ (decide_eq_true hs))
  · exact (exec_load src slot s).trans (effect_next _ _ _ (decide_eq_true hs))

/-- A command of the region's owner acts as R323 says, its register's word as it was. -/
theorem exec_recipeInstr_owned (load : Bool) {src : Src} {slot : Nat} {s : State} (ho : Owns src (Page.region 0) s)
    (hs : slot < 256) :
    exec (recipeInstr load src slot) s = .next (onDev (fun d => recipeCmd src load slot (recipeTaken d)) s) := by
  have hrange : 1 ≤ recipeOp load ∧ recipeOp load ≤ 2 := by cases load <;> decide
  have hlt : recipeOp load * 2 ^ 30 + slot < 2 ^ 32 := by omega
  have hop : bitsOf (BitVec.ofNat 32 (recipeOp load * 2 ^ 30 + slot)) 31 30 = recipeOp load := by
    rw [bitsOf_ofNat hlt]
    omega
  have hslot : bitsOf (BitVec.ofNat 32 (recipeOp load * 2 ^ 30 + slot)) 7 0 = slot := by
    rw [bitsOf_ofNat hlt]
    omega
  have hload : decide (recipeOp load = 1) = load := by cases load <;> rfl
  have hle : bitsOf (BitVec.ofNat 32 (recipeOp load * 2 ^ 30 + slot)) 31 30 ≤ 2 := hop.trans_le hrange.2
  have hne : bitsOf (BitVec.ofNat 32 (recipeOp load * 2 ^ 30 + slot)) 31 30 ≠ 0 := by omega
  have hwrite (d : Dev) : ldlWrite src 0 0x110 (BitVec.ofNat 32 (recipeOp load * 2 ^ 30 + slot)) recipeReg d =
      recipeCmd src load slot (recipeTaken d) := by
    rw [ldlWrite, fieldWrite_recipeReg src d hle, if_pos ⟨rfl, rfl, actionOk_recipeReg hle, hne⟩, hop, hslot, hload]
  rw [exec_recipeInstr load src s hs, write32_reg _ ho (by decide) (by decide) (by decide) (r := recipeReg) rfl (by decide) hlt,
    regWrite_block _ _ _ _ (by decide)]
  exact congrArg (fun d => Host.Outcome.next { s with dev := d }) (hwrite s.dev)

/-! #### A command that fails a check, and one that passes (R317, R323) -/

/-- The check that a command fails, with none pending. -/
def recipeFailing (load : Bool) (slot : Nat) (d : Dev) : Option Nat :=
  if slot < 32 then some 0xE else if isRetiring d slot then some 0xF
    else if load then (checkRecipe (recipeOf d (storeOf d slot 0) slot)).map Prod.fst else none

theorem recipeOf_congr {d e : Dev} (h : e.ctl.tables = d.ctl.tables) (store slot : Nat) :
    recipeOf e store slot = recipeOf d store slot := by
  have hstep : recipeStep e store slot = recipeStep d store slot := funext fun k => by
    rw [recipeStep, recipeWords_congr h, recipeStep]
  rw [recipeOf, hstep, recipeOf]

/-- What the checks read stands. -/
theorem recipeFailing_recipeTaken (load : Bool) (slot : Nat) (d : Dev) :
    recipeFailing load slot (recipeTaken d) = recipeFailing load slot d := by
  have hactive : activeStore (recipeTaken d) slot = activeStore d slot := activeStore_congr rfl slot
  have hretiring : isRetiring (recipeTaken d) slot = isRetiring d slot := isRetiring_congr rfl slot
  have hrecipe : recipeOf (recipeTaken d) (storeOf (recipeTaken d) slot 0) slot = recipeOf d (storeOf d slot 0) slot := by
    rw [recipeOf_congr (e := recipeTaken d) (d := d) rfl, storeOf, hactive, ← storeOf]
  rw [recipeFailing, hretiring, hrecipe, recipeFailing]

section

variable {src : Src} {load : Bool} {slot check : Nat} {d : Dev} {s : State}

theorem recipeCmd_refuses (hcmd : d.ldl.cmd = none) (hf : recipeFailing load slot d = some check) :
    ∃ step, recipeCmd src load slot d = recipeRefuse src check step slot d := by
  unfold recipeFailing at hf
  rw [recipeCmd, hcmd, if_neg (by simp)]
  split_ifs at hf ⊢ with hlow hret hload
  · cases hf
    exact ⟨0, rfl⟩
  · cases hf
    exact ⟨0, rfl⟩
  · obtain ⟨⟨c, k⟩, hc, rfl⟩ := Option.map_eq_some_iff.1 hf
    exact ⟨k, by rw [hc]⟩

theorem recipeCmd_pends (hcmd : d.ldl.cmd = none) (hf : recipeFailing load slot d = none) :
    recipeCmd src load slot d = recipePend load slot d := by
  unfold recipeFailing at hf
  rw [recipeCmd, hcmd, if_neg (by simp)]
  split_ifs at hf ⊢ with hlow hret hload
  · rw [Option.map_eq_none_iff.1 hf, hload]
  · rw [Bool.eq_false_iff.2 hload]

theorem recipeRefuse_alters (step : Nat) : SoftAlters (InPages [Page.region 0]) [] (InTables []) d
    (recipeRefuse src check step slot d) :=
  ((recipeStat_alters d).trans (.setErrs _ _ _ _ _ (by decide) (by simp [InPages]))).trans
    (.raiseIrq _ _ (by decide) (by simp [InPages]))

theorem recipePend_ctl : (recipePend load slot d).ctl = (recipeStat 1 0 0 slot d).ctl := rfl

theorem recipePend_ldl : (recipePend load slot d).ldl = { d.ldl with cmd := some (load, slot) } := rfl

theorem recipePend_alters : SoftAlters (InPages [Page.region 0]) [.ldl] (InTables []) d (recipePend load slot d) :=
  (recipeStat_alters d).trans (.ldl _ _ (by simp))

/-- What O37 asks of a command that fails a check. -/
theorem recipeRefused (ho : Owns src (Page.region 0) s) (hs : slot < 256) (hcmd : s.dev.ldl.cmd = none)
    (hf : recipeFailing load slot s.dev = some check) :
    ∃ t, exec (recipeInstr load src slot) s = .next t ∧ rd t.dev (Page.region 0) Reg.LDL_RECIPE_STAT_RESULT = 3 ∧
      rd t.dev (Page.region 0) Reg.LDL_RECIPE_STAT_CHECK = check % 16 ∧
      rd t.dev (Page.region 0) Reg.LDL_RECIPE_STAT_SLOT = slot ∧
      (rdWord t.dev (Page.region 0) 0x018).getLsbD 16 = true ∧ (rdWord t.dev (Page.region 0) 0x010).getLsbD 17 = true ∧
      Kept [] [] [Page.region 0] s t := by
  obtain ⟨step, hcommand⟩ : ∃ step, recipeCmd src load slot (recipeTaken s.dev) =
      recipeRefuse src check step slot (recipeTaken s.dev) :=
    recipeCmd_refuses hcmd ((recipeFailing_recipeTaken ..).trans hf)
  have hshown (f : Fd) (hoff : f.off = 0x114) : rd (recipeRefuse src check step slot (recipeTaken s.dev)) (Page.region 0) f =
      rd (recipeStat 3 check step slot (recipeTaken s.dev)) (Page.region 0) f :=
    (rd_raiseIrq_off _ _ _ _ (by omega)).trans (rd_setErrs_off _ _ _ _ _ _ _ (by omega))
  refine ⟨_, exec_recipeInstr_owned load ho hs, ?_, ?_, ?_, ?_, ?_,
    SoftAlters.kept (f := fun d => recipeCmd src load slot (recipeTaken d))
      (hcommand ▸ (recipeTaken_alters _).trans (recipeRefuse_alters step)) (fun _ _ hq => hq) (by simp)⟩ <;>
    rw [onDev_dev, hcommand]
  · exact (hshown _ rfl).trans (recipeStat_result _ (by decide))
  · exact (hshown _ rfl).trans (recipeStat_check _)
  · exact (hshown _ rfl).trans (recipeStat_slot _ hs)
  · rw [recipeRefuse, rdWord_raiseIrq_off _ _ _ (by decide)]
    exact setErrs_bit _ _ _ _ _ _ (by decide)
  · exact raiseIrq_bit _ _ _ (by decide)

/-- What O37 asks of a command that passes every check. -/
theorem recipePends (ho : Owns src (Page.region 0) s) (hs : slot < 256) (hcmd : s.dev.ldl.cmd = none)
    (hf : recipeFailing load slot s.dev = none) :
    ∃ t, exec (recipeInstr load src slot) s = .next t ∧ rd t.dev (Page.region 0) Reg.LDL_RECIPE_STAT_RESULT = 1 ∧
      rd t.dev (Page.region 0) Reg.LDL_RECIPE_STAT_SLOT = slot ∧ t.dev.ldl = { s.dev.ldl with cmd := some (load, slot) } ∧
      Kept [.ldl] [] [Page.region 0] s t := by
  have hcommand : recipeCmd src load slot (recipeTaken s.dev) = recipePend load slot (recipeTaken s.dev) :=
    recipeCmd_pends hcmd ((recipeFailing_recipeTaken ..).trans hf)
  refine ⟨_, exec_recipeInstr_owned load ho hs, ?_, ?_, ?_,
    SoftAlters.kept (f := fun d => recipeCmd src load slot (recipeTaken d))
      (hcommand ▸ (recipeTaken_alters _).trans recipePend_alters) (fun _ _ hq => hq) (by simp)⟩ <;>
    rw [onDev_dev, hcommand]
  · exact (rd_of_ctl recipePend_ctl ..).trans (recipeStat_result (recipeTaken s.dev) (by decide))
  · exact (rd_of_ctl recipePend_ctl ..).trans (recipeStat_slot (recipeTaken s.dev) hs)
  · rw [recipePend_ldl, recipeTaken_ldl]

end

/-! #### RECIPE_CMD_DONE (R323) -/

/-- A command's end shown: RESULT 2 and interrupt 16. -/
def recipeEnded (slot : Nat) (d : Dev) : Dev := raiseIrq (Page.region 0) 16 (recipeStat 2 0 0 slot d)

/-- No command is pending. -/
def recipeIdle (d : Dev) : Dev := { d with ldl := { d.ldl with cmd := none } }

/-- A LOAD has exchanged the slot's versions, and measured the new one (R429). -/
def versionsExchanged (slot : Nat) (d : Dev) : Dev :=
  extendM 3 (versionBytes d (1 - activeStore d slot) slot)
    (setRetiring slot (decide (0 < versionUse d (activeStore d slot) slot))
      (setActiveStore slot (1 - activeStore d slot) (recipeIdle d)))

section

variable {slot : Nat} {d : Dev}

theorem recipeDone_load (h : d.ldl.cmd = some (true, slot)) : recipeDone d = recipeEnded slot (versionsExchanged slot d) := by
  rw [recipeDone, h]
  rfl

theorem recipeDone_copy (h : d.ldl.cmd = some (false, slot)) : recipeDone d =
    recipeEnded slot (copyVersion (activeStore d slot) (1 - activeStore d slot) slot (recipeIdle d)) := by
  rw [recipeDone, h]
  rfl

theorem recipeEnded_alters {P : List Part} {T : Nat → Prop} (d : Dev) :
    SoftAlters (InPages [Page.region 0]) P T d (recipeEnded slot d) :=
  (recipeStat_alters d).trans (.raiseIrq _ _ (by decide) (by simp [InPages]))

@[simp] theorem recipeEnded_ldl (d : Dev) : (recipeEnded slot d).ldl = d.ldl := raiseIrq_ldl ..

theorem recipeEnded_tables (d : Dev) : (recipeEnded slot d).ctl.tables = d.ctl.tables := raiseIrq_ctl_tables ..

theorem recipeEnded_shows (d : Dev) : rd (recipeEnded slot d) (Page.region 0) Reg.LDL_RECIPE_STAT_RESULT = 2 ∧
    (rdWord (recipeEnded slot d) (Page.region 0) 0x010).getLsbD 16 = true :=
  ⟨(rd_raiseIrq_off _ _ _ _ (by decide)).trans (recipeStat_result d (by decide)), raiseIrq_bit _ _ _ (by decide)⟩

theorem versionsExchanged_alters {W : Page → Nat → Prop} {T : Nat → Prop} :
    SoftAlters W [.ldl, .mgt] T d (versionsExchanged slot d) :=
  (SoftAlters.ldl (setRetiring slot (decide (0 < versionUse d (activeStore d slot) slot))
    (setActiveStore slot (1 - activeStore d slot) (recipeIdle d))).ldl d (by simp)).trans (.mgt _ _ (by simp))

end

/-- What O37 asks of the end of a LOAD. -/
theorem loadCommandEnds {slot : Nat} {s : State} (h : s.dev.ldl.cmd = some (true, slot)) :
    ∃ t, exec .recipeCmdDone s = .next t ∧ activeStore t.dev slot = 1 - activeStore s.dev slot ∧
      (∀ x, x ≠ slot → activeStore t.dev x = activeStore s.dev x) ∧
      isRetiring t.dev slot = decide (0 < versionUse s.dev (activeStore s.dev slot) slot) ∧ t.dev.ldl.cmd = none ∧
      rd t.dev (Page.region 0) Reg.LDL_RECIPE_STAT_RESULT = 2 ∧ (rdWord t.dev (Page.region 0) 0x010).getLsbD 16 = true ∧
      Kept [.ldl, .mgt] [] [Page.region 0] s t := by
  have hdone := recipeDone_load h
  have hall : SoftAlters (InPages [Page.region 0]) [.ldl, .mgt] (InTables []) s.dev (recipeDone s.dev) :=
    hdone ▸ versionsExchanged_alters.trans (recipeEnded_alters _)
  obtain ⟨hresult, hirq⟩ := recipeEnded_shows (slot := slot) (versionsExchanged slot s.dev)
  refine ⟨_, (exec_recipeCmdDone s).trans (effect_next _ _ _ rfl), ?_, fun x hx => ?_, ?_, ?_, ?_, ?_,
    hall.kept (fun _ _ hq => hq) (by simp)⟩ <;> rw [onDev_dev, hdone]
  · exact (activeStore_congr (recipeEnded_ldl _) slot).trans (activeStore_setActiveStore_same (recipeIdle s.dev) _)
  · exact (activeStore_congr (recipeEnded_ldl _) x).trans (activeStore_setActiveStore_ne (recipeIdle s.dev) _ hx.symm)
  · exact (isRetiring_congr (recipeEnded_ldl _) slot).trans (isRetiring_setRetiring_same _ _)
  · rw [recipeEnded_ldl]
    rfl
  · exact hresult
  · exact hirq

/-! #### A version copied (R323) -/

/-- Place of an entry of a slot in a store, in the table of recipes (R337). -/
def recipeIndex (store slot k : Nat) : Nat := store * 32768 + slot * 128 + k

/-- One entry of a version copied over another's. -/
def copyEntry (source dest slot k : Nat) (d : Dev) : Dev :=
  tset (Page.region 0) 0 (recipeIndex dest slot k) (recipeWords d source slot k) d

section

variable {source dest slot : Nat}

theorem copyVersion_eq (d : Dev) :
    copyVersion source dest slot d = forEach (List.range 80) (copyEntry source dest slot) d := rfl

theorem recipeWords_copyEntry_same (k : Nat) (d : Dev) :
    recipeWords (copyEntry source dest slot k d) dest slot k = recipeWords d source slot k := tget_tset_same ..

theorem recipeWords_copyEntry_ne {v x j k : Nat} (d : Dev) (h : recipeIndex dest slot k ≠ recipeIndex v x j) :
    recipeWords (copyEntry source dest slot k d) v x j = recipeWords d v x j := tget_tset_index _ _ _ _ h

/-- A copy leaves every other version's entries alone. -/
theorem recipeWords_copyVersion_ne {v x j : Nat} (d : Dev) (hs : slot < 256) (hx : x < 256) (hj : j < 128)
    (h : (v, x) ≠ (dest, slot)) : recipeWords (copyVersion source dest slot d) v x j = recipeWords d v x j := by
  refine forEach_chain (R := fun d e => recipeWords e v x j = recipeWords d v x j) (fun _ => rfl) (fun h h' => h'.trans h) _ _
    (fun k hk d => recipeWords_copyEntry_ne d fun heq => h ?_) d
  have hk : k < 80 := List.mem_range.1 hk
  unfold recipeIndex at heq
  rw [Prod.mk.injEq]
  omega

/-- The 80 entries copied are those of the source. -/
theorem recipeWords_copyVersion {k : Nat} (d : Dev) (hs : slot < 256) (hne : source ≠ dest) (hk : k < 80) :
    recipeWords (copyVersion source dest slot d) dest slot k = recipeWords d source slot k := by
  have hsource : ∀ i < 80, ∀ d, recipeWords (copyEntry source dest slot i d) source slot k = recipeWords d source slot k :=
    fun i hi d => recipeWords_copyEntry_ne d (by unfold recipeIndex; omega)
  have hcopied : recipeWords (copyVersion source dest slot d) dest slot k =
      recipeWords (copyVersion source dest slot d) source slot k := by
    refine forEach_establishes (Q := fun d => recipeWords d dest slot k = recipeWords d source slot k) _ (List.mem_range.2 hk)
      (fun d => (recipeWords_copyEntry_same k d).trans (hsource k hk d).symm) (fun i hi d hd => ?_) d
    by_cases hik : i = k
    · subst hik
      exact (recipeWords_copyEntry_same i d).trans (hsource i hk d).symm
    · rw [hsource i (List.mem_range.1 hi) d, recipeWords_copyEntry_ne d (by unfold recipeIndex; omega), hd]
  exact hcopied.trans (recipeWords_copyVersion_ne d hs hs (by omega) fun h => hne (Prod.mk.inj h).1)

theorem copyVersion_alters {W : Page → Nat → Prop} {P : List Part} (d : Dev) (hd : dest < 2) (hs : slot < 256) :
    SoftAlters W P (InTables [(Page.region 0, 0)]) d (copyVersion source dest slot d) :=
  .forEach _ _ (fun k hk d => .tsetListed _ d (by simp) (by have := List.mem_range.1 hk; omega)) d

theorem copyVersion_ldl (d : Dev) : (copyVersion source dest slot d).ldl = d.ldl := by
  rw [copyVersion_eq]
  exact forEach_keeps Dev.ldl _ _ (fun _ _ => tset_ldl ..) d

end

/-- What O37 asks of the end of a COPY. -/
theorem copyCommandEnds {slot : Nat} {s : State} (hs : slot < 256) (h : s.dev.ldl.cmd = some (false, slot))
    (hact : activeStore s.dev slot < 2) :
    ∃ t, exec .recipeCmdDone s = .next t ∧
      (∀ k, k < 80 → recipeWords t.dev (1 - activeStore s.dev slot) slot k = recipeWords s.dev (activeStore s.dev slot) slot k) ∧
      (∀ x, x ≠ slot → x < 256 → ∀ v k, v < 2 → k < 128 → recipeWords t.dev v x k = recipeWords s.dev v x k) ∧
      t.dev.ldl = { s.dev.ldl with cmd := none } ∧ rd t.dev (Page.region 0) Reg.LDL_RECIPE_STAT_RESULT = 2 ∧
      (rdWord t.dev (Page.region 0) 0x010).getLsbD 16 = true ∧
      Kept [.ldl] [(Page.region 0, 0)] [Page.region 0] s t := by
  have hdone := recipeDone_copy h
  obtain ⟨c, hc⟩ : ∃ c, c = copyVersion (activeStore s.dev slot) (1 - activeStore s.dev slot) slot (recipeIdle s.dev) :=
    ⟨_, rfl⟩
  rw [← hc] at hdone
  have hall : SoftAlters (InPages [Page.region 0]) [.ldl] (InTables [(Page.region 0, 0)]) s.dev (recipeDone s.dev) := by
    rw [hdone, hc]
    exact ((SoftAlters.ldl _ s.dev (by simp)).trans (copyVersion_alters _ (by omega) hs)).trans (recipeEnded_alters _)
  obtain ⟨hresult, hirq⟩ := recipeEnded_shows (slot := slot) c
  refine ⟨_, (exec_recipeCmdDone s).trans (effect_next _ _ _ rfl), fun k hk => ?_, fun x hx hx' v k _ hk => ?_, ?_, ?_, ?_,
    hall.kept (fun _ _ hq => hq) (by decide)⟩ <;> rw [onDev_dev, hdone]
  · rw [recipeWords_congr (recipeEnded_tables c), hc]
    exact recipeWords_copyVersion (recipeIdle s.dev) hs (by omega) hk
  · rw [recipeWords_congr (recipeEnded_tables c), hc]
    exact recipeWords_copyVersion_ne (recipeIdle s.dev) hs hx' hk fun h => hx (Prod.mk.inj h).2
  · rw [recipeEnded_ldl, hc, copyVersion_ldl]
    rfl
  · exact hresult
  · exact hirq

/-! #### RETIRING_FREED (R323) -/

/-- What O37 asks of RETIRING_FREED. -/
theorem retiringFreed_frees {slot : Nat} {s : State} (hs : slot < 256)
    (h : versionUse s.dev (storeOf s.dev slot 0) slot = 0) :
    ∃ t, exec (.retiringFreed slot) s = .next t ∧ isRetiring t.dev slot = false ∧
      (∀ x, x ≠ slot → isRetiring t.dev x = isRetiring s.dev x) ∧ Kept [.ldl] [] [] s t := by
  have hfreed : retiringFreed slot s.dev = setRetiring slot false s.dev := if_pos h
  have hall : SoftAlters NoWords [.ldl] (InTables []) s.dev (retiringFreed slot s.dev) := hfreed ▸ .ldl _ _ (by simp)
  refine ⟨_, (exec_retiringFreed slot s).trans (effect_next _ _ _ (decide_eq_true hs)), ?_, fun x hx => ?_,
    hall.kept (fun _ _ hq => hq.elim) (by simp)⟩ <;> rw [onDev_dev, hfreed]
  · exact isRetiring_setRetiring_same ..
  · exact isRetiring_setRetiring_ne _ _ hx.symm

/-- Settles O37: a command is refused by the first check it fails or pends, and its end exchanges the versions or copies one
entry after the other. -/
theorem recipesLoad : Obligations.RecipesLoad :=
  ⟨fun _ _ _ _ ho hs hcmd => ⟨fun _ hf => recipeRefused ho hs hcmd hf, fun hf => recipePends ho hs hcmd hf⟩,
    fun _ _ _ h => loadCommandEnds h, fun _ _ hs h hact => copyCommandEnds hs h hact, fun _ _ hs h => retiringFreed_frees hs h⟩

end Sys2Proof.Machine

/-! ### Core blocks: what the updates of a block alter, its counters, and the fault log (R329, R338, R453, R465) -/

namespace Sys2Proof.Machine

/-! #### Frames over lists of pages, parts and tables -/

section

variable {W : Page → Nat → Prop} {P : List Part} {T : Nat → Prop}

/-- The same with more pages, parts and tables altered. -/
theorem SoftAlters.widen {ps qs : List Page} {Q : List Part} {ts us : List (Page × Nat)} {d e : Dev}
    (h : SoftAlters (InPages qs) Q (InTables us) d e) (hps : qs ⊆ ps) (hP : Q ⊆ P) (hts : us ⊆ ts) :
    SoftAlters (InPages ps) P (InTables ts) d e :=
  h.mono (fun _ _ hq => hps hq) (fun _ hx => hP hx) fun _ ⟨x, hx, hk⟩ => ⟨x, hts hx, hk⟩

/-- A count alters words of its page and of TEL, and TEL's watches (R467). -/
theorem pageCount_alters {p : Page} {base : Fd} {k : Nat} (n : Nat) (d : Dev) (hp : p.inst < 4096)
    (ho : base.off + 8 * k + 4 < 4096) :
    SoftAlters (InPages [p, Page.tel]) P (InTables watchTable) d (bumpN p base k n d) :=
  .bumpN n d hp ho (by simp [InPages]) (by simp [InPages]) fun _ => id

theorem SoftAlters.rst (x : Rst) (d : Dev) (h : .rst ∈ P) : SoftAlters W P T d { d with rst := x } :=
  ⟨⟨fun _ _ _ _ _ => rfl, fun y hy => by cases y <;> simp_all [Part.same], fun _ _ => rfl⟩, .ofCtl rfl⟩

end

/-! #### The fault log, with the software's own state (R453) -/

theorem entryWritten_softAlters (now : W64) (f : FaultRec) (d : Dev) :
    SoftAlters (InPages [Page.pkg, Page.mgt, Page.tel]) [.mgt, .rst] (InTables logTables) d (entryWritten now f d) := by
  have hentry : SoftAlters (InPages [Page.pkg, Page.mgt, Page.tel]) [.mgt, .rst] (InTables logTables) d
      (tset Page.pkg 0 (rd d Page.pkg Reg.PKG_FAULT_HEAD_NEXT) (faultWords f (fabricNs d now) d.rst.faultSeq) d) :=
    .tsetListed _ d (by simp [logTables]) (by have := faultNext_lt d; omega)
  exact ((hentry.trans (.wr _ _ (by decide) (by decide) (by simp [InPages]))).trans
    (.doIf _ _ fun d => .wr _ d (by decide) (by decide) (by simp [InPages]))).trans (.rst _ _ (by simp))

theorem journalAdd_softAlters (type key : Nat) (delete good : Bool) (value : List Byte) (d : Dev) :
    SoftAlters (InPages [Page.mgt, Page.tel]) [.mgt] (InTables watchTable) d (journalAdd type key delete good value d) := by
  obtain ⟨m, heq⟩ := journalAdd_eq type key delete good value d
  rw [heq]
  exact (((SoftAlters.mgt m d (by simp)).trans (pageCount_alters 1 _ (by decide) (by decide))).trans
    (.wr _ _ (by decide) (by decide) (by simp [InPages]))).trans (.wr _ _ (by decide) (by decide) (by simp [InPages]))

/-- An event logged alters PKG and its log, and by the journal's record and the counts MGT and TEL. -/
theorem faultLog_softAlters (now : W64) {f : FaultRec} (d : Dev) (hl : f.level < 4) :
    SoftAlters (InPages [Page.pkg, Page.mgt, Page.tel]) [.mgt, .rst] (InTables logTables) d (faultLog now f d) := by
  have hentry : SoftAlters (InPages [Page.pkg, Page.mgt, Page.tel]) [.mgt, .rst] (InTables logTables) d
      (faultEntry now f d) := by
    rw [faultEntry_eq]
    exact ((entryWritten_softAlters now f d).trans ((pageCount_alters (P := []) 1 _ (by decide)
      (by show 0x180 + 8 * (6 + f.level) + 4 < 4096; omega)).widen (by simp) (by simp) (by simp [watchTable, logTables]))).trans
      ((journalAdd_softAlters ..).widen (by simp) (by simp) (by simp [watchTable, logTables]))
  unfold faultLog
  extract_lets last d1
  refine SoftAlters.trans (d' := d1) ?_ (.raiseIrq 17 d1 (by decide) (by simp [InPages]))
  simp only [d1]
  split
  next h =>
    rw [Bool.and_eq_true, decide_eq_true_eq] at h
    exact .tsetListed _ d (by simp [logTables]) (by have := h.1; omega)
  next => exact hentry

/-! #### A core block's page -/

section

variable {b : Nat}

theorem coreBlock_inst (hb : b < 32) : (Page.coreBlock b).inst < 4096 := by show 8 + b < 4096; omega

theorem region_inst (hb : b < 32) : (Page.region (b / 4)).inst < 4096 := by show b / 4 < 4096; omega

theorem coreBlock_ne_tel (b : Nat) : Page.coreBlock b ≠ Page.tel := by simp [Page.coreBlock, Page.tel]

theorem coreBlock_notMem_log (b : Nat) : Page.coreBlock b ∉ [Page.pkg, Page.mgt, Page.tel] := by
  simp [Page.coreBlock, Page.pkg, Page.mgt, Page.tel]

theorem coreBlock_ne_region (hb : b < 32) : Page.coreBlock b ≠ Page.region (b / 4) := fun h => by
  have hinst : 8 + b = b / 4 := congrArg Page.inst h
  omega

theorem blockWr_alters {ps : List Page} {P : List Part} {T : Nat → Prop} {f : Fd} (v : Nat) (d : Dev) (hb : b < 32)
    (hf : f.off < 4096) (hps : Page.coreBlock b ∈ ps) : SoftAlters (InPages ps) P T d (wr (Page.coreBlock b) f v d) :=
  .wr v d (coreBlock_inst hb) hf hps

/-- A block's counter goes up by one: only the regions' saturate (R299, R465). -/
theorem rd64_blockCount {k : Nat} (d : Dev) (hb : b < 32) (hk : k < 20) :
    rd64 (bump (Page.coreBlock b) Reg.CB_CNT k d) (Page.coreBlock b) ⟨Reg.CB_CNT.off + 8 * k, 31, 0⟩ =
      (rd64 d (Page.coreBlock b) ⟨Reg.CB_CNT.off + 8 * k, 31, 0⟩ + 1) % 2 ^ 64 := by
  have hlow : ¬((Page.coreBlock b).blk = .ldl ∧ (Page.coreBlock b).inst < 8) := by simp [Page.coreBlock]
  rw [rd64_bump _ _ _ _ (coreBlock_ne_tel b) (coreBlock_inst hb) (by show 0x180 + 8 * k + 4 < 4096; omega), counterSum,
    if_neg hlow]

/-- The words of a core block below its counters, and those of its region: what the block and the region show. -/
def ShownWords (b : Nat) (q : Page) (a : Nat) : Prop :=
  q = Page.region (b / 4) ∨ (q = Page.coreBlock b ∧ a < 0x180)

theorem ShownWords.inPages {q : Page} {a : Nat} (h : ShownWords b q a) :
    InPages [Page.coreBlock b, Page.region (b / 4)] q a := by
  rcases h with rfl | ⟨rfl, -⟩ <;> simp [InPages]

/-- The block's counters are not among them. -/
theorem counter_not_shown {a : Nat} (hb : b < 32) (ha : 0x180 ≤ a) : ¬ShownWords b (Page.coreBlock b) a := by
  rintro (h | ⟨-, h⟩)
  · exact coreBlock_ne_region hb h
  · omega

theorem syncRegionStat_alters {P : List Part} {T : Nat → Prop} (d : Dev) (hb : b < 32) :
    SoftAlters (InPages [Page.region (b / 4)]) P T d (syncRegionStat (b / 4) d) :=
  .trans (.wr _ d (region_inst hb) (by decide) (by simp [InPages])) (.wr _ _ (region_inst hb) (by decide) (by simp [InPages]))

/-- What the block's page shows is not written where the region's is. -/
theorem rdWord_syncRegionStat {a : Nat} (d : Dev) (hb : b < 32) (ha : a < 4096) :
    rdWord (syncRegionStat (b / 4) d) (Page.coreBlock b) a = rdWord d (Page.coreBlock b) a :=
  (syncRegionStat_alters (P := []) (T := NoEntry) d hb).word _ _ (coreBlock_inst hb) ha
    (by simp [InPages, coreBlock_ne_region hb])

end

/-- An error class recorded leaves those recorded before it. -/
theorem hwErr_bit_kept {p : Page} {i : Nat} (c detail : Nat) {d : Dev} (h : (rdWord d p 0x018).getLsbD i = true) :
    (rdWord (hwErr p c detail d) p 0x018).getLsbD i = true := by
  rw [hwErr, rdWord_setErrs_err, List.foldl_cons, List.foldl_nil, BitVec.getLsbD_or, h, Bool.true_or]

/-! #### A core block's record -/

section

variable {W : Page → Nat → Prop} {P : List Part} {T : Nat → Prop} {b x : Nat} (d : Dev)

theorem blk_congr {e : Dev} (h : e.ldl = d.ldl) (b : Nat) : e.blk b = d.blk b := by rw [Dev.blk, h, Dev.blk]

@[simp] theorem blk_updBlk_same (f : CoreBlk → CoreBlk) : (updBlk b f d).blk b = f (d.blk b) := sget_supd_same ..

theorem blk_updBlk_ne (f : CoreBlk → CoreBlk) (h : x ≠ b) : (updBlk b f d).blk x = d.blk x := sget_supd_ne _ _ _ h.symm

@[simp] theorem blk_settleClock (now : W64) (i : Nat) : (settleClock now i d).blk b = d.blk b := rfl

theorem updBlk_alters (f : CoreBlk → CoreBlk) (h : .ldl ∈ P) : SoftAlters W P T d (updBlk b f d) := .ldl _ d h

@[simp] theorem rd_updBlk (f : CoreBlk → CoreBlk) (p : Page) (g : Fd) : rd (updBlk b f d) p g = rd d p g := rd_of_ctl rfl ..

theorem settleClock_alters (now : W64) (i : Nat) (h : .ldl ∈ P) : SoftAlters W P T d (settleClock now i d) := .ldl _ d h

/-- The failed core's number served again changes only the cycles it has lost. -/
theorem blk_resumeCore : ∃ lost, (resumeCore b d).blk b = { d.blk b with lost := lost } := by
  rw [resumeCore, blk_updBlk_same]
  split
  · split <;> exact ⟨_, rfl⟩
  · exact ⟨_, rfl⟩

end

section

variable {W : Page → Nat → Prop} {P : List Part} {T : Nat → Prop} {j k : Nat} (f : Context → Context) (d : Dev)

@[simp] theorem ctx_updCtx_same : (updCtx k f d).ctx k = (d.ctx k).map f := ctx_setCtx_same ..

theorem ctx_updCtx_ne (h : j ≠ k) : (updCtx j f d).ctx k = d.ctx k := ctx_setCtx_ne _ d h

theorem updCtx_ldl : (updCtx k f d).ldl = d.ldl := rfl

theorem updCtx_alters (h : .col ∈ P) : SoftAlters W P T d (updCtx k f d) := .col _ d h

end

end Sys2Proof.Machine

/-! ### Cores fail, spares take over and blocks rebuild (R329 to R333) -/

namespace Sys2Proof.Machine

/-! #### The first failure of a block's core (R329, R330) -/

/-- The core is marked as failed and stops counting. -/
def coreStopped (now : W64) (n bad rebuilt : Nat) (d : Dev) : Dev :=
  updBlk (n / 25) (fun x => { x with
      failed := some (n % 25), failTick := now.toNat + 1, bad := bad :: x.bad, rebuilt := rebuilt })
    (stopCore (n / 25) (settleClock now (8 + n / 25) d))

/-- The core's frames in the contexts listed are lost. -/
def framesLost (n : Nat) (hit : List (Nat × List Nat)) (d : Dev) : Dev :=
  forEach hit (fun h d => updCtx h.1 (loseFrames n) d) d

/-- The failure recorded in the block's error class, and counted by the block and the engine. -/
def failureCounted (n : Nat) (d : Dev) : Dev :=
  bump Page.col Reg.COL_CNT 10 (bump (Page.coreBlock (n / 25)) Reg.CB_CNT 17 (hwErr (Page.coreBlock (n / 25)) 16 n d))

theorem failCore_eq (now : W64) (n : Nat) (d : Dev) : ∃ bad rebuilt hit,
    failCore now n d = failureCounted n (framesLost n hit (coreStopped now n bad rebuilt d)) := ⟨_, _, _, rfl⟩

section

variable {n : Nat} (d : Dev)

theorem framesLost_ldl (hit : List (Nat × List Nat)) : (framesLost n hit d).ldl = d.ldl :=
  forEach_keeps Dev.ldl _ _ (fun _ _ => updCtx_ldl ..) d

@[simp] theorem failureCounted_ldl : (failureCounted n d).ldl = d.ldl := by
  rw [failureCounted, bump_ldl, bump_ldl, hwErr_ldl]

theorem coreLost_alters {W : Page → Nat → Prop} {T : Nat → Prop} (now : W64) (bad rebuilt : Nat) (hit : List (Nat × List Nat)) :
    SoftAlters W [.ldl, .col] T d (framesLost n hit (coreStopped now n bad rebuilt d)) :=
  (((settleClock_alters d now _ (by simp)).trans (updBlk_alters _ _ (by simp))).trans (updBlk_alters _ _ (by simp))).trans
    (.forEach _ _ (fun _ _ d => updCtx_alters _ d (by simp)) _)

theorem blk_coreStopped_same (now : W64) (bad rebuilt : Nat) : ∃ stopped,
    (coreStopped now n bad rebuilt d).blk (n / 25) = { d.blk (n / 25) with
      failed := some (n % 25), failTick := now.toNat + 1, bad := bad :: (d.blk (n / 25)).bad, rebuilt := rebuilt,
      stopped := stopped } := by
  rw [coreStopped, blk_updBlk_same, stopCore, blk_updBlk_same, blk_settleClock]
  exact ⟨_, rfl⟩

theorem blk_coreStopped_ne (now : W64) (bad rebuilt : Nat) {x : Nat} (h : x ≠ n / 25) :
    (coreStopped now n bad rebuilt d).blk x = d.blk x :=
  (blk_updBlk_ne _ _ h).trans (blk_updBlk_ne (settleClock now (8 + n / 25) d) _ h)

theorem blockFailure_alters (hn : n < 800) : SoftAlters (InPages [Page.coreBlock (n / 25), Page.tel]) [] (InTables watchTable) d
    (bump (Page.coreBlock (n / 25)) Reg.CB_CNT 17 (hwErr (Page.coreBlock (n / 25)) 16 n d)) :=
  .trans (.hwErr _ _ d (coreBlock_inst (by omega)) (by simp [InPages]))
    (pageCount_alters 1 _ (coreBlock_inst (by omega)) (by decide))

theorem failureCounted_alters (hn : n < 800) : SoftAlters (InPages [Page.coreBlock (n / 25), Page.col, Page.tel]) []
    (InTables watchTable) d (failureCounted n d) :=
  ((blockFailure_alters d hn).widen (by simp) (by simp) (List.Subset.refl _)).trans
    (colCount_alters 10 _ (by decide) (by simp) (by simp) (by simp [watchTable]))

/-- What the failure's record shows: the block's error class, and one more in both counters. -/
theorem failureCounted_shows (hn : n < 800) :
    (rdWord (failureCounted n d) (Page.coreBlock (n / 25)) 0x018).getLsbD 16 = true ∧
      rd64 (failureCounted n d) (Page.coreBlock (n / 25)) ⟨Reg.CB_CNT.off + 8 * 17, 31, 0⟩ =
        (rd64 d (Page.coreBlock (n / 25)) ⟨Reg.CB_CNT.off + 8 * 17, 31, 0⟩ + 1) % 2 ^ 64 ∧
      rd64 (failureCounted n d) Page.col ⟨Reg.COL_CNT.off + 8 * 10, 31, 0⟩ =
        (rd64 d Page.col ⟨Reg.COL_CNT.off + 8 * 10, 31, 0⟩ + 1) % 2 ^ 64 := by
  have hb : n / 25 < 32 := by omega
  have hinst := coreBlock_inst hb
  have htel := coreBlock_ne_tel (n / 25)
  have hcol : Page.coreBlock (n / 25) ≠ Page.col := by simp [Page.coreBlock, Page.col]
  have hother : Page.col ≠ Page.tel := by decide
  have hengine := colCount_alters (P := []) (ps := [Page.col, Page.tel]) (ts := watchTable) 10
    (bump (Page.coreBlock (n / 25)) Reg.CB_CNT 17 (hwErr (Page.coreBlock (n / 25)) 16 n d)) (by decide) (by simp) (by simp)
    (by simp [watchTable])
  have hapart (a : Nat) : ¬InPages [Page.col, Page.tel] (Page.coreBlock (n / 25)) a := by simp [InPages, hcol, htel]
  refine ⟨?_, ?_, ?_⟩
  · rw [failureCounted, hengine.word _ _ hinst (by decide) (hapart _),
      rdWord_bump_off _ _ _ htel hinst (by decide) (by decide) (by decide) (by decide)]
    exact setErrs_bit _ _ _ _ _ _ (by decide)
  · rw [failureCounted, hengine.toAlters.rd64_eq hinst (by decide) hapart, rd64_blockCount _ hb (by decide), hwErr, rd64, rd64,
      rdWord_setErrs_off _ _ _ _ _ _ (by decide), rdWord_setErrs_off _ _ _ _ _ _ (by decide)]
  · rw [failureCounted, rd64_colCount 10 _ (by decide), (blockFailure_alters d hn).toAlters.rd64_eq (by decide) (by decide)
      (by simp [InPages, hcol.symm, hother])]

end

/-- What O38 asks of a first failure with a usable spare. -/
theorem coreFails_spared {n : Nat} {s : State} (hn : n < 800) (hfence : blockFenced s.dev (n / 25) = false)
    (hfailed : (s.dev.blk (n / 25)).failed = none) (hok : rdBit s.dev (Page.coreBlock (n / 25)) Reg.CB_STAT_SPARE_OK = true) :
    ∃ t, exec (.coreFail n) s = .next t ∧ (t.dev.blk (n / 25)).failed = some (n % 25) ∧
      (t.dev.blk (n / 25)).failTick = s.now.toNat + 1 ∧ (t.dev.blk (n / 25)).taken = (s.dev.blk (n / 25)).taken ∧
      (t.dev.blk (n / 25)).map = (s.dev.blk (n / 25)).map ∧ (∀ x, x ≠ n / 25 → t.dev.blk x = s.dev.blk x) ∧
      (rdWord t.dev (Page.coreBlock (n / 25)) 0x018).getLsbD 16 = true ∧
      Counted (Page.coreBlock (n / 25)) Reg.CB_CNT 17 1 s t ∧ Counted Page.col Reg.COL_CNT 10 1 s t ∧
      Kept [.ldl, .col] watchTable [Page.coreBlock (n / 25), Page.col, Page.tel] s t := by
  have hrun : coreFail n s = onDev (failCore s.now n) s := by simp [coreFail, hfence, hfailed, hok]
  obtain ⟨bad, rebuilt, hit, heq⟩ := failCore_eq s.now n s.dev
  obtain ⟨herr, hblock, hengine⟩ :=
    failureCounted_shows (framesLost n hit (coreStopped s.now n bad rebuilt s.dev)) hn
  have hlost : SoftAlters NoWords [.ldl, .col] (InTables watchTable) s.dev
      (framesLost n hit (coreStopped s.now n bad rebuilt s.dev)) := coreLost_alters ..
  have hsame (x : Nat) : (failCore s.now n s.dev).blk x = (coreStopped s.now n bad rebuilt s.dev).blk x := by
    rw [heq]
    exact blk_congr _ ((failureCounted_ldl _).trans (framesLost_ldl ..)) x
  obtain ⟨stopped, hstopped⟩ := blk_coreStopped_same s.dev s.now bad rebuilt (n := n)
  have hblk := (hsame (n / 25)).trans hstopped
  have hall : SoftAlters (InPages [Page.coreBlock (n / 25), Page.col, Page.tel]) [.ldl, .col] (InTables watchTable) s.dev
      (failCore s.now n s.dev) := by
    rw [heq]
    exact (coreLost_alters ..).trans ((failureCounted_alters _ hn).widen (by simp) (by simp) (by simp))
  refine ⟨coreFail n s, (exec_coreFail n s).trans (effect_next _ _ _ (decide_eq_true hn)), ?_⟩
  rw [hrun]
  refine ⟨?_, ?_, ?_, ?_, fun x hx => ?_, ?_, ?_, ?_, hall.kept (fun _ _ hq => hq) (by decide)⟩
  iterate 4 rw [onDev_dev, hblk]
  · rw [onDev_dev, hsame, blk_coreStopped_ne _ _ _ _ hx]
  · rw [onDev_dev, heq]
    exact herr
  · rw [Counted, onDev_dev, heq, hblock, hlost.toAlters.rd64_eq (coreBlock_inst (by omega)) (by decide) fun _ => id]
  · rw [Counted, onDev_dev, heq, hengine, hlost.toAlters.rd64_eq (by decide) (by decide) fun _ => id]

/-! #### A block is fenced (R332) -/

/-- The event logged when a block is fenced. -/
def fenceEvent (n : Nat) : FaultRec :=
  { level := lvBlock, action := acUnitFenced, page := Page.coreBlock (n / 25), unit := n % 25, cls := 17, detail := n,
    recover := 0 }

/-- The block shows as fenced, and the event is logged. -/
def fenceLogged (now : W64) (n : Nat) (d : Dev) : Dev :=
  faultLog now (fenceEvent n) (markFenced n (settleClock now (8 + n / 25) d))

section

variable {n : Nat} (d : Dev)

theorem markFenced_alters (hn : n < 800) {T : Nat → Prop} : SoftAlters (ShownWords (n / 25)) [.ldl] T d (markFenced n d) := by
  have hb : n / 25 < 32 := by omega
  have hinst := coreBlock_inst hb
  have herrs : ∀ a ∈ [0x010, 0x018, 0x01C], ShownWords (n / 25) (Page.coreBlock (n / 25)) a := by simp [ShownWords]
  exact (((((SoftAlters.wr _ d hinst (by decide) (.inr ⟨rfl, by decide⟩)).trans (updBlk_alters _ _ (by simp))).trans
    (.hwErr _ _ _ hinst herrs)).trans (.hwErr _ _ _ hinst herrs)).trans (.raiseIrq _ _ hinst (.inr ⟨rfl, by decide⟩))).trans
    ((syncRegionStat_alters _ hb).words fun q _ hq => .inl (List.mem_singleton.1 hq))

/-- What the block's page shows of its fence. -/
theorem markFenced_shows (hn : n < 800) : blockFenced (markFenced n d) (n / 25) = true ∧
    (rdWord (markFenced n d) (Page.coreBlock (n / 25)) 0x018).getLsbD 17 = true ∧
    (rdWord (markFenced n d) (Page.coreBlock (n / 25)) 0x018).getLsbD errUncorrectable = true ∧
    (rdWord (markFenced n d) (Page.coreBlock (n / 25)) 0x010).getLsbD 17 = true := by
  have hb : n / 25 < 32 := by omega
  refine ⟨?_, ?_, ?_, ?_⟩
  · rw [blockFenced, rdBit_eq, rd, markFenced, rdWord_syncRegionStat _ hb (by decide), ← rd,
      rd_raiseIrq_off _ _ _ _ (by decide), hwErr, rd_setErrs_off _ _ _ _ _ _ _ (by decide), hwErr, rd_setErrs_off _ _ _ _ _ _ _ (by decide),
      rd_updBlk, rd_wr_fits _ _ _ _ rfl (by decide)]
    rfl
  · rw [markFenced, rdWord_syncRegionStat _ hb (by decide), rdWord_raiseIrq_off _ _ _ (by decide)]
    exact setErrs_bit _ _ _ _ _ _ (by decide)
  · rw [markFenced, rdWord_syncRegionStat _ hb (by decide), rdWord_raiseIrq_off _ _ _ (by decide)]
    exact hwErr_bit_kept _ _ (setErrs_bit _ _ _ _ _ _ (by decide))
  · rw [markFenced, rdWord_syncRegionStat _ hb (by decide)]
    exact raiseIrq_bit _ _ _ (by decide)

theorem fenceLogged_alters (now : W64) (hn : n < 800) :
    SoftAlters (InPages [Page.coreBlock (n / 25), Page.region (n / 25 / 4), Page.pkg, Page.mgt, Page.tel]) [.ldl, .mgt, .rst]
      (InTables logTables) d (fenceLogged now n d) :=
  ((settleClock_alters d now _ (by simp)).trans ((markFenced_alters _ hn).mono
    (fun _ _ hq => List.mem_append_left _ hq.inPages) (by simp) fun _ => id)).trans
    ((faultLog_softAlters now _ (by decide : lvBlock < 4)).widen (by simp) (by simp) (by simp))

/-- The log writes no word of a core block. -/
theorem rdWord_fenceLogged (now : W64) (hn : n < 800) {a : Nat} (ha : a < 4096) :
    rdWord (fenceLogged now n d) (Page.coreBlock (n / 25)) a =
      rdWord (markFenced n (settleClock now (8 + n / 25) d)) (Page.coreBlock (n / 25)) a :=
  (faultLog_softAlters now _ (by decide : lvBlock < 4)).word _ _ (coreBlock_inst (by omega)) ha
    (coreBlock_notMem_log _)

end

/-- Two updates of the device, one after the other. -/
theorem onDev_onDev (f g : Dev → Dev) (s : State) : onDev f (onDev g s) = onDev (fun d => f (g d)) s := rfl

/-- With no context in the device, nothing is lost. -/
theorem failLost_none (lost : Context → Bool) {s : State} (h : s.dev.col.contexts = []) : failLost lost s = s := by
  simp [failLost, ctxList, h]

theorem fenceBlock_eq (n : Nat) (s : State) :
    fenceBlock n s = failLost (fun c => c.block == n / 25 && c.bound) (onDev (fenceLogged s.now n) s) := by
  simp only [fenceBlock, onDev_onDev]
  rfl

theorem fenceBlock_idle {n : Nat} {s : State} (hn : n < 800) (h : s.dev.col.contexts = []) :
    fenceBlock n s = onDev (fenceLogged s.now n) s := by
  have hcol : (fenceLogged s.now n s.dev).col = s.dev.col := (fenceLogged_alters s.dev s.now hn).part .col (by simp)
  rw [fenceBlock_eq, failLost_none _ (by rw [onDev_dev, hcol, h])]

/-- What O38 asks of a failure that fences the block. -/
theorem coreFails_fenced {n : Nat} {s : State} (hn : n < 800) (hfence : blockFenced s.dev (n / 25) = false)
    (hspare : (s.dev.blk (n / 25)).failed ≠ none ∨ rdBit s.dev (Page.coreBlock (n / 25)) Reg.CB_STAT_SPARE_OK = false)
    (hidle : s.dev.col.contexts = []) :
    ∃ t, exec (.coreFail n) s = .next t ∧ blockFenced t.dev (n / 25) = true ∧
      (rdWord t.dev (Page.coreBlock (n / 25)) 0x018).getLsbD 17 = true ∧
      (rdWord t.dev (Page.coreBlock (n / 25)) 0x018).getLsbD errUncorrectable = true ∧
      (rdWord t.dev (Page.coreBlock (n / 25)) 0x010).getLsbD 17 = true ∧
      Counted (Page.coreBlock (n / 25)) Reg.CB_CNT 17 1 s t ∧
      Kept [.ldl, .mgt, .rst] [(Page.tel, 0), (Page.pkg, 0)]
        [Page.coreBlock (n / 25), Page.region (n / 25 / 4), Page.pkg, Page.mgt, Page.tel] s t := by
  have hb : n / 25 < 32 := by omega
  have hinst := coreBlock_inst hb
  obtain ⟨c, hc⟩ : ∃ c, c = bump (Page.coreBlock (n / 25)) Reg.CB_CNT 17 s.dev := ⟨_, rfl⟩
  have hrun : coreFail n s = onDev (fun d => fenceLogged s.now n (bump (Page.coreBlock (n / 25)) Reg.CB_CNT 17 d)) s := by
    have hcond : ((s.dev.blk (n / 25)).failed.isSome ||
        !rdBit s.dev (Page.coreBlock (n / 25)) Reg.CB_STAT_SPARE_OK) = true := by
      rw [Bool.or_eq_true, Option.isSome_iff_ne_none, Bool.not_eq_true']
      exact hspare
    rw [coreFail, if_neg (by simp [hfence]), if_pos hcond, fenceBlock_idle hn (by rw [onDev_dev, bump_col, hidle]),
      onDev_onDev, onDev_now]
  have hall : SoftAlters (InPages [Page.coreBlock (n / 25), Page.region (n / 25 / 4), Page.pkg, Page.mgt, Page.tel])
      [.ldl, .mgt, .rst] (InTables [(Page.tel, 0), (Page.pkg, 0)]) s.dev (fenceLogged s.now n c) := by
    have hcount : SoftAlters (InPages [Page.coreBlock (n / 25), Page.tel]) [] (InTables watchTable) s.dev c :=
      hc ▸ pageCount_alters 1 s.dev hinst (by decide)
    exact (hcount.widen (by simp) (by simp) (by simp [watchTable])).trans
      ((fenceLogged_alters c s.now hn).widen (List.Subset.refl _) (List.Subset.refl _) (by simp [logTables]))
  obtain ⟨hshown, hclass, huncorrectable, hirq⟩ := markFenced_shows (settleClock s.now (8 + n / 25) c) hn
  have hword {a : Nat} (ha : a < 4096) := rdWord_fenceLogged c s.now hn ha
  have hcounter {a : Nat} (ha : a < 4096) (hlow : 0x180 ≤ a) :
      rdWord (fenceLogged s.now n c) (Page.coreBlock (n / 25)) a = rdWord c (Page.coreBlock (n / 25)) a :=
    (hword ha).trans (((markFenced_alters (T := NoEntry) _ hn).word _ _ hinst ha (counter_not_shown hb hlow)).trans rfl)
  refine ⟨coreFail n s, (exec_coreFail n s).trans (effect_next _ _ _ (decide_eq_true hn)), ?_⟩
  rw [hrun]
  refine ⟨?_, ?_, ?_, ?_, ?_,
    SoftAlters.kept (f := fun d => fenceLogged s.now n (bump (Page.coreBlock (n / 25)) Reg.CB_CNT 17 d)) (hc ▸ hall)
      (fun _ _ hq => hq) (by decide)⟩
  · rw [onDev_dev, ← hc, blockFenced, rdBit_eq, rd, hword (by decide), ← rd, ← rdBit_eq]
    exact hshown
  · rw [onDev_dev, ← hc, hword (by decide)]
    exact hclass
  · rw [onDev_dev, ← hc, hword (by decide)]
    exact huncorrectable
  · rw [onDev_dev, ← hc, hword (by decide)]
    exact hirq
  · rw [Counted, onDev_dev, ← hc, rd64, hcounter (by decide) (by decide), hcounter (by decide) (by decide), ← rd64, hc,
      rd64_blockCount _ hb (by decide)]

/-! #### A scratch error corrected (R329) -/

/-- What O38 asks of SCRATCH_CORRECTED. -/
theorem scratchCorrected_counts {n : Nat} (s : State) (hn : n < 800) :
    ∃ t, exec (.scratchCorrected n) s = .next t ∧ Counted (Page.coreBlock (n / 25)) Reg.CB_CNT 16 1 s t ∧
      (rdWord t.dev (Page.coreBlock (n / 25)) 0x018).getLsbD errCorrected = true ∧
      Kept [] watchTable [Page.coreBlock (n / 25), Page.tel] s t := by
  have hb : n / 25 < 32 := by omega
  have hinst := coreBlock_inst hb
  have hall : SoftAlters (InPages [Page.coreBlock (n / 25), Page.tel]) [] (InTables watchTable) s.dev
      (hwErr (Page.coreBlock (n / 25)) errCorrected n (bump (Page.coreBlock (n / 25)) Reg.CB_CNT 16 s.dev)) :=
    (pageCount_alters 1 s.dev hinst (by decide)).trans (.hwErr _ _ _ hinst (by simp [InPages]))
  refine ⟨_, (exec_scratchCorrected n s).trans (effect_next _ _ _ (decide_eq_true hn)), ?_,
    setErrs_bit _ _ _ _ _ _ (by decide), SoftAlters.kept
      (f := fun d => hwErr (Page.coreBlock (n / 25)) errCorrected n (bump (Page.coreBlock (n / 25)) Reg.CB_CNT 16 d)) hall
      (fun _ _ hq => hq) (by decide)⟩
  rw [Counted, onDev_dev, hwErr, rd64, rdWord_setErrs_off _ _ _ _ _ _ (by decide), rdWord_setErrs_off _ _ _ _ _ _ (by decide),
    ← rd64, rd64_blockCount _ hb (by decide)]

/-! #### The spare takes over (R330) -/

/-- The failed core's number is mapped to the spare. -/
def spareMapped (now : W64) (b j : Nat) (d : Dev) : Dev :=
  updBlk b (fun x => { x with taken := true, map := x.map.set j (rd d (Page.coreBlock b) Reg.CB_STAT_SPARE_PHYS) })
    (resumeCore b (settleClock now (8 + b) d))

/-- No context of the block waits for the spare any longer. -/
def rebuildsFreed (b : Nat) (d : Dev) : Dev :=
  forEach (boundTo d b) (fun e d => updCtx e.1 (fun c => { c with rebuilding := false }) d) d

/-- The block's page shows the spare as used. -/
def takeoverShown (b j t : Nat) (d : Dev) : Dev :=
  wr (Page.coreBlock b) Reg.CB_SPARE_TIME_SWITCH t (wr (Page.coreBlock b) Reg.CB_STAT_SPARE_USED 1
    (wr (Page.coreBlock b) Reg.CB_STAT_SPARE_OK 0 (wr (Page.coreBlock b) Reg.CB_STAT_SPARE_FOR j d)))

/-- The event logged when a spare takes over. -/
def takeoverEvent (now : W64) (b j : Nat) (blk : CoreBlk) : FaultRec :=
  { level := lvBlock, action := acSpare, page := Page.coreBlock b, unit := j, cls := 16, detail := coreNum b j,
    recover := sinceFail now blk }

/-- The region shows it as well, and the event is logged. -/
def takeoverLogged (now : W64) (b : Nat) (f : FaultRec) (d : Dev) : Dev := faultLog now f (syncRegionStat (b / 4) d)

section

variable {b j t : Nat} {d : Dev}

theorem spareTakeover_eq {now : W64} (hf : (d.blk b).failed = some j) (ht : (d.blk b).taken = false)
    (hr : (d.blk b).failTick ≠ 0) (hfence : blockFenced d b = false) : spareTakeover now b d =
      takeoverLogged now b (takeoverEvent now b j (d.blk b))
        (takeoverShown b j (min (sinceFail now (d.blk b)) 0xFFFF) (rebuildsFreed b (spareMapped now b j d))) := by
  simp only [spareTakeover, hf]
  rw [if_neg (by simp [ht, hr, hfence])]
  rfl

theorem blk_spareMapped {now : W64} : ∃ lost, (spareMapped now b j d).blk b = { d.blk b with
    taken := true, map := (d.blk b).map.set j (rd d (Page.coreBlock b) Reg.CB_STAT_SPARE_PHYS), lost := lost } := by
  obtain ⟨lost, hlost⟩ := blk_resumeCore (settleClock now (8 + b) d) (b := b)
  refine ⟨lost, ?_⟩
  rw [spareMapped, blk_updBlk_same, hlost, blk_settleClock]

theorem rebuildsFreed_ldl : (rebuildsFreed b d).ldl = d.ldl := forEach_keeps Dev.ldl _ _ (fun _ _ => updCtx_ldl ..) d

/-- A context bound to the block waits no longer. -/
theorem rebuildsFreed_frees {k : Nat} {c : Context} (hc : d.ctx k = some c) (hblock : c.block = b) (hbound : c.bound = true) :
    ∃ c', (rebuildsFreed b d).ctx k = some c' ∧ c'.rebuilding = false := by
  have hlisted : (k, c) ∈ boundTo d b := List.mem_filter.2 ⟨mem_ctxList_of_ctx hc, by simp [hblock, hbound]⟩
  have hkept : ((rebuildsFreed b d).ctx k).isSome = (d.ctx k).isSome := by
    refine forEach_keeps (fun d => (d.ctx k).isSome) _ _ (fun e d => ?_) d
    by_cases he : e.1 = k
    · rw [he, ctx_updCtx_same, Option.isSome_map]
    · rw [ctx_updCtx_ne _ _ he]
  have hfree : ∀ c', (rebuildsFreed b d).ctx k = some c' → c'.rebuilding = false := by
    have hset : ∀ d, ∀ c', (updCtx k (fun c => { c with rebuilding := false }) d).ctx k = some c' → c'.rebuilding = false := by
      intro d c' h
      rw [ctx_updCtx_same] at h
      obtain ⟨c, -, rfl⟩ := Option.map_eq_some_iff.1 h
      rfl
    refine forEach_establishes (Q := fun d => ∀ c', d.ctx k = some c' → c'.rebuilding = false) _ hlisted hset
      (fun e _ d hd => ?_) d
    by_cases he : e.1 = k
    · exact he ▸ hset d
    · rwa [ctx_updCtx_ne _ _ he]
  rw [hc, Option.isSome_some, Option.isSome_iff_exists] at hkept
  obtain ⟨c', hc'⟩ := hkept
  exact ⟨c', hc', hfree c' hc'⟩

theorem spareFreed_alters {W : Page → Nat → Prop} {T : Nat → Prop} {now : W64} :
    SoftAlters W [.ldl, .col] T d (rebuildsFreed b (spareMapped now b j d)) :=
  (((settleClock_alters d now _ (by simp)).trans (updBlk_alters _ _ (by simp))).trans (updBlk_alters _ _ (by simp))).trans
    (.forEach _ _ (fun _ _ d => updCtx_alters _ d (by simp)) _)

theorem takeoverShown_alters {T : Nat → Prop} (d : Dev) (hb : b < 32) :
    SoftAlters (InPages [Page.coreBlock b]) [] T d (takeoverShown b j t d) := by
  have hpage : Page.coreBlock b ∈ [Page.coreBlock b] := List.mem_cons_self
  exact (((blockWr_alters _ d hb (by decide) hpage).trans (blockWr_alters _ _ hb (by decide) hpage)).trans
    (blockWr_alters _ _ hb (by decide) hpage)).trans (blockWr_alters _ _ hb (by decide) hpage)

theorem takeoverShown_shows (d : Dev) (hj : j < 25) :
    rdBit (takeoverShown b j t d) (Page.coreBlock b) Reg.CB_STAT_SPARE_USED = true ∧
    rdBit (takeoverShown b j t d) (Page.coreBlock b) Reg.CB_STAT_SPARE_OK = false ∧
    rd (takeoverShown b j t d) (Page.coreBlock b) Reg.CB_STAT_SPARE_FOR = j := by
  refine ⟨?_, ?_, ?_⟩
  · rw [rdBit_eq, takeoverShown, rd_wr_apart _ _ _ rfl rfl rfl, rd_wr_fits _ _ _ _ rfl (by decide)]
    rfl
  · rw [rdBit_eq, takeoverShown, rd_wr_apart _ _ _ rfl rfl rfl, rd_wr_apart _ _ _ rfl rfl rfl,
      rd_wr_fits _ _ _ _ rfl (by decide)]
    rfl
  · rw [takeoverShown, rd_wr_apart _ _ _ rfl rfl rfl, rd_wr_apart _ _ _ rfl rfl rfl, rd_wr_apart _ _ _ rfl rfl rfl]
    exact rd_wr_fits _ _ _ _ rfl (show j < 32 by omega)

theorem takeoverLogged_alters (now : W64) {f : FaultRec} (d : Dev) (hl : f.level < 4) (hb : b < 32) :
    SoftAlters (InPages [Page.region (b / 4), Page.pkg, Page.mgt, Page.tel]) [.mgt, .rst] (InTables logTables) d
      (takeoverLogged now b f d) :=
  ((syncRegionStat_alters (P := []) d hb).widen (by simp) (by simp) (List.Subset.refl _)).trans
    ((faultLog_softAlters now _ hl).widen (by simp) (by simp) (by simp))

end

/-- What O38 asks of SPARE_TAKEOVER. -/
theorem spareTakesOver {b j : Nat} {s : State} (hb : b < 32) (hf : (s.dev.blk b).failed = some j) (hj : j < 25)
    (hr : (s.dev.blk b).failTick ≠ 0) (ht : (s.dev.blk b).taken = false) (hfence : blockFenced s.dev b = false) :
    ∃ t, exec (.spareTakeover b) s = .next t ∧ (t.dev.blk b).taken = true ∧
      (t.dev.blk b).map = (s.dev.blk b).map.set j (rd s.dev (Page.coreBlock b) Reg.CB_STAT_SPARE_PHYS) ∧
      rdBit t.dev (Page.coreBlock b) Reg.CB_STAT_SPARE_USED = true ∧
      rdBit t.dev (Page.coreBlock b) Reg.CB_STAT_SPARE_OK = false ∧
      rd t.dev (Page.coreBlock b) Reg.CB_STAT_SPARE_FOR = j ∧
      (∀ k c, s.dev.ctx k = some c → c.block = b → c.bound = true → ∃ c', t.dev.ctx k = some c' ∧ c'.rebuilding = false) ∧
      Kept [.ldl, .col, .mgt, .rst] [(Page.tel, 0), (Page.pkg, 0)]
        [Page.coreBlock b, Page.region (b / 4), Page.pkg, Page.mgt, Page.tel] s t := by
  have heq := spareTakeover_eq (now := s.now) hf ht hr hfence
  obtain ⟨f, hfault⟩ : ∃ f, f = takeoverEvent s.now b j (s.dev.blk b) := ⟨_, rfl⟩
  have hl : f.level < 4 := hfault ▸ (by decide : lvBlock < 4)
  obtain ⟨t, htime⟩ : ∃ t, t = min (sinceFail s.now (s.dev.blk b)) 0xFFFF := ⟨_, rfl⟩
  rw [← hfault, ← htime] at heq
  obtain ⟨e, he⟩ : ∃ e, e = takeoverShown b j t (rebuildsFreed b (spareMapped s.now b j s.dev)) := ⟨_, rfl⟩
  rw [← he] at heq
  have hlog := takeoverLogged_alters s.now e hl hb
  have hapart (a : Nat) : ¬InPages [Page.region (b / 4), Page.pkg, Page.mgt, Page.tel] (Page.coreBlock b) a := fun h =>
    (List.mem_cons.1 h).elim (coreBlock_ne_region hb) (coreBlock_notMem_log b)
  have hall : SoftAlters (InPages [Page.coreBlock b, Page.region (b / 4), Page.pkg, Page.mgt, Page.tel]) [.ldl, .col, .mgt, .rst]
      (InTables [(Page.tel, 0), (Page.pkg, 0)]) s.dev (spareTakeover s.now b s.dev) := by
    rw [heq, he]
    exact ((spareFreed_alters.widen (qs := []) (us := []) (by simp) (by simp) (by simp)).trans
      ((takeoverShown_alters _ hb).widen (us := []) (by simp) (by simp) (by simp))).trans
      ((takeoverLogged_alters s.now _ hl hb).widen (by simp) (by simp) (by simp [logTables]))
  have hldl : (takeoverLogged s.now b f e).ldl = (spareMapped s.now b j s.dev).ldl := by
    refine (hlog.part .ldl (by simp)).trans ?_
    rw [he]
    exact rebuildsFreed_ldl
  have hcol : (takeoverLogged s.now b f e).col = (rebuildsFreed b (spareMapped s.now b j s.dev)).col := by
    refine (hlog.part .col (by simp)).trans ?_
    rw [he]
    rfl
  obtain ⟨lost, hblk⟩ := blk_spareMapped (now := s.now) (b := b) (j := j) (d := s.dev)
  obtain ⟨hused, hok, hfor⟩ := takeoverShown_shows (b := b) (t := t) (rebuildsFreed b (spareMapped s.now b j s.dev)) hj
  rw [← he] at hused hok hfor
  refine ⟨_, (exec_spareTakeover b s).trans (effect_next _ _ _ (decide_eq_true hb)), ?_, ?_, ?_, ?_, ?_,
    fun k c hc hblock hbound => ?_, hall.kept (fun _ _ hq => hq) (by decide)⟩ <;> rw [onDev_dev, heq]
  · rw [blk_congr _ hldl, hblk]
  · rw [blk_congr _ hldl, hblk]
  · exact (hlog.rdBit_eq (coreBlock_inst hb) (by decide) (hapart _)).trans hused
  · exact (hlog.rdBit_eq (coreBlock_inst hb) (by decide) (hapart _)).trans hok
  · exact (hlog.rd_eq (coreBlock_inst hb) (by decide) (hapart _)).trans hfor
  · rw [ctx_congr (congrArg Col.contexts hcol)]
    exact rebuildsFreed_frees (d := spareMapped s.now b j s.dev) hc hblock hbound

/-! #### The rebuild ends (R330, R331) -/

/-- The block's page shows what was rebuilt. -/
def rebuildShown (b core count time : Nat) (d : Dev) : Dev :=
  wr (Page.coreBlock b) Reg.CB_SPARE_TIME_REPLAY time (wr (Page.coreBlock b) Reg.CB_SPARE_REPLAYS_COUNT count
    (wr (Page.coreBlock b) Reg.CB_SPARE_EVENT_VALID 1 (wr (Page.coreBlock b) Reg.CB_SPARE_EVENT_CORE core d)))

/-- The positions rebuilt and the verbs rerun are counted. -/
def rebuildCounted (b positions verbs : Nat) (d : Dev) : Dev :=
  bumpN (Page.coreBlock b) Reg.CB_CNT 18 positions (bumpN (Page.coreBlock b) Reg.CB_CNT 19 verbs d)

/-- The recovery is over. -/
def recoveryEnded (b : Nat) (d : Dev) : Dev :=
  raiseIrq (Page.coreBlock b) 16 (updBlk b (fun x => { x with failTick := 0, rebuilt := 0 }) d)

section

variable {b j core count time : Nat} {d : Dev}

theorem rebuildDone_eq {now : W64} (hf : (d.blk b).failed = some j) (ht : (d.blk b).taken = true) (hr : (d.blk b).failTick ≠ 0)
    (hleft : (ctxList d).any (fun e => e.2.block == b && e.2.bound && e.2.inRebuild) = false) : ∃ positions verbs time,
      rebuildDone now b d = recoveryEnded b (rebuildCounted b positions verbs
        (rebuildShown b (coreNum b j) (d.blk b).rebuilt time (settleClock now (8 + b) d))) := by
  simp only [rebuildDone, hf]
  rw [if_neg (by simp [ht, hr, hleft])]
  exact ⟨_, _, _, rfl⟩

theorem rebuildShown_alters {P : List Part} {T : Nat → Prop} (d : Dev) (hb : b < 32) :
    SoftAlters (InPages [Page.coreBlock b, Page.tel]) P T d (rebuildShown b core count time d) := by
  have hpage : Page.coreBlock b ∈ [Page.coreBlock b, Page.tel] := List.mem_cons_self
  exact (((blockWr_alters _ d hb (by decide) hpage).trans (blockWr_alters _ _ hb (by decide) hpage)).trans
    (blockWr_alters _ _ hb (by decide) hpage)).trans (blockWr_alters _ _ hb (by decide) hpage)

theorem rebuildCounted_alters {P : List Part} {positions verbs : Nat} (d : Dev) (hb : b < 32) :
    SoftAlters (InPages [Page.coreBlock b, Page.tel]) P (InTables watchTable) d (rebuildCounted b positions verbs d) :=
  .trans (pageCount_alters _ d (coreBlock_inst hb) (by decide)) (pageCount_alters _ _ (coreBlock_inst hb) (by decide))

theorem rebuildShown_shows (d : Dev) (hc : core < 1024) :
    rdBit (rebuildShown b core count time d) (Page.coreBlock b) Reg.CB_SPARE_EVENT_VALID = true ∧
      rd (rebuildShown b core count time d) (Page.coreBlock b) Reg.CB_SPARE_EVENT_CORE = core ∧
      rd (rebuildShown b core count time d) (Page.coreBlock b) Reg.CB_SPARE_REPLAYS_COUNT = count % 2 ^ 32 := by
  refine ⟨?_, ?_, ?_⟩
  · rw [rdBit_eq, rebuildShown, rd_wr_apart _ _ _ rfl rfl rfl, rd_wr_apart _ _ _ rfl rfl rfl,
      rd_wr_fits _ _ _ _ rfl (by decide)]
    rfl
  · rw [rebuildShown, rd_wr_apart _ _ _ rfl rfl rfl, rd_wr_apart _ _ _ rfl rfl rfl, rd_wr_apart _ _ _ rfl rfl rfl]
    exact rd_wr_fits _ _ _ _ rfl hc
  · rw [rebuildShown, rd_wr_apart _ _ _ rfl rfl rfl]
    exact rd_wr_same _ _ _ _ rfl

/-- The counts and the interrupt leave the fields shown below the counters. -/
theorem rd_recoveryEnded (positions verbs : Nat) (g : Fd) (d : Dev) (hb : b < 32) (hg : g.off ≠ 0x010) (hlow : g.off < 0x180)
    (h4 : g.off % 4 = 0) :
    rd (recoveryEnded b (rebuildCounted b positions verbs d)) (Page.coreBlock b) g = rd d (Page.coreBlock b) g := by
  have hbase : Reg.CB_CNT.off = 0x180 := rfl
  have hcount (k n : Nat) (d : Dev) : rdWord (bumpN (Page.coreBlock b) Reg.CB_CNT k n d) (Page.coreBlock b) g.off =
      rdWord d (Page.coreBlock b) g.off :=
    rdWord_bumpN_off _ _ _ _ (coreBlock_ne_tel b) (coreBlock_inst hb) (by omega) (.inl (by omega)) h4 (by decide)
  have hcounted : rd (rebuildCounted b positions verbs d) (Page.coreBlock b) g = rd d (Page.coreBlock b) g := by
    rw [rd, rebuildCounted, hcount, hcount, ← rd]
  rw [recoveryEnded, rd_raiseIrq_off _ _ _ _ hg, rd_updBlk, hcounted]

end

/-- What O38 asks of REBUILD_DONE. -/
theorem rebuildEnds {b j : Nat} {s : State} (hb : b < 32) (hf : (s.dev.blk b).failed = some j) (hj : j < 25)
    (hr : (s.dev.blk b).failTick ≠ 0) (ht : (s.dev.blk b).taken = true)
    (hleft : (ctxList s.dev).any (fun e => e.2.block == b && e.2.bound && e.2.inRebuild) = false) :
    ∃ t, exec (.rebuildDone b) s = .next t ∧ (t.dev.blk b).failTick = 0 ∧ (t.dev.blk b).taken = true ∧
      rdBit t.dev (Page.coreBlock b) Reg.CB_SPARE_EVENT_VALID = true ∧
      rd t.dev (Page.coreBlock b) Reg.CB_SPARE_EVENT_CORE = coreNum b j ∧
      rd t.dev (Page.coreBlock b) Reg.CB_SPARE_REPLAYS_COUNT = (s.dev.blk b).rebuilt % 2 ^ 32 ∧
      (rdWord t.dev (Page.coreBlock b) 0x010).getLsbD 16 = true ∧
      Kept [.ldl] watchTable [Page.coreBlock b, Page.tel] s t := by
  obtain ⟨positions, verbs, time, heq⟩ := rebuildDone_eq (now := s.now) hf ht hr hleft
  obtain ⟨e, he⟩ : ∃ e, e = rebuildShown b (coreNum b j) (s.dev.blk b).rebuilt time (settleClock s.now (8 + b) s.dev) :=
    ⟨_, rfl⟩
  rw [← he] at heq
  obtain ⟨hvalid, hcore, hreplays⟩ := rebuildShown_shows (b := b) (count := (s.dev.blk b).rebuilt) (time := time)
    (settleClock s.now (8 + b) s.dev) (show coreNum b j < 1024 by unfold coreNum; omega)
  rw [← he] at hvalid hcore hreplays
  have hinst := coreBlock_inst hb
  have hall : SoftAlters (InPages [Page.coreBlock b, Page.tel]) [.ldl] (InTables watchTable) s.dev
      (rebuildDone s.now b s.dev) := by
    rw [heq, he]
    exact ((((settleClock_alters s.dev s.now _ (by simp)).trans (rebuildShown_alters _ hb)).trans
      (rebuildCounted_alters _ hb)).trans (updBlk_alters _ _ (by simp))).trans (.raiseIrq _ _ hinst (by simp [InPages]))
  have hblk : (recoveryEnded b (rebuildCounted b positions verbs e)).blk b =
      { s.dev.blk b with failTick := 0, rebuilt := 0 } := by
    rw [recoveryEnded, blk_congr _ (raiseIrq_ldl ..), blk_updBlk_same, rebuildCounted,
      blk_congr _ ((bumpN_ldl ..).trans (bumpN_ldl ..)), he]
    rfl
  refine ⟨_, (exec_rebuildDone b s).trans (effect_next _ _ _ (decide_eq_true hb)), ?_, ?_, ?_, ?_, ?_, ?_,
    hall.kept (fun _ _ hq => hq) (by decide)⟩ <;> rw [onDev_dev, heq]
  · rw [hblk]
  · rw [hblk]
    exact ht
  · rw [rdBit_eq, rd_recoveryEnded _ _ _ _ hb (by decide) (by decide) (by decide), ← rdBit_eq]
    exact hvalid
  · exact (rd_recoveryEnded _ _ _ _ hb (by decide) (by decide) (by decide)).trans hcore
  · exact (rd_recoveryEnded _ _ _ _ hb (by decide) (by decide) (by decide)).trans hreplays
  · exact raiseIrq_bit _ _ _ (by decide)

/-! #### The unused spare's test (R333) -/

/-- What O38 asks of SPARE_SELFTEST. -/
theorem spareTested {b : Nat} {pass : Bool} {s : State} (hb : b < 32)
    (hp : rd s.dev (Page.coreBlock b) Reg.CB_SELFTEST_PERIOD ≠ 0)
    (hu : rdBit s.dev (Page.coreBlock b) Reg.CB_STAT_SPARE_USED = false) (hfence : blockFenced s.dev b = false) :
    ∃ t, exec (.spareSelftest b pass) s = .next t ∧ rdBit t.dev (Page.coreBlock b) Reg.CB_STAT_SPARE_OK = pass ∧
      (pass = false → (rdWord t.dev (Page.coreBlock b) 0x010).getLsbD 18 = true) ∧ Kept [] [] [Page.coreBlock b] s t := by
  have hinst := coreBlock_inst hb
  have hshown : spareSelftest b pass s.dev =
      doIf (!pass) (raiseIrq (Page.coreBlock b) 18) (wrBit (Page.coreBlock b) Reg.CB_STAT_SPARE_OK pass s.dev) := by
    rw [spareSelftest, if_neg (by simp [hp, hu, hfence])]
    cases pass <;> rfl
  have hall : SoftAlters (InPages [Page.coreBlock b]) [] (InTables []) s.dev (spareSelftest b pass s.dev) :=
    hshown ▸ .trans (.wrBit _ _ hinst (by decide) (by simp [InPages]))
      (.doIf _ _ fun d => .raiseIrq _ d hinst (by simp [InPages]))
  refine ⟨_, (exec_spareSelftest b pass s).trans (effect_next _ _ _ (decide_eq_true hb)), ?_, fun hfail => ?_,
    hall.kept (fun _ _ hq => hq) (by simp)⟩ <;> rw [onDev_dev, hshown]
  · refine (doIf_keeps (fun d => rdBit d (Page.coreBlock b) Reg.CB_STAT_SPARE_OK) _ _ (fun d => ?_) _).trans
      (rdBit_wrBit_same _ _ _ _ rfl)
    rw [rdBit_eq, rd_raiseIrq_off _ _ _ _ (by decide), ← rdBit_eq]
  · subst hfail
    exact raiseIrq_bit _ _ _ (by decide)

/-- Settles O38: a failure, a takeover, the end of a rebuild and a test are each one change of the block's record, its page and
its counters, with what the contexts and the log make of it. -/
theorem coresFail : Obligations.CoresFail :=
  ⟨fun _ s hn => ⟨coreFails_spared hn, coreFails_fenced hn, scratchCorrected_counts s hn⟩,
    fun _ _ _ hb hf hj hr => ⟨spareTakesOver hb hf hj hr, rebuildEnds hb hf hj hr⟩,
    fun _ _ _ hb hp hu hfence => spareTested hb hp hu hfence⟩

end Sys2Proof.Machine
